-- ==== Sys2Proof/Word.lean ====
section
/-! DEFINITION. The words the part's interfaces carry: bytes of foyer memory and of the foyer lines, and the
32-bit words of the register window. -/

namespace Sys2Proof

/-- One byte of foyer memory, of a terminal frame, of a counter code or of a printer exchange. -/
abbrev Byte := BitVec 8

/-- One register of the register window (R171). -/
abbrev Word32 := BitVec 32

/-- A factor set, mask or acknowledge field (R156, R157; formats section of Chapter 10). -/
abbrev FactorSet := BitVec 16

end Sys2Proof
end

