-- ==== Sys2Proof/Config.lean ====
section
/-! DEFINITION. What the part fixes: the sizes of its tables, the offsets of its memory map, the durations no
configuration changes, and the one value the manual leaves open. -/

namespace Sys2Proof.Config

/-- R174: 64 work slots of 128 bytes. -/
abbrev slotCount : Nat := 64
/-- R45: 24 basket contexts. -/
abbrev basketCount : Nat := 24
/-- R8: 48 show records. -/
abbrev showCount : Nat := 48
/-- Twelve kiosks, each with its terminal line and printer (scope, 1.1). -/
abbrev kioskCount : Nat := 12
/-- Four concession counters (scope, 1.1). -/
abbrev counterCount : Nat := 4
/-- R18, R19: 16 price lists and 16 voucher kinds. -/
abbrev listCount : Nat := 16
/-- R21: 16,384 seat cells. -/
abbrev poolSize : Nat := 16384
/-- R127: 1,024 voucher entries. -/
abbrev voucherCount : Nat := 1024
/-- R146: 2,048 sale places. -/
abbrev saleCount : Nat := 2048
/-- R115: 32 templates. -/
abbrev templateCount : Nat := 32
/-- R168: eight pattern generators. -/
abbrev generatorCount : Nat := 8
/-- R111: a printer queue holds up to 16 items. -/
abbrev queueCapacity : Nat := 16

/-- The memory window is 256 KiB (section 10.1). -/
abbrev windowSize : Nat := 0x40000
/-- R172: the 8 KiB staging area at 08000h. -/
abbrev stagingBase : Nat := 0x08000
abbrev stagingSize : Nat := 8192
/-- R115: the template store at 0A000h, 1,024 bytes for each template. -/
abbrev templateBase : Nat := 0x0A000
abbrev templateSize : Nat := 1024
/-- Memory map (10.2): the station cells. -/
abbrev kioskBase : Nat := 0x02800
abbrev counterBase : Nat := 0x03400
abbrev foyerBase : Nat := 0x03600

/-- R88: an answer is awaited for 300 ms, and a frame is sent at most three times. -/
abbrev ackWait : Nat := 300
abbrev maxSendings : Nat := 3
/-- R91: the PING timer of 5 s. -/
abbrev pingPeriod : Nat := 5000
/-- R98: the abort wait of 10 s. -/
abbrev abortWait : Nat := 10000
/-- R103: the reverse wait of 30 s. -/
abbrev reverseWait : Nat := 30000
/-- R86, R140: more than 100 ms between two bytes, so the gap falls due at the 101st. -/
abbrev gapLimit : Nat := 101
/-- R120: the cut deadline is 5 s ahead. -/
abbrev cutWait : Nat := 5000
/-- R117: a rendering is cut after its 4,096th byte. -/
abbrev renderLimit : Nat := 4096

/-- FREE VALUE (log entry 12): whether a show whose description's gap-rule byte is neither of the two named values has
its gap rule on. R12 makes no check of that byte and R8 gives no meaning to another value. -/
opaque gapRuleOpen : Nat → Bool

end Sys2Proof.Config
end

