-- ==== Sys2Proof/Syntax.lean ====
section
/-! DEFINITION. The commands of the part: one constructor of `Instr` for each row of spec/opcode_table.json, with the
operands the row's rule names. A request row carries no operand: its parameters are the bytes the decoder read from the
slot (R176), which State holds. -/

namespace Sys2Proof

/-- The three ways a received byte fails (R85, R139). -/
inductive ByteFault where
  | parity | framing | overrun
  deriving DecidableEq, Repr

/-- The seventeen station cells (R156, R157). -/
inductive CellId where
  | kiosk (k : Fin 12) | counter (m : Fin 4) | foyer
  deriving DecidableEq, Repr

/-- The two lamps of a station (scope, 1.1). -/
inductive Colour where
  | green | red
  deriving DecidableEq, Repr

/-- The 32 lamps. -/
inductive LampId where
  | kiosk (k : Fin 12) (c : Colour) | counter (m : Fin 4) (c : Colour)
  deriving DecidableEq, Repr

/-- The places of the register window whose writes are ignored whole (R171). -/
inductive IgnoredRegister where
  | ident | reserved | runtimeLow | runtimeHigh
  deriving DecidableEq, Repr

/-- The commands, in the order of the table. Rows named after a request kind are the owning unit's taking of the oldest
request the decoder handed to it; rows named after a deadline are the taking of that deadline's falling due. -/
inductive Instr where
  | powerOnReset
  | softReset
  | noticeEnableWrite (value : Word32)
  | noticeAcknowledge
  | runtimeLowRead
  | runtimeHighRead
  | registerWriteIgnored (reg : IgnoredRegister) (value : Word32)
  | hostWriteUnit (offset : Nat) (lanes : List (Option Byte))
  | postingWrite (slot : Fin 64)
  | withdrawal (slot : Fin 64)
  | freeWrite (slot : Fin 64)
  | maskWrite (cell : CellId) (value : FactorSet)
  | acknowledgeWrite (cell : CellId) (value : FactorSet)
  | decoderTake
  | coalescingDeadline
  | runTimeAdvance
  | clockSecond
  | dayChange
  | setClock
  | loadShow
  | loadingComplete (sh : Fin 48)
  | setPrices
  | closeSale
  | dropShow
  | salesRemoval (sh : Fin 48)
  | voucherShowRemoval (sh : Fin 48)
  | seatRangeClear (sh : Fin 48)
  | dropComplete (sh : Fin 48)
  | blockSeats
  | unblockSeats
  | holdSeats
  | holdEvent (basket : Fin 24)
  | releaseSeats
  | releaseEvent (basket : Fin 24)
  | openBasket
  | addVoucher
  | voucherIssue (basket : Fin 24)
  | dropVoucher
  | voucherRemoval (basket : Fin 24)
  | quote
  | pay
  | paymentOutcome (basket : Fin 24)
  | settle
  | abandon
  | retire
  | holdDeadline (basket : Fin 24)
  | showLeftSale (sh : Fin 48)
  | moveToCollect (basket : Fin 24)
  | chuteCleared (kiosk : Fin 12)
  | collectDeadline (basket : Fin 24)
  | cancelPay
  | reverse
  | terminalByteFault (line : Fin 12) (kind : ByteFault)
  | frameGapTimeout (line : Fin 12)
  | badFrame (line : Fin 12) (bytes : List Byte)
  | ack (line : Fin 12)
  | nak (line : Fin 12)
  | ackWaitTimeout (line : Fin 12)
  | card (line : Fin 12) (tag cardKind : Byte)
  | result (line : Fin 12) (tag verdict : Byte) (code tail : List Byte)
  | abortDone (line : Fin 12) (tag byte : Byte)
  | reverseDone (line : Fin 12) (tag verdict : Byte)
  | pong (line : Fin 12) (tag status : Byte)
  | fault (line : Fin 12) (tag code : Byte)
  | pingTimer (line : Fin 12)
  | authTimeout (line : Fin 12)
  | abortWaitTimeout (line : Fin 12)
  | reverseWaitTimeout (line : Fin 12)
  | statusByte (printer : Fin 12) (status : Byte)
  | cutDeadline (printer : Fin 12)
  | pull (printer : Fin 12)
  | loadTemplate
  | resumePrinter
  | redirect
  | reprint
  | saleCheck (printer : Fin 12)
  | reprintItemsEnter (printer : Fin 12)
  | voidVoucher
  | refund
  | refundFreeing (serial : Nat)
  | refundVoucherStep (serial : Nat)
  | refundComplete (serial : Nat)
  | counterByte (counter : Fin 4) (byte : Byte)
  | counterByteFault (counter : Fin 4) (kind : ByteFault)
  | counterGapTimeout (counter : Fin 4)
  | validation (counter : Fin 4)
  | answerDeadline (counter : Fin 4)
  | senseInputChange (kiosk : Fin 12) (line : Fin 4) (asserted : Bool)
  | senseFilterDeadline (kiosk : Fin 12) (line : Fin 4)
  | setSense
  | setBinding
  | setLamp
  | overrideDeadline (lamp : LampId)
  | setPattern
  | patternStep (generator : Fin 8)
  | resetStation
  | printerReset (kiosk : Fin 12)
  | stationCellReset (kiosk : Fin 12)
  | configure
  | clearCounts
  | frameOfUnknownKind (line : Fin 12) (kind tag : Byte) (payload : List Byte)
  deriving DecidableEq, Repr

end Sys2Proof
end

