-- ==== Sys2Proof/Decode.lean ====
section
/-! DEFINITION. The commands that words spell. No row of spec/opcode_table.json gives bits: a command is an event at one of
the part's interfaces, so no word spells one (log entry 27). -/

namespace Sys2Proof

/-- The command spelled by a word by the table's bits: none, since no row gives any. -/
def decodeTableWord (_nbits _w : Nat) : Option Instr := none

end Sys2Proof
end

