-- ==== Sys2Proof/Machine/State.lean ====
section
/-! DEFINITION. State as plain data: every record the manual gives the part, grouped by the unit that owns it, and the
state after power-on reset. Each field's docstring names the rule that gives it. -/

namespace Sys2Proof.Machine

/-! ### Outcomes that stop -/

/-- Why a command stops with a fault. -/
inductive Fault where
  /-- Raised by HOST_WRITE_UNIT for an offset at or above 40000h: the memory window ends at 3FFFFh (section 10.1), so no
  such place exists. Safe: the part is never reached. -/
  | outsideWindow
  deriving DecidableEq, Repr

/-- Why a command is refused. -/
inductive Refusal where
  /-- Raised by `exec` alone, for a row that has no meaning yet. Safe. -/
  | notModelled (mnemonic : String)
  /-- Raised by HOST_WRITE_UNIT for a term that is no aligned 4-byte unit (R172 takes every host write in such units).
  Safe: no host write has this form. -/
  | illFormedUnit
  deriving DecidableEq, Repr

/-! ### Time -/

/-- A foyer instant (R2). -/
structure Instant where
  year : Nat
  day : Nat
  second : Nat
  deriving DecidableEq, Repr

/-- A deadline on run time (R1): the value the host reads, and the run time at which it was set. -/
structure Deadline where
  value : Nat
  setAt : Nat
  deriving DecidableEq, Repr

/-- The clock record (R2). -/
structure Clock where
  isSet : Bool
  now : Instant
  phase : Nat
  changes : Nat
  deriving DecidableEq, Repr

/-! ### Requests and the board unit -/

/-- The request kinds, in code order 01h to 20h (section 10.5). -/
inductive RequestKind where
  | setClock | loadShow | setPrices | closeSale | dropShow
  | blockSeats | unblockSeats | holdSeats | releaseSeats
  | openBasket | addVoucher | dropVoucher | quote | pay | settle | abandon | retire
  | cancelPay | reverse
  | loadTemplate | reprint | redirect | resumePrinter
  | voidVoucher
  | refund
  | resetStation | setSense | setPattern | setBinding | setLamp
  | configure | clearCounts
  deriving DecidableEq, Repr

/-- The result codes, in code order 00h to 1Fh (section 10.5). -/
inductive ResultCode where
  | ok | withdrawn | badKind | badParameter | notConfigured | clockUnset | wrongState | basketBusy
  | noContext | noShow | saleClosed | seatTaken | seatBlocked | gapLeft | basketFull | poolFull
  | tableFull | salesFull | sequenceSpent
  | overCeiling | terminalFault | declined | cancelled | timedOut | unresolved | tooLate
  | queueFull | templateInUse | printerAbsent
  | showStarted | unknownSale | stationService
  deriving DecidableEq, Repr

/-- The state of a work slot, as its state word numbers it (R175). WITHDRAWN is never held. -/
inductive SlotState where
  | free | posted | taken | done
  deriving DecidableEq, Repr

/-- A request as the decoder read it (R176): slot, kind and the 88 parameter bytes. -/
structure Request where
  slot : Nat
  kind : RequestKind
  params : List Byte
  deriving DecidableEq, Repr

/-- The board unit (R171, R174 to R182). -/
structure Board where
  slots : List SlotState
  posting : List Nat
  doneMark : List Bool
  handed : List Request
  unnoticed : Nat
  completions : Bool
  coalescing : Option Deadline
  attention : Nat
  noticeEnable : Bool
  runtimeLatch : Option Nat
  inflight : List (Option Nat)
  lastFault : Option (Nat × Nat × SlotState)
  lastStray : Option Nat
  deriving DecidableEq, Repr

/-! ### The show unit -/

inductive ShowState where
  | empty | loaded | onSale | closed | ended
  deriving DecidableEq, Repr

/-- A show record (R8). The row count is the length of `rowLengths`. -/
structure ShowRec where
  state : ShowState
  title : List Byte
  auditorium : Nat
  saleOpen : Instant
  start : Instant
  finish : Instant
  lateWindow : Nat
  priceList : Nat
  gapRule : Bool
  seatBase : Nat
  seatCount : Nat
  rowLengths : List Nat
  free : Nat
  held : Nat
  sold : Nat
  blocked : Nat
  changes : Nat
  deriving DecidableEq, Repr

/-- The first instant of the foyer clock's range, the default of every instant field (R2, R8). -/
def Instant.origin : Instant := ⟨2000, 1, 0⟩

/-- R8: a record in EMPTY holds the defaults. -/
def ShowRec.empty : ShowRec :=
  { state := .empty, title := [], auditorium := 0, saleOpen := .origin, start := .origin, finish := .origin
    lateWindow := 0, priceList := 0, gapRule := false, seatBase := 0, seatCount := 0, rowLengths := []
    free := 0, held := 0, sold := 0, blocked := 0, changes := 0 }

/-- A price list (R18): P and the name of each of the eight tiers, F and B. -/
structure PriceList where
  prices : List Nat
  names : List (List Byte)
  factor : Nat
  fee : Nat
  changes : Nat
  deriving DecidableEq, Repr

/-- R18: the default list; the tier names are "T0" to "T7". -/
def PriceList.initial : PriceList :=
  { prices := [0, 0, 0, 0, 0, 0, 0, 0]
    names := [[0x54, 0x30], [0x54, 0x31], [0x54, 0x32], [0x54, 0x33], [0x54, 0x34], [0x54, 0x35], [0x54, 0x36], [0x54, 0x37]]
    factor := 100, fee := 0, changes := 0 }

/-- A voucher kind (R19); an empty name means undefined. -/
structure VoucherKind where
  name : List Byte
  price : Nat
  template : Nat
  deriving DecidableEq, Repr

def VoucherKind.undefinedKind : VoucherKind := { name := [], price := 0, template := 0 }

/-- A loading in progress (R14): the slot of its LOAD_SHOW, the show, and the seat bytes of the working copy. -/
structure Loading where
  slot : Nat
  sh : Nat
  map : List Byte
  deriving DecidableEq, Repr

/-- How far a removal of R17 has come. -/
inductive RemovalStep where
  | sales | vouchers | seats | finish
  deriving DecidableEq, Repr

/-- A removal in progress (R17): the slot of its DROP_SHOW, the show, the step due, and the numbers removed. -/
structure Removal where
  slot : Nat
  sh : Nat
  step : RemovalStep
  salesRemoved : Nat
  vouchersRemoved : Nat
  deriving DecidableEq, Repr

/-- The show unit (R1 to R20). -/
structure ShowUnit where
  runTime : Nat
  clock : Clock
  shows : List ShowRec
  prices : List PriceList
  kinds : List VoucherKind
  loadings : List Loading
  removals : List Removal
  leftSale : List Nat
  dayChanges : List (Nat × Nat)
  deriving DecidableEq, Repr

/-! ### The seat unit -/

inductive SeatState where
  | free | held | sold | blocked
  deriving DecidableEq, Repr

/-- A seat cell (R21). The owner is a basket context while HELD and a sale serial while SOLD. -/
structure Seat where
  state : SeatState
  tier : Nat
  owner : Option Nat
  deriving DecidableEq, Repr

/-- R21: a cell in no show's range holds the defaults. -/
def Seat.spare : Seat := { state := .free, tier := 0, owner := none }

/-! ### The basket unit -/

inductive BasketState where
  | free | selecting | paying | unresolved | printing | collect | closed | expired | abandoned
  deriving DecidableEq, Repr

/-- A quote (R70). -/
structure Quote where
  seatSubtotal : Nat
  voucherSubtotal : Nat
  discount : Nat
  gross : Nat
  tax : Nat
  overCeiling : Bool
  deriving DecidableEq, Repr

def Quote.zero : Quote :=
  { seatSubtotal := 0, voucherSubtotal := 0, discount := 0, gross := 0, tax := 0, overCeiling := false }

inductive ItemKind where
  | ticket | slip | receipt
  deriving DecidableEq, Repr

/-- An item of a print plan (R64). -/
structure PlanItem where
  kind : ItemKind
  index : Nat
  deriving DecidableEq, Repr

/-- A call open on a basket (R29, R47): the slot it serves and what was handed to the other unit. -/
inductive Call where
  | hold (slot : Nat) (list : List Nat)
  | release (slot : Nat) (list : List Nat)
  | issue (slot : Nat) (kind : Nat)
  | removal (slot : Nat) (position : Nat)
  deriving DecidableEq, Repr

/-- A basket context (R45), and the call open on it. -/
structure Basket where
  state : BasketState
  kiosk : Nat
  sh : Nat
  seats : List Nat
  vouchers : List Nat
  deadline : Option Deadline
  openedAt : Nat
  quote : Quote
  payRef : Option (Nat × Nat)
  serial : Option Nat
  plan : List PlanItem
  cursor : Nat
  printed : Nat
  printer : Nat
  uncollected : Bool
  changes : Nat
  call : Option Call
  deriving DecidableEq, Repr

/-- R45: a FREE context holds the defaults. -/
def Basket.free : Basket :=
  { state := .free, kiosk := 0, sh := 0, seats := [], vouchers := [], deadline := none, openedAt := 0, quote := .zero
    payRef := none, serial := none, plan := [], cursor := 0, printed := 0, printer := 0, uncollected := false
    changes := 0, call := none }

inductive PayOutcome where
  | approved | declined | cancelled | timedOut | unresolved
  deriving DecidableEq, Repr

/-- A payment outcome handed to the basket unit (R96, step (5)). -/
structure OutcomeReport where
  basket : Nat
  outcome : PayOutcome
  code : List Byte
  tail : Option Nat
  deriving DecidableEq, Repr

/-- The basket unit (R45 to R69). -/
structure BasketUnit where
  baskets : List Basket
  outcomes : List OutcomeReport
  chutes : List Nat
  deriving DecidableEq, Repr

/-! ### The payment unit -/

inductive LineState where
  | down | idle | authorizing | aborting | reversing | fault
  deriving DecidableEq, Repr

inductive PayPhase where
  | awaitAck | authorizing | aborting | closed
  deriving DecidableEq, Repr

inductive AbortCause where
  | customer | timeout
  deriving DecidableEq, Repr

/-- A payment record (R94). `cancelSlots` holds the CANCEL_PAY slots that wait for it; `closedOrder` orders the closes. -/
structure PayRecord where
  tag : Nat
  basket : Nat
  amount : Nat
  phase : PayPhase
  outcome : Option PayOutcome
  code : Option (List Byte)
  tail : Option Nat
  cardPresented : Bool
  cardKind : Option Nat
  cause : Option AbortCause
  cancelSlots : List Nat
  openedAt : Nat
  closedOrder : Nat
  changes : Nat
  deriving DecidableEq, Repr

/-- R94: an empty record holds the defaults. -/
def PayRecord.empty : PayRecord :=
  { tag := 0, basket := 0, amount := 0, phase := .closed, outcome := none, code := none, tail := none
    cardPresented := false, cardKind := none, cause := none, cancelSlots := [], openedAt := 0, closedOrder := 0, changes := 0 }

/-- An entry of a late approval list (R102). -/
structure Late where
  tag : Nat
  amount : Nat
  code : List Byte
  tail : Option Nat
  deriving DecidableEq, Repr

/-- A frame of the terminal line (section 5.2): kind, tag and payload. -/
structure Frame where
  kind : Byte
  tag : Byte
  payload : List Byte
  deriving DecidableEq, Repr

/-- A frame awaiting its answer (R88): the frame, how often it was sent, and the end of the wait. -/
structure Awaiting where
  frame : Frame
  sendings : Nat
  due : Deadline
  deriving DecidableEq, Repr

/-- A terminal line (R84, R94, R102), its waits and its receiver (R86). -/
structure Line where
  state : LineState
  pings : Nat
  nextTag : Nat
  lastClosed : Option Nat
  faultCode : Option Nat
  parityFaults : Nat
  framingFaults : Nat
  overruns : Nat
  records : List PayRecord
  late : List Late
  lateOverflow : Nat
  pingDue : Option Deadline
  authDue : Option Deadline
  abortDue : Option Deadline
  reverseDue : Option Deadline
  awaiting : Option Awaiting
  reversing : Option (Nat × Nat)
  rx : Option (List Byte)
  gapDue : Option Deadline
  closes : Nat
  deriving DecidableEq, Repr

/-- R106: a line after either reset. -/
def Line.initial : Line :=
  { state := .down, pings := 0, nextTag := 1, lastClosed := none, faultCode := none, parityFaults := 0, framingFaults := 0
    overruns := 0, records := [.empty, .empty, .empty, .empty], late := [], lateOverflow := 0, pingDue := none
    authDue := none, abortDue := none, reverseDue := none, awaiting := none, reversing := none, rx := none, gapDue := none
    closes := 0 }

/-! ### The print unit -/

inductive PrinterState where
  | absent | ready | streaming | finishing | stalled
  deriving DecidableEq, Repr

inductive StallCause where
  | paperOut | headOpen | fault | cutTimeout | absence
  deriving DecidableEq, Repr

inductive ItemState where
  | queued | printing | incomplete
  deriving DecidableEq, Repr

/-- Where a queue item came from (R111). -/
inductive ItemSource where
  | basket (b : Nat) | reprint
  deriving DecidableEq, Repr

/-- A queue item (R111). -/
structure Item where
  kind : ItemKind
  template : Nat
  serial : Nat
  index : Nat
  urgent : Bool
  reprints : Nat
  state : ItemState
  source : ItemSource
  arrival : Nat
  deriving DecidableEq, Repr

/-- What a REPRINT asks for (R124). -/
inductive Selector where
  | ticket (rank : Nat) | slip (rank : Nat) | receipt | all
  deriving DecidableEq, Repr

/-- The sales unit's answer to a sale check (R149). -/
structure SaleAnswer where
  reprints : Nat
  seats : Nat
  vouchers : Nat
  deriving DecidableEq, Repr

/-- A REPRINT whose sale check is open (R124). -/
structure Reprint where
  slot : Nat
  serial : Nat
  selector : Selector
  answer : Option SaleAnswer
  deriving DecidableEq, Repr

/-- A printer: its status record (R108), its queue (R111), the rendering being streamed (R119), whether a poll byte was clocked
at a start whose status byte is still to be taken (R107, R125), and the sale check open on its queue (R124). -/
structure Printer where
  state : PrinterState
  lastStatus : Option Byte
  absentRun : Nat
  stallCause : Option StallCause
  cutDue : Option Deadline
  queue : List Item
  nextArrival : Nat
  queueChanges : Nat
  toSend : List Byte
  polled : Bool
  check : Option Reprint
  deriving DecidableEq, Repr

/-- R126: a printer after either reset. -/
def Printer.initial : Printer :=
  { state := .absent, lastStatus := none, absentRun := 0, stallCause := none, cutDue := none, queue := [], nextArrival := 0
    queueChanges := 0, toSend := [], polled := false, check := none }

/-- A template directory entry (R115). -/
structure TemplateEntry where
  length : Nat
  changes : Nat
  deriving DecidableEq, Repr

/-- The print unit (R107 to R126). -/
structure PrintUnit where
  printers : List Printer
  templates : List TemplateEntry
  deriving DecidableEq, Repr

/-! ### The voucher unit -/

inductive VoucherState where
  | pending | active | redeemed | voided
  deriving DecidableEq, Repr

/-- A voucher entry (R127); `state` absent means empty. The code is held as the number its twelve digits spell. -/
structure Voucher where
  state : Option VoucherState
  code : Nat
  kind : Nat
  sh : Nat
  owner : Option Nat
  redeemedAt : Option (Instant × Nat)
  link : Option Nat
  changes : Nat
  deriving DecidableEq, Repr

/-- R127: an empty entry holds the defaults. -/
def Voucher.empty : Voucher :=
  { state := none, code := 0, kind := 0, sh := 0, owner := none, redeemedAt := none, link := none, changes := 0 }

/-- A counter receiver (R140), with the codes it has handed to validation. -/
structure Receiver where
  chars : List Byte
  bad : Bool
  discard : Bool
  silence : Bool
  gapDue : Option Deadline
  scanned : List (List Byte)
  deriving DecidableEq, Repr

def Receiver.initial : Receiver :=
  { chars := [], bad := false, discard := false, silence := false, gapDue := none, scanned := [] }

/-- The voucher unit (R127 to R144): the entries by table index, the bucket heads by bucket. -/
structure VoucherUnit where
  entries : List (Nat × Voucher)
  heads : List (Nat × Option Nat)
  chainChanges : Nat
  seqDay : Option (Nat × Nat)
  nextSeq : Nat
  receivers : List Receiver
  deriving DecidableEq, Repr

/-! ### The sales unit -/

/-- A sale record (R145); serial 0 means an empty place. `byCard` is the payment method CARD. -/
structure Sale where
  serial : Nat
  sh : Nat
  kiosk : Nat
  seatCount : Nat
  voucherCount : Nat
  seatSubtotal : Nat
  voucherSubtotal : Nat
  discount : Nat
  gross : Nat
  tax : Nat
  byCard : Bool
  code : Option (List Byte)
  tail : Option Nat
  refunded : Bool
  refundAmount : Option Nat
  reprints : Nat
  changes : Nat
  deriving DecidableEq, Repr

/-- R145: an empty place holds the defaults. -/
def Sale.empty : Sale :=
  { serial := 0, sh := 0, kiosk := 0, seatCount := 0, voucherCount := 0, seatSubtotal := 0, voucherSubtotal := 0
    discount := 0, gross := 0, tax := 0, byCard := false, code := none, tail := none, refunded := false
    refundAmount := none, reprints := 0, changes := 0 }

/-- What the voucher unit answered to a refund voucher step (R137). -/
structure VoucherAnswer where
  voided : Nat
  redeemed : Nat
  sum : Nat
  deriving DecidableEq, Repr

/-- A refund in progress (R151). -/
structure Refund where
  slot : Nat
  serial : Nat
  seatsFreed : Option Nat
  vouchers : Option VoucherAnswer
  deriving DecidableEq, Repr

/-- The sales unit (R145 to R155): the sale table by place, and the summary. -/
structure SalesUnit where
  sales : List (Nat × Sale)
  nextSerial : Nat
  inUse : Nat
  reserved : Nat
  changes : Nat
  refunds : List Refund
  deriving DecidableEq, Repr

/-! ### The station unit -/

/-- The kiosk conditions, in the order of the binding table (R164). -/
inductive Condition where
  | service | stalled | selecting | paying | printing | collect | wait | greet | idle
  deriving DecidableEq, Repr

/-- What a counter shows, in the order of the binding table (R164). -/
inductive Showing where
  | idle | redeemed | alreadyUsed | notPaid | voided | expired | unknown | badCode
  deriving DecidableEq, Repr

/-- A lamp function (R164). -/
inductive LampFunction where
  | off | on | pattern (n : Nat) | follow (k : Nat)
  deriving DecidableEq, Repr

/-- The sources of a function in force, in the order of R164's list (their bytes: log entry 50). -/
inductive LampSource where
  | follow | override | binding | off
  deriving DecidableEq, Repr

/-- A lamp record (R164); an override's deadline is absent for "until cleared" (R166). -/
structure Lamp where
  follow : Option Nat
  override : Option (LampFunction × Option Deadline)
  function : LampFunction
  source : LampSource
  deriving DecidableEq, Repr

inductive FilterWidth where
  | off | ms2 | ms8 | ms32
  deriving DecidableEq, Repr

inductive EdgeSelect where
  | none | rising | falling | both
  deriving DecidableEq, Repr

/-- A sense record (R160). Levels: true is asserted. `present` is the input itself. -/
structure Sense where
  present : Bool
  accepted : Bool
  width : FilterWidth
  edge : EdgeSelect
  deadline : Option Deadline
  deriving DecidableEq, Repr

/-- A kiosk cell (R156), less what the payment and print units keep for it. -/
structure Kiosk where
  condition : Condition
  service : Bool
  current : Option Nat
  senses : List Sense
  factors : FactorSet
  mask : FactorSet
  green : Lamp
  red : Lamp
  changes : Nat
  deriving DecidableEq, Repr

/-- A counter's last answer (R142): code as received, answer, kind, instant, first redemption. -/
structure Answer where
  code : List Byte
  answer : Showing
  kind : Option Nat
  instant : Option Instant
  first : Option (Nat × Instant)
  deriving DecidableEq, Repr

/-- A counter cell (R157). -/
structure Counter where
  enabled : Bool
  lastAnswer : Option Answer
  showing : Showing
  answerDue : Option Deadline
  factors : FactorSet
  mask : FactorSet
  green : Lamp
  red : Lamp
  changes : Nat
  deriving DecidableEq, Repr

/-- The foyer cell (R157). -/
structure Foyer where
  freeCount : Nat
  low : Bool
  factors : FactorSet
  mask : FactorSet
  changes : Nat
  deriving DecidableEq, Repr

/-- A pattern generator (R168). -/
structure Generator where
  steps : List Bool
  length : Nat
  width : Nat
  position : Nat
  stepDue : Deadline
  deriving DecidableEq, Repr

/-- A RESET_STATION between its shares (R169): `printerDone` once the print unit's share is made. -/
structure StationReset where
  slot : Nat
  kiosk : Nat
  printerDone : Bool
  deriving DecidableEq, Repr

/-- A binding entry: the functions of the green and the red lamp (R164). -/
structure Binding where
  green : LampFunction
  red : LampFunction
  deriving DecidableEq, Repr

/-- The station unit (R156 to R170). -/
structure StationUnit where
  kiosks : List Kiosk
  counters : List Counter
  foyer : Foyer
  kioskBindings : List Binding
  counterBindings : List Binding
  generators : List Generator
  resets : List StationReset
  deriving DecidableEq, Repr

/-! ### Configuration -/

/-- The parameters of a terminal or counter line (R84, R139), as the record encodes them. -/
structure LineParams where
  rate : Nat
  parity : Nat
  stopBits : Nat
  deriving DecidableEq, Repr

/-- The parameters of a printer link (R107). -/
structure LinkParams where
  rate : Nat
  bitOrder : Nat
  deriving DecidableEq, Repr

/-- The configuration record (R184, R185; 10.6), clamped, without the voucher kinds, which the show unit keeps. -/
structure Configuration where
  site : Nat
  holdTime : Nat
  retryGrace : Nat
  authTimeout : Nat
  collectTimeout : Nat
  voucherGrace : Nat
  ceiling : Nat
  taxRate : Nat
  comboSeats : Nat
  comboVouchers : Nat
  comboPercent : Nat
  receipts : Bool
  lowWater : Nat
  threshold : Nat
  delay : Nat
  answerTime : Nat
  lines : List LineParams
  links : List LinkParams
  counters : List (LineParams × Bool)
  deriving DecidableEq, Repr

/-! ### What the part sends, and what waits -/

/-- One thing the part puts on its link or its lines. -/
inductive Output where
  /-- an interrupt message over the link (R181) -/
  | interrupt
  /-- the data of a 4-byte RUNTIME read (R171) -/
  | readData (value : Word32)
  /-- ACK (06h) or NAK (15h) on a terminal line (R86) -/
  | answer (line : Nat) (byte : Byte)
  /-- a frame on a terminal line (R86, R89) -/
  | frame (line : Nat) (f : Frame)
  /-- a byte clocked to a printer; `strobe` tells a data byte from a poll byte (R107) -/
  | printerByte (printer : Nat) (strobe : Bool) (byte : Byte)
  deriving DecidableEq, Repr

/-- What an event may have to wait for: a call open on a basket (R29, R47), a sale check open on a printer's queue (R124), a
refund in progress on a sale record (R153). -/
inductive Resource where
  | basket (b : Nat) | printer (p : Nat) | sale (serial : Nat)
  deriving DecidableEq, Repr

/-- An event that waits. `status` is what a status byte with presence set does on a printer's queue, `absence` the loss of a printer
that interrupts its item, `returned` a status byte with presence set that came behind such a loss, and so ends the absence it makes. -/
inductive WaitEvent where
  | request (r : Request)
  | holdDeadline (b : Nat)
  | leftSale (b : Nat)
  | status (p : Nat) (byte : Byte)
  | absence (p : Nat)
  | returned (p : Nat) (byte : Byte)
  | cutDeadline (p : Nat)
  | pull (p : Nat)
  | printerReset (k : Nat)
  | saleCheck (p : Nat)
  | salesRemoval (sh : Nat)
  deriving DecidableEq, Repr

/-! ### The state -/

/-- The part, unit by unit. -/
structure State where
  /-- the queue of commands, first in, first out (the model's own) -/
  pending : List Instr
  /-- what the part has sent, oldest first (the model's own) -/
  wire : List Output
  /-- events that wait, oldest first (R29, R47, R124, R153) -/
  waiting : List (Resource × WaitEvent)
  /-- foyer memory held as bytes: slot bytes, staging, template store -/
  mem : List Host.Cell
  /-- the configuration in force; present exactly while RUNNING (R183, R186) -/
  config : Option Configuration
  /-- the statistics region, by offset from 3C000h (R187) -/
  stats : List (Nat × Nat)
  board : Board
  showUnit : ShowUnit
  /-- the seat pool, by pool index (R21) -/
  seats : List (Nat × Seat)
  basketUnit : BasketUnit
  lines : List Line
  print : PrintUnit
  voucherUnit : VoucherUnit
  salesUnit : SalesUnit
  station : StationUnit
  deriving DecidableEq, Repr

/-! ### Reset values -/

/-- R182. -/
def Board.initial : Board :=
  { slots := List.replicate 64 .free, posting := [], doneMark := List.replicate 64 false, handed := [], unnoticed := 0
    completions := false, coalescing := none, attention := 0, noticeEnable := false, runtimeLatch := none
    inflight := List.replicate 24 none, lastFault := none, lastStray := none }

/-- R2, R20: the clock record after power-on reset. -/
def Clock.initial : Clock := { isSet := false, now := .origin, phase := 0, changes := 0 }

/-- R20. -/
def ShowUnit.initial : ShowUnit :=
  { runTime := 0, clock := .initial, shows := List.replicate 48 .empty, prices := List.replicate 16 .initial
    kinds := List.replicate 16 .undefinedKind, loadings := [], removals := [], leftSale := [], dayChanges := [] }

/-- R69. -/
def BasketUnit.initial : BasketUnit := { baskets := List.replicate 24 .free, outcomes := [], chutes := [] }

/-- R126. -/
def PrintUnit.initial : PrintUnit :=
  { printers := List.replicate 12 .initial, templates := List.replicate 32 { length := 0, changes := 0 } }

/-- R144. -/
def VoucherUnit.initial : VoucherUnit :=
  { entries := [], heads := [], chainChanges := 0, seqDay := none, nextSeq := 0, receivers := List.replicate 4 .initial }

/-- R155. -/
def SalesUnit.initial : SalesUnit :=
  { sales := [], nextSerial := 1, inUse := 0, reserved := 0, changes := 0, refunds := [] }

/-- R164: the default kiosk bindings, in the order of `Condition`. -/
def defaultKioskBindings : List Binding :=
  [⟨.off, .pattern 4⟩, ⟨.off, .pattern 2⟩, ⟨.on, .off⟩, ⟨.pattern 1, .off⟩, ⟨.pattern 2, .off⟩, ⟨.pattern 3, .off⟩,
   ⟨.off, .pattern 1⟩, ⟨.pattern 7, .off⟩, ⟨.pattern 6, .off⟩]

/-- R164: the default counter bindings, in the order of `Showing`. -/
def defaultCounterBindings : List Binding :=
  [⟨.off, .off⟩, ⟨.on, .off⟩, ⟨.off, .pattern 2⟩, ⟨.off, .pattern 3⟩, ⟨.off, .on⟩, ⟨.off, .pattern 1⟩, ⟨.off, .on⟩,
   ⟨.off, .pattern 4⟩]

/-- A generator at step 0 whose first step falls due one width after run time 0 (R168). -/
def Generator.atStart (steps : List Bool) (length width : Nat) : Generator :=
  { steps := steps, length := length, width := width, position := 0, stepDue := ⟨width, 0⟩ }

/-- R168: the patterns after either reset. -/
def defaultGenerators : List Generator :=
  [.atStart [false, false, false, false, false, false, false, false, false, false, false, false] 12 400,
   .atStart [true, true, true, true, true, true, false, false, false, false, false, false] 12 100,
   .atStart [true, false, true, false, true, false, true, false, false, false, false, false] 8 100,
   .atStart [true, false, true, false, false, false, false, false, false, false, false, false] 12 100,
   .atStart [true, true, false, false, true, true, false, false, false, false, false, false] 8 200,
   .atStart [true, true, true, true, true, true, true, true, false, false, false, false] 8 400,
   .atStart [true, false, false, false, false, false, false, false, false, false, false, false] 9 100,
   .atStart [true, true, true, true, true, false, false, false, false, false, false, false] 10 50]

/-- R160, R170: a sense line whose input stands at the given level, after a reset. -/
def Sense.atLevel (level : Bool) : Sense :=
  { present := level, accepted := level, width := .ms8, edge := .none, deadline := none }

/-- R170: a kiosk cell after either reset, from the levels of its four sense inputs: SERVICE while S1 is asserted, else
STALLED (the printer is ABSENT), with the lamps on the default bindings of that condition. -/
def Kiosk.atLevels (levels : List Bool) : Kiosk :=
  { condition := if levels.getD 1 false then .service else .stalled
    service := levels.getD 1 false, current := none, senses := levels.map Sense.atLevel
    factors := 0, mask := 0x1FFF
    green := ⟨none, none, .off, .binding⟩
    red := ⟨none, none, if levels.getD 1 false then .pattern 4 else .pattern 2, .binding⟩
    changes := 0 }

/-- R170: a counter cell after either reset. -/
def Counter.initial : Counter :=
  { enabled := false, lastAnswer := none, showing := .idle, answerDue := none, factors := 0, mask := 0x0003
    green := ⟨none, none, .off, .binding⟩, red := ⟨none, none, .off, .binding⟩, changes := 0 }

/-- R157, R170: the foyer cell after either reset. -/
def Foyer.initial : Foyer := { freeCount := 24, low := false, factors := 0, mask := 0x000F, changes := 0 }

/-- R170: the station unit after either reset, from the levels at the sense inputs. -/
def StationUnit.atLevels (levels : List (List Bool)) : StationUnit :=
  { kiosks := levels.map Kiosk.atLevels, counters := List.replicate 4 .initial, foyer := .initial
    kioskBindings := defaultKioskBindings, counterBindings := defaultCounterBindings, generators := defaultGenerators
    resets := [] }

/-- The part right after power-on reset (R186), with every sense input released (log entry 6), nothing in the queue of
commands and nothing sent yet. -/
def State.reset : State :=
  { pending := [], wire := [], waiting := [], mem := [], config := none, stats := [], board := .initial
    showUnit := .initial, seats := [], basketUnit := .initial, lines := List.replicate 12 .initial, print := .initial
    voucherUnit := .initial, salesUnit := .initial
    station := .atLevels (List.replicate 12 [false, false, false, false]) }

end Sys2Proof.Machine
end

