-- ==== Sys2Proof/Machine/Store.lean ====
section
/-! DEFINITION. Tables of fixed length, sparse stores in canonical form (foyer memory, the seat pool, the voucher and sale
tables, the statistics), and the byte-order helpers of section 10.6. -/

namespace Sys2Proof.Machine

/-! ### Tables -/

/-- The entry `i` of a table with its update `f` applied; a table without that entry is unchanged. -/
def updAt {α : Type} (l : List α) (i : Nat) (f : α → α) : List α :=
  match l[i]? with
  | some x => l.set i (f x)
  | none => l

/-! ### Sparse stores -/

/-- The value a sparse store holds for a key; an unlisted key reads as the default. -/
def sparseGet {α : Type} (d : α) : List (Nat × α) → Nat → α
  | [], _ => d
  | (k, v) :: r, a => if k = a then v else sparseGet d r a

/-- A write to a sparse store, keeping keys strictly rising and listing no default. -/
def sparsePut {α : Type} [DecidableEq α] (d : α) : List (Nat × α) → Nat → α → List (Nat × α)
  | [], a, v => if v = d then [] else [(a, v)]
  | (k, w) :: r, a, v =>
    if a < k then (if v = d then (k, w) :: r else (a, v) :: (k, w) :: r)
    else if a = k then (if v = d then r else (a, v) :: r)
    else (k, w) :: sparsePut d r a v

/-- The canonical form: keys strictly rising, no entry equal to the default. -/
abbrev sparseWf {α : Type} [DecidableEq α] (d : α) (l : List (Nat × α)) : Prop :=
  l.Pairwise (fun p q => p.1 < q.1) ∧ ∀ p ∈ l, p.2 ≠ d

/-- The lowest key at or above `n` that a canonical store does not list. -/
def lowestFree {α : Type} : Nat → List (Nat × α) → Nat
  | n, [] => n
  | n, (k, _) :: r => if k = n then lowestFree (n + 1) r else if k < n then lowestFree n r else n

/-! ### Foyer memory held as bytes -/

/-- What an unlisted place reads as: 00h (R182 for the slots, R126 for the templates; log entry 5 for the staging area). -/
def memDefault : Byte := 0

/-- One byte of `mem`. -/
def memRead (m : List Host.Cell) (a : Nat) : Byte := sparseGet memDefault m a

/-- A write of one byte of `mem`. -/
def memWrite (m : List Host.Cell) (a : Nat) (b : Byte) : List Host.Cell := sparsePut memDefault m a b

/-- Bytes written at rising offsets. -/
def memWriteAll (m : List Host.Cell) (a : Nat) : List Byte → List Host.Cell
  | [] => m
  | b :: r => memWriteAll (memWrite m a b) (a + 1) r

/-- `n` bytes read at rising offsets. -/
def memReadAll (m : List Host.Cell) : Nat → Nat → List Byte
  | _, 0 => []
  | a, n + 1 => memRead m a :: memReadAll m (a + 1) n

/-- The canonical form of foyer memory. -/
abbrev Memory.wf (m : List Host.Cell) : Prop := sparseWf memDefault m

/-! ### Numbers as bytes (10.6: unsigned, least significant byte first) -/

/-- A number in `n` bytes, least significant first. -/
def leBytes : Nat → Nat → List Byte
  | 0, _ => []
  | n + 1, v => BitVec.ofNat 8 v :: leBytes n (v / 256)

/-- The number that bytes spell, least significant first. -/
def leValue : List Byte → Nat
  | [] => 0
  | b :: r => b.toNat + 256 * leValue r

/-- A number in `n` bytes, most significant first: amounts on a terminal line (10.6). -/
def beBytes (n v : Nat) : List Byte := (leBytes n v).reverse

/-- An absent value: FFh in every byte (10.6). -/
def absentBytes (n : Nat) : List Byte := List.replicate n 0xFF

/-- A value in `n` bytes, or the absent value. -/
def optBytes (n : Nat) : Option Nat → List Byte
  | some v => leBytes n v
  | none => absentBytes n

/-- A flag as one byte, clear 0 and set 1. -/
def flagByte (b : Bool) : Byte := if b then 1 else 0

/-- A foyer instant in 6 bytes: the year less 2000, the day, the second (10.6). -/
def instantBytes (i : Instant) : List Byte := leBytes 1 (i.year - 2000) ++ leBytes 2 i.day ++ leBytes 3 i.second

/-- A foyer instant or the absent value (10.6); SET_CLOCK's unset mark is read as the absent value (log entry 34). -/
def optInstantBytes : Option Instant → List Byte
  | some i => instantBytes i
  | none => absentBytes 6

/-- The foyer instant that 6 bytes spell. -/
def instantOf (b : List Byte) : Instant :=
  ⟨2000 + leValue (b.take 1), leValue ((b.drop 1).take 2), leValue ((b.drop 3).take 3)⟩

/-- The text of a field padded with 00h (10.6): what stands before its first 00h, as R184 has it of a voucher kind's name; that a tier's
name ends so too, and that no byte after it is kept: DEDUCED (log entry 48). -/
def textOf (b : List Byte) : List Byte := b.takeWhile (fun c => c != 0)

/-- Bytes padded with 00h, or cut, to a field's length (10.6). -/
def padTo (n : Nat) (b : List Byte) : List Byte := (b ++ List.replicate n 0).take n

/-! ### Decimal digits -/

/-- The last `n` decimal digits of a number, most significant first. -/
def digitsOf : Nat → Nat → List Nat
  | 0, _ => []
  | n + 1, v => digitsOf n (v / 10) ++ [v % 10]

/-- The number that decimal digits spell. -/
def digitsValue (l : List Nat) : Nat := l.foldl (fun a d => 10 * a + d) 0

/-- Decimal digits packed two to a byte (BCD, 10.6). That the leftmost digit stands in the high half of the first byte is the model's
choice (log entry 43). -/
def bcdBytes : List Nat → List Byte
  | a :: b :: r => BitVec.ofNat 8 (16 * a + b) :: bcdBytes r
  | _ => []

/-- A digit character. -/
def digitChar (d : Nat) : Byte := BitVec.ofNat 8 (0x30 + d)

/-- Whether a byte is a digit character, 30h to 39h. -/
def isDigit (b : Byte) : Bool := decide (0x30 ≤ b.toNat) && decide (b.toNat ≤ 0x39)

/-- The digits that digit characters spell. -/
def charDigits (l : List Byte) : List Nat := l.map (fun b => b.toNat - 0x30)

/-- Whether a byte is a printable character, 20h to 7Eh. -/
def isPrintable (b : Byte) : Bool := decide (0x20 ≤ b.toNat) && decide (b.toNat ≤ 0x7E)

/-- A card tail in 2 BCD bytes, or the absent value (10.6). -/
def tailBytes : Option Nat → List Byte
  | some t => bcdBytes (digitsOf 4 t)
  | none => absentBytes 2

/-- A voucher code in 6 BCD bytes (10.5, 10.6). -/
def codeBytes (code : Nat) : List Byte := bcdBytes (digitsOf 12 code)

end Sys2Proof.Machine
end

