-- ==== Sys2Proof/Machine/Calendar.lean ====
section
/-! DEFINITION. Foyer instants: leap years, validity, comparison, the second advance, and deadlines on run time
(R1 to R3, R5). -/

namespace Sys2Proof.Machine

/-- R2: a year is a leap year when it is divisible by 4. -/
def isLeap (year : Nat) : Bool := year % 4 == 0

/-- R2: the number of days of a year. -/
def yearLength (year : Nat) : Nat := if isLeap year then 366 else 365

/-- R5: a valid foyer instant. -/
def validInstant (i : Instant) : Bool :=
  decide (2000 ≤ i.year) && decide (i.year ≤ 2099) && decide (1 ≤ i.day) && decide (i.day ≤ yearLength i.year)
    && decide (i.second ≤ 86399)

/-- The seconds from 2000, day 1, second 0 to an instant. -/
def instantSeconds (i : Instant) : Nat :=
  86400 * (365 * (i.year - 2000) + (i.year - 2000 + 3) / 4 + (i.day - 1)) + i.second

/-- R2: instants are compared first by year, then by day, then by second. -/
def instantBefore (a b : Instant) : Bool :=
  decide (a.year < b.year) || (a.year == b.year && (decide (a.day < b.day) || (a.day == b.day && decide (a.second < b.second))))

/-- Whether the clock stands at or after a moment given in seconds. -/
def reached (now : Instant) (moment : Nat) : Bool := decide (moment ≤ instantSeconds now)

/-- R8: the sale close of a show, its start plus its late-sale window, in seconds. -/
def saleClose (w : ShowRec) : Nat := instantSeconds w.start + 60 * w.lateWindow

/-- R3: the second advance, with day and year rollover. -/
def nextSecond (i : Instant) : Instant :=
  if i.second < 86399 then { i with second := i.second + 1 }
  else if i.day < yearLength i.year then { i with day := i.day + 1, second := 0 }
  else { year := i.year + 1, day := 1, second := 0 }

/-- R3: the clock stops at 2099, day 365, second 86,399. -/
def clockStopped (i : Instant) : Bool := i.year == 2099 && i.day == 365 && i.second == 86399

/-- R3: whether two instants lie on different days. -/
def differentDay (a b : Instant) : Bool := a.year != b.year || a.day != b.day

/-- R1: a deadline set now, at a run-time value. -/
def deadlineAt (now value : Nat) : Deadline := ⟨value, now⟩

/-- R1: a deadline has fallen due once run time has reached its value; one set to a value already reached falls due at the
next advance. -/
def isDue (now : Nat) (d : Deadline) : Bool := decide (d.value ≤ now) && decide (d.setAt < now)

/-- R1: whether a deadline is present and has fallen due. -/
def dueNow (now : Nat) : Option Deadline → Bool
  | some d => isDue now d
  | none => false

/-- R173: a change count rises by one at each end of an update and goes from 65,535 to 0. -/
def stepCount (n : Nat) : Nat := (n + 1) % 65536

/-- A whole update inside one event: odd at its beginning, even at its end. -/
def bump (n : Nat) : Nat := stepCount (stepCount n)

/-- A saturating 16-bit count. -/
def satCount (n : Nat) : Nat := if n < 65535 then n + 1 else 65535

end Sys2Proof.Machine
end

