-- ==== Sys2Proof/Machine/Flags.lean ====
section
/-! DEFINITION. Flag computations: the factor bits and attention of station cells (R158, R159), the indications of a printer
status byte (R108), and the numbering of named values (10.6). -/

namespace Sys2Proof.Machine

/-! ### Factors (10.6 gives each one's bit) -/

abbrev kfHoldExpired : FactorSet := 0x0001
abbrev kfUncollected : FactorSet := 0x0002
abbrev kfTerminalFault : FactorSet := 0x0004
abbrev kfCardPresented : FactorSet := 0x0008
abbrev kfLateApproval : FactorSet := 0x0010
abbrev kfLateOverflow : FactorSet := 0x0020
abbrev kfPrinterAbsent : FactorSet := 0x0040
abbrev kfPrinterStalled : FactorSet := 0x0080
abbrev kfPaperLow : FactorSet := 0x0100
abbrev cfRedeemed : FactorSet := 0x0001
abbrev cfRefused : FactorSet := 0x0002
abbrev ffContextLow : FactorSet := 0x0001
abbrev ffShowClosed : FactorSet := 0x0002
abbrev ffShowEnded : FactorSet := 0x0004
abbrev ffBoardFault : FactorSet := 0x0008

/-- SENSE0 to SENSE3 are bits 9 to 12 of a kiosk cell. -/
def kfSense (line : Nat) : FactorSet := BitVec.ofNat 16 (2 ^ (9 + line))

/-- The bits that name a factor of a kind of cell (R158, 10.6). -/
def namedFactors : CellId → FactorSet
  | .kiosk _ => 0x1FFF
  | .counter _ => 0x0003
  | .foyer => 0x000F

/-- R159: a cell draws attention while its factor set holds a factor that is not in its mask. -/
def draws (factors mask : FactorSet) : Bool := factors &&& ~~~mask != 0

/-! ### Printer status (R108; bit layout in 10.6) -/

def stPresence (b : Byte) : Bool := b.getLsbD 7
def stFault (b : Byte) : Bool := b.getLsbD 6
def stCutDone (b : Byte) : Bool := b.getLsbD 5
def stHeadOpen (b : Byte) : Bool := b.getLsbD 4
def stPaperOut (b : Byte) : Bool := b.getLsbD 3
def stPaperLow (b : Byte) : Bool := b.getLsbD 2
def stBusy (b : Byte) : Bool := b.getLsbD 1
def stReady (b : Byte) : Bool := b.getLsbD 0

/-- R121: the stall cause a status byte shows: the first of FAULT, HEAD_OPEN and PAPER_OUT; presence clear shows none. -/
def shownCause (b : Byte) : Option StallCause :=
  if !stPresence b then none
  else if stFault b then some .fault
  else if stHeadOpen b then some .headOpen
  else if stPaperOut b then some .paperOut
  else none

/-- R108: a status byte allows a data byte when it is present, ready, not busy and shows no stall cause. -/
def allowsByte (b : Byte) : Bool := stPresence b && stReady b && !stBusy b && (shownCause b).isNone

/-- R119: whether the last status byte allows a data byte. -/
def lastAllows : Option Byte → Bool
  | some b => allowsByte b
  | none => false

/-! ### Named values, numbered from 0 in the order of their defining tables (10.6) -/

def resultByte : ResultCode → Byte
  | .ok => 0x00 | .withdrawn => 0x01 | .badKind => 0x02 | .badParameter => 0x03 | .notConfigured => 0x04
  | .clockUnset => 0x05 | .wrongState => 0x06 | .basketBusy => 0x07
  | .noContext => 0x08 | .noShow => 0x09 | .saleClosed => 0x0A | .seatTaken => 0x0B | .seatBlocked => 0x0C
  | .gapLeft => 0x0D | .basketFull => 0x0E | .poolFull => 0x0F
  | .tableFull => 0x10 | .salesFull => 0x11 | .sequenceSpent => 0x12
  | .overCeiling => 0x13 | .terminalFault => 0x14 | .declined => 0x15 | .cancelled => 0x16 | .timedOut => 0x17
  | .unresolved => 0x18 | .tooLate => 0x19
  | .queueFull => 0x1A | .templateInUse => 0x1B | .printerAbsent => 0x1C
  | .showStarted => 0x1D | .unknownSale => 0x1E | .stationService => 0x1F

def slotStateNum : SlotState → Nat
  | .free => 0 | .posted => 1 | .taken => 2 | .done => 3

def showStateNum : ShowState → Nat
  | .empty => 0 | .loaded => 1 | .onSale => 2 | .closed => 3 | .ended => 4

def seatStateNum : SeatState → Nat
  | .free => 0 | .held => 1 | .sold => 2 | .blocked => 3

def basketStateNum : BasketState → Nat
  | .free => 0 | .selecting => 1 | .paying => 2 | .unresolved => 3 | .printing => 4 | .collect => 5 | .closed => 6
  | .expired => 7 | .abandoned => 8

def payOutcomeNum : PayOutcome → Nat
  | .approved => 0 | .declined => 1 | .cancelled => 2 | .timedOut => 3 | .unresolved => 4

def lineStateNum : LineState → Nat
  | .down => 0 | .idle => 1 | .authorizing => 2 | .aborting => 3 | .reversing => 4 | .fault => 5

def payPhaseNum : PayPhase → Nat
  | .awaitAck => 0 | .authorizing => 1 | .aborting => 2 | .closed => 3

def abortCauseNum : AbortCause → Nat
  | .customer => 0 | .timeout => 1

def printerStateNum : PrinterState → Nat
  | .absent => 0 | .ready => 1 | .streaming => 2 | .finishing => 3 | .stalled => 4

def stallCauseNum : StallCause → Nat
  | .paperOut => 0 | .headOpen => 1 | .fault => 2 | .cutTimeout => 3 | .absence => 4

def itemKindNum : ItemKind → Nat
  | .ticket => 0 | .slip => 1 | .receipt => 2

def itemStateNum : ItemState → Nat
  | .queued => 0 | .printing => 1 | .incomplete => 2

def voucherStateNum : VoucherState → Nat
  | .pending => 0 | .active => 1 | .redeemed => 2 | .voided => 3

def conditionNum : Condition → Nat
  | .service => 0 | .stalled => 1 | .selecting => 2 | .paying => 3 | .printing => 4 | .collect => 5 | .wait => 6
  | .greet => 7 | .idle => 8

def showingNum : Showing → Nat
  | .idle => 0 | .redeemed => 1 | .alreadyUsed => 2 | .notPaid => 3 | .voided => 4 | .expired => 5 | .unknown => 6
  | .badCode => 7

/-- The answers of R142, numbered in the order its table gathers them. -/
def answerNum (a : Showing) : Nat := showingNum a - 1

/-- 10.6, R164: the sources are numbered from 0 in the order of R164's list, (1) to (4), which is no table: DESIGN CHOICE (log entry 50). -/
def lampSourceNum : LampSource → Nat
  | .follow => 0 | .override => 1 | .binding => 2 | .off => 3

/-- 10.6: the byte of a lamp function. -/
def functionByte : LampFunction → Byte
  | .off => 0x00 | .on => 0x01 | .pattern n => BitVec.ofNat 8 (0x10 + n) | .follow k => BitVec.ofNat 8 (0x20 + k)

def filterWidthNum : FilterWidth → Nat
  | .off => 0 | .ms2 => 1 | .ms8 => 2 | .ms32 => 3

def edgeSelectNum : EdgeSelect → Nat
  | .none => 0 | .rising => 1 | .falling => 2 | .both => 3

/-- R160 lists the levels as asserted, released. -/
def levelNum (asserted : Bool) : Nat := if asserted then 0 else 1

/-- R8 lists the gap rule as on, off. -/
def gapRuleNum (on : Bool) : Nat := if on then 0 else 1

end Sys2Proof.Machine
end

