-- ==== Sys2Proof/Machine/Ops.lean ====
section
/-! DEFINITION. The operations the units share: reading and updating the records, what is sent, the statistics, the notice
and the factors (R158, R159, R180, R181), completion (R179), requests handed to their owners (R176), and waiting. -/

namespace Sys2Proof.Machine

/-! ### Reading records -/

/-- Run time now (R1). -/
def nowOf (s : State) : Nat := s.showUnit.runTime

/-- R183: RUNNING exactly while a configuration is in force. -/
def running (s : State) : Bool := s.config.isSome

/-- R180: before the first CONFIGURE the done threshold is 4 and the coalescing delay 10 ms; no other field is read then. -/
def unconfiguredTerms : Configuration :=
  { site := 0, holdTime := 240, retryGrace := 120, authTimeout := 75, collectTimeout := 60, voucherGrace := 30, ceiling := 1
    taxRate := 0, comboSeats := 1, comboVouchers := 1, comboPercent := 0, receipts := false, lowWater := 3, threshold := 4
    delay := 10, answerTime := 2, lines := [], links := [], counters := [] }

/-- The configuration in force, or the terms of an unconfigured part. -/
def cfgOf (s : State) : Configuration := s.config.getD unconfiguredTerms

def basketAt (s : State) (b : Nat) : Basket := s.basketUnit.baskets.getD b .free
def showAt (s : State) (n : Nat) : ShowRec := s.showUnit.shows.getD n .empty
def listAt (s : State) (n : Nat) : PriceList := s.showUnit.prices.getD n .initial
def kindAt (s : State) (n : Nat) : VoucherKind := s.showUnit.kinds.getD n .undefinedKind
def lineAt (s : State) (n : Nat) : Line := s.lines.getD n .initial
def printerAt (s : State) (p : Nat) : Printer := s.print.printers.getD p .initial
def templateAt (s : State) (t : Nat) : TemplateEntry := s.print.templates.getD t ⟨0, 0⟩
def receiverAt (s : State) (m : Nat) : Receiver := s.voucherUnit.receivers.getD m .initial
def kioskAt (s : State) (k : Nat) : Kiosk := s.station.kiosks.getD k (.atLevels [])
def counterAt (s : State) (m : Nat) : Counter := s.station.counters.getD m .initial
def slotAt (s : State) (n : Nat) : SlotState := s.board.slots.getD n .free
def seatAt (s : State) (cell : Nat) : Seat := sparseGet .spare s.seats cell
def voucherAt (s : State) (i : Nat) : Voucher := sparseGet .empty s.voucherUnit.entries i
def saleAt (s : State) (place : Nat) : Sale := sparseGet .empty s.salesUnit.sales place
def senseAt (s : State) (k l : Nat) : Sense := (kioskAt s k).senses.getD l (.atLevel false)

/-! ### Updating records -/

/-- A basket context updated, its change count left to the update. -/
def setBasket (b : Nat) (f : Basket → Basket) (s : State) : State :=
  { s with basketUnit := { s.basketUnit with baskets := updAt s.basketUnit.baskets b f } }

/-- A basket context updated whole inside one event (R45). -/
def updBasket (b : Nat) (f : Basket → Basket) (s : State) : State :=
  setBasket b (fun c => { f c with changes := bump c.changes }) s

/-- A show record updated, its change count left to the update. -/
def setShow (n : Nat) (f : ShowRec → ShowRec) (s : State) : State :=
  { s with showUnit := { s.showUnit with shows := updAt s.showUnit.shows n f } }

/-- A show record updated whole inside one event (R8, R23). -/
def updShow (n : Nat) (f : ShowRec → ShowRec) (s : State) : State :=
  setShow n (fun w => { f w with changes := bump w.changes }) s

/-- A kiosk cell updated whole inside one event (R157). -/
def updKiosk (k : Nat) (f : Kiosk → Kiosk) (s : State) : State :=
  { s with station := { s.station with kiosks := updAt s.station.kiosks k (fun c => { f c with changes := bump c.changes }) } }

/-- A counter cell updated whole inside one event (R157). -/
def updCounter (m : Nat) (f : Counter → Counter) (s : State) : State :=
  { s with station := { s.station with counters := updAt s.station.counters m (fun c => { f c with changes := bump c.changes }) } }

/-- The foyer cell updated whole inside one event (R157). -/
def updFoyer (f : Foyer → Foyer) (s : State) : State :=
  { s with station := { s.station with foyer := { f s.station.foyer with changes := bump s.station.foyer.changes } } }

/-- A terminal line updated; its record stands in the kiosk cell, under that cell's change count (R84, R156). A restart of the line's
timers alone, which are no fields of the cell, moves that count all the same: DESIGN CHOICE (log entry 7). -/
def updLine (n : Nat) (f : Line → Line) (s : State) : State :=
  updKiosk n id { s with lines := updAt s.lines n f }

/-- A printer updated, its status record and its queue left as `f` leaves them. -/
def setPrinter (p : Nat) (f : Printer → Printer) (s : State) : State :=
  { s with print := { s.print with printers := updAt s.print.printers p f } }

/-- A printer status record updated, under the kiosk cell's change count (R108, R156). -/
def updPrinter (p : Nat) (f : Printer → Printer) (s : State) : State :=
  updKiosk p id (setPrinter p f s)

/-- A printer queue updated whole inside one event (R111). -/
def updQueue (p : Nat) (f : Printer → Printer) (s : State) : State :=
  setPrinter p (fun q => { f q with queueChanges := bump q.queueChanges }) s

/-- A seat cell written. -/
def setSeat (cell : Nat) (v : Seat) (s : State) : State := { s with seats := sparsePut .spare s.seats cell v }

/-- A voucher entry written. -/
def setVoucher (i : Nat) (v : Voucher) (s : State) : State :=
  { s with voucherUnit := { s.voucherUnit with entries := sparsePut .empty s.voucherUnit.entries i v } }

/-- A sale record written. -/
def setSale (place : Nat) (v : Sale) (s : State) : State :=
  { s with salesUnit := { s.salesUnit with sales := sparsePut .empty s.salesUnit.sales place v } }

/-- A counter receiver updated. -/
def setReceiver (m : Nat) (f : Receiver → Receiver) (s : State) : State :=
  { s with voucherUnit := { s.voucherUnit with receivers := updAt s.voucherUnit.receivers m f } }

/-- Every number of a list handled in turn. -/
def forEach (l : List Nat) (f : Nat → State → State) (s : State) : State := l.foldl (fun t n => f n t) s

/-! ### What is sent, and the statistics -/

/-- One thing put on the link or on a line. -/
def emit (o : Output) (s : State) : State := { s with wire := s.wire ++ [o] }

/-- R187: offsets of the counters from 3C000h. -/
def statKiosk (k i : Nat) : Nat := 24 * k + 4 * i
def statPrinter (p i : Nat) : Nat := 0x120 + 12 * p + 4 * i
def statCounter (m i : Nat) : Nat := 0x1B0 + 20 * m + 4 * i
def statLine (n i : Nat) : Nat := 0x200 + 20 * n + 4 * i
def statStray : Nat := 0x2F0
def statBoardFault : Nat := 0x2F4

/-- A counter of the statistics region. -/
def statAt (s : State) (off : Nat) : Nat := sparseGet 0 s.stats off

/-- R187: a count raises the counter by the number given, and stops at 4,294,967,295. -/
def addStat (off n : Nat) (s : State) : State :=
  { s with stats := sparsePut 0 s.stats off (min (statAt s off + n) 4294967295) }

/-! ### The notice (R180, R181) -/

/-- R181: an interrupt message, if notice enable is set. -/
def sendInterrupt (s : State) : State := if s.board.noticeEnable then emit .interrupt s else s

/-- COMPLETIONS becomes set and the coalescing deadline absent (R180). -/
def setCompletions (s : State) : State :=
  sendInterrupt { s with board := { s.board with completions := true, coalescing := none } }

/-- R180: the notice served at a completion. -/
def serveNotice (s : State) : State :=
  let t := { s with board := { s.board with unnoticed := satCount s.board.unnoticed } }
  if s.board.completions then t
  else if (cfgOf s).threshold ≤ satCount s.board.unnoticed then setCompletions t
  else if s.board.unnoticed = 0 then
    if (cfgOf s).delay = 0 then setCompletions t
    else { t with board := { t.board with coalescing := some (deadlineAt (nowOf s) (nowOf s + (cfgOf s).delay)) } }
  else t

/-- R181: FACTORS is set while any cell draws attention. -/
def factorsCause (s : State) : Bool := decide (0 < s.board.attention)

/-- R181: a cell begins to draw attention; FACTORS becoming set sends a message. -/
def attentionBegins (s : State) : State :=
  let t := { s with board := { s.board with attention := s.board.attention + 1 } }
  if factorsCause s then t else sendInterrupt t

/-- R181: a cell ceases to draw attention. -/
def attentionCeases (s : State) : State :=
  { s with board := { s.board with attention := s.board.attention - 1 } }

/-- R159, R181: the board unit told of a cell's attention before and after a write of its mask or factor set. -/
def reportAttention (before after : Bool) (s : State) : State :=
  if !before && after then attentionBegins s
  else if before && !after then attentionCeases s
  else s

/-! ### Factors and masks (R158, R159) -/

def factorsOf (s : State) : CellId → FactorSet
  | .kiosk k => (kioskAt s k).factors
  | .counter m => (counterAt s m).factors
  | .foyer => s.station.foyer.factors

def maskOf (s : State) : CellId → FactorSet
  | .kiosk k => (kioskAt s k).mask
  | .counter m => (counterAt s m).mask
  | .foyer => s.station.foyer.mask

/-- A cell's factor set and mask written, under its change count. -/
def setFactors (cell : CellId) (factors mask : FactorSet) (s : State) : State :=
  match cell with
  | .kiosk k => updKiosk k (fun c => { c with factors := factors, mask := mask }) s
  | .counter m => updCounter m (fun c => { c with factors := factors, mask := mask }) s
  | .foyer => updFoyer (fun c => { c with factors := factors, mask := mask }) s

/-- R158, R159, R181: a factor raised. Unmasked, it makes the cell draw attention, or is reported while FACTORS is set. -/
def raiseFactor (cell : CellId) (f : FactorSet) (s : State) : State :=
  let before := factorsOf s cell
  let mask := maskOf s cell
  let t := setFactors cell (before ||| f) mask s
  if !draws f mask then t
  else if draws before mask then sendInterrupt t
  else sendInterrupt { t with board := { t.board with attention := t.board.attention + 1 } }

/-- R159: a write of the mask stores it whole; bits that name no factor read 0 (10.6). -/
def writeMask (cell : CellId) (value : FactorSet) (s : State) : State :=
  let fs := factorsOf s cell
  let mask := value &&& namedFactors cell
  reportAttention (draws fs (maskOf s cell)) (draws fs mask) (setFactors cell fs mask s)

/-- R159: a write of the acknowledge field clears the factors it names and is not stored. -/
def acknowledge (cell : CellId) (value : FactorSet) (s : State) : State :=
  let fs := factorsOf s cell
  let mask := maskOf s cell
  let left := fs &&& ~~~value
  reportAttention (draws fs mask) (draws left mask) (setFactors cell left mask s)

/-- The kiosk cell of a kiosk number, which is 0-11 wherever a record holds one. -/
def kioskCell (k : Nat) : CellId := .kiosk (Fin.ofNat 12 k)

/-- The counter cell of a counter number. -/
def counterCell (m : Nat) : CellId := .counter (Fin.ofNat 4 m)

/-! ### Completion (R179) -/

/-- The first byte of a slot (R174). -/
def slotBase (slot : Nat) : Nat := 128 * slot

/-- R179: one event of the board unit on the slot. It writes the result code and fields, makes the slot DONE with its done
mark set (and out of the posting list, R175), clears the in-flight entry the slot set (R177), and serves the notice. -/
def completeSlot (slot : Nat) (code : ResultCode) (fields : List Byte) (s : State) : State :=
  serveNotice { s with
    mem := memWriteAll s.mem (slotBase slot + 0x60) (padTo 24 fields ++ [resultByte code])
    board := { s.board with
      slots := s.board.slots.set slot .done
      posting := s.board.posting.filter (fun n => n != slot)
      doneMark := s.board.doneMark.set slot true
      inflight := s.board.inflight.map (fun e => if e = some slot then none else e) } }

/-- A refusal, or a completion without result fields. -/
def finish (slot : Nat) (code : ResultCode) (s : State) : State := completeSlot slot code [] s

/-! ### Requests handed to their owners (R176, section 10.5) -/

/-- The units that own request kinds. -/
inductive Owner where
  | shows | seats | baskets | payment | print | vouchers | sales | station | board
  deriving DecidableEq, Repr

/-- Section 10.5: the owning unit of a request kind; HOLD_SEATS and RELEASE_SEATS are taken by the basket unit (R29). -/
def ownerOf : RequestKind → Owner
  | .setClock => .shows | .loadShow => .shows | .setPrices => .shows | .closeSale => .shows | .dropShow => .shows
  | .blockSeats => .seats | .unblockSeats => .seats
  | .holdSeats => .baskets | .releaseSeats => .baskets | .openBasket => .baskets | .addVoucher => .baskets
  | .dropVoucher => .baskets | .quote => .baskets | .pay => .baskets | .settle => .baskets | .abandon => .baskets
  | .retire => .baskets
  | .cancelPay => .payment | .reverse => .payment
  | .loadTemplate => .print | .reprint => .print | .redirect => .print | .resumePrinter => .print
  | .voidVoucher => .vouchers | .refund => .sales
  | .resetStation => .station | .setSense => .station | .setPattern => .station | .setBinding => .station
  | .setLamp => .station
  | .configure => .board | .clearCounts => .board

/-- The oldest request handed to a unit and not yet taken: requests reach a unit in the order of their takes (R176). -/
def nextHanded (u : Owner) (s : State) : Option Request := s.board.handed.find? (fun r => ownerOf r.kind == u)

/-- The owning unit takes its oldest request when that is of the given kind; otherwise nothing is there to take (log
entry 2). -/
def withRequest (k : RequestKind) (f : Request → State → State) (s : State) : State :=
  match nextHanded (ownerOf k) s with
  | some r => if r.kind = k then f r { s with board := { s.board with handed := s.board.handed.erase r } } else s
  | none => s

/-! ### Waiting (R29, R47, R124, R153) -/

/-- Whether a resource is busy: a call open on the basket, a sale check open on the queue, a refund in progress. -/
def busy (s : State) : Resource → Bool
  | .basket b => (basketAt s b).call.isSome
  | .printer p => (printerAt s p).check.isSome
  | .sale serial => s.salesUnit.refunds.any (fun r => r.serial == serial)

/-- An event waits for a resource, behind those that reached it before. -/
def waitFor (r : Resource) (e : WaitEvent) (s : State) : State := { s with waiting := s.waiting ++ [(r, e)] }

/-- An event taken at once, or made to wait while the resource is busy. -/
def whenFree (r : Resource) (e : WaitEvent) (f : State → State) (s : State) : State :=
  if busy s r then waitFor r e s else f s

end Sys2Proof.Machine
end

