-- ==== Sys2Proof/Machine/Operands.lean ====
section
/-! DEFINITION. Every operand form of the requests: the parameters as they stand in the 88 bytes the decoder read (section
10.5), the codes of kinds, selectors, functions and settings, and the records read out of staging (10.6). -/

namespace Sys2Proof.Machine

/-! ### Parameters -/

/-- The parameter bytes from an offset. -/
def paramBytes (r : Request) (off n : Nat) : List Byte := (r.params.drop off).take n

/-- A number of one, two or three bytes at an offset of the parameters (10.6: least significant byte first). -/
def param1 (r : Request) (off : Nat) : Nat := leValue (paramBytes r off 1)
def param2 (r : Request) (off : Nat) : Nat := leValue (paramBytes r off 2)
def param3 (r : Request) (off : Nat) : Nat := leValue (paramBytes r off 3)

/-- Numbers of two bytes, one after the other. -/
def numbersOf : Nat → List Byte → List Nat
  | 0, _ => []
  | n + 1, b => leValue (b.take 2) :: numbersOf n (b.drop 2)

/-- A list of seat indices: a count byte and its entries of 2 bytes. None when the count exceeds the room in the
parameters (10.5). -/
def paramSeats (r : Request) (off : Nat) : Option (List Nat) :=
  let n := param1 r off
  if off + 1 + 2 * n ≤ 88 then some (numbersOf n (r.params.drop (off + 1))) else none

/-! ### Request kinds (10.5) -/

/-- The request kind of a kind byte, 01h to 20h. -/
def kindOfCode (code : Nat) : Option RequestKind :=
  ([.setClock, .loadShow, .setPrices, .closeSale, .dropShow, .blockSeats, .unblockSeats, .holdSeats, .releaseSeats,
    .openBasket, .addVoucher, .dropVoucher, .quote, .pay, .settle, .abandon, .retire, .cancelPay, .reverse, .loadTemplate,
    .reprint, .redirect, .resumePrinter, .voidVoucher, .refund, .resetStation, .setSense, .setPattern, .setBinding, .setLamp,
    .configure, .clearCounts] : List RequestKind)[code - 1]?.bind (fun k => if code = 0 then none else some k)

/-- R177: the kinds that name a basket, whose number is the first parameter. -/
def namesBasket : RequestKind → Bool
  | .holdSeats | .releaseSeats | .addVoucher | .dropVoucher | .quote | .pay | .settle | .abandon | .retire | .cancelPay => true
  | _ => false

/-- R176: the kinds taken while UNCONFIGURED. -/
def takenUnconfigured : RequestKind → Bool
  | .configure | .setClock | .clearCounts => true
  | _ => false

/-! ### Compound parameters (10.5) -/

/-- A function byte: 00h OFF, 01h ON, 10h + n PATTERN n with n from 0 to 7. -/
def functionOf (b : Nat) : Option LampFunction :=
  if b = 0 then some .off
  else if b = 1 then some .on
  else if 0x10 ≤ b ∧ b ≤ 0x17 then some (.pattern (b - 0x10))
  else none

/-- A colour: 00h green, 01h red. -/
def colourOf (b : Nat) : Option Colour :=
  if b = 0 then some .green else if b = 1 then some .red else none

/-- The lamp of SET_LAMP's station and colour: 00h to 0Bh for kiosk 0 to 11, 10h + m for counter m. -/
def stationLamp (station : Nat) (c : Colour) : Option LampId :=
  if h : station < 12 then some (.kiosk ⟨station, h⟩ c)
  else if h : 0x10 ≤ station ∧ station - 0x10 < 4 then some (.counter ⟨station - 0x10, h.2⟩ c)
  else none

/-- The selector of REPRINT: 00h TICKET, 01h SLIP, 02h RECEIPT, 03h ALL, with its rank in range (R124). -/
def selectorOf (kind rank : Nat) : Option Selector :=
  if kind = 0 then (if rank ≤ 9 then some (.ticket rank) else none)
  else if kind = 1 then (if rank ≤ 5 then some (.slip rank) else none)
  else if kind = 2 then some .receipt
  else if kind = 3 then some .all
  else none

/-- R160: the filter widths, numbered in the order its table lists them. -/
def widthOf (b : Nat) : Option FilterWidth :=
  if b = 0 then some .off else if b = 1 then some .ms2 else if b = 2 then some .ms8 else if b = 3 then some .ms32 else none

/-- R160: the edge selects, numbered in the order its table lists them. -/
def edgeOf (b : Nat) : Option EdgeSelect :=
  if b = 0 then some .none else if b = 1 then some .rising else if b = 2 then some .falling
  else if b = 3 then some .both else none

/-- A filter width in milliseconds (R160). -/
def widthMs : FilterWidth → Nat
  | .off => 0 | .ms2 => 2 | .ms8 => 8 | .ms32 => 32

/-- Twelve steps from a step word, bit n step n (10.6); bits 12 to 15 are ignored (log entry 37). -/
def stepsOf (w : Nat) : List Bool := (List.range 12).map (fun n => w.testBit n)

/-! ### Records in staging (10.6) -/

/-- Bytes of staging from an offset within it. -/
def stagingBytes (s : State) (off n : Nat) : List Byte := memReadAll s.mem (Config.stagingBase + off) n

/-- Whether `n` bytes from an offset lie wholly within staging. -/
def inStaging (off n : Nat) : Bool := decide (off + n ≤ Config.stagingSize)

/-- A show description as read (R12): title length first, row lengths and seat bytes as long as they say. -/
structure Description where
  titleLength : Nat
  title : List Byte
  auditorium : Nat
  saleOpen : Instant
  start : Instant
  finish : Instant
  lateWindow : Nat
  priceList : Nat
  gapRule : Nat
  rowCount : Nat
  rowLengths : List Nat
  map : List Byte
  size : Nat
  deriving DecidableEq, Repr

/-- The show description that begins at a staging offset (10.6). -/
def descriptionAt (s : State) (off : Nat) : Description :=
  let tl := leValue (stagingBytes s off 1)
  let o := off + 1 + tl
  let rows := leValue (stagingBytes s (o + 22) 1)
  let lengths := (stagingBytes s (o + 23) rows).map BitVec.toNat
  let n := lengths.sum
  { titleLength := tl, title := stagingBytes s (off + 1) tl, auditorium := leValue (stagingBytes s o 1)
    saleOpen := instantOf (stagingBytes s (o + 1) 6), start := instantOf (stagingBytes s (o + 7) 6)
    finish := instantOf (stagingBytes s (o + 13) 6), lateWindow := leValue (stagingBytes s (o + 19) 1)
    priceList := leValue (stagingBytes s (o + 20) 1), gapRule := leValue (stagingBytes s (o + 21) 1), rowCount := rows
    rowLengths := lengths, map := stagingBytes s (o + 23 + rows) n, size := 1 + tl + 23 + rows + n }

/-- The gap rule of a description's byte: 0 on, 1 off (10.6 with R8); any other value leaves it open (log entry 12). -/
def gapRuleOf (b : Nat) : Bool := if b = 0 then true else if b = 1 then false else Config.gapRuleOpen b

/-- A seat byte: bits 0-6 tier, bit 7 BLOCKED (10.6). -/
def seatByteTier (b : Byte) : Nat := b.toNat % 128
def seatByteBlocked (b : Byte) : Bool := b.getLsbD 7

/-- The length of a price list in staging (10.6; log entry 22). -/
def priceListSize : Nat := 128

/-- A tier's P and name from its 14 bytes. -/
def tiersOf : Nat → List Byte → List (Nat × List Byte)
  | 0, _ => []
  | n + 1, b => (leValue (b.take 2), textOf ((b.drop 2).take 12)) :: tiersOf n (b.drop 14)

/-- The price list that begins at a staging offset (R18, 10.6). -/
def priceListAt (s : State) (off : Nat) : PriceList :=
  let b := stagingBytes s off priceListSize
  let tiers := tiersOf 8 b
  { prices := tiers.map Prod.fst, names := tiers.map Prod.snd, factor := leValue ((b.drop 112).take 1)
    fee := leValue ((b.drop 113).take 2), changes := 0 }

/-- R18: every field of a price list in range. -/
def priceListValid (l : PriceList) : Bool :=
  l.prices.all (fun p => decide (p ≤ 60000)) && l.names.all (fun n => decide (1 ≤ n.length))
    && decide (50 ≤ l.factor) && decide (l.factor ≤ 250) && decide (l.fee ≤ 2000)

end Sys2Proof.Machine
end

