-- ==== Sys2Proof/Machine/Pricing.lean ====
section
/-! DEFINITION. The pricing engine (Chapter 4): the seven stages of a quote, the refund amount, and amounts as bytes. -/

namespace Sys2Proof.Machine

/-- R72, stage 1: the seat price S of a tier price P under a show factor F. -/
def seatPrice (p f : Nat) : Nat := (p * f + 50) / 100

/-- R72: the seat price of a tier in a price list. -/
def tierPrice (l : PriceList) (tier : Nat) : Nat := seatPrice (l.prices.getD tier 0) l.factor

/-- R73, stage 2: the seat subtotal of the listed seats' tiers. -/
def seatSubtotalOf (l : PriceList) (tiers : List Nat) : Nat := (tiers.map (tierPrice l)).sum + tiers.length * l.fee

/-- R74, stage 4: the combo discount for n seats, m vouchers and a voucher subtotal. -/
def discountOf (c : Configuration) (n m subtotal : Nat) : Nat :=
  if c.comboSeats ≤ n ∧ c.comboVouchers ≤ m ∧ 0 < c.comboPercent then subtotal * c.comboPercent / 100 else 0

/-- R76, stage 7: the tax contained in a gross at rate T. -/
def taxOf (gross t : Nat) : Nat := (2 * gross * t + (1000 + t)) / (2 * (1000 + t))

/-- R72 to R76: the quote of a list of tiers and a list of voucher prices. -/
def quoteOf (c : Configuration) (l : PriceList) (tiers voucherPrices : List Nat) : Quote :=
  let seatSub := seatSubtotalOf l tiers
  let voucherSub := voucherPrices.sum
  let disc := discountOf c tiers.length voucherPrices.length voucherSub
  let gross := seatSub + voucherSub - disc
  { seatSubtotal := seatSub, voucherSubtotal := voucherSub, discount := disc, gross := gross, tax := taxOf gross c.taxRate
    overCeiling := decide (c.ceiling < gross) }

/-- The pool index of a seat of a show (section 2.2). -/
def poolIndex (w : ShowRec) (i : Nat) : Nat := w.seatBase + i

/-- R71: a basket's quote from its inputs as they stand. -/
def basketQuote (s : State) (c : Basket) : Quote :=
  let w := showAt s c.sh
  quoteOf (cfgOf s) (listAt s w.priceList) (c.seats.map (fun i => (seatAt s (poolIndex w i)).tier))
    (c.vouchers.map (fun v => (kindAt s (voucherAt s v).kind).price))

/-- R79: the quote block of 16 bytes. -/
def quoteBytes (q : Quote) : List Byte :=
  leBytes 3 q.seatSubtotal ++ leBytes 3 q.voucherSubtotal ++ leBytes 3 q.discount ++ leBytes 3 q.gross ++ leBytes 3 q.tax
    ++ [flagByte q.overCeiling]

/-- R83: the refund amount, the gross less the redeemed vouchers' prices, and never below 0. -/
def refundAmountOf (gross redeemedSum : Nat) : Nat := gross - redeemedSum

end Sys2Proof.Machine
end

