-- ==== Sys2Proof/Machine/Station.lean ====
section
/-! DEFINITION. The station unit (Chapter 9): conditions, lamps, sense lines, bindings, overrides, pattern generators, and
the FREE context count in the foyer cell (R49). -/

namespace Sys2Proof.Machine

/-! ### Condition and lamps -/

/-- R163: the condition of a kiosk, the first row of the table that applies. -/
def conditionOf (s : State) (k : Nat) : Condition :=
  let c := kioskAt s k
  let p := (printerAt s k).state
  if c.service then .service
  else if p = .stalled ∨ p = .absent then .stalled
  else match c.current with
    | some b =>
      match (basketAt s b).state with
      | .selecting => .selecting
      | .paying => .paying
      | .unresolved => .paying
      | .printing => .printing
      | .collect => .collect
      | .free => .idle
      | .closed => .idle
      | .expired => .idle
      | .abandoned => .idle
    | none =>
      if s.station.foyer.low then .wait
      else if (senseAt s k 0).accepted then .greet
      else .idle

/-- R164: the function in force of a lamp and its source, given the binding for its colour. -/
def lampInForce (l : Lamp) (binding : Option LampFunction) : LampFunction × LampSource :=
  match l.follow with
  | some line => (.follow line, .follow)
  | none =>
    match l.override with
    | some (f, _) => (f, .override)
    | none =>
      match binding with
      | some f => (f, .binding)
      | none => (.off, .off)

/-- R164: the function in force and its source written into the lamp record. -/
def refreshLamp (binding : Option LampFunction) (l : Lamp) : Lamp :=
  { l with function := (lampInForce l binding).1, source := (lampInForce l binding).2 }

def kioskBinding (s : State) (c : Condition) : Option Binding := s.station.kioskBindings[conditionNum c]?
def counterBinding (s : State) (w : Showing) : Option Binding := s.station.counterBindings[showingNum w]?

/-- R163, R164: a kiosk's condition derived anew and written, and its lamps moved to the functions then in force. -/
def refreshKiosk (k : Nat) (s : State) : State :=
  let cond := conditionOf s k
  let b := kioskBinding s cond
  updKiosk k (fun c => { c with
    condition := cond
    green := refreshLamp (b.map Binding.green) c.green
    red := refreshLamp (b.map Binding.red) c.red }) s

/-- R163: every kiosk's condition derived anew, when the low state of the supply changes. -/
def refreshKiosks (s : State) : State := forEach (List.range 12) refreshKiosk s

/-- R164, R167: a counter's lamps moved to the functions in force for what it shows. -/
def refreshCounter (m : Nat) (s : State) : State :=
  let b := counterBinding s (counterAt s m).showing
  updCounter m (fun c => { c with
    green := refreshLamp (b.map Binding.green) c.green
    red := refreshLamp (b.map Binding.red) c.red }) s

/-- R164, R168: whether a lamp is lit, given the sense lines of its station. -/
def functionLit (s : State) (senses : List Sense) : LampFunction → Bool
  | .off => false
  | .on => true
  | .pattern n =>
    match s.station.generators[n]? with
    | some g => g.steps.getD g.position false
    | none => false
  | .follow k => (senses.getD k (.atLevel false)).accepted

/-- The lamp record of a lamp. -/
def lampAt (s : State) : LampId → Lamp
  | .kiosk k .green => (kioskAt s k).green
  | .kiosk k .red => (kioskAt s k).red
  | .counter m .green => (counterAt s m).green
  | .counter m .red => (counterAt s m).red

/-- The level at a lamp output (R164). -/
def lampLit (s : State) (l : LampId) : Bool :=
  match l with
  | .kiosk k _ => functionLit s (kioskAt s k).senses (lampAt s l).function
  | .counter _ _ => functionLit s [] (lampAt s l).function

/-! ### The supply of contexts (R49) -/

/-- R49: the FREE context count written into the foyer cell; falling to the low-water mark raises CONTEXT_LOW, and a change
of the low state derives every kiosk's condition. -/
def setFreeCount (n : Nat) (s : State) : State :=
  let mark := (cfgOf s).lowWater
  let old := s.station.foyer.freeCount
  let wasLow := s.station.foyer.low
  let low := decide (n ≤ mark)
  let t := updFoyer (fun f => { f with freeCount := n, low := low }) s
  let t := if mark < old ∧ n ≤ mark then raiseFactor .foyer ffContextLow t else t
  if low = wasLow then t else refreshKiosks t

/-! ### Sense lines (R160 to R162) -/

/-- A sense record of a kiosk updated, under the cell's change count. -/
def updSense (k l : Nat) (f : Sense → Sense) (s : State) : State :=
  updKiosk k (fun c => { c with senses := updAt c.senses l f }) s

/-- R161: whether an accepted edge matches an edge select. -/
def edgeMatches (e : EdgeSelect) (rising : Bool) : Bool :=
  match e with
  | .none => false
  | .rising => rising
  | .falling => !rising
  | .both => true

/-- R160, R161: a change accepted: the accepted level takes the present one, the deadline becomes absent, the factor is
raised when the edge matches, the internal use is made, and the condition is derived anew. -/
def acceptEdge (k l : Nat) (s : State) : State :=
  let line := senseAt s k l
  let rising := line.present
  let t := updSense k l (fun x => { x with accepted := x.present, deadline := none }) s
  let t := if edgeMatches line.edge rising then raiseFactor (kioskCell k) (kfSense l) t else t
  let t := if l = 1 then updKiosk k (fun c => { c with service := rising }) t else t
  let t := if l = 2 ∧ !rising then { t with basketUnit := { t.basketUnit with chutes := t.basketUnit.chutes ++ [k] } } else t
  refreshKiosk k t

/-- R160: a change at a sense input writes the present level and starts, restarts or ends the filter. -/
def senseChange (k l : Nat) (level : Bool) (s : State) : State :=
  let line := senseAt s k l
  if line.present = level then s
  else
    let t := updSense k l (fun x => { x with present := level }) s
    if level = line.accepted then updSense k l (fun x => { x with deadline := none }) t
    else if line.width = .off then acceptEdge k l t
    else updSense k l (fun x => { x with deadline := some (deadlineAt (nowOf s) (nowOf s + widthMs line.width)) }) t

/-- R160: the filter deadline falls due. -/
def senseFilterDue (k l : Nat) (s : State) : State :=
  if dueNow (nowOf s) (senseAt s k l).deadline then acceptEdge k l s else s

/-- R162: SET_SENSE. -/
def setSenseOp (r : Request) (s : State) : State :=
  let k := param1 r 0
  let l := param1 r 1
  match widthOf (param1 r 2), edgeOf (param1 r 3) with
  | some w, some e =>
    if k < 12 ∧ l < 4 then
      let filtering := (senseAt s k l).deadline.isSome
      let t := updSense k l (fun x => { x with width := w, edge := e }) s
      let t :=
        if !filtering then t
        else if w = .off then acceptEdge k l t
        else updSense k l (fun x => { x with deadline := some (deadlineAt (nowOf s) (nowOf s + widthMs w)) }) t
      finish r.slot .ok t
    else finish r.slot .badParameter s
  | _, _ => finish r.slot .badParameter s

/-! ### Bindings, follow lines and overrides (R165, R166) -/

/-- The lamp of a colour updated in a kiosk cell or a counter cell. -/
def updLamp (l : LampId) (f : Lamp → Lamp) (s : State) : State :=
  match l with
  | .kiosk k .green => updKiosk k (fun c => { c with green := f c.green }) s
  | .kiosk k .red => updKiosk k (fun c => { c with red := f c.red }) s
  | .counter m .green => updCounter m (fun c => { c with green := f c.green }) s
  | .counter m .red => updCounter m (fun c => { c with red := f c.red }) s

/-- The binding a lamp's station and colour give it now. -/
def bindingFor (s : State) : LampId → Option LampFunction
  | .kiosk k .green => (kioskBinding s (kioskAt s k).condition).map Binding.green
  | .kiosk k .red => (kioskBinding s (kioskAt s k).condition).map Binding.red
  | .counter m .green => (counterBinding s (counterAt s m).showing).map Binding.green
  | .counter m .red => (counterBinding s (counterAt s m).showing).map Binding.red

/-- R164: one lamp's function in force taken anew. -/
def retakeLamp (l : LampId) (s : State) : State := updLamp l (refreshLamp (bindingFor s l)) s

/-- The lamps of one colour of all kiosks, or of all counters. -/
def kioskLamps (c : Colour) : List LampId := (List.finRange 12).map (fun k => .kiosk k c)
def counterLamps (c : Colour) : List LampId := (List.finRange 4).map (fun m => .counter m c)

/-- R164, R165: functions in force taken anew on the lamps whose station shows what an entry binds, those whose binding a follow line or
an override hides among them: their function stays and their cell's change count moves, DESIGN CHOICE (log entry 7). -/
def retakeWhere (shows : State → LampId → Bool) (lamps : List LampId) (s : State) : State :=
  lamps.foldl (fun t l => if shows t l then retakeLamp l t else t) s

/-- Whether a kiosk lamp's station has a condition. -/
def hasCondition (n : Nat) (s : State) : LampId → Bool
  | .kiosk k _ => conditionNum (kioskAt s k).condition == n
  | .counter _ _ => false

/-- Whether a counter lamp's station shows a showing. -/
def hasShowing (n : Nat) (s : State) : LampId → Bool
  | .kiosk _ _ => false
  | .counter m _ => showingNum (counterAt s m).showing == n

/-- A binding entry with one colour's function replaced. -/
def setBindingColour (c : Colour) (f : LampFunction) (b : Binding) : Binding :=
  match c with
  | .green => { b with green := f }
  | .red => { b with red := f }

/-- R165: SET_BINDING in its three forms. A form byte above 02h and a colour byte above 01h, which R165 does not name, are
refused with BAD_PARAMETER by the model's choice (log entry 30). -/
def setBindingOp (r : Request) (s : State) : State :=
  let form := param1 r 0
  let place := param1 r 1
  match colourOf (param1 r 2) with
  | none => finish r.slot .badParameter s
  | some c =>
    if form = 0 then
      match functionOf (param1 r 3) with
      | some f =>
        if place < 9 then
          let t := { s with station := { s.station with kioskBindings := updAt s.station.kioskBindings place (setBindingColour c f) } }
          finish r.slot .ok (retakeWhere (hasCondition place) (kioskLamps c) t)
        else finish r.slot .badParameter s
      | none => finish r.slot .badParameter s
    else if form = 1 then
      match functionOf (param1 r 3) with
      | some f =>
        if place < 8 then
          let t := { s with station := { s.station with counterBindings := updAt s.station.counterBindings place (setBindingColour c f) } }
          finish r.slot .ok (retakeWhere (hasShowing place) (counterLamps c) t)
        else finish r.slot .badParameter s
      | none => finish r.slot .badParameter s
    else if form = 2 then
      let line := param1 r 3
      if h : place < 12 then
        if line < 4 ∨ line = 255 then
          let lamp := LampId.kiosk ⟨place, h⟩ c
          let t := updLamp lamp (fun x => { x with follow := if line = 255 then none else some line }) s
          finish r.slot .ok (retakeLamp lamp t)
        else finish r.slot .badParameter s
      else finish r.slot .badParameter s
    else finish r.slot .badParameter s

/-- R166: SET_LAMP. The action byte 30h is CLEAR; a function action carries a duration of 1-60 s, or 0 for until cleared. The override and
the function taken anew are two updates of the cell, also for a CLEAR that finds no override: DESIGN CHOICE (log entry 7). -/
def setLampOp (r : Request) (s : State) : State :=
  let action := param1 r 2
  let duration := param1 r 3
  match (colourOf (param1 r 1)).bind (stationLamp (param1 r 0)) with
  | none => finish r.slot .badParameter s
  | some lamp =>
    if action = 0x30 then
      finish r.slot .ok (retakeLamp lamp (updLamp lamp (fun x => { x with override := none }) s))
    else
      match functionOf action with
      | some f =>
        if duration ≤ 60 then
          let due := if duration = 0 then none else some (deadlineAt (nowOf s) (nowOf s + 1000 * duration))
          finish r.slot .ok (retakeLamp lamp (updLamp lamp (fun x => { x with override := some (f, due) }) s))
        else finish r.slot .badParameter s
      | none => finish r.slot .badParameter s

/-- R166: whether a lamp's override has a deadline that has fallen due. -/
def overrideDue (s : State) (l : LampId) : Bool :=
  match (lampAt s l).override with
  | some (_, d) => dueNow (nowOf s) d
  | none => false

/-- R166: an override's deadline falls due: the override is removed and the function in force taken anew. -/
def overrideExpires (l : LampId) (s : State) : State :=
  if overrideDue s l then retakeLamp l (updLamp l (fun x => { x with override := none }) s) else s

/-! ### Pattern generators (R168) -/

/-- A generator updated; the generators carry no change count (R173). -/
def updGenerator (n : Nat) (f : Generator → Generator) (s : State) : State :=
  { s with station := { s.station with generators := updAt s.station.generators n f } }

/-- R168: SET_PATTERN. Bits 12 to 15 of the step word name no step and are ignored: DESIGN CHOICE (log entry 37). -/
def setPatternOp (r : Request) (s : State) : State :=
  let n := param1 r 0
  let len := param1 r 3
  let width := param2 r 4
  if n < 8 ∧ (len = 8 ∨ len = 9 ∨ len = 10 ∨ len = 12) ∧ (width = 50 ∨ width = 100 ∨ width = 200 ∨ width = 400) then
    finish r.slot .ok (updGenerator n (fun _ =>
      { steps := stepsOf (param2 r 1), length := len, width := width, position := 0
        stepDue := deadlineAt (nowOf s) (nowOf s + width) }) s)
  else finish r.slot .badParameter s

/-- R168: the step advances, from length − 1 to 0, and the next deadline is the one before plus the width. -/
def advanceStep (now : Nat) (g : Generator) : Generator :=
  { g with
    position := if g.position + 1 < g.length then g.position + 1 else 0
    stepDue := deadlineAt now (g.stepDue.value + g.width) }

/-- R168: a generator's step deadline falls due. -/
def patternStepOp (n : Nat) (s : State) : State :=
  match s.station.generators[n]? with
  | some g => if isDue (nowOf s) g.stepDue then updGenerator n (advanceStep (nowOf s)) s else s
  | none => s

/-! ### Counter showings (R167) -/

/-- R167: the counter shows an answer for the answer time. -/
def showAnswer (m : Nat) (a : Showing) (s : State) : State :=
  refreshCounter m (updCounter m (fun c => { c with
    showing := a, answerDue := some (deadlineAt (nowOf s) (nowOf s + 1000 * (cfgOf s).answerTime)) }) s)

/-- R167: the answer deadline falls due, and the showing returns to IDLE. -/
def answerExpires (m : Nat) (s : State) : State :=
  if dueNow (nowOf s) (counterAt s m).answerDue then
    refreshCounter m (updCounter m (fun c => { c with showing := .idle, answerDue := none }) s)
  else s

/-! ### The station unit's share of RESET_STATION (R169) -/

/-- R169, share (3): factors cleared (the mask kept), overrides removed (the follow lines kept), the sense lines settled
without edges, the service flag taken from S1, condition and lamps derived anew. -/
def stationShare (k : Nat) (s : State) : State :=
  let cell := kioskCell k
  let t := reportAttention (draws (factorsOf s cell) (maskOf s cell)) false s
  let t := updKiosk k (fun c =>
    let senses := c.senses.map (fun x => { x with accepted := x.present, deadline := none })
    { c with
      factors := 0
      green := { c.green with override := none }
      red := { c.red with override := none }
      senses := senses
      service := (senses.getD 1 (.atLevel false)).accepted }) t
  refreshKiosk k t

end Sys2Proof.Machine
end

