-- ==== Sys2Proof/Machine/SeatMap.lean ====
section
/-! DEFINITION. The seat unit (Chapter 2): numbering, labels and neighbours, the checks of holds, blocks and unblocks, and
the seat events on cells and counts. -/

namespace Sys2Proof.Machine

/-! ### Numbering and labels (R24 to R26) -/

/-- R24: the row (from 0 at the front), the position (from 1 at the left) and the row's length, of a seat index. -/
def placeOf : Nat → List Nat → Nat → Option (Nat × Nat × Nat)
  | _, [], _ => none
  | k, l :: rest, i => if i < l then some (k, i + 1, l) else placeOf (k + 1) rest (i - l)

def seatPlace (lengths : List Nat) (i : Nat) : Option (Nat × Nat × Nat) := placeOf 0 lengths i

/-- R26: the left and the right neighbour of a seat. -/
def leftNeighbour (lengths : List Nat) (i : Nat) : Option Nat :=
  match seatPlace lengths i with
  | some (_, p, _) => if 1 < p then some (i - 1) else none
  | none => none

def rightNeighbour (lengths : List Nat) (i : Nat) : Option Nat :=
  match seatPlace lengths i with
  | some (_, p, len) => if p < len then some (i + 1) else none
  | none => none

/-- R25: the row letters A to Z, then AA to AF. -/
def rowLetters (row : Nat) : List Byte :=
  if row < 26 then [BitVec.ofNat 8 (0x41 + row)] else [0x41, BitVec.ofNat 8 (0x41 + (row - 26))]

/-! ### Cells and counts -/

/-- The cell of a seat of a show. -/
def seatOf (s : State) (sh i : Nat) : Seat := seatAt s (poolIndex (showAt s sh) i)

/-- R22: one cell takes a state and its owner together; the tier stays. -/
def writeCell (cell : Nat) (st : SeatState) (owner : Option Nat) (s : State) : State :=
  setSeat cell { seatAt s cell with state := st, owner := owner } s

/-- Cells written to one state and owner. -/
def writeCells (cells : List Nat) (st : SeatState) (owner : Option Nat) (s : State) : State :=
  forEach cells (fun c => writeCell c st owner) s

/-- R23, R28: a seat event on pool cells of a show: the cells and the counts move together under the show's change count;
an event that changes no cell leaves the change count untouched. -/
def cellEvent (sh : Nat) (cells : List Nat) (st : SeatState) (owner : Option Nat) (counts : ShowRec → ShowRec)
    (s : State) : State :=
  match cells with
  | [] => s
  | _ :: _ => updShow sh counts (writeCells cells st owner s)

/-- A seat event on seats named by seat index. -/
def seatEvent (sh : Nat) (list : List Nat) (st : SeatState) (owner : Option Nat) (counts : ShowRec → ShowRec)
    (s : State) : State :=
  cellEvent sh (list.map (poolIndex (showAt s sh))) st owner counts s

/-- R32: the cells of the hold event. -/
def holdCells (sh b : Nat) (list : List Nat) (s : State) : State :=
  seatEvent sh list .held (some b) (fun w => { w with free := w.free - list.length, held := w.held + list.length }) s

/-- R36, R37: a release. -/
def releaseCells (sh : Nat) (list : List Nat) (s : State) : State :=
  seatEvent sh list .free none (fun w => { w with held := w.held - list.length, free := w.free + list.length }) s

/-- R38: the sell event. -/
def sellCells (sh serial : Nat) (list : List Nat) (s : State) : State :=
  seatEvent sh list .sold (some serial) (fun w => { w with held := w.held - list.length, sold := w.sold + list.length }) s

/-- R39: the pool cells of a show that are SOLD with a serial as owner, in rising order. -/
def soldCells (s : State) (w : ShowRec) (serial : Nat) : List Nat :=
  (s.seats.filter (fun e => decide (w.seatBase ≤ e.1) && decide (e.1 < w.seatBase + w.seatCount)
    && e.2.state == .sold && e.2.owner == some serial)).map Prod.fst

/-- R39: the refund freeing, and the number of cells freed. -/
def freeSold (sh serial : Nat) (s : State) : State × Nat :=
  let cells := soldCells s (showAt s sh) serial
  (cellEvent sh cells .free none (fun w => { w with sold := w.sold - cells.length, free := w.free + cells.length }) s,
    cells.length)

/-- R43: every cell of a show's range returns to the defaults, and the counts become 0; the show's change count is odd for
the whole removal (R17), so this event leaves it. -/
def clearRange (sh : Nat) (s : State) : State :=
  let w := showAt s sh
  setShow sh (fun x => { x with free := 0, held := 0, sold := 0, blocked := 0 })
    { s with seats := s.seats.filter (fun e => !(decide (w.seatBase ≤ e.1) && decide (e.1 < w.seatBase + w.seatCount))) }

/-- R14, R43: the cells of a loading, in index order, each with its tier and with FREE or BLOCKED. -/
def loadCells : Nat → List Byte → State → State
  | _, [], s => s
  | cell, b :: rest, s =>
    loadCells (cell + 1) rest
      (setSeat cell { state := if seatByteBlocked b then .blocked else .free, tier := seatByteTier b, owner := none } s)

/-! ### Checks -/

/-- The first entry of a list, with what stands before it, that fails a test. -/
def firstFailing (fails : List Nat → Nat → Bool) : List Nat → List Nat → Option Nat
  | _, [] => none
  | before, x :: rest => if fails before x then some x else firstFailing fails (before ++ [x]) rest

/-- R31: the gap check. A candidate is a FREE neighbour not in the list; it is a gap when it is no row end and each of its
neighbours is, after the hold, not FREE. -/
def isGap (s : State) (sh : Nat) (list : List Nat) (c : Nat) : Bool :=
  let lengths := (showAt s sh).rowLengths
  let takenAfter := fun n => list.contains n || (seatOf s sh n).state != .free
  (seatOf s sh c).state == .free && !list.contains c &&
    match leftNeighbour lengths c, rightNeighbour lengths c with
    | some l, some r => takenAfter l && takenAfter r
    | _, _ => false

/-- R31: the first gap, each listed seat's left neighbour before its right one. -/
def firstGap (s : State) (sh : Nat) (list : List Nat) : Option Nat :=
  let lengths := (showAt s sh).rowLengths
  (list.flatMap (fun i => (leftNeighbour lengths i).toList ++ (rightNeighbour lengths i).toList)).find? (isGap s sh list)

/-- The refusal of a seat whose cell is not FREE: SEAT_TAKEN for HELD or SOLD, SEAT_BLOCKED for BLOCKED. -/
def notFreeCode (st : SeatState) : ResultCode := if st = .blocked then .seatBlocked else .seatTaken

/-- R30: the checks of the hold event, in order; the code and the named seat of the first that fails. -/
def holdRefusal (s : State) (b : Nat) (list : List Nat) : Option (ResultCode × Option Nat) :=
  let c := basketAt s b
  let w := showAt s c.sh
  if w.state ≠ .onSale then some (.saleClosed, none)
  else if 10 < c.seats.length + list.length then some (.basketFull, none)
  else match firstFailing (fun before x => decide (w.seatCount ≤ x) || before.contains x || c.seats.contains x) [] list with
    | some x => some (.badParameter, some x)
    | none =>
      match list.find? (fun x => (seatOf s c.sh x).state != .free) with
      | some x => some (notFreeCode (seatOf s c.sh x).state, some x)
      | none => if w.gapRule then (firstGap s c.sh list).map (fun x => (.gapLeft, some x)) else none

/-- A refusal's result fields: the named seat, where there is one. -/
def namedSeat : Option Nat → List Byte
  | some x => leBytes 2 x
  | none => []

/-- R40, R41, checks (1) to (4), shared by BLOCK_SEATS and UNBLOCK_SEATS. -/
def blockRefusal (s : State) (sh : Nat) (list : Option (List Nat)) : Option (ResultCode × Option Nat) :=
  match list with
  | none => some (.badParameter, none)
  | some l =>
    if 48 ≤ sh ∨ l.length < 1 ∨ 40 < l.length then some (.badParameter, none)
    else if (showAt s sh).state = .empty then some (.noShow, none)
    else if (showAt s sh).state = .ended then some (.wrongState, none)
    else (firstFailing (fun before x => decide ((showAt s sh).seatCount ≤ x) || before.contains x) [] l).map
      (fun x => (.badParameter, some x))

/-- The four counts of a show in a result (R40). -/
def countBytes (w : ShowRec) : List Byte := leBytes 2 w.free ++ leBytes 2 w.held ++ leBytes 2 w.sold ++ leBytes 2 w.blocked

/-- R40: BLOCK_SEATS, one seat event. -/
def blockSeatsOp (r : Request) (s : State) : State :=
  let sh := param1 r 0
  let list := paramSeats r 1
  match blockRefusal s sh list with
  | some (code, seat) => completeSlot r.slot code (namedSeat seat) s
  | none =>
    let l := list.getD []
    match l.find? (fun x => (seatOf s sh x).state != .free) with
    | some x => completeSlot r.slot (notFreeCode (seatOf s sh x).state) (leBytes 2 x) s
    | none =>
      let t := seatEvent sh l .blocked none (fun w => { w with free := w.free - l.length, blocked := w.blocked + l.length }) s
      completeSlot r.slot .ok (countBytes (showAt t sh)) t

/-- R41: UNBLOCK_SEATS, one seat event. -/
def unblockSeatsOp (r : Request) (s : State) : State :=
  let sh := param1 r 0
  let list := paramSeats r 1
  match blockRefusal s sh list with
  | some (code, seat) => completeSlot r.slot code (namedSeat seat) s
  | none =>
    let l := list.getD []
    match l.find? (fun x => (seatOf s sh x).state != .blocked) with
    | some x =>
      completeSlot r.slot (if (seatOf s sh x).state = .free then .wrongState else .seatTaken) (leBytes 2 x) s
    | none =>
      let t := seatEvent sh l .free none (fun w => { w with blocked := w.blocked - l.length, free := w.free + l.length }) s
      completeSlot r.slot .ok (countBytes (showAt t sh)) t

end Sys2Proof.Machine
end

