-- ==== Sys2Proof/Machine/Vouchers.lean ====
section
/-! DEFINITION. The voucher unit (Chapter 7): codes and their checks, buckets and chains, issue, removal, activation,
voiding, the counter receivers, validation and answers. -/

namespace Sys2Proof.Machine

/-! ### Codes (R131) and buckets (R130) -/

/-- R131: the check of the first ten digits, by the weights 3, 7, 1 repeated. -/
def checkOf (first10 : Nat) : Nat :=
  (List.zipWith (· * ·) (digitsOf 10 first10) [3, 7, 1, 3, 7, 1, 3, 7, 1, 3]).sum % 97

/-- R131: a code from the issue day, the sequence and the site number. -/
def composeCode (day seq site : Nat) : Nat :=
  let first10 := 10000000 * day + 100 * seq + site
  100 * first10 + checkOf first10

/-- R131: whether the last two of twelve digits are the check of the first ten. -/
def checkRight (code : Nat) : Bool := code % 100 == checkOf (code / 100)

/-- R130: the bucket of a code, from its day and sequence digits. -/
def bucketOf (code : Nat) : Nat := (code / 10000 % 100000 + 31 * (code / 1000000000)) % 256

/-- A bucket head. -/
def headAt (s : State) (bucket : Nat) : Option Nat := sparseGet none s.voucherUnit.heads bucket

def setHead (bucket : Nat) (h : Option Nat) (s : State) : State :=
  { s with voucherUnit := { s.voucherUnit with heads := sparsePut none s.voucherUnit.heads bucket h } }

/-- The chain change count rises for one whole rewriting of links or heads (R130). -/
def bumpChain (s : State) : State :=
  { s with voucherUnit := { s.voucherUnit with chainChanges := bump s.voucherUnit.chainChanges } }

/-- R130: the first entry from a place of a chain on that passes a test; a chain holds at most 1,024 entries. -/
def walkChain (s : State) (test : Nat → Bool) : Nat → Option Nat → Option Nat
  | 0, _ => none
  | _, none => none
  | n + 1, some i => if test i then some i else walkChain s test n (voucherAt s i).link

/-- R130: the lookup of a code. -/
def lookupCode (s : State) (code : Nat) : Option Nat :=
  walkChain s (fun i => (voucherAt s i).code == code) Config.voucherCount (headAt s (bucketOf code))

/-- A voucher entry updated, under its change count (R127). -/
def updVoucher (i : Nat) (f : Voucher → Voucher) (s : State) : State :=
  setVoucher i { f (voucherAt s i) with changes := bump (voucherAt s i).changes } s

/-- R130: an entry unlinked from its chain and returned to the defaults: the head or the link that named it takes its own
link. -/
def unlinkVoucher (i : Nat) (s : State) : State :=
  let e := voucherAt s i
  let bucket := bucketOf e.code
  let t :=
    if headAt s bucket = some i then setHead bucket e.link s
    else
      match walkChain s (fun j => (voucherAt s j).link == some i) Config.voucherCount (headAt s bucket) with
      | some j => updVoucher j (fun v => { v with link := e.link }) s
      | none => s
  setVoucher i .empty t

/-- R134, R138: entries removed in one event. -/
def removeVouchers (list : List Nat) (s : State) : State :=
  match list with
  | [] => s
  | _ :: _ => bumpChain (forEach list unlinkVoucher s)

/-- R135: the activation of a basket's vouchers. -/
def activateVouchers (serial : Nat) (list : List Nat) (s : State) : State :=
  forEach list (fun i => updVoucher i (fun v => { v with state := some .active, owner := some serial })) s

/-- The table indices, in rising order, of the entries a sale owns (R127: the owner of a PENDING entry is a basket). -/
def vouchersOf (s : State) (serial : Nat) : List Nat :=
  (s.voucherUnit.entries.filter (fun e => e.2.state != some .pending && e.2.state.isSome && e.2.owner == some serial)).map Prod.fst

/-- The entries of a sale in one state. -/
def vouchersIn (s : State) (serial : Nat) (st : VoucherState) : List Nat :=
  (vouchersOf s serial).filter (fun i => (voucherAt s i).state == some st)

/-- R137: the refund voucher step and its answer. -/
def refundVouchers (serial : Nat) (s : State) : State × VoucherAnswer :=
  let active := vouchersIn s serial .active
  let redeemed := vouchersIn s serial .redeemed
  (forEach active (fun i => updVoucher i (fun v => { v with state := some .voided })) s,
    { voided := active.length, redeemed := redeemed.length
      sum := (redeemed.map (fun i => (kindAt s (voucherAt s i).kind).price)).sum })

/-- The table indices of a show's entries (R138). -/
def vouchersOfShow (s : State) (sh : Nat) : List Nat :=
  (s.voucherUnit.entries.filter (fun e => e.2.state.isSome && e.2.sh == sh)).map Prod.fst

/-! ### The daily sequence and issue (R132, R133) -/

/-- R132: the sequence record brought up to a year and day. -/
def takeDay (day : Nat × Nat) (s : State) : State :=
  if s.voucherUnit.seqDay = some day then s
  else { s with voucherUnit := { s.voucherUnit with seqDay := some day, nextSeq := 0 } }

/-- R132: the oldest day change reported by the show unit is taken. -/
def dayChangeOp (s : State) : State :=
  match s.showUnit.dayChanges with
  | [] => s
  | d :: rest => takeDay d { s with showUnit := { s.showUnit with dayChanges := rest } }

/-- R133, step (5): the first sequence number from the next one on whose code is not in the table; none when the sequence is
spent. -/
def freeSequence (s : State) (day site : Nat) : Nat → Nat → Option Nat
  | 0, _ => none
  | left + 1, seq =>
    match lookupCode s (composeCode day seq site) with
    | none => some seq
    | some _ => freeSequence s day site left (seq + 1)

/-- What an issue answers (R133): a refusal, or the entry's table index and code. -/
inductive IssueAnswer where
  | refused (code : ResultCode)
  | issued (index code : Nat)
  deriving DecidableEq, Repr

/-- R133: the issue of a voucher of a kind for a basket. -/
def issueVoucher (kind b sh : Nat) (s : State) : State × IssueAnswer :=
  let now := s.showUnit.clock.now
  let t := takeDay (now.year, now.day) s
  let index := lowestFree 0 t.voucherUnit.entries
  if (kindAt t kind).name = [] then (t, .refused .badParameter)
  else if Config.voucherCount ≤ index then (t, .refused .tableFull)
  else if t.voucherUnit.nextSeq = 100000 then (t, .refused .sequenceSpent)
  else match freeSequence t now.day (cfgOf t).site (100000 - t.voucherUnit.nextSeq) t.voucherUnit.nextSeq with
    | none => ({ t with voucherUnit := { t.voucherUnit with nextSeq := 100000 } }, .refused .sequenceSpent)
    | some seq =>
      let code := composeCode now.day seq (cfgOf t).site
      let bucket := bucketOf code
      let u := setVoucher index
        { state := some .pending, code := code, kind := kind, sh := sh, owner := some b, redeemedAt := none
          link := headAt t bucket, changes := bump (voucherAt t index).changes } t
      let u := bumpChain (setHead bucket (some index) u)
      ({ u with voucherUnit := { u.voucherUnit with nextSeq := seq + 1 } }, .issued index code)

/-! ### VOID_VOUCHER (R136) -/

/-- The number that code characters spell, when they are 12 digit characters. -/
def codeOfChars (chars : List Byte) : Option Nat :=
  if chars.length = 12 ∧ chars.all isDigit then some (digitsValue (charDigits chars)) else none

/-- R136: VOID_VOUCHER. -/
def voidVoucherOp (r : Request) (s : State) : State :=
  match codeOfChars (paramBytes r 0 12) with
  | none => finish r.slot .badParameter s
  | some code =>
    if !checkRight code then finish r.slot .badParameter s
    else match lookupCode s code with
      | none => finish r.slot .badParameter s
      | some i =>
        let e := voucherAt s i
        if e.state = some .active then
          completeSlot r.slot .ok (leBytes 2 i ++ leBytes 1 e.kind ++ optBytes 3 e.owner)
            (updVoucher i (fun v => { v with state := some .voided }) s)
        else finish r.slot .wrongState s

/-! ### Answers (R142) -/

/-- R142: an answer of a counter: last answer, factor, statistics, lamps. -/
def counterAnswer (m : Nat) (chars : List Byte) (a : Showing) (kind : Option Nat) (first : Option (Nat × Instant))
    (s : State) : State :=
  let instant := if s.showUnit.clock.isSet then some s.showUnit.clock.now else none
  let t := updCounter m (fun c => { c with
    lastAnswer := some { code := chars, answer := a, kind := kind, instant := instant, first := first } }) s
  let t := raiseFactor (counterCell m) (if a = .redeemed then cfRedeemed else cfRefused) t
  let t := addStat (statCounter m (if a = .redeemed then 0 else 1)) 1 t
  showAnswer m a t

/-! ### Validation (R141) -/

/-- R141, step (5): whether the clock stands after the show's end plus the voucher grace. -/
def pastGrace (s : State) (sh : Nat) : Bool :=
  decide (instantSeconds (showAt s sh).finish + 60 * (cfgOf s).voucherGrace < instantSeconds s.showUnit.clock.now)

/-- R141: the validation of one scanned code at a counter. -/
def validateCode (m : Nat) (chars : List Byte) (s : State) : State :=
  match codeOfChars chars with
  | none => counterAnswer m chars .badCode none none s
  | some code =>
    if !checkRight code then counterAnswer m chars .badCode none none s
    else match lookupCode s code with
      | none => counterAnswer m chars .unknown none none s
      | some i =>
        let e := voucherAt s i
        match e.state with
        | none => counterAnswer m chars .unknown none none s
        | some .pending => counterAnswer m chars .notPaid (some e.kind) none s
        | some .voided => counterAnswer m chars .voided (some e.kind) none s
        | some .redeemed =>
          counterAnswer m chars .alreadyUsed (some e.kind) (e.redeemedAt.map (fun x => (x.2, x.1))) s
        | some .active =>
          if pastGrace s e.sh then counterAnswer m chars .expired (some e.kind) none s
          else counterAnswer m chars .redeemed (some e.kind) none
            (updVoucher i (fun v => { v with state := some .redeemed, redeemedAt := some (s.showUnit.clock.now, m) }) s)

/-- The oldest code a counter has handed to validation is taken (R140, R141); at a disabled counter it is answered nothing
(R139). -/
def validationOp (m : Nat) (s : State) : State :=
  match (receiverAt s m).scanned with
  | [] => s
  | chars :: rest =>
    let t := setReceiver m (fun r => { r with scanned := rest }) s
    if (counterAt s m).enabled then validateCode m chars t else t

/-! ### Counter receivers (R139, R140) -/

/-- R139: whether a counter's receiver takes bytes. -/
def counterListens (s : State) (m : Nat) : Bool := running s && (counterAt s m).enabled

/-- An empty code with every mark clear; the codes already handed on stay. -/
def emptyCode (r : Receiver) : Receiver := { Receiver.initial with scanned := r.scanned }

/-- R140: more than 100 ms without a byte discards what was held. -/
def gapDiscards (now : Nat) (r : Receiver) : Receiver := if dueNow now r.gapDue then emptyCode r else r

/-- The gap runs while characters are held or the discard mark is set. -/
def startGap (now : Nat) (r : Receiver) : Receiver :=
  { r with gapDue := if r.chars = [] ∧ !r.discard then none else some (deadlineAt now (now + Config.gapLimit)) }

/-- R140: a byte other than CR and LF. -/
def takeChar (b : Byte) (r : Receiver) : Receiver :=
  if r.discard then r
  else if r.chars.length < 16 then { r with chars := r.chars ++ [b], bad := r.bad || !isDigit b }
  else { r with discard := true }

/-- R140: a byte that passed the checks of R139. -/
def counterByteOp (m : Nat) (b : Byte) (s : State) : State :=
  if !counterListens s m then s
  else
    let r := gapDiscards (nowOf s) (receiverAt s m)
    if b = 0x0A then setReceiver m (fun _ => startGap (nowOf s) r) s
    else if b = 0x0D then
      let t := setReceiver m (fun _ => emptyCode r) s
      if r.silence then t
      else if r.discard then counterAnswer m r.chars .badCode none none t
      else if r.chars = [] then t
      else if r.bad then counterAnswer m r.chars .badCode none none t
      else setReceiver m (fun x => { x with scanned := x.scanned ++ [r.chars] }) t
    else setReceiver m (fun _ => startGap (nowOf s) (takeChar b r)) s

/-- The number of a byte fault's counter among the three (R187). -/
def byteFaultIndex : ByteFault → Nat
  | .parity => 0 | .framing => 1 | .overrun => 2

/-- R139: the parity parameter of a counter line. -/
def counterParity (s : State) (m : Nat) : Option Nat := ((cfgOf s).counters[m]?).map (fun e => e.1.parity)

/-- R85, R139: whether a byte can fail in a way: a parity fault needs even or odd parity (10.6 numbers none 0). -/
def canFault (parity : Option Nat) (f : ByteFault) : Bool := f != .parity || parity.any (fun v => v != 0)

/-- R139, R140: a byte fault on a counter line is counted, discards the code in progress, and leaves the discard and silence
marks set. With no parity configured there is no parity fault (R85). -/
def counterFaultOp (m : Nat) (f : ByteFault) (s : State) : State :=
  if !counterListens s m || !canFault (counterParity s m) f then s
  else setReceiver m (fun r => startGap (nowOf s) { emptyCode r with discard := true, silence := true })
    (addStat (statCounter m (2 + byteFaultIndex f)) 1 s)

/-- R140: the 100 ms gap falls due. -/
def counterGapOp (m : Nat) (s : State) : State := setReceiver m (gapDiscards (nowOf s)) s

end Sys2Proof.Machine
end

