-- ==== Sys2Proof/Machine/Sales.lean ====
section
/-! DEFINITION. The sales unit (Chapter 8): finding records, reservations and serials, creation, the reprint raise, refunds
and the removal of a show's records. -/

namespace Sys2Proof.Machine

/-! ### Records (R146) -/

/-- R146: the place of the record with a serial; serial 0 marks an empty place. -/
def saleplace (s : State) (serial : Nat) : Option Nat :=
  if serial = 0 then none else (s.salesUnit.sales.find? (fun e => e.2.serial == serial)).map Prod.fst

/-- R146: the record with a serial. -/
def findSale (s : State) (serial : Nat) : Option Sale := (saleplace s serial).map (saleAt s)

/-- The record with a serial updated, its change count left to the update; an unknown serial changes nothing. -/
def updSale (serial : Nat) (f : Sale → Sale) (s : State) : State :=
  match saleplace s serial with
  | some p => setSale p (f (saleAt s p)) s
  | none => s

/-- R146: the summary updated, under its change count. -/
def updSummary (f : SalesUnit → SalesUnit) (s : State) : State :=
  { s with salesUnit := { f s.salesUnit with changes := bump s.salesUnit.changes } }

/-! ### Places and serials (R147) -/

/-- R147: whether a reservation passes. -/
def canReserve (s : State) : Bool :=
  decide (s.salesUnit.inUse + s.salesUnit.reserved < Config.saleCount)
    && decide (s.salesUnit.reserved < 16777216 - s.salesUnit.nextSerial)

/-- R147: a place reserved. -/
def reservePlace (s : State) : State := updSummary (fun u => { u with reserved := u.reserved + 1 }) s

/-- R147: a reserved place given back. -/
def giveBackPlace (s : State) : State := updSummary (fun u => { u with reserved := u.reserved - 1 }) s

/-- How a sale was paid: CARD with its code and tail, or NONE (R145). -/
structure Method where
  byCard : Bool
  code : Option (List Byte)
  tail : Option Nat
  deriving DecidableEq, Repr

/-- R148: the record created in the lowest empty place with the next serial; its change count stays odd until the sell event
has been made. -/
def createSale (c : Basket) (m : Method) (s : State) : State :=
  let place := lowestFree 0 s.salesUnit.sales
  let t := setSale place
    { serial := s.salesUnit.nextSerial, sh := c.sh, kiosk := c.kiosk, seatCount := 0, voucherCount := c.vouchers.length
      seatSubtotal := c.quote.seatSubtotal, voucherSubtotal := c.quote.voucherSubtotal, discount := c.quote.discount
      gross := c.quote.gross, tax := c.quote.tax, byCard := m.byCard, code := m.code, tail := m.tail, refunded := false
      refundAmount := none, reprints := 0, changes := stepCount (saleAt s place).changes } s
  updSummary (fun u => { u with nextSerial := u.nextSerial + 1, inUse := u.inUse + 1, reserved := u.reserved - 1 }) t

/-- R148: the seat count written after the sell event, and the kiosk's counts raised. -/
def finishSale (serial kiosk seats vouchers : Nat) (s : State) : State :=
  addStat (statKiosk kiosk 1) vouchers (addStat (statKiosk kiosk 0) seats
    (updSale serial (fun x => { x with seatCount := seats, changes := stepCount x.changes }) s))

/-- R120 step (3), R149: the reprint raise at the completion of a reprinted item. -/
def raiseReprints (serial n : Nat) (s : State) : State :=
  match findSale s serial with
  | some x => if !x.refunded ∧ x.reprints < n then updSale serial (fun y => { y with reprints := n, changes := bump y.changes }) s
              else s
  | none => s

/-! ### What is in flight (R113, R152) -/

/-- R113, R152: whether an item of a sale stands in any printer queue, a REPRINT whose sale check is open counted in. It counts from the
opening of the check, before the sales unit has taken it: the model's reading where R124 differs (log entry 42). -/
def saleQueued (s : State) (serial : Nat) : Bool :=
  s.print.printers.any (fun p => p.queue.any (fun x => x.serial == serial) ||
    match p.check with
    | some r => r.serial == serial
    | none => false)

/-- Whether a plan of a sale is not yet fully queued. -/
def planUnqueued (s : State) (serial : Nat) : Bool :=
  s.basketUnit.baskets.any (fun c => c.state == .printing && c.serial == some serial && decide (c.cursor < c.plan.length))

/-- R152: whether a sale has something in flight. -/
def saleInFlight (s : State) (serial : Nat) : Bool := saleQueued s serial || planUnqueued s serial

/-! ### Refunds (R150, R151) -/

/-- R150: the checks of REFUND, in order. -/
def refundRefusal (s : State) (serial : Nat) : Option ResultCode :=
  if !s.showUnit.clock.isSet then some .clockUnset
  else if serial < 1 ∨ 16777215 < serial then some .badParameter
  else match findSale s serial with
    | none => some .unknownSale
    | some x =>
      if x.refunded then some .wrongState
      else if !instantBefore s.showUnit.clock.now (showAt s x.sh).start then some .showStarted
      else if saleInFlight s serial then some .basketBusy
      else none

/-- R150: REFUND taken on a record that is not in refund. -/
def refundOp (r : Request) (s : State) : State :=
  let serial := param3 r 0
  match refundRefusal s serial with
  | some code => finish r.slot code s
  | none =>
    let t := updSale serial (fun x => { x with changes := stepCount x.changes }) s
    { t with salesUnit := { t.salesUnit with
        refunds := t.salesUnit.refunds ++ [{ slot := r.slot, serial := serial, seatsFreed := none, vouchers := none }] } }

/-- R153: REFUND, waiting while its record is in refund. -/
def refundTake (r : Request) (s : State) : State := whenFree (.sale (param3 r 0)) (.request r) (refundOp r) s

/-- The refund in progress of a serial. -/
def refundOf (s : State) (serial : Nat) : Option Refund := s.salesUnit.refunds.find? (fun x => x.serial == serial)

/-- A refund in progress updated. -/
def updRefund (serial : Nat) (f : Refund → Refund) (s : State) : State :=
  { s with salesUnit := { s.salesUnit with
      refunds := s.salesUnit.refunds.map (fun x => if x.serial = serial then f x else x) } }

/-- The show of a sale. -/
def saleShow (s : State) (serial : Nat) : Nat :=
  match findSale s serial with
  | some x => x.sh
  | none => 0

/-- R151, step (1): the refund freeing and its answer. -/
def refundFreeingOp (serial : Nat) (s : State) : State :=
  match refundOf s serial with
  | none => s
  | some f =>
    if f.seatsFreed.isSome then s
    else
      let (t, n) := freeSold (saleShow s serial) serial s
      updRefund serial (fun x => { x with seatsFreed := some n }) t

/-- R151, step (2): the refund voucher step and its answer. -/
def refundVoucherOp (serial : Nat) (s : State) : State :=
  match refundOf s serial with
  | none => s
  | some f =>
    if f.vouchers.isSome then s
    else
      let (t, a) := refundVouchers serial s
      updRefund serial (fun x => { x with vouchers := some a }) t

/-- R151, steps (3) and (4): once both steps have answered, the amount is computed, the record becomes REFUNDED, and REFUND
completes. -/
def refundWrite (serial : Nat) (s : State) : State :=
  match refundOf s serial with
  | none => s
  | some f =>
    match f.seatsFreed, f.vouchers with
    | some freed, some a =>
      let gross := match findSale s serial with
        | some x => x.gross
        | none => 0
      let amount := refundAmountOf gross a.sum
      let t := updSale serial
        (fun x => { x with refunded := true, refundAmount := some amount, changes := stepCount x.changes }) s
      let t := { t with salesUnit := { t.salesUnit with refunds := t.salesUnit.refunds.filter (fun x => x.serial != serial) } }
      completeSlot f.slot .ok (leBytes 3 amount ++ leBytes 1 a.redeemed ++ leBytes 1 a.voided ++ leBytes 1 freed) t
    | _, _ => s

/-! ### Removing a show's records (R154) -/

/-- The records of a show. -/
def salesOfShow (s : State) (sh : Nat) : List (Nat × Sale) :=
  s.salesUnit.sales.filter (fun e => e.2.serial != 0 && e.2.sh == sh)

/-- R113: whether any item of a sale of the show stands in any printer queue. -/
def showQueued (s : State) (sh : Nat) : Bool := (salesOfShow s sh).any (fun e => saleQueued s e.2.serial)

/-- R154: every record of the show removed, and their number. -/
def removeSales (sh : Nat) (s : State) : State × Nat :=
  let n := (salesOfShow s sh).length
  (updSummary (fun u => { u with
      sales := u.sales.filter (fun e => !(e.2.serial != 0 && e.2.sh == sh)), inUse := u.inUse - n }) s, n)

end Sys2Proof.Machine
end

