-- ==== Sys2Proof/Machine/Payment.lean ====
section
/-! DEFINITION. The payment unit (Chapter 5): frames and their receiver, sending and resending, line states and liveness,
payment records, authorization, abort, late approvals and reversal. -/

namespace Sys2Proof.Machine

/-! ### Frames (R86, R89) -/

abbrev fkAuth : Byte := 0x01
abbrev fkAbort : Byte := 0x02
abbrev fkReverse : Byte := 0x03
abbrev fkPing : Byte := 0x04
abbrev fkCard : Byte := 0x81
abbrev fkResult : Byte := 0x82
abbrev fkAbortDone : Byte := 0x83
abbrev fkReverseDone : Byte := 0x84
abbrev fkPong : Byte := 0x85
abbrev fkFault : Byte := 0x86
abbrev ackByte : Byte := 0x06
abbrev nakByte : Byte := 0x15
abbrev leadByte : Byte := 0xA5

/-- R86: the sum of bytes, modulo 256. -/
def sumOf (l : List Byte) : Byte := l.foldl (· + ·) 0

/-- R86: the exclusive-or of bytes. -/
def xorOf (l : List Byte) : Byte := l.foldl (· ^^^ ·) 0

/-- The length byte, kind, tag and payload of a frame. -/
def frameBody (f : Frame) : List Byte := BitVec.ofNat 8 (f.payload.length + 2) :: f.kind :: f.tag :: f.payload

/-- R86: a frame as it travels: A5h, length, kind, tag, payload, sum, exclusive-or. -/
def frameBytes (f : Frame) : List Byte := leadByte :: frameBody f ++ [sumOf (frameBody f), xorOf (frameBody f)]

/-- R86: the frame that a length byte, kind, tag, payload and two check bytes spell, when the check bytes are right. -/
def frameOfBytes (l : List Byte) : Option Frame :=
  let body := l.take (l.length - 2)
  if l.drop (l.length - 2) = [sumOf body, xorOf body] then
    match body with
    | _ :: kind :: tag :: payload => some ⟨kind, tag, payload⟩
    | _ => none
  else none

/-- R89: the payload length of each kind the terminal sends; none for another kind. -/
def payloadLength (kind : Byte) : Option Nat :=
  if kind = fkCard then some 1
  else if kind = fkResult then some 11
  else if kind = fkAbortDone then some 1
  else if kind = fkReverseDone then some 1
  else if kind = fkPong then some 1
  else if kind = fkFault then some 1
  else none

def authFrame (tag amount kiosk : Nat) : Frame :=
  ⟨fkAuth, BitVec.ofNat 8 tag, beBytes 3 amount ++ [BitVec.ofNat 8 kiosk]⟩

def abortFrame (tag : Nat) (c : AbortCause) : Frame := ⟨fkAbort, BitVec.ofNat 8 tag, [BitVec.ofNat 8 (abortCauseNum c + 1)]⟩

def reverseFrame (e : Late) : Frame := ⟨fkReverse, BitVec.ofNat 8 e.tag, e.code ++ beBytes 3 e.amount⟩

def pingFrame (kiosk : Nat) : Frame := ⟨fkPing, 0, [BitVec.ofNat 8 kiosk]⟩

/-- The verdict of a RESULT as its bytes give it (R89): an approval with its code and tail, or a decline. -/
inductive Verdict where
  | approved (code : List Byte) (tail : Option Nat)
  | declined
  deriving DecidableEq, Repr

/-- R89: the verdict of a RESULT payload; none where it breaks the conditions, which makes the frame stray. -/
def verdictOf (payload : List Byte) : Option Verdict :=
  let code := (payload.drop 1).take 6
  let tail := (payload.drop 7).take 4
  match payload.head? with
  | none => none
  | some v =>
    if v = 0x02 then some .declined
    else if v = 0x01 then
      if !code.all isPrintable then none
      else if tail.all (fun b => b == 0x20) then some (.approved code none)
      else if tail.all isDigit then some (.approved code (some (digitsValue (charDigits tail))))
      else none
    else none

/-! ### Line records and waits -/

/-- R93: a line receives once the part is configured. -/
def lineListens (s : State) : Bool := running s

/-- Some field of a payment record of a line, by its place. -/
def recordAt (s : State) (n i : Nat) : PayRecord := (lineAt s n).records.getD i .empty

/-- A payment record updated whole inside one event (R94). -/
def updRecord (n i : Nat) (f : PayRecord → PayRecord) (s : State) : State :=
  updLine n (fun x => { x with records := updAt x.records i (fun r => { f r with changes := bump r.changes }) }) s

/-- R94: the place of a line's open record. -/
def openRecord (s : State) (n : Nat) : Option Nat :=
  (lineAt s n).records.findIdx? (fun r => r.tag != 0 && r.phase != .closed)

/-- The place of the record with a tag. -/
def recordWithTag (s : State) (n tag : Nat) : Option Nat :=
  if tag = 0 then none else (lineAt s n).records.findIdx? (fun r => r.tag == tag)

/-- R91: the PING timer starts each time the line enters DOWN, IDLE or FAULT, and does not run in the other states. -/
def pingAfter (now : Nat) : LineState → Option Deadline
  | .down | .idle | .fault => some (deadlineAt now (now + Config.pingPeriod))
  | .authorizing | .aborting | .reversing => none

/-- R90, R91: the line enters a state: its PING timer starts or stops, and entering IDLE clears the unanswered pings. -/
def enterState (now : Nat) (st : LineState) (x : Line) : Line :=
  { x with state := st, pings := if st = .idle then 0 else x.pings, pingDue := pingAfter now st }

/-- R88: no frame awaits an answer any more. -/
def stopWaits (x : Line) : Line :=
  { x with authDue := none, abortDue := none, reverseDue := none, awaiting := none, reversing := none }

/-- R88: a frame other than PING is sent and its answer awaited. -/
def sendFrame (n : Nat) (f : Frame) (s : State) : State :=
  updLine n (fun x => { x with
    awaiting := some { frame := f, sendings := 1, due := deadlineAt (nowOf s) (nowOf s + Config.ackWait) } })
    (emit (.frame n f) s)

/-- R91: a PING is sent once, without a wait. -/
def sendPing (n : Nat) (s : State) : State := emit (.frame n (pingFrame n)) s

/-- R87: a stray frame raises the line's stray-frame count. -/
def strayFrame (n : Nat) (s : State) : State := addStat (statLine n 4) 1 s

/-! ### Closing a record (R96) -/

/-- R96, step (4): the kiosk's count for an outcome; CANCELLED is not counted. -/
def countOutcome (n : Nat) (o : PayOutcome) (s : State) : State :=
  match o with
  | .approved => addStat (statKiosk n 2) 1 s
  | .declined => addStat (statKiosk n 3) 1 s
  | .timedOut => addStat (statKiosk n 4) 1 s
  | .unresolved => addStat (statKiosk n 5) 1 s
  | .cancelled => s

/-- R99: the result of a CANCEL_PAY that waited, by the record's outcome. -/
def cancelResult : PayOutcome → ResultCode
  | .cancelled => .ok | .approved => .tooLate | .declined => .ok | .timedOut => .ok | .unresolved => .unresolved

/-- R96: a record closed in its six steps; the line goes to IDLE, or to FAULT with TERMINAL_FAULT raised (R92). -/
def closeRecord (n i : Nat) (o : PayOutcome) (code : Option (List Byte)) (tail : Option Nat) (dest : LineState)
    (s : State) : State :=
  let rec0 := recordAt s n i
  let order := (lineAt s n).closes
  let t := updRecord n i (fun r => { r with
    phase := .closed, outcome := some o, code := code, tail := tail, cancelSlots := [], closedOrder := order }) s
  let t := updLine n (fun x => enterState (nowOf s) dest (stopWaits { x with lastClosed := some rec0.tag, closes := order + 1 })) t
  let t := if dest = .fault then raiseFactor (kioskCell n) kfTerminalFault t else t
  let t := countOutcome n o t
  let t := { t with basketUnit := { t.basketUnit with
    outcomes := t.basketUnit.outcomes ++ [{ basket := rec0.basket, outcome := o, code := code.getD [], tail := tail }] } }
  forEach rec0.cancelSlots (fun slot => finish slot (cancelResult o)) t

/-! ### FAULT (R92) -/

/-- R92, R104: the REVERSE in flight on a line ends with a result; the late entry is kept. -/
def endReverse (n : Nat) (code : ResultCode) (s : State) : State :=
  match (lineAt s n).reversing with
  | some (slot, _) => finish slot code (updLine n (fun x => { x with reversing := none, reverseDue := none }) s)
  | none => s

/-- R92: the line enters FAULT from IDLE or from an exchange; the exchange in progress ends, a REVERSE with `code`. -/
def enterFault (n : Nat) (code : ResultCode) (s : State) : State :=
  match openRecord s n with
  | some i => closeRecord n i .unresolved none none .fault s
  | none =>
    let t := endReverse n code s
    raiseFactor (kioskCell n) kfTerminalFault (updLine n (fun x => enterState (nowOf s) .fault (stopWaits x)) t)

/-- R90: whether a line is in DOWN or FAULT. -/
def downOrFault (x : Line) : Bool := x.state == .down || x.state == .fault

/-! ### Sending, answers and resending (R88) -/

/-- R88: the awaiting frame sent again, or its delivery failed after the third sending. -/
def resend (n : Nat) (s : State) : State :=
  match (lineAt s n).awaiting with
  | none => s
  | some a =>
    if a.sendings < Config.maxSendings then
      addStat (statLine n 3) 1
        (updLine n (fun x => { x with awaiting := some { a with
          sendings := a.sendings + 1, due := deadlineAt (nowOf s) (nowOf s + Config.ackWait) } }) (emit (.frame n a.frame) s))
    else enterFault n .timedOut s

/-- R98, R99: ABORT is sent, the record and the line go to ABORTING, the auth timeout stops and the abort wait starts. -/
def startAbort (n i : Nat) (cause : AbortCause) (s : State) : State :=
  let tag := (recordAt s n i).tag
  let t := updRecord n i (fun r => { r with phase := .aborting, cause := some cause }) s
  let t := updLine n (fun x => { enterState (nowOf s) .aborting x with
    authDue := none, abortDue := some (deadlineAt (nowOf s) (nowOf s + Config.abortWait)) }) t
  sendFrame n (abortFrame tag cause) t

/-- R88, R97: an ACK delivers the awaiting frame; delivering AUTH moves the record to AUTHORIZING and sends a held ABORT. An ACK that comes
while a frame awaits is its answer, also where a PING was sent before it: DESIGN CHOICE (log entry 45). -/
def ackReceived (n : Nat) (s : State) : State :=
  match (lineAt s n).awaiting with
  | none => s
  | some _ =>
    let t := updLine n (fun x => { x with awaiting := none }) s
    match openRecord s n with
    | none => t
    | some i =>
      if (recordAt s n i).phase = .awaitAck then
        match (recordAt s n i).cause with
        | some cause => startAbort n i cause t
        | none => updRecord n i (fun r => { r with phase := .authorizing }) t
      else t

/-! ### Frames from the terminal (R87, R91, R97, R100, R101, R104) -/

/-- R101: a RESULT that closes no record: a late approval, a repeat, an overflow, or a stray frame. -/
def lateOrStray (n tag : Nat) (v : Option Verdict) (s : State) : State :=
  match v with
  | some (.approved code tail) =>
    match recordWithTag s n tag with
    | some i =>
      let r := recordAt s n i
      if (lineAt s n).lastClosed = some tag ∧ r.phase = .closed ∧ r.outcome ≠ some .approved then
        if (lineAt s n).late.any (fun e => e.tag == tag) then strayFrame n s
        else if (lineAt s n).late.length < 4 then
          raiseFactor (kioskCell n) kfLateApproval
            (updLine n (fun x => { x with late := x.late ++ [{ tag := tag, amount := r.amount, code := code, tail := tail }] }) s)
        else
          raiseFactor (kioskCell n) kfLateOverflow
            (updLine n (fun x => { x with lateOverflow := satCount x.lateOverflow }) s)
      else strayFrame n s
    | none => strayFrame n s
  | _ => strayFrame n s

/-- R97, R100: a RESULT with the open record's tag closes it; any other is tested by R101. -/
def resultFrame (n tag : Nat) (payload : List Byte) (s : State) : State :=
  match openRecord s n with
  | some i =>
    if (recordAt s n i).tag = tag then
      match verdictOf payload with
      | some (.approved code tail) => closeRecord n i .approved (some code) tail .idle s
      | some .declined => closeRecord n i .declined none none .idle s
      | none => strayFrame n s
    else lateOrStray n tag (verdictOf payload) s
  | none => lateOrStray n tag (verdictOf payload) s

/-- R97, R100: a CARD with the open record's tag (log entry 28 for a record in ABORTING). -/
def cardFrame (n tag : Nat) (kind : Byte) (s : State) : State :=
  match openRecord s n with
  | some i =>
    if (recordAt s n i).tag = tag then
      raiseFactor (kioskCell n) kfCardPresented
        (updRecord n i (fun r => { r with cardPresented := true, cardKind := some kind.toNat }) s)
    else strayFrame n s
  | none => strayFrame n s

/-- R100: an ABORT_DONE with the tag of a record in ABORTING closes it CANCELLED or TIMED_OUT, as its cause says. -/
def abortDoneFrame (n tag : Nat) (s : State) : State :=
  match openRecord s n with
  | some i =>
    let r := recordAt s n i
    if r.tag = tag ∧ r.phase = .aborting then
      closeRecord n i (if r.cause = some .timeout then .timedOut else .cancelled) none none .idle s
    else strayFrame n s
  | none => strayFrame n s

/-- R104: a REVERSE_DONE with the entry's tag removes or keeps the late entry; the line goes to IDLE. It is taken, and ends
the wait for the ACK, also while the frame REVERSE is unanswered: DEDUCED (log entry 36). -/
def reverseDoneFrame (n tag : Nat) (verdict : Byte) (s : State) : State :=
  match (lineAt s n).reversing with
  | some (slot, t) =>
    if (lineAt s n).state = .reversing ∧ t = tag ∧ (verdict = 0x01 ∨ verdict = 0x02) then
      let u := updLine n (fun x => enterState (nowOf s) .idle (stopWaits
        { x with late := if verdict = 0x01 then x.late.filter (fun e => e.tag != tag) else x.late })) s
      finish slot (if verdict = 0x01 then .ok else .declined) u
    else strayFrame n s
  | none => strayFrame n s

/-- R87, R91: a PONG in DOWN or FAULT moves the line to IDLE; in IDLE it clears the unanswered pings; in any other state it has
no use and is stray. -/
def pongFrame (n : Nat) (s : State) : State :=
  let x := lineAt s n
  if downOrFault x then updLine n (enterState (nowOf s) .idle) s
  else if x.state = .idle then updLine n (fun y => { y with pings := 0 }) s
  else strayFrame n s

/-- R92: a FAULT frame writes its code and, from any state but DOWN and FAULT, moves the line to FAULT. -/
def faultFrame (n : Nat) (code : Byte) (s : State) : State :=
  let t := updLine n (fun x => { x with faultCode := some code.toNat }) s
  if downOrFault (lineAt s n) then t else enterFault n .terminalFault t

/-- R87: a good frame taken as one line event: its kind and payload length checked, then dealt with by the line's state. -/
def frameTaken (n : Nat) (f : Frame) (s : State) : State :=
  let tag := f.tag.toNat
  let first := f.payload.headD 0
  if payloadLength f.kind = some f.payload.length then
    if f.kind = fkCard then cardFrame n tag first s
    else if f.kind = fkResult then resultFrame n tag f.payload s
    else if f.kind = fkAbortDone then abortDoneFrame n tag s
    else if f.kind = fkReverseDone then reverseDoneFrame n tag first s
    else if f.kind = fkPong then pongFrame n s
    else faultFrame n first s
  else strayFrame n s

/-- R86: a good frame is answered ACK and handed on. -/
def goodFrame (n : Nat) (f : Frame) (s : State) : State := frameTaken n f (emit (.answer n ackByte) s)

/-! ### The receiver (R85, R86) -/

/-- The receiver stands outside a frame. -/
def outsideFrame (x : Line) : Line := { x with rx := none, gapDue := none }

/-- R86: the receiver inside a frame, with the bytes after the lead, the gap to the next byte started. -/
def insideFrame (now : Nat) (l : List Byte) (x : Line) : Line :=
  { x with rx := some l, gapDue := some (deadlineAt now (now + Config.gapLimit)) }

/-- The receiver is not under the cell's change count: it is no field of the cell. -/
def setReceiving (n : Nat) (f : Line → Line) (s : State) : State := { s with lines := updAt s.lines n f }

/-- R86: a byte received inside a frame: a bad length is answered NAK at once, the last check byte ends the frame. -/
def byteInside (n : Nat) (l : List Byte) (s : State) : State :=
  match l with
  | [] => s
  | len :: _ =>
    if len.toNat < 3 ∨ 40 < len.toNat then emit (.answer n nakByte) (setReceiving n outsideFrame s)
    else if l.length < len.toNat + 3 then setReceiving n (insideFrame (nowOf s) l) s
    else
      let t := setReceiving n outsideFrame s
      match frameOfBytes l with
      | some f => goodFrame n f t
      | none => emit (.answer n nakByte) t

/-- R86: one byte taken by a line's receiver; more than 100 ms after the byte before it, a frame in progress is gone. -/
def lineByte (n : Nat) (b : Byte) (s : State) : State :=
  let x := lineAt s n
  match (if dueNow (nowOf s) x.gapDue then none else x.rx) with
  | some l => byteInside n (l ++ [b]) s
  | none =>
    if b = leadByte then setReceiving n (insideFrame (nowOf s) []) s
    else
      let t := setReceiving n outsideFrame s
      if b = ackByte then ackReceived n t
      else if b = nakByte then resend n t
      else t

/-- Bytes taken in turn. -/
def lineBytes (n : Nat) : List Byte → State → State
  | [], s => s
  | b :: rest, s => lineBytes n rest (lineByte n b s)

/-- Bytes that arrive on a line; an unconfigured part's lines do not receive (R93). -/
def bytesArrive (n : Nat) (l : List Byte) (s : State) : State := if lineListens s then lineBytes n l s else s

/-- Whether the receiver stands outside a frame now. -/
def standsOutside (s : State) (n : Nat) : Bool :=
  (lineAt s n).rx.isNone || dueNow (nowOf s) (lineAt s n).gapDue

/-- A sound frame arriving on a line: taken whole by a receiver that stands outside a frame, and otherwise byte by byte, as
bytes of the frame in progress. -/
def frameArrives (n : Nat) (f : Frame) (s : State) : State :=
  if !lineListens s then s
  else if standsOutside s n ∧ 1 ≤ f.payload.length ∧ f.payload.length ≤ 38 then
    goodFrame n f (setReceiving n outsideFrame s)
  else lineBytes n (frameBytes f) s

/-- R84: the parity parameter of a terminal line. -/
def lineParity (s : State) (n : Nat) : Option Nat := ((cfgOf s).lines[n]?).map LineParams.parity

/-- R85: a faulted byte is counted in the line status record and in the statistics, and a frame in progress is discarded. With
no parity configured there is no parity fault. -/
def lineFaultOp (n : Nat) (f : ByteFault) (s : State) : State :=
  if !lineListens s || !canFault (lineParity s n) f then s
  else
    let t := updLine n (fun x => outsideFrame (match f with
      | .parity => { x with parityFaults := satCount x.parityFaults }
      | .framing => { x with framingFaults := satCount x.framingFaults }
      | .overrun => { x with overruns := satCount x.overruns })) s
    addStat (statLine n (byteFaultIndex f)) 1 t

/-- R86: the 100 ms gap falls due: the frame in progress is discarded without an answer. -/
def lineGapOp (n : Nat) (s : State) : State :=
  if dueNow (nowOf s) (lineAt s n).gapDue then setReceiving n outsideFrame s else s

/-! ### Timers (R88, R91, R98, R100, R104) -/

/-- R88: the wait for an answer runs out. -/
def ackWaitOp (n : Nat) (s : State) : State :=
  match (lineAt s n).awaiting with
  | some a => if isDue (nowOf s) a.due then resend n s else s
  | none => s

/-- R91: the PING timer runs out, and starts again. -/
def pingTimerOp (n : Nat) (s : State) : State :=
  if dueNow (nowOf s) (lineAt s n).pingDue then
    let x := lineAt s n
    let restart := fun (y : Line) => { y with pingDue := some (deadlineAt (nowOf s) (nowOf s + Config.pingPeriod)) }
    if downOrFault x then sendPing n (updLine n restart s)
    else if x.state = .idle then
      if x.pings < 3 then sendPing n (updLine n (fun y => { restart y with pings := y.pings + 1 }) s)
      else sendPing n (enterFault n .terminalFault s)
    else s
  else s

/-- R98: the auth timeout runs out. In AWAIT_ACK the ABORT is held until AUTH is delivered. -/
def authTimeoutOp (n : Nat) (s : State) : State :=
  if dueNow (nowOf s) (lineAt s n).authDue then
    match openRecord s n with
    | none => updLine n (fun x => { x with authDue := none }) s
    | some i =>
      if (recordAt s n i).phase = .awaitAck then
        updLine n (fun x => { x with authDue := none })
          (updRecord n i (fun r => { r with cause := some (r.cause.getD .timeout) }) s)
      else startAbort n i .timeout s
  else s

/-- R100: the abort wait runs out: the record closes UNRESOLVED and the line goes to FAULT. -/
def abortWaitOp (n : Nat) (s : State) : State :=
  if dueNow (nowOf s) (lineAt s n).abortDue then
    match openRecord s n with
    | some i => closeRecord n i .unresolved none none .fault s
    | none => updLine n (fun x => { x with abortDue := none }) s
  else s

/-- R104: the reverse wait runs out: the entry is kept, the line goes to FAULT, REVERSE completes with TIMED_OUT. -/
def reverseWaitOp (n : Nat) (s : State) : State :=
  if dueNow (nowOf s) (lineAt s n).reverseDue then enterFault n .timedOut s else s

/-! ### Opening a record (R94, R95) -/

/-- R94: the tag after a tag; from 255 it goes to 1. -/
def tagAfter (tag : Nat) : Nat := if tag < 255 then tag + 1 else 1

/-- R94: the place of the record that closed longest ago among `l`, counted from `i`, better than `best`. -/
def longestClosed : Nat → List PayRecord → Nat × Nat → Nat
  | _, [], best => best.1
  | i, r :: rest, best => longestClosed (i + 1) rest (if r.closedOrder < best.2 then (i, r.closedOrder) else best)

/-- R94: the place a new record takes: the lowest empty one, or that of the record that closed longest ago. -/
def placeForRecord (l : List PayRecord) : Nat :=
  match l.findIdx? (fun r => r.tag == 0) with
  | some i => i
  | none =>
    match l with
    | [] => 0
    | r :: rest => longestClosed 1 rest (0, r.closedOrder)

/-- R95: a record opened for a basket: the line goes to AUTHORIZING, AUTH is sent and the auth timeout starts. The change count of the
place goes on from its value (R173), although R95 gives the fields it does not name their defaults: DESIGN CHOICE (log entry 7). -/
def openPayment (n b amount : Nat) (s : State) : State :=
  let x := lineAt s n
  let i := placeForRecord x.records
  let tag := x.nextTag
  let t := updRecord n i (fun r => { PayRecord.empty with
    tag := tag, basket := b, amount := amount, phase := .awaitAck, openedAt := nowOf s, changes := r.changes }) s
  let t := updLine n (fun y => { enterState (nowOf s) .authorizing y with
    nextTag := tagAfter tag
    authDue := some (deadlineAt (nowOf s) (nowOf s + 1000 * (cfgOf s).authTimeout)) }) t
  sendFrame n (authFrame tag amount n) t

/-! ### CANCEL_PAY and REVERSE (R99, R103) -/

/-- R99: CANCEL_PAY. -/
def cancelPayOp (r : Request) (s : State) : State :=
  let b := param1 r 0
  if 24 ≤ b then finish r.slot .badParameter s
  else match (basketAt s b).payRef with
    | none => finish r.slot .wrongState s
    | some (n, tag) =>
      match recordWithTag s n tag with
      | none => finish r.slot .wrongState s
      | some i =>
        match (recordAt s n i).phase with
        | .awaitAck =>
          updRecord n i (fun x => { x with
            cause := if x.cause = some .timeout then some .timeout else some .customer
            cancelSlots := x.cancelSlots ++ [r.slot] }) s
        | .authorizing =>
          startAbort n i .customer (updRecord n i (fun x => { x with cancelSlots := x.cancelSlots ++ [r.slot] }) s)
        | .aborting => finish r.slot .wrongState s
        | .closed => finish r.slot .tooLate s

/-- R103: REVERSE. -/
def reverseOp (r : Request) (s : State) : State :=
  let k := param1 r 0
  let e := param1 r 1
  if 12 ≤ k ∨ 4 ≤ e then finish r.slot .badParameter s
  else match (lineAt s k).late[e]? with
    | none => finish r.slot .badParameter s
    | some entry =>
      if (lineAt s k).state ≠ .idle then finish r.slot .wrongState s
      else
        let t := updLine k (fun x => { enterState (nowOf s) .reversing x with
          reverseDue := some (deadlineAt (nowOf s) (nowOf s + Config.reverseWait)), reversing := some (r.slot, entry.tag) }) s
        sendFrame k (reverseFrame entry) t

/-! ### The payment unit at RESET_STATION (R105, R169) -/

/-- R169, step (1): whether the kiosk has a basket in PAYING or UNRESOLVED. -/
def kioskPaying (s : State) (k : Nat) : Bool :=
  s.basketUnit.baskets.any (fun c => c.kiosk == k && (c.state == .paying || c.state == .unresolved))

/-- R105: the payment unit's share. -/
def lineShare (k : Nat) (s : State) : State :=
  let t := endReverse k .terminalFault s
  updLine k (fun x => enterState (nowOf s) .down (outsideFrame (stopWaits
    { x with pings := 0, parityFaults := 0, framingFaults := 0, overruns := 0, late := [], lateOverflow := 0 }))) t

/-- R169: RESET_STATION: the check and the payment unit's share together; the other two shares are then due. -/
def resetStationOp (r : Request) (s : State) : State :=
  let k := param1 r 0
  if 12 ≤ k then finish r.slot .badParameter s
  else if kioskPaying s k then finish r.slot .basketBusy s
  else
    let t := lineShare k s
    { t with station := { t.station with resets := t.station.resets ++ [{ slot := r.slot, kiosk := k, printerDone := false }] } }

end Sys2Proof.Machine
end

