-- ==== Sys2Proof/Machine/Printing.lean ====
section
/-! DEFINITION. The print unit (Chapter 6): queues and their order, pulls, templates, rendering, the printer exchange,
stalls, RESUME_PRINTER, REDIRECT, REPRINT, and the print unit's share of RESET_STATION. -/

namespace Sys2Proof.Machine

/-! ### Queue order (R111, R112) -/

/-- R112: the place of an item's group in the queue: the PRINTING or INCOMPLETE item, then URGENT, then NORMAL. -/
def itemRank (x : Item) : Nat := if x.state ≠ .queued then 0 else if x.urgent then 1 else 2

/-- R112: whether arrival number `a` was taken before `b`, fewer than half the numbers apart. -/
def arrivedBefore (a b : Nat) : Bool := a != b && decide ((b + 65536 - a) % 65536 < 32768)

/-- R112: whether an item stands before another. -/
def standsBefore (x y : Item) : Bool :=
  decide (itemRank x < itemRank y) || (itemRank x == itemRank y && arrivedBefore x.arrival y.arrival)

/-- R112: an item takes its place in a queue. -/
def placeItem (x : Item) : List Item → List Item
  | [] => [x]
  | y :: rest => if standsBefore x y then x :: y :: rest else y :: placeItem x rest

/-- R111, R112: an item joins a queue as a new arrival. -/
def joinQueue (q : Printer) (x : Item) : Printer :=
  { q with queue := placeItem { x with arrival := q.nextArrival } q.queue, nextArrival := (q.nextArrival + 1) % 65536 }

/-- R123: the free places of a queue. -/
def freePlaces (q : Printer) : Nat := Config.queueCapacity - q.queue.length

/-- R122: a reprint count raised by one, up to 15. -/
def raiseCount (n : Nat) : Nat := min 15 (n + 1)

/-- R122, R123, R125: an interrupted item made QUEUED, with its reprint count raised. -/
def requeued (x : Item) : Item := if x.state = .queued then x else { x with state := .queued, reprints := raiseCount x.reprints }

/-- R113, R122, R125: the queue's share of a RESUME_PRINTER and of a RESET_STATION, one event of the queue: an active head takes
its place again by its arrival. -/
def requeueHead (q : Printer) : Printer :=
  { q with
    queue := (match q.queue with
      | [] => []
      | x :: rest => if x.state = .queued then x :: rest else placeItem (requeued x) rest)
    queueChanges := bump q.queueChanges }

/-- R109, R121: a PRINTING head becomes INCOMPLETE, and the rest of its rendering is discarded. -/
def interruptHead (q : Printer) : Printer :=
  match q.queue with
  | [] => { q with toSend := [] }
  | x :: rest =>
    if x.state = .printing then
      { q with queue := { x with state := .incomplete } :: rest, queueChanges := bump q.queueChanges, toSend := [] }
    else { q with toSend := [] }

/-- Whether the head item is in a state. -/
def headIs (q : Printer) (st : ItemState) : Bool :=
  match q.queue with
  | [] => false
  | x :: _ => x.state == st

/-! ### Templates (R114, R115) -/

/-- R114: the template of a plan item: 0 for a ticket, the slip template of the voucher's kind, 1 for a receipt. -/
def templateFor (s : State) (k : ItemKind) (voucher : Option Nat) : Nat :=
  match k with
  | .ticket => 0
  | .receipt => 1
  | .slip =>
    match voucher with
    | some i => (kindAt s (voucherAt s i).kind).template
    | none => 0

/-- R115: the bytes of a template up to its length. -/
def templateBytes (s : State) (t : Nat) : List Byte :=
  memReadAll s.mem (Config.templateBase + Config.templateSize * t) (templateAt s t).length

/-- R116: whether an item in any queue names a template. -/
def templateUsed (s : State) (t : Nat) : Bool := s.print.printers.any (fun p => p.queue.any (fun x => x.template == t))

/-! ### Field texts (R118, R81, R82) -/

/-- A number in decimal without leading zeros. -/
def decimal (n : Nat) : List Byte :=
  match (digitsOf 10 n).dropWhile (fun d => d == 0) with
  | [] => [0x30]
  | d => d.map digitChar

/-- A number as two digits. -/
def twoDigits (n : Nat) : List Byte := (digitsOf 2 n).map digitChar

/-- R82: an amount as text. -/
def amountText (a : Nat) : List Byte := decimal (a / 100) ++ [0x2E] ++ twoDigits (a % 100)

/-- R118: the lengths of the months of a year. -/
def monthLengths (year : Nat) : List Nat := [31, if isLeap year then 29 else 28, 31, 30, 31, 30, 31, 31, 30, 31, 30, 31]

/-- The day of month and the month of a day counted from 1, from month `m` on. -/
def monthDay : Nat → List Nat → Nat → Nat × Nat
  | m, [], d => (d, m)
  | m, l :: rest, d => if d ≤ l then (d, m) else monthDay (m + 1) rest (d - l)

/-- R118: a start date as DD.MM.YYYY. -/
def dateText (i : Instant) : List Byte :=
  let dm := monthDay 1 (monthLengths i.year) i.day
  twoDigits dm.1 ++ [0x2E] ++ twoDigits dm.2 ++ [0x2E] ++ (digitsOf 4 i.year).map digitChar

/-- R118: a start time as HH:MM. -/
def timeText (i : Instant) : List Byte := twoDigits (i.second / 3600) ++ [0x3A] ++ twoDigits (i.second % 3600 / 60)

/-- R25: a seat label from the row lengths and the seat index. -/
def seatLabel (lengths : List Nat) (i : Nat) : List Byte :=
  match seatPlace lengths i with
  | some (row, position, _) => rowLetters row ++ decimal position
  | none => []

/-- "DUPLICATE " in ASCII. -/
def duplicateText : List Byte := [0x44, 0x55, 0x50, 0x4C, 0x49, 0x43, 0x41, 0x54, 0x45, 0x20]

/-- R118: the seat index of a ticket: the basket's list entry, or the seat of that rank for a reprint. -/
def itemSeat (s : State) (w : ShowRec) (x : Item) : Option Nat :=
  match x.source with
  | .basket b => (basketAt s b).seats[x.index]?
  | .reprint => (soldCells s w x.serial)[x.index]?.map (fun cell => cell - w.seatBase)

/-- R118, R124: the table index of a slip's voucher. -/
def itemVoucher (s : State) (x : Item) : Option Nat :=
  match x.source with
  | .basket b => (basketAt s b).vouchers[x.index]?
  | .reprint => (vouchersOf s x.serial)[x.index]?

/-- R118: the rank of a seat of a sale, among the sale's seats in order of seat index. -/
def seatRank (s : State) (w : ShowRec) (serial i : Nat) : Nat :=
  ((soldCells s w serial).filter (fun cell => decide (cell < poolIndex w i))).length

/-- R118: the fields of every item. -/
def commonField (x : Item) (r : Sale) (w : ShowRec) (n : Nat) : List Byte :=
  if n = 1 then w.title
  else if n = 2 then decimal w.auditorium
  else if n = 3 then dateText w.start
  else if n = 4 then timeText w.start
  else if n = 8 then amountText r.tax
  else if n = 9 then amountText r.gross
  else if n = 10 then decimal x.serial
  else if n = 14 then r.code.getD []
  else if n = 15 then (match r.tail with | some t => (digitsOf 4 t).map digitChar | none => [])
  else if n = 16 then (if x.reprints = 0 then [] else duplicateText ++ decimal x.reprints)
  else if n = 17 then decimal r.kiosk
  else []

/-- R118: fields 5, 6, 7 and 11 of a ticket. -/
def ticketField (s : State) (x : Item) (w : ShowRec) (i n : Nat) : List Byte :=
  let tier := (seatAt s (poolIndex w i)).tier
  let l := listAt s w.priceList
  if n = 5 then seatLabel w.rowLengths i
  else if n = 6 then l.names.getD tier []
  else if n = 7 then amountText (tierPrice l tier + l.fee)
  else if n = 11 then decimal x.serial ++ [0x2D] ++ twoDigits (seatRank s w x.serial i)
  else []

/-- R118: fields 7, 12 and 13 of a slip. -/
def slipField (s : State) (v n : Nat) : List Byte :=
  let e := voucherAt s v
  if n = 7 then amountText (kindAt s e.kind).price
  else if n = 12 then (digitsOf 12 e.code).map digitChar
  else if n = 13 then (kindAt s e.kind).name
  else []

/-- R118: the text of a field for an item; a field that does not apply is nothing. -/
def fieldText (s : State) (x : Item) (n : Nat) : List Byte :=
  let r := (findSale s x.serial).getD .empty
  let w := showAt s r.sh
  if n = 5 ∨ n = 6 ∨ n = 7 ∨ n = 11 ∨ n = 12 ∨ n = 13 then
    match x.kind with
    | .ticket => (match itemSeat s w x with | some i => ticketField s x w i n | none => [])
    | .slip => (match itemVoucher s x with | some v => slipField s v n | none => [])
    | .receipt => if n = 7 then amountText r.discount else []
  else commonField x r w n

/-- R117: a template's bytes with each field marker 1Fh and the number after it replaced. -/
def expand (field : Nat → List Byte) : List Byte → List Byte
  | [] => []
  | [b] => if b = 0x1F then [] else [b]
  | b :: n :: rest => if b = 0x1F then field n.toNat ++ expand field rest else b :: expand field (n :: rest)

/-- R117: the rendering of an item, cut after its 4,096th byte. -/
def rendering (s : State) (x : Item) : List Byte := (expand (fieldText s x) (templateBytes s x.template)).take Config.renderLimit

/-! ### Pulls (R114) -/

/-- R114: whether a basket is PRINTING, assigned to the printer, with plan items not yet placed. -/
def pullable (p : Nat) (c : Basket) : Bool := c.state == .printing && c.printer == p && decide (c.cursor < c.plan.length)

/-- R114: the basket of lowest sale serial among those a printer may pull from: its number, counted from `i`. -/
def pullSource (p : Nat) : Nat → List Basket → Option (Nat × Nat)
  | _, [] => none
  | i, c :: rest =>
    match pullSource p (i + 1) rest with
    | none => if pullable p c then some (i, c.serial.getD 0) else none
    | some best => if pullable p c ∧ c.serial.getD 0 < best.2 then some (i, c.serial.getD 0) else some best

/-- R114: the queue item that a plan item of a basket becomes. -/
def plannedItem (s : State) (b : Nat) (c : Basket) (x : PlanItem) : Item :=
  { kind := x.kind, template := templateFor s x.kind (c.vouchers[x.index]?), serial := c.serial.getD 0, index := x.index
    urgent := false, reprints := 0, state := .queued, source := .basket b, arrival := 0 }

/-- R114: the basket and the plan item that a pull would place, when the queue has room. -/
def pullChoice (s : State) (p : Nat) : Option (Nat × PlanItem) :=
  if (printerAt s p).queue.length < Config.queueCapacity then
    (pullSource p 0 s.basketUnit.baskets).bind (fun x =>
      ((basketAt s x.1).plan[(basketAt s x.1).cursor]?).map (fun item => (x.1, item)))
  else none

/-- R114: one pull, if it may be made. -/
def pullNow (p : Nat) (s : State) : State :=
  match pullChoice s p with
  | none => s
  | some (b, x) =>
    updBasket b (fun c => { c with cursor := c.cursor + 1 })
      (updQueue p (fun q => joinQueue q (plannedItem s b (basketAt s b) x)) s)

/-- R114, R124: a pull that may be made waits while a sale check is open on the queue (log entries 2, 29). -/
def pullOp (p : Nat) (s : State) : State :=
  if (pullChoice s p).isSome then whenFree (.printer p) (.pull p) (pullNow p) s else s

/-! ### Printer states (R109, R119 to R121) -/

/-- R120: the printer goes to FINISHING, with the cut deadline 5 s ahead. -/
def enterFinishing (p : Nat) (s : State) : State :=
  updPrinter p (fun q => { q with state := .finishing, cutDue := some (deadlineAt (nowOf s) (nowOf s + Config.cutWait)) }) s

/-- R119: an item starts on a READY printer whose last status allows a byte and whose head is QUEUED. -/
def startItem (p : Nat) (s : State) : State :=
  let q := printerAt s p
  match q.queue with
  | [] => s
  | x :: rest =>
    if q.state = .ready ∧ x.state = .queued ∧ lastAllows q.lastStatus = true then
      let bytes := rendering s x
      let t := updPrinter p (fun y => { y with
        state := .streaming, toSend := bytes, queue := { x with state := .printing } :: rest
        queueChanges := bump y.queueChanges }) s
      if bytes = [] then enterFinishing p t else t
    else s

/-- R121: a stall, with its cause. -/
def stallPrinter (p : Nat) (cause : StallCause) (s : State) : State :=
  addStat (statPrinter p 1) 1 (raiseFactor (kioskCell p) kfPrinterStalled
    (updPrinter p (fun q => { interruptHead q with state := .stalled, stallCause := some cause, cutDue := none }) s))

/-- R109: the absent run has reached 10. -/
def losePrinter (p : Nat) (s : State) : State :=
  raiseFactor (kioskCell p) kfPrinterAbsent
    (updPrinter p (fun q => { interruptHead q with state := .absent, cutDue := none }) s)

/-- R120, steps (2) and (3): what the completion of an item tells its basket, or its sale record. -/
def reportPrinted (x : Item) (s : State) : State :=
  match x.source with
  | .basket b => updBasket b (fun c => { c with printed := c.printed + 1 }) s
  | .reprint => raiseReprints x.serial x.reprints s

/-- R120, step (4): the items-printed and reprints counts. -/
def countPrinted (p : Nat) (x : Item) (s : State) : State :=
  let t := addStat (statPrinter p 0) 1 s
  if 0 < x.reprints then addStat (statPrinter p 2) 1 t else t

/-- R120, steps (1) to (4): the completed item leaves the queue and is reported and counted. -/
def removeHead (p : Nat) (s : State) : State :=
  match (printerAt s p).queue with
  | [] => updPrinter p (fun q => { q with state := .ready, cutDue := none, toSend := [] }) s
  | x :: rest =>
    countPrinted p x (reportPrinted x
      (updPrinter p (fun q => { q with
        state := .ready, cutDue := none, toSend := [], queue := rest, queueChanges := bump q.queueChanges }) s))

/-- R120: the completion of the head item; last, the queue has room, so a pull is made if R114 allows. The pull is an update of its own of
the queue and the basket: DESIGN CHOICE (log entry 7). -/
def completeItem (p : Nat) (s : State) : State := pullNow p (removeHead p s)

/-- R121 in READY, and R119: a status byte taken by a READY printer stalls it, or lets the head item start. -/
def takeReady (p : Nat) (b : Byte) (s : State) : State :=
  match shownCause b with
  | some cause => stallPrinter p cause s
  | none => startItem p s

/-- R109: the first status byte with presence set ends an absence: the printer stalls, or is READY. No item of the queue moves. -/
def endAbsence (p : Nat) (b : Byte) (s : State) : State :=
  if (printerAt s p).state = .absent then
    if headIs (printerAt s p) .incomplete ∨ (shownCause b).isSome = true then stallPrinter p ((shownCause b).getD .absence) s
    else updPrinter p (fun q => { q with state := .ready }) s
  else s

/-- R119, R120: in STREAMING, a printer whose rendering is spent goes to FINISHING. -/
def streamOn (p : Nat) (s : State) : State := if (printerAt s p).toSend = [] then enterFinishing p s else s

/-- R110, R119 to R121: a status byte with presence set, by the state of a printer that is not ABSENT. -/
def presentStatus (p : Nat) (b : Byte) (s : State) : State :=
  match (printerAt s p).state with
  | .absent => s
  | .ready => takeReady p b s
  | .streaming =>
    match shownCause b with
    | some cause => stallPrinter p cause s
    | none => streamOn p s
  | .finishing =>
    if stCutDone b then takeReady p b (completeItem p s)
    else match shownCause b with
      | some cause => stallPrinter p cause s
      | none => s
  | .stalled => s

/-- R113: whether a status byte with presence set starts, completes or interrupts an item, and so is an event on the queue. -/
def reachesQueue (q : Printer) (b : Byte) : Bool :=
  let interrupts := (shownCause b).isSome && headIs q .printing
  match q.state with
  | .absent => false
  | .ready => interrupts || ((shownCause b).isNone && headIs q .queued && lastAllows q.lastStatus)
  | .streaming => interrupts
  | .finishing => stCutDone b || interrupts
  | .stalled => false

/-- R109, R124: whether the loss of a printer waits for its queue, or a status byte that came behind one. -/
def lossWaiting (s : State) (p : Nat) : Bool :=
  s.waiting.any (fun e => match e.2 with
    | .absence n => n == p
    | .returned n _ => n == p
    | .request _ => false | .holdDeadline _ => false | .leftSale _ => false | .status _ _ => false | .cutDeadline _ => false
    | .pull _ => false | .printerReset _ => false | .saleCheck _ => false | .salesRemoval _ => false)

/-- R109, R110, R124: a status byte with presence set moves the printer. While a sale check is open on the queue, what it does there
waits, and so does a byte behind a loss that waits, which is to end the absence; the end of an absence that stands does not wait (log
entry 39). -/
def movePresent (p : Nat) (b : Byte) (s : State) : State :=
  if busy s (.printer p) && lossWaiting s p then waitFor (.printer p) (.returned p b) s
  else
    let t := endAbsence p b s
    if reachesQueue (printerAt t p) b then whenFree (.printer p) (.status p b) (presentStatus p b) t else presentStatus p b t

/-- R109, R124: a status byte with presence clear, by the absent run it leaves; the loss of a printer that interrupts an item waits
while a sale check is open on the queue (log entry 39). -/
def moveAbsent (p : Nat) (s : State) : State :=
  let q := printerAt s p
  if q.absentRun = 10 ∧ q.state ≠ .absent then
    if headIs q .printing then whenFree (.printer p) (.absence p) (losePrinter p) s else losePrinter p s
  else if q.state = .streaming then streamOn p s
  else s

/-- R109: whether a status byte shows paper low; without presence it shows nothing. -/
def showsLow : Option Byte → Bool
  | some b => stPresence b && stPaperLow b
  | none => false

/-- R108, R109: a status byte received: it becomes the last status, moves the absent run, and raises PAPER_LOW when paper low
appears. None of this is on the queue. -/
def recordStatus (p : Nat) (b : Byte) (s : State) : State :=
  let before := (printerAt s p).lastStatus
  let t := updPrinter p (fun q => { q with
    lastStatus := some b, absentRun := if stPresence b then 0 else min 10 (q.absentRun + 1) }) s
  if showsLow (some b) && !showsLow before then raiseFactor (kioskCell p) kfPaperLow t else t

/-- R108 to R110: a status byte taken: it is recorded, and moves the printer. -/
def takeStatus (p : Nat) (b : Byte) (s : State) : State :=
  let t := recordStatus p b s
  refreshKiosk p (if stPresence b then movePresent p b t else moveAbsent p t)

/-- R119, R124: whether a status byte that stops the item of a printer, or loses the printer, waits for its queue. -/
def stopWaiting (s : State) (p : Nat) : Bool :=
  s.waiting.any (fun e => match e.2 with
    | .status n _ => n == p
    | .absence n => n == p
    | .returned n _ => n == p
    | .request _ => false | .holdDeadline _ => false | .leftSale _ => false | .cutDeadline _ => false | .pull _ => false
    | .printerReset _ => false | .saleCheck _ => false | .salesRemoval _ => false)

/-- R119: whether the next exchange clocks a data byte: not once the item is to be stopped (log entry 39). -/
def sendsData (s : State) (p : Nat) : Bool :=
  let q := printerAt s p
  q.state == .streaming && lastAllows q.lastStatus && q.toSend != [] && !stopWaiting s p

/-- R107, R119: the byte the part clocks in an exchange; nothing more where the poll byte of a start is already out. -/
def clockOut (p : Nat) (s : State) : State :=
  let q := printerAt s p
  if q.polled then setPrinter p (fun y => { y with polled := false }) s
  else if sendsData s p then
    emit (.printerByte p true (q.toSend.headD 0)) (setPrinter p (fun y => { y with toSend := y.toSend.tail }) s)
  else emit (.printerByte p false 0) s

/-- R107, R108: a printer exchange, one byte in each direction (log entry 13); the link is not clocked while UNCONFIGURED. -/
def statusByteOp (p : Nat) (b : Byte) (s : State) : State :=
  if running s then takeStatus p b (clockOut p s) else s

/-- R124: a status byte's event on the queue, taken once the sale check has closed, by the state in which it finds the printer. It came
before an absence that it finds, so it does not end it (R109; log entry 39). -/
def statusMoveOp (p : Nat) (b : Byte) (s : State) : State :=
  whenFree (.printer p) (.status p b) (fun t => refreshKiosk p (presentStatus p b t)) s

/-- R109, R124: a status byte that came behind a waiting loss, taken after it: it ends the absence. -/
def returnOp (p : Nat) (b : Byte) (s : State) : State :=
  whenFree (.printer p) (.returned p b) (fun t => refreshKiosk p (presentStatus p b (endAbsence p b t))) s

/-- R109, R124: the loss of a printer, taken once the sale check has closed; an ABSENT printer is not lost again. -/
def absenceOp (p : Nat) (s : State) : State :=
  if (printerAt s p).state = .absent then s
  else whenFree (.printer p) (.absence p) (fun t => refreshKiosk p (losePrinter p t)) s

/-- R121: whether the cut deadline of a FINISHING printer has fallen due. -/
def cutIsDue (s : State) (p : Nat) : Bool := (printerAt s p).state == .finishing && dueNow (nowOf s) (printerAt s p).cutDue

/-- R121: the cut deadline stalls the printer. -/
def cutDue (p : Nat) (s : State) : State := refreshKiosk p (stallPrinter p .cutTimeout s)

/-- R121, R124: a cut deadline that has fallen due is taken, or waits while a sale check is open on the queue; one that has not is
no event (log entry 2). -/
def cutDeadlineOp (p : Nat) (s : State) : State :=
  if cutIsDue s p then whenFree (.printer p) (.cutDeadline p) (cutDue p) s else s

/-! ### LOAD_TEMPLATE, RESUME_PRINTER, REDIRECT (R116, R122, R123) -/

/-- R113: a LOAD_TEMPLATE's check is an event of every queue it reads (log entry 7). -/
def checkQueues (s : State) : State := forEach (List.range 12) (fun p => updQueue p id) s

/-- R116: LOAD_TEMPLATE. An offset past the end of staging is refused also with the length 0, where no byte lies outside: DESIGN CHOICE
(log entry 46). -/
def loadTemplateNow (r : Request) (s : State) : State :=
  let t := param1 r 0
  let off := param2 r 1
  let len := param2 r 3
  if 32 ≤ t ∨ 1024 < len ∨ inStaging off len = false then finish r.slot .badParameter s
  else if templateUsed s t then finish r.slot .templateInUse (checkQueues s)
  else
    let u := checkQueues s
    finish r.slot .ok { u with
      mem := memWriteAll s.mem (Config.templateBase + Config.templateSize * t) (stagingBytes s off len)
      print := { u.print with templates := updAt s.print.templates t (fun e => { length := len, changes := bump e.changes }) } }

/-- R116, R124: the check reads every queue, so the request waits while a sale check is open on any of them. It waits whole, also where
check (1), which reads no queue, would refuse it: DESIGN CHOICE (log entry 4). -/
def loadTemplateOp (r : Request) (s : State) : State :=
  match (List.range 12).find? (fun p => busy s (.printer p)) with
  | some p => waitFor (.printer p) (.request r) s
  | none => loadTemplateNow r s

/-- R122, check (4): presence and ready set, and no stall cause. -/
def cleanStatus : Option Byte → Bool
  | some b => stPresence b && stReady b && (shownCause b).isNone
  | none => false

/-- R122: the checks of RESUME_PRINTER, in order. -/
def resumeRefusal (s : State) (p : Nat) : Option ResultCode :=
  if 12 ≤ p then some .badParameter
  else if (printerAt s p).state = .absent then some .printerAbsent
  else if (printerAt s p).state ≠ .stalled then some .wrongState
  else if cleanStatus (printerAt s p).lastStatus = false then some .wrongState
  else none

/-- R122: RESUME_PRINTER. -/
def resumeNow (r : Request) (s : State) : State :=
  let p := param1 r 0
  match resumeRefusal s p with
  | some code => finish r.slot code s
  | none =>
    let t := refreshKiosk p (updPrinter p (fun q => { requeueHead q with state := .ready, stallCause := none }) s)
    completeSlot r.slot .ok (leBytes 1 (printerAt t p).queue.length) t

def resumeOp (r : Request) (s : State) : State := whenFree (.printer (param1 r 0)) (.request r) (resumeNow r) s

/-- R123: the checks of REDIRECT, in order. -/
def redirectRefusal (s : State) (src dst : Nat) : Option ResultCode :=
  if 12 ≤ src ∨ 12 ≤ dst ∨ src = dst then some .badParameter
  else if (printerAt s src).state ≠ .stalled ∧ (printerAt s src).state ≠ .absent then some .wrongState
  else if (printerAt s dst).state = .stalled ∨ (printerAt s dst).state = .absent then some .wrongState
  else if freePlaces (printerAt s dst) < (printerAt s src).queue.length then some .queueFull
  else none

/-- R123: the PRINTING baskets assigned to a printer, by number. -/
def printingOn (s : State) (p : Nat) : List Nat :=
  (List.range 24).filter (fun b => (basketAt s b).state == .printing && (basketAt s b).printer == p)

/-- R123: a basket gets the target as its assigned printer. -/
def assignPrinter (dst b : Nat) (s : State) : State := updBasket b (fun c => { c with printer := dst }) s

/-- R123: REDIRECT, one event over both queues. -/
def redirectNow (r : Request) (s : State) : State :=
  let src := param1 r 0
  let dst := param1 r 1
  match redirectRefusal s src dst with
  | some code => finish r.slot code s
  | none =>
    let items := (printerAt s src).queue
    let baskets := printingOn s src
    let t := updQueue src (fun q => { q with queue := [] }) s
    let t := updQueue dst (fun q => (items.map requeued).foldl joinQueue q) t
    let t := forEach baskets (assignPrinter dst) t
    completeSlot r.slot .ok (leBytes 1 items.length ++ leBytes 1 baskets.length) t

/-- R123, R124: REDIRECT waits while a sale check is open on either of its queues, before its first check: DESIGN CHOICE (log entry 4). -/
def redirectOp (r : Request) (s : State) : State :=
  whenFree (.printer (param1 r 0)) (.request r) (whenFree (.printer (param1 r 1)) (.request r) (redirectNow r)) s

/-! ### REPRINT (R124, R149) -/

/-- R124: REPRINT up to the opening of the sale check: checks (1) to (3). The queue's change count stays even while the check is open,
and no refused REPRINT, REDIRECT or RESUME_PRINTER moves it: DESIGN CHOICE (log entry 7). -/
def reprintNow (r : Request) (s : State) : State :=
  let p := param1 r 5
  match selectorOf (param1 r 3) (param1 r 4) with
  | none => finish r.slot .badParameter s
  | some sel =>
    if 12 ≤ p then finish r.slot .badParameter s
    else if (printerAt s p).state = .absent then finish r.slot .printerAbsent s
    else if sel ≠ .all ∧ freePlaces (printerAt s p) < 1 then finish r.slot .queueFull s
    else setPrinter p (fun q => { q with
      check := some { slot := r.slot, serial := param3 r 0, selector := sel, answer := none } }) s

/-- R124: REPRINT waits while another's sale check is open on its queue, before its first check: DESIGN CHOICE (log entry 4). -/
def reprintOp (r : Request) (s : State) : State := whenFree (.printer (param1 r 5)) (.request r) (reprintNow r) s

/-- R149: the checks of a sale check on a record, in order. -/
def saleCheckRefusal (x : Sale) (sel : Selector) : Option ResultCode :=
  if x.refunded then some .wrongState
  else match sel with
    | .ticket r => if x.seatCount ≤ r then some .badParameter else none
    | .slip r => if x.voucherCount ≤ r then some .badParameter else none
    | .receipt => none
    | .all => none

/-- R124: a REPRINT refused with its sale check open: the check closes and no item enters. -/
def refuseReprint (p slot : Nat) (code : ResultCode) (s : State) : State :=
  finish slot code (setPrinter p (fun q => { q with check := none }) s)

/-- R149: the sale check, one event on the sale record. -/
def saleCheckNow (p : Nat) (s : State) : State :=
  match (printerAt s p).check with
  | none => s
  | some r =>
    if r.answer.isSome then s
    else match findSale s r.serial with
      | none => refuseReprint p r.slot .unknownSale s
      | some x =>
        match saleCheckRefusal x r.selector with
        | some code => refuseReprint p r.slot code s
        | none => setPrinter p (fun q => { q with check := some { r with
            answer := some { reprints := x.reprints, seats := x.seatCount, vouchers := x.voucherCount } } }) s

/-- R153: a sale check waits while its record is in refund. -/
def saleCheckOp (p : Nat) (s : State) : State :=
  match (printerAt s p).check with
  | none => s
  | some r => if r.answer.isSome then s else whenFree (.sale r.serial) (.saleCheck p) (saleCheckNow p) s

/-- R124: the kinds and ranks a selector names, in order. -/
def selectedItems (receipts : Bool) (a : SaleAnswer) : Selector → List (ItemKind × Nat)
  | .ticket r => [(.ticket, r)]
  | .slip r => [(.slip, r)]
  | .receipt => [(.receipt, 0)]
  | .all => (List.range a.seats).map (fun n => (.ticket, n)) ++ (List.range a.vouchers).map (fun n => (.slip, n))
      ++ (if receipts then [(.receipt, 0)] else [])

/-- R124: the queue item of a selected item. -/
def reprintItem (s : State) (serial count : Nat) (x : ItemKind × Nat) : Item :=
  { kind := x.1, template := templateFor s x.1 ((vouchersOf s serial)[x.2]?), serial := serial, index := x.2, urgent := true
    reprints := raiseCount count, state := .queued, source := .reprint, arrival := 0 }

/-- R124: the selected items enter, or the request is refused with QUEUE_FULL; the sale check closes. -/
def reprintEnterNow (p : Nat) (s : State) : State :=
  match (printerAt s p).check with
  | none => s
  | some r =>
    match r.answer with
    | none => s
    | some a =>
      let items := selectedItems (cfgOf s).receipts a r.selector
      if freePlaces (printerAt s p) < items.length then refuseReprint p r.slot .queueFull s
      else completeSlot r.slot .ok (leBytes 1 items.length)
        (updQueue p (fun q => (items.map (reprintItem s r.serial a.reprints)).foldl joinQueue { q with check := none }) s)

/-! ### The print unit's share of RESET_STATION and of CONFIGURE (R125) -/

/-- R107, R125: a printer sent to ABSENT without a factor, its active head queued again, and a poll byte clocked at once. It counts as an
update of the queue, at a CONFIGURE too, which R113 does not name: DESIGN CHOICE (log entry 7). At a CONFIGURE it is made at once, a sale
check open on the queue or not: DESIGN CHOICE (log entry 49). -/
def restartPrinter (p : Nat) (s : State) : State :=
  refreshKiosk p (emit (.printerByte p false 0) (updPrinter p (fun q => { requeueHead q with
    state := .absent, stallCause := none, cutDue := none, absentRun := 0, toSend := [], polled := true }) s))

/-- R125: the RESET_STATION whose share is due at a kiosk's printer. -/
def printerShareDue (s : State) (k : Nat) : Option StationReset :=
  s.station.resets.find? (fun r => r.kiosk == k && !r.printerDone)

/-- R125: the share due for a kiosk is made once. -/
def printerResetNow (k : Nat) (s : State) : State :=
  match printerShareDue s k with
  | none => s
  | some r =>
    restartPrinter k { s with station := { s.station with
      resets := s.station.resets.map (fun x => if x = r then { x with printerDone := true } else x) } }

/-- R124, R125: a share that is due waits while a sale check is open on the queue. -/
def printerResetOp (k : Nat) (s : State) : State :=
  if (printerShareDue s k).isSome then whenFree (.printer k) (.printerReset k) (printerResetNow k) s else s

end Sys2Proof.Machine
end

