-- ==== Sys2Proof/Machine/Baskets.lean ====
section
/-! DEFINITION. The basket unit (Chapter 3): opening, seat and voucher calls, quotes, paying, the sale move, outcomes,
settling, expiry, collecting and retiring. -/

namespace Sys2Proof.Machine

/-! ### Deadlines (R50) -/

/-- R50: the sale-close moment of an event: now, plus the time the foyer clock still needs to reach the sale close. -/
def saleCloseMoment (s : State) (sh : Nat) : Nat :=
  nowOf s + 1000 * saleClose (showAt s sh) - (1000 * instantSeconds s.showUnit.clock.now + s.showUnit.clock.phase)

/-- R50: the hold deadline at OPEN_BASKET. -/
def openingDeadline (s : State) (sh : Nat) : Deadline :=
  deadlineAt (nowOf s) (min (nowOf s + 1000 * (cfgOf s).holdTime) (saleCloseMoment s sh))

/-- R50: the candidate of a hold or an added voucher. -/
def candidateDeadline (s : State) (c : Basket) : Nat :=
  min (nowOf s + 1000 * (cfgOf s).holdTime) (min (c.openedAt + 3 * (1000 * (cfgOf s).holdTime)) (saleCloseMoment s c.sh))

/-- R50: the candidate becomes the deadline when it is later than the present one. -/
def extendedDeadline (s : State) (c : Basket) : Option Deadline :=
  match c.deadline with
  | some d => if d.value < candidateDeadline s c then some (deadlineAt (nowOf s) (candidateDeadline s c)) else some d
  | none => some (deadlineAt (nowOf s) (candidateDeadline s c))

/-- R50: the deadline of a return to SELECTING. -/
def retryDeadline (s : State) (sh : Nat) : Deadline :=
  deadlineAt (nowOf s) (min (nowOf s + 1000 * (cfgOf s).retryGrace) (saleCloseMoment s sh))

/-- A deadline as a result carries it. -/
def deadlineBytes (d : Option Deadline) : List Byte := optBytes 6 (d.map Deadline.value)

/-! ### The context supply and the kiosk's current basket (R48, R49) -/

/-- R49: the number of FREE contexts. -/
def freeContexts (s : State) : Nat := (s.basketUnit.baskets.filter (fun c => c.state == .free)).length

/-- R49: the count written into the foyer cell. -/
def writeSupply (s : State) : State := setFreeCount (freeContexts s) s

/-- R48: whether a kiosk has a basket in SELECTING, PAYING or UNRESOLVED. -/
def kioskSelling (s : State) (k : Nat) : Bool :=
  s.basketUnit.baskets.any (fun c => c.kiosk == k && (c.state == .selecting || c.state == .paying || c.state == .unresolved))

/-- R48: the kiosk's current-basket reference is cleared when it names the basket, and the condition derived anew (R163). -/
def clearCurrent (b k : Nat) (s : State) : State :=
  refreshKiosk k (if (kioskAt s k).current = some b then updKiosk k (fun x => { x with current := none }) s else s)

/-! ### OPEN_BASKET (R48) -/

/-- R48: the checks of OPEN_BASKET, in order. -/
def openRefusal (s : State) (k sh : Nat) : Option ResultCode :=
  if !s.showUnit.clock.isSet then some .clockUnset
  else if 12 ≤ k ∨ 48 ≤ sh then some .badParameter
  else if (kioskAt s k).service then some .stationService
  else if kioskSelling s k then some .wrongState
  else if (showAt s sh).state = .empty then some .noShow
  else if (showAt s sh).state ≠ .onSale then some .saleClosed
  else if freeContexts s = 0 then some .noContext
  else none

/-- R48: the lowest-numbered FREE context. -/
def lowestContext (s : State) : Nat := s.basketUnit.baskets.findIdx (fun c => c.state == .free)

/-- R48: OPEN_BASKET. -/
def openBasketOp (r : Request) (s : State) : State :=
  let k := param1 r 0
  let sh := param1 r 1
  match openRefusal s k sh with
  | some code => finish r.slot code s
  | none =>
    let b := lowestContext s
    let d := openingDeadline s sh
    let t := updBasket b (fun c => { Basket.free with
      state := .selecting, kiosk := k, sh := sh, openedAt := nowOf s, deadline := some d, printer := k
      changes := c.changes }) s
    let t := refreshKiosk k (updKiosk k (fun x => { x with current := some b }) t)
    completeSlot r.slot .ok (leBytes 1 b ++ leBytes 6 d.value ++ leBytes 6 (nowOf s)) (writeSupply t)

/-! ### Calls (R29, R35, R47, R53, R54) -/

/-- R29, R47: a call opened on a basket, whose change count is odd while it is open. -/
def openCall (b : Nat) (call : Call) (s : State) : State :=
  setBasket b (fun c => { c with call := some call, changes := stepCount c.changes }) s

/-- R29, R47: the answer applied and the call closed. -/
def closeCall (b : Nat) (f : Basket → Basket) (s : State) : State :=
  setBasket b (fun c => { f c with call := none, changes := stepCount c.changes }) s

/-- R29: HOLD_SEATS up to the opening of its seat call. -/
def holdSeatsNow (r : Request) (s : State) : State :=
  let b := param1 r 0
  match paramSeats r 1 with
  | none => finish r.slot .badParameter s
  | some list =>
    if 24 ≤ b ∨ list.length < 1 ∨ 10 < list.length then finish r.slot .badParameter s
    else if (basketAt s b).state ≠ .selecting then finish r.slot .wrongState s
    else openCall b (.hold r.slot list) s

/-- R35: whether a list repeats an entry. -/
def repeats (list : List Nat) : Bool := (firstFailing (fun before x => before.contains x) [] list).isSome

/-- R35: RELEASE_SEATS up to the opening of its seat call. -/
def releaseSeatsNow (r : Request) (s : State) : State :=
  let b := param1 r 0
  match paramSeats r 1 with
  | none => finish r.slot .badParameter s
  | some list =>
    if 24 ≤ b ∨ list.length < 1 ∨ 10 < list.length ∨ repeats list = true then finish r.slot .badParameter s
    else if (basketAt s b).state ≠ .selecting then finish r.slot .wrongState s
    else match list.find? (fun x => !(basketAt s b).seats.contains x) with
      | some x => completeSlot r.slot .badParameter (leBytes 2 x) s
      | none => openCall b (.release r.slot list) s

/-- R53: the checks of ADD_VOUCHER, in order. -/
def addRefusal (s : State) (b kind : Nat) : Option ResultCode :=
  if !s.showUnit.clock.isSet then some .clockUnset
  else if 24 ≤ b ∨ 16 ≤ kind then some .badParameter
  else if (basketAt s b).state ≠ .selecting then some .wrongState
  else if (showAt s (basketAt s b).sh).state ≠ .onSale then some .saleClosed
  else if 6 ≤ (basketAt s b).vouchers.length then some .basketFull
  else none

/-- R53: ADD_VOUCHER up to the opening of its voucher call. -/
def addVoucherNow (r : Request) (s : State) : State :=
  let b := param1 r 0
  match addRefusal s b (param1 r 1) with
  | some code => finish r.slot code s
  | none => openCall b (.issue r.slot (param1 r 1)) s

/-- R54: the checks of DROP_VOUCHER, in order. -/
def dropRefusal (s : State) (b position : Nat) : Option ResultCode :=
  if 24 ≤ b ∨ 5 < position then some .badParameter
  else if (basketAt s b).state ≠ .selecting then some .wrongState
  else if (basketAt s b).vouchers.length ≤ position then some .badParameter
  else none

/-- R54: DROP_VOUCHER up to the opening of its voucher call. -/
def dropVoucherNow (r : Request) (s : State) : State :=
  let b := param1 r 0
  match dropRefusal s b (param1 r 1) with
  | some code => finish r.slot code s
  | none => openCall b (.removal r.slot (param1 r 1)) s

/-- The quote of a basket as it stands, stored as its last quote without a change count of its own. -/
def requote (b : Nat) (s : State) : State :=
  setBasket b (fun c => { c with quote := basketQuote s c }) s

/-- R30, R32: the hold event and its answer applied. -/
def holdEventNow (b slot : Nat) (list : List Nat) (s : State) : State :=
  match holdRefusal s b list with
  | some (code, seat) => completeSlot slot code (namedSeat seat) (closeCall b id s)
  | none =>
    let t := holdCells (basketAt s b).sh b list s
    let t := requote b (closeCall b (fun c => { c with seats := c.seats ++ list, deadline := extendedDeadline s c }) t)
    let c := basketAt t b
    completeSlot slot .ok (leBytes 1 c.seats.length ++ deadlineBytes c.deadline ++ quoteBytes c.quote) t

/-- R36: the release event and its answer applied. -/
def releaseEventNow (b slot : Nat) (list : List Nat) (s : State) : State :=
  let t := releaseCells (basketAt s b).sh list s
  let t := requote b (closeCall b (fun c => { c with seats := c.seats.filter (fun x => !list.contains x) }) t)
  let c := basketAt t b
  completeSlot slot .ok (leBytes 1 c.seats.length ++ quoteBytes c.quote) t

/-- R53, R133: the issue and its answer applied. -/
def issueEventNow (b slot kind : Nat) (s : State) : State :=
  match issueVoucher kind b (basketAt s b).sh s with
  | (t, .refused code) => finish slot code (closeCall b id t)
  | (t, .issued index code) =>
    let position := (basketAt t b).vouchers.length
    let t := requote b (closeCall b (fun c => { c with vouchers := c.vouchers ++ [index], deadline := extendedDeadline t c }) t)
    completeSlot slot .ok (codeBytes code ++ leBytes 1 position ++ quoteBytes (basketAt t b).quote) t

/-- R54, R134: the removal and its answer applied. -/
def removalEventNow (b slot position : Nat) (s : State) : State :=
  let t := removeVouchers ((basketAt s b).vouchers[position]?).toList s
  let t := requote b (closeCall b (fun c => { c with vouchers := c.vouchers.eraseIdx position }) t)
  let c := basketAt t b
  completeSlot slot .ok (leBytes 1 c.vouchers.length ++ quoteBytes c.quote) t

/-- R30: the hold event of the call open on a basket; without such a call nothing is there to take. -/
def holdEventOp (b : Nat) (s : State) : State :=
  match (basketAt s b).call with
  | some (.hold slot list) => holdEventNow b slot list s
  | _ => s

/-- R36: the release event of the call open on a basket. -/
def releaseEventOp (b : Nat) (s : State) : State :=
  match (basketAt s b).call with
  | some (.release slot list) => releaseEventNow b slot list s
  | _ => s

/-- R133: the issue of the call open on a basket. -/
def voucherIssueOp (b : Nat) (s : State) : State :=
  match (basketAt s b).call with
  | some (.issue slot kind) => issueEventNow b slot kind s
  | _ => s

/-- R134: the removal of the call open on a basket. -/
def voucherRemovalOp (b : Nat) (s : State) : State :=
  match (basketAt s b).call with
  | some (.removal slot position) => removalEventNow b slot position s
  | _ => s

/-! ### QUOTE (R78) -/

/-- R78: QUOTE. -/
def quoteNow (r : Request) (s : State) : State :=
  let b := param1 r 0
  if 24 ≤ b then finish r.slot .badParameter s
  else if (basketAt s b).state ≠ .selecting then finish r.slot .wrongState s
  else
    let t := updBasket b (fun c => { c with quote := basketQuote s c }) s
    let c := basketAt t b
    completeSlot r.slot .ok (leBytes 1 c.seats.length ++ leBytes 1 c.vouchers.length ++ quoteBytes c.quote) t

/-! ### Ends without a sale (R52, R55) -/

/-- R52, R55: the steps of an expiry or an abandonment that leave the basket in the end state given: release, removal, lists
emptied, deadline absent, current-basket reference cleared. -/
def endBasket (b : Nat) (dest : BasketState) (s : State) : State :=
  let c := basketAt s b
  let t := removeVouchers c.vouchers (releaseCells c.sh c.seats s)
  let t := updBasket b (fun x => { x with seats := [], vouchers := [], deadline := none, state := dest }) t
  clearCurrent b c.kiosk t

/-- R52: an expiry, with HOLD_EXPIRED raised. -/
def expireBasket (b : Nat) (s : State) : State :=
  raiseFactor (kioskCell (basketAt s b).kiosk) kfHoldExpired (endBasket b .expired s)

/-- R51: whether the hold deadline of a SELECTING basket has fallen due. -/
def holdDue (s : State) (b : Nat) : Bool := (basketAt s b).state == .selecting && dueNow (nowOf s) (basketAt s b).deadline

/-- R29, R51: a hold deadline that has fallen due expires its basket, or waits for the call open on it; one that has not is no
event (log entry 2). After the call it is tested again, against the deadline as the call left it. -/
def holdDeadlineOp (b : Nat) (s : State) : State :=
  if holdDue s b then whenFree (.basket b) (.holdDeadline b) (expireBasket b) s else s

/-- R52: a show's leaving ON_SALE reaches one basket. -/
def leftSaleNow (b : Nat) (s : State) : State :=
  if (basketAt s b).state = .selecting then expireBasket b s else s

/-- R52: the SELECTING baskets of a show, by number (log entry 25). -/
def sellingInto (s : State) (sh : Nat) : List Nat :=
  (List.range 24).filter (fun b => (basketAt s b).state == .selecting && (basketAt s b).sh == sh)

/-- R52: a reported leaving of ON_SALE is taken; a basket with a call open takes it once the call has closed (R29). The report stands until
it is taken and reaches the baskets that then sell into the show of its number, also where that number has been dropped and loaded
again meanwhile: DESIGN CHOICE (log entry 44). -/
def showLeftSaleOp (sh : Nat) (s : State) : State :=
  if s.showUnit.leftSale.contains sh then
    forEach (sellingInto s sh) (fun b => whenFree (.basket b) (.leftSale b) (leftSaleNow b))
      { s with showUnit := { s.showUnit with leftSale := s.showUnit.leftSale.erase sh } }
  else s

/-- R55: whether a state refuses ABANDON with BASKET_BUSY. -/
def abandonBusy (st : BasketState) : Bool :=
  match st with
  | .paying => true | .unresolved => true | .printing => true | .collect => true
  | .free => false | .selecting => false | .closed => false | .expired => false | .abandoned => false

/-- R55: ABANDON. -/
def abandonNow (r : Request) (s : State) : State :=
  let b := param1 r 0
  let c := basketAt s b
  if 24 ≤ b then finish r.slot .badParameter s
  else if c.state = .selecting then
    completeSlot r.slot .ok (leBytes 1 c.seats.length ++ leBytes 1 c.vouchers.length) (endBasket b .abandoned s)
  else if abandonBusy c.state then finish r.slot .basketBusy s
  else finish r.slot .wrongState s

/-! ### The sale move (R57, R64) -/

/-- R64: the print plan of a basket. -/
def planOf (c : Basket) (receipts : Bool) : List PlanItem :=
  (List.range c.seats.length).map (fun n => ⟨.ticket, n⟩) ++ (List.range c.vouchers.length).map (fun n => ⟨.slip, n⟩)
    ++ (if receipts then [⟨.receipt, 0⟩] else [])

/-- R57: the sale move. The serial it gives is the next one of the summary. -/
def saleMove (b : Nat) (m : Method) (s : State) : State :=
  let c := basketAt s b
  let serial := s.salesUnit.nextSerial
  let t := activateVouchers serial c.vouchers (sellCells c.sh serial c.seats (createSale c m s))
  let t := finishSale serial c.kiosk c.seats.length c.vouchers.length t
  let t := updBasket b (fun x => { x with
    serial := some serial, plan := planOf x (cfgOf s).receipts, cursor := 0, printed := 0, state := .printing
    deadline := none }) t
  refreshKiosk c.kiosk t

/-! ### PAY (R56, R58, R59) -/

/-- R56: checks (1) to (5) of PAY. -/
def payRefusal (s : State) (b : Nat) : Option ResultCode :=
  if !s.showUnit.clock.isSet then some .clockUnset
  else if 24 ≤ b then some .badParameter
  else if (basketAt s b).state ≠ .selecting then some .wrongState
  else if (basketAt s b).seats = [] ∧ (basketAt s b).vouchers = [] then some .wrongState
  else if (showAt s (basketAt s b).sh).state ≠ .onSale then some .saleClosed
  else none

/-- R56, step (9): the code by which a line that is not IDLE refuses PAY. -/
def lineRefusal (st : LineState) : Option ResultCode :=
  match st with
  | .idle => none
  | .down => some .terminalFault
  | .fault => some .terminalFault
  | .authorizing => some .wrongState
  | .aborting => some .wrongState
  | .reversing => some .wrongState

/-- R56, steps (7), (9) and (10): the refusal of a PAY by its snapshot, the line and the sale table. -/
def payStop (s : State) (k : Nat) (q : Quote) : Option ResultCode :=
  if q.overCeiling then some .overCeiling
  else match (if q.gross = 0 then none else lineRefusal (lineAt s k).state) with
    | some code => some code
    | none => if canReserve s then none else some .salesFull

/-- R59: the move to PAYING. The line's next tag is the record's. -/
def startPaying (b : Nat) (s : State) : State :=
  let c := basketAt s b
  let t := updBasket b (fun x => { x with
    state := .paying, deadline := none, payRef := some (c.kiosk, (lineAt s c.kiosk).nextTag) }) s
  refreshKiosk c.kiosk (openPayment c.kiosk b c.quote.gross t)

/-- R56: PAY. Storing the quote, and the sale move or the move to PAYING, are two updates of the context: DESIGN CHOICE (log entry 7). -/
def payNow (r : Request) (s : State) : State :=
  let b := param1 r 0
  match payRefusal s b with
  | some code => finish r.slot code s
  | none =>
    let q := basketQuote s (basketAt s b)
    let t := updBasket b (fun c => { c with quote := q }) s
    match payStop t (basketAt s b).kiosk q with
    | some code => completeSlot r.slot code (quoteBytes q) t
    | none =>
      if q.gross = 0 then
        completeSlot r.slot .ok (leBytes 3 t.salesUnit.nextSerial)
          (saleMove b { byCard := false, code := none, tail := none } (reservePlace t))
      else startPaying b (reservePlace t)

/-! ### Outcomes and SETTLE (R60 to R63) -/

/-- R61: after a decline, a cancellation, a timed-out abort or SETTLE declined: the place is given back, and the basket
returns to SELECTING, or expires when its show is no longer ON_SALE. -/
def returnBasket (b : Nat) (s : State) : State :=
  let t := giveBackPlace s
  let c := basketAt t b
  if (showAt t c.sh).state = .onSale then
    refreshKiosk c.kiosk (updBasket b (fun x => { x with state := .selecting, deadline := some (retryDeadline t c.sh) }) t)
  else expireBasket b t

/-- R62: the basket goes to UNRESOLVED and keeps everything. -/
def leaveUnresolved (b : Nat) (s : State) : State :=
  refreshKiosk (basketAt s b).kiosk (updBasket b (fun x => { x with state := .unresolved, deadline := none }) s)

/-- The slot of the PAY in flight for a basket completes (R60 to R62). -/
def finishPay (b : Nat) (code : ResultCode) (fields : List Byte) (s : State) : State :=
  match s.board.inflight.getD b none with
  | some slot => completeSlot slot code fields s
  | none => s

/-- R60 to R62: an outcome taken by a basket in PAYING. -/
def takeOutcome (o : OutcomeReport) (s : State) : State :=
  let b := o.basket
  match o.outcome with
  | .approved =>
    let serial := s.salesUnit.nextSerial
    finishPay b .ok (o.code ++ tailBytes o.tail ++ leBytes 3 serial)
      (saleMove b { byCard := true, code := some o.code, tail := o.tail } s)
  | .declined => finishPay b .declined [] (returnBasket b s)
  | .cancelled => finishPay b .cancelled [] (returnBasket b s)
  | .timedOut => finishPay b .timedOut [] (returnBasket b s)
  | .unresolved => finishPay b .unresolved [] (leaveUnresolved b s)

/-- R96, step (5), R60 to R62: the oldest outcome handed over for a basket is taken. -/
def paymentOutcomeOp (b : Nat) (s : State) : State :=
  match s.basketUnit.outcomes.find? (fun o => o.basket == b) with
  | none => s
  | some o =>
    let t := { s with basketUnit := { s.basketUnit with outcomes := s.basketUnit.outcomes.erase o } }
    if (basketAt s b).state = .paying then takeOutcome o t else t

/-- R63: SETTLE. -/
def settleNow (r : Request) (s : State) : State :=
  let b := param1 r 0
  let outcome := param1 r 1
  let code := paramBytes r 2 6
  if 24 ≤ b ∨ (outcome ≠ 1 ∧ outcome ≠ 2) ∨ (outcome = 1 ∧ ¬ (code.length = 6 ∧ code.all isPrintable = true)) then
    finish r.slot .badParameter s
  else if (basketAt s b).state ≠ .unresolved then finish r.slot .wrongState s
  else if outcome = 1 then
    completeSlot r.slot .ok (leBytes 3 s.salesUnit.nextSerial) (saleMove b { byCard := true, code := some code, tail := none } s)
  else
    let t := returnBasket b s
    completeSlot r.slot .ok (leBytes 1 (basketStateNum (basketAt t b).state)) t

/-! ### Collecting and retiring (R65 to R68) -/

/-- R65: the done count has reached the plan length. -/
def moveToCollectOp (b : Nat) (s : State) : State :=
  let c := basketAt s b
  if c.state = .printing ∧ c.printed = c.plan.length then
    refreshKiosk c.kiosk (updBasket b (fun x => { x with
      state := .collect, deadline := some (deadlineAt (nowOf s) (nowOf s + 1000 * (cfgOf s).collectTimeout)) }) s)
  else s

/-- R66, R67: a COLLECT basket goes to CLOSED. -/
def closeBasket (b : Nat) (uncollected : Bool) (s : State) : State :=
  clearCurrent b (basketAt s b).kiosk
    (updBasket b (fun x => { x with state := .closed, deadline := none, uncollected := uncollected }) s)

/-- R66: the COLLECT baskets whose assigned printer is the given one, by number. -/
def collecting (s : State) (p : Nat) : List Nat :=
  (List.range 24).filter (fun b => (basketAt s b).state == .collect && (basketAt s b).printer == p)

/-- R66: a chute-cleared event handed over by the station unit is taken. It closes every basket that entered COLLECT before this
taking, also where the edge was accepted before the basket entered COLLECT: DESIGN CHOICE (log entry 35). -/
def chuteClearedOp (k : Nat) (s : State) : State :=
  if s.basketUnit.chutes.contains k then
    forEach (collecting s k) (fun b => closeBasket b false)
      { s with basketUnit := { s.basketUnit with chutes := s.basketUnit.chutes.erase k } }
  else s

/-- R67: the collect deadline falls due. -/
def collectDeadlineOp (b : Nat) (s : State) : State :=
  let c := basketAt s b
  if c.state = .collect ∧ dueNow (nowOf s) c.deadline = true then
    raiseFactor (kioskCell c.kiosk) kfUncollected (closeBasket b true s)
  else s

/-- R68: whether a state is an end state. -/
def isEnd (st : BasketState) : Bool := st == .closed || st == .expired || st == .abandoned

/-- R68: RETIRE. -/
def retireNow (r : Request) (s : State) : State :=
  let b := param1 r 0
  if 24 ≤ b then finish r.slot .badParameter s
  else if isEnd (basketAt s b).state then
    finish r.slot .ok (writeSupply (updBasket b (fun c => { Basket.free with changes := c.changes }) s))
  else finish r.slot .wrongState s

/-! ### Requests that wait while a call is open on the basket they name (R29, R47) -/

/-- A request that reaches the basket it names. -/
def basketRequest (r : Request) (f : State → State) (s : State) : State := whenFree (.basket (param1 r 0)) (.request r) f s

end Sys2Proof.Machine
end

