-- ==== Sys2Proof/Machine/Shows.lean ====
section
/-! DEFINITION. The show unit (Chapter 1): run time and the foyer clock, show transitions, loading, prices, closing a sale
and dropping a show. -/

namespace Sys2Proof.Machine

/-! ### Transitions (R9 to R11) -/

/-- R11: the move of a CLOSED show that is due. -/
def endMoves (now : Instant) (w : ShowRec) : List ShowState := if reached now (instantSeconds w.finish) then [.ended] else []

/-- R10: the moves of an ON_SALE show that are due. -/
def closeMoves (now : Instant) (w : ShowRec) : List ShowState :=
  if reached now (saleClose w) then .closed :: endMoves now w else []

/-- R9: the moves of a LOADED show that are due. -/
def openMoves (now : Instant) (w : ShowRec) : List ShowState :=
  if reached now (instantSeconds w.saleOpen) then .onSale :: closeMoves now w else []

/-- R6, R9: the states a show enters at an instant, in order. -/
def dueMoves (now : Instant) (w : ShowRec) : List ShowState :=
  match w.state with
  | .empty => []
  | .loaded => openMoves now w
  | .onSale => closeMoves now w
  | .closed => endMoves now w
  | .ended => []

/-- R9 to R11: one show event: the state entered, and what it tells the basket unit and the foyer cell. -/
def enterShow (n : Nat) (st : ShowState) (s : State) : State :=
  let t := updShow n (fun w => { w with state := st }) s
  match st with
  | .closed => raiseFactor .foyer ffShowClosed { t with showUnit := { t.showUnit with leftSale := t.showUnit.leftSale ++ [n] } }
  | .ended => raiseFactor .foyer ffShowEnded t
  | .empty => t
  | .loaded => t
  | .onSale => t

/-- The transitions of one show that are due at the clock as it stands. -/
def moveShow (n : Nat) (s : State) : State :=
  (dueMoves s.showUnit.clock.now (showAt s n)).foldl (fun t st => enterShow n st t) s

/-- R3, R6: the transitions of every loaded show that are due (log entry 25). -/
def moveShows (s : State) : State := forEach (List.range Config.showCount) moveShow s

/-- R5: the number of transitions that are due. -/
def movesDue (s : State) : Nat := (s.showUnit.shows.map (fun w => (dueMoves s.showUnit.clock.now w).length)).sum

/-! ### Run time and the clock (R1, R3) -/

/-- The clock record written, under its change count (R2, R173). -/
def writeClock (now : Instant) (phase : Nat) (s : State) : State :=
  { s with showUnit := { s.showUnit with
      clock := { isSet := true, now := now, phase := phase, changes := bump s.showUnit.clock.changes } } }

/-- R3: a day change reported to the voucher unit. -/
def reportDay (before : Instant) (s : State) : State :=
  let now := s.showUnit.clock.now
  if differentDay before now then
    { s with showUnit := { s.showUnit with dayChanges := s.showUnit.dayChanges ++ [(now.year, now.day)] } }
  else s

/-- R3: the second advance, a clock event of the show unit. -/
def secondAdvance (s : State) : State :=
  let before := s.showUnit.clock.now
  moveShows (reportDay before (writeClock (nextSecond before) 0 s))

/-- R3: the clock's part of an advance of run time. -/
def clockAdvance (s : State) : State :=
  let c := s.showUnit.clock
  if !c.isSet ∨ clockStopped c.now then s
  else if c.phase + 1 < 1000 then writeClock c.now (c.phase + 1) s
  else secondAdvance s

/-- R1, R3: one millisecond. -/
def runTimeOp (s : State) : State :=
  clockAdvance { s with showUnit := { s.showUnit with runTime := s.showUnit.runTime + 1 } }

/-- R3: whether the next advance of run time is one at which phase reaches 1,000. -/
def secondDue (s : State) : Bool :=
  s.showUnit.clock.isSet && !clockStopped s.showUnit.clock.now && s.showUnit.clock.phase == 999

/-- R3: the advance of run time at which phase reaches 1,000 (log entry 3). -/
def clockSecondOp (s : State) : State := if secondDue s then runTimeOp s else s

/-! ### SET_CLOCK (R5 to R7) -/

/-- R5: SET_CLOCK. Where the clock was unset, the result's unset mark is FFh in the six bytes of the instant: DESIGN CHOICE (log
entry 34). -/
def setClockOp (r : Request) (s : State) : State :=
  let i := instantOf (paramBytes r 0 6)
  if validInstant i then
    let c := s.showUnit.clock
    let t := writeClock i 0 s
    let n := movesDue t
    let t := moveShows t
    let t := if c.isSet then reportDay c.now t else t
    completeSlot r.slot .ok (optInstantBytes (if c.isSet then some c.now else none) ++ leBytes 1 n) t
  else finish r.slot .badParameter s

/-! ### Loading (R12 to R14) -/

/-- Whether a loading of a show is in progress. -/
def isLoading (s : State) (n : Nat) : Bool := s.showUnit.loadings.any (fun l => l.sh == n)

/-- R13: the allocated ranges: those of shows that are not EMPTY, and those reserved by loadings in progress. -/
def allocatedRanges (s : State) : List (Nat × Nat) :=
  ((List.range Config.showCount).filter (fun n => (showAt s n).state != .empty || isLoading s n)).map
    (fun n => ((showAt s n).seatBase, (showAt s n).seatCount))

/-- Whether a range of n cells from a base is free. -/
def rangeFree (ranges : List (Nat × Nat)) (n base : Nat) : Bool :=
  decide (base + n ≤ Config.poolSize) && ranges.all (fun r => decide (base + n ≤ r.1) || decide (r.1 + r.2 ≤ base))

/-- R13: first-fit. A free run begins at the pool's first cell or where a range ends. -/
def firstFit (ranges : List (Nat × Nat)) (n : Nat) : Option Nat :=
  ((0 :: ranges.map (fun r => r.1 + r.2)).filter (rangeFree ranges n)).min?

/-- R12, checks (4) to (7). A title is judged by its length alone, its bytes are not checked: DEDUCED (log entry 22). -/
def descriptionSound (d : Description) : Bool :=
  let close := instantSeconds d.start + 60 * d.lateWindow
  decide (1 ≤ d.titleLength) && decide (d.titleLength ≤ 32) && decide (1 ≤ d.auditorium) && decide (d.auditorium ≤ 16)
    && decide (d.lateWindow ≤ 30) && decide (d.priceList ≤ 15) && decide (1 ≤ d.rowCount) && decide (d.rowCount ≤ 32)
    && validInstant d.saleOpen && validInstant d.start && validInstant d.finish
    && instantBefore d.saleOpen d.start && instantBefore d.start d.finish && decide (close ≤ instantSeconds d.finish)
    && d.rowLengths.all (fun l => decide (1 ≤ l) && decide (l ≤ 40))
    && decide (1 ≤ d.rowLengths.sum) && decide (d.rowLengths.sum ≤ 512)
    && d.map.all (fun b => decide (seatByteTier b ≤ 7))

/-- R12: the checks of LOAD_SHOW in order; a passing request gets the base of its range. -/
def loadCheck (s : State) (sh off : Nat) : Except ResultCode Nat :=
  let d := descriptionAt s off
  if !s.showUnit.clock.isSet then .error .clockUnset
  else if 48 ≤ sh then .error .badParameter
  else if (showAt s sh).state ≠ .empty ∨ isLoading s sh = true then .error .wrongState
  else if inStaging off d.size = false then .error .badParameter
  else if descriptionSound d = false then .error .badParameter
  else match firstFit (allocatedRanges s) d.rowLengths.sum with
    | none => .error .poolFull
    | some base => .ok base

/-- R14: the show record's fields from the working copy, the state still EMPTY and the counts still 0. -/
def loadedRecord (d : Description) (base : Nat) (w : ShowRec) : ShowRec :=
  { w with
    state := .empty, title := d.title, auditorium := d.auditorium, saleOpen := d.saleOpen, start := d.start, finish := d.finish
    lateWindow := d.lateWindow, priceList := d.priceList, gapRule := gapRuleOf d.gapRule, seatBase := base
    seatCount := d.rowLengths.sum, rowLengths := d.rowLengths, changes := stepCount w.changes }

/-- R12, R14: LOAD_SHOW up to the marking of its loading as in progress. -/
def loadShowOp (r : Request) (s : State) : State :=
  let sh := param1 r 0
  let off := param2 r 1
  match loadCheck s sh off with
  | .error code => finish r.slot code s
  | .ok base =>
    let d := descriptionAt s off
    let t := setShow sh (loadedRecord d base) s
    { t with showUnit := { t.showUnit with loadings := t.showUnit.loadings ++ [{ slot := r.slot, sh := sh, map := d.map }] } }

/-- The number of seats a map marks BLOCKED (R14). -/
def blockedCount (map : List Byte) : Nat := (map.filter seatByteBlocked).length

/-- R14: the loading's cells and counts written, LOADED entered, the transitions due made, LOAD_SHOW completed. -/
def loadingCompleteOp (sh : Nat) (s : State) : State :=
  match s.showUnit.loadings.find? (fun l => l.sh == sh) with
  | none => s
  | some l =>
    let t := loadCells (showAt s sh).seatBase l.map s
    let t := setShow sh (fun w => { w with
      state := .loaded, blocked := blockedCount l.map, free := w.seatCount - blockedCount l.map, held := 0, sold := 0
      changes := stepCount w.changes }) t
    let t := moveShow sh { t with showUnit := { t.showUnit with loadings := t.showUnit.loadings.erase l } }
    completeSlot l.slot .ok (leBytes 2 (showAt t sh).seatBase ++ leBytes 1 (showStateNum (showAt t sh).state)) t

/-! ### SET_PRICES and CLOSE_SALE (R15, R18) -/

/-- R18: SET_PRICES. -/
def setPricesOp (r : Request) (s : State) : State :=
  let n := param1 r 0
  let off := param2 r 1
  let l := priceListAt s off
  if 16 ≤ n ∨ inStaging off priceListSize = false ∨ priceListValid l = false then finish r.slot .badParameter s
  else finish r.slot .ok { s with showUnit := { s.showUnit with
    prices := updAt s.showUnit.prices n (fun x => { l with changes := bump x.changes }) } }

/-- R15: CLOSE_SALE. -/
def closeSaleOp (r : Request) (s : State) : State :=
  let n := param1 r 0
  if 48 ≤ n then finish r.slot .badParameter s
  else if (showAt s n).state = .empty then finish r.slot .noShow s
  else if (showAt s n).state = .onSale then finish r.slot .ok (enterShow n .closed s)
  else finish r.slot .wrongState s

/-! ### Dropping a show (R16, R17) -/

/-- R16, R52: whether a context that is not FREE names a show. -/
def contextNames (s : State) (sh : Nat) : Bool := s.basketUnit.baskets.any (fun c => c.state != .free && c.sh == sh)

/-- R16: the checks of DROP_SHOW, in order. -/
def dropShowRefusal (s : State) (sh : Nat) : Option ResultCode :=
  if 48 ≤ sh then some .badParameter
  else if (showAt s sh).state = .empty then some .noShow
  else if (showAt s sh).state ≠ .ended then some .wrongState
  else if s.showUnit.removals.any (fun x => x.sh == sh) then some .wrongState
  else if contextNames s sh then some .basketBusy
  else none

/-- The change count of a show stepped at one end of a removal (R17). -/
def stepShow (sh : Nat) (s : State) : State := setShow sh (fun w => { w with changes := stepCount w.changes }) s

/-- R16, R17: DROP_SHOW up to the beginning of the removal. -/
def dropShowOp (r : Request) (s : State) : State :=
  let sh := param1 r 0
  match dropShowRefusal s sh with
  | some code => finish r.slot code s
  | none =>
    let t := stepShow sh s
    { t with showUnit := { t.showUnit with
      removals := t.showUnit.removals ++ [{ slot := r.slot, sh := sh, step := .sales, salesRemoved := 0, vouchersRemoved := 0 }] } }

/-- The removal of a show that stands at a step. -/
def removalAt (s : State) (sh : Nat) (step : RemovalStep) : Option Removal :=
  s.showUnit.removals.find? (fun x => x.sh == sh && x.step == step)

/-- A removal in progress replaced, or ended. -/
def updRemoval (x : Removal) (y : Option Removal) (s : State) : State :=
  { s with showUnit := { s.showUnit with
      removals := match y with
        | some z => s.showUnit.removals.map (fun v => if v = x then z else v)
        | none => s.showUnit.removals.erase x } }

/-- R17, step (1), R154: the sales removal, or the end of the drop with BASKET_BUSY. -/
def salesRemovalNow (sh : Nat) (s : State) : State :=
  match removalAt s sh .sales with
  | none => s
  | some x =>
    if showQueued s sh then finish x.slot .basketBusy (stepShow sh (updRemoval x none s))
    else updRemoval x (some { x with step := .vouchers, salesRemoved := (removeSales sh s).2 }) (removeSales sh s).1

/-- R153: the serial of a refund in progress on a record of the show. -/
def refundOfShow (s : State) (sh : Nat) : Option Nat :=
  (s.salesUnit.refunds.find? (fun f => (findSale s f.serial).any (fun x => x.sh == sh))).map Refund.serial

/-- R153: the sales removal waits while a record of the show is in refund. -/
def salesRemovalOp (sh : Nat) (s : State) : State :=
  match removalAt s sh .sales, refundOfShow s sh with
  | some _, some serial => waitFor (.sale serial) (.salesRemoval sh) s
  | _, _ => salesRemovalNow sh s

/-- R17, step (2), R138: the removal of the show's voucher entries. -/
def voucherShowRemovalOp (sh : Nat) (s : State) : State :=
  match removalAt s sh .vouchers with
  | none => s
  | some x =>
    let list := vouchersOfShow s sh
    updRemoval x (some { x with step := .seats, vouchersRemoved := list.length }) (removeVouchers list s)

/-- R17, step (3), R43: the show's range cleared. -/
def seatRangeClearOp (sh : Nat) (s : State) : State :=
  match removalAt s sh .seats with
  | none => s
  | some x => updRemoval x (some { x with step := .finish }) (clearRange sh s)

/-- R17: the show record to its defaults, and DROP_SHOW completed. -/
def dropCompleteOp (sh : Nat) (s : State) : State :=
  match removalAt s sh .finish with
  | none => s
  | some x =>
    completeSlot x.slot .ok (leBytes 2 x.salesRemoved ++ leBytes 2 x.vouchersRemoved)
      (setShow sh (fun _ => ShowRec.empty) (updRemoval x none s))

end Sys2Proof.Machine
end

