-- ==== Sys2Proof/Machine/Board.lean ====
section
/-! DEFINITION. The board unit (Chapter 10): the register window, host writes, guarded state words, the decoder, the
coalescing deadline, and the two resets (R182, R186). -/

namespace Sys2Proof.Machine

/-! ### Resets (R20, R44, R69, R106, R126, R144, R155, R170, R182, R186) -/

/-- The levels at the sense inputs, kiosk by kiosk. -/
def inputLevels (s : State) : List (List Bool) := s.station.kiosks.map (fun k => k.senses.map Sense.present)

/-- R186, after power-on reset: everything at its reset value, the sense inputs as they stand (log entries 6, 24). -/
def powerOn (s : State) : State :=
  { State.reset with pending := s.pending, wire := s.wire, station := .atLevels (inputLevels s) }

/-- Whether an offset lies in the staging area. -/
def inStagingArea (a : Nat) : Bool := decide (Config.stagingBase ≤ a) && decide (a < Config.stagingBase + Config.stagingSize)

/-- R186, after soft reset: as after power-on, but that the clock record (R20), the statistics region and the host's staging
bytes (log entry 5) are kept. -/
def softResetOp (s : State) : State :=
  { powerOn s with
    stats := s.stats
    mem := s.mem.filter (fun e => inStagingArea e.1)
    showUnit := { ShowUnit.initial with clock := { s.showUnit.clock with changes := 0 } } }

/-! ### The register window (R171) -/

/-- R171: IDENT: part code 1216h, revision 01h, slot count 40h. -/
def identWord : Word32 := 0x40011216

/-- R181: whether either notice cause is set. -/
def causeSet (s : State) : Bool := s.board.completions || factorsCause s

/-- R171: the registers as a read finds them, by offset; RUNTIME reads are commands of their own. Offsets 18h to 1Fh, of which the
table says nothing, read 0 by the model's choice (log entry 32). -/
def readRegister (s : State) (off : Nat) : Word32 :=
  if off = 0x00 then identWord
  else if off = 0x04 then BitVec.ofNat 32 ((if running s then 1 else 0) + (if s.board.noticeEnable then 2 else 0))
  else if off = 0x08 then
    BitVec.ofNat 32 ((if s.board.completions then 1 else 0) + (if factorsCause s then 2 else 0) + 65536 * s.board.unnoticed)
  else 0

/-- R171: an 8-byte read of RUNTIME: one value of run time, bits 48-63 zero (log entry 26). -/
def readRuntime (s : State) : BitVec 64 := BitVec.ofNat 64 (nowOf s)

/-- R171, R181: a write to RUN. A 1 in bit 8 makes a soft reset; otherwise bit 1 is stored as the notice enable. A write with both sends
no message, as the reset leaves the enable and the causes clear: DESIGN CHOICE (log entry 47). -/
def runWrite (value : Word32) (s : State) : State :=
  if value.getLsbD 8 then softResetOp s
  else
    let t := { s with board := { s.board with noticeEnable := value.getLsbD 1 } }
    if !s.board.noticeEnable && value.getLsbD 1 && causeSet s then emit .interrupt t else t

/-- R180: a write to NOTICE. -/
def noticeWrite (s : State) : State :=
  { s with board := { s.board with completions := false, unnoticed := 0, coalescing := none } }

/-- R171: a 4-byte read at 10h: the low half, the high half of the same value latched. -/
def runtimeLow (s : State) : State :=
  emit (.readData (BitVec.ofNat 32 (nowOf s)))
    { s with board := { s.board with runtimeLatch := some (nowOf s / 4294967296) } }

/-- R171: a 4-byte read at 14h: the latched half, or the high half of the present value. -/
def runtimeHigh (s : State) : State :=
  emit (.readData (BitVec.ofNat 32 (s.board.runtimeLatch.getD (nowOf s / 4294967296))))
    { s with board := { s.board with runtimeLatch := none } }

/-! ### Guarded state words (R175, R178) -/

/-- R175: a board fault. -/
def boardFault (slot value : Nat) (s : State) : State :=
  raiseFactor .foyer ffBoardFault (addStat statBoardFault 1
    { s with board := { s.board with lastFault := some (slot, value % 256, slotAt s slot) } })

/-- The host tag of a slot copied into its echoed tag (R176, R178). -/
def echoTag (slot : Nat) (s : State) : State :=
  { s with mem := memWriteAll s.mem (slotBase slot + 0x7A) (memReadAll s.mem (slotBase slot + 0x58) 2) }

/-- R175: a host write to a whole state word. -/
def stateWordWrite (slot value : Nat) (s : State) : State :=
  match slotAt s slot with
  | .free =>
    if value = 1 then
      { s with board := { s.board with slots := s.board.slots.set slot .posted, posting := s.board.posting ++ [slot] } }
    else boardFault slot value s
  | .posted => if value = 4 then finish slot .withdrawn (echoTag slot s) else boardFault slot value s
  | .taken => if value = 4 then s else boardFault slot value s
  | .done =>
    if value = 0 then
      { s with board := { s.board with slots := s.board.slots.set slot .free, doneMark := s.board.doneMark.set slot false } }
    else boardFault slot value s

/-! ### Host writes to foyer memory (R172) -/

/-- What stands at an offset of the memory window, for a host write. -/
inductive Place where
  /-- a byte the host may write: slot parameters, tag and kind, and staging -/
  | stored
  /-- byte `i` of the state word of a slot -/
  | stateWord (slot i : Nat)
  /-- byte `i` of the mask of a cell -/
  | maskByte (cell : CellId) (i : Nat)
  /-- byte `i` of the acknowledge field of a cell -/
  | ackByte (cell : CellId) (i : Nat)
  /-- everything else -/
  | partOwned
  deriving DecidableEq, Repr

/-- The host-writable places of a work slot (R174). -/
def slotPlace (a : Nat) : Place :=
  let o := a % 128
  if o < 0x5B then .stored else if o < 0x7C then .partOwned else .stateWord (a / 128) (o - 0x7C)

/-- The host-writable places of the kiosk cells: mask at 06h, acknowledge at 08h (10.6). -/
def kioskPlace (a : Nat) : Place :=
  let o := a % 256
  let cell := kioskCell (a / 256)
  if o = 6 ∨ o = 7 then .maskByte cell (o - 6) else if o = 8 ∨ o = 9 then .ackByte cell (o - 8) else .partOwned

/-- The host-writable places of the counter cells: mask at 09h, acknowledge at 0Ah (10.6). -/
def counterPlace (a : Nat) : Place :=
  let o := a % 128
  let cell := counterCell (a / 128)
  if o = 9 then .maskByte cell 0 else if o = 10 then .ackByte cell 0 else .partOwned

/-- R172: the place at an offset. In the foyer cell the mask stands at 03h and the acknowledge field at 04h, as the FREE count takes
one byte there: DESIGN CHOICE, since 10.6 says that a count is 2 bytes and that a number of 0 to 255 is 1 byte (log entry 41). -/
def placeAt (a : Nat) : Place :=
  if a < 0x2000 then slotPlace a
  else if inStagingArea a then .stored
  else if 0x2800 ≤ a ∧ a < 0x3400 then kioskPlace (a - 0x2800)
  else if 0x3400 ≤ a ∧ a < 0x3600 then counterPlace (a - 0x3400)
  else if a = 0x3603 then .maskByte .foyer 0
  else if a = 0x3604 then .ackByte .foyer 0
  else .partOwned

/-- The bytes a unit covers, each with its offset. -/
def covered : Nat → List (Option Byte) → List (Nat × Byte)
  | _, [] => []
  | a, some b :: rest => (a, b) :: covered (a + 1) rest
  | a, none :: rest => covered (a + 1) rest

/-- The bytes of a unit that fall on stored places are stored. -/
def storeBytes (l : List (Nat × Byte)) (s : State) : State :=
  { s with mem := l.foldl (fun m e => if placeAt e.1 = .stored then memWrite m e.1 e.2 else m) s.mem }

/-- R172: a unit that touches a part-owned place is counted, and its offset recorded (log entry 17). -/
def countStray (off : Nat) (l : List (Nat × Byte)) (s : State) : State :=
  if l.any (fun e => placeAt e.1 == .partOwned) then
    addStat statStray 1 { s with board := { s.board with lastStray := some off } }
  else s

/-- The slot whose state word a unit covers, in whole or in part. -/
def stateWordOf (l : List (Nat × Byte)) : Option Nat :=
  l.findSome? (fun e => match placeAt e.1 with
    | .stateWord slot _ => some slot
    | _ => none)

/-- R175: a unit's write to a state word: whole, it is a guarded transition; in part, a board fault (log entry 20). -/
def stateWordUnit (lanes : List (Option Byte)) (l : List (Nat × Byte)) (s : State) : State :=
  match stateWordOf l with
  | none => s
  | some slot =>
    if lanes.all Option.isSome then stateWordWrite slot (leValue (l.map Prod.snd)) s
    else boardFault slot ((lanes.headD none).getD 0).toNat s

/-- Byte `i` of a 16-bit field replaced. -/
def withByte (w : FactorSet) (i : Nat) (b : Byte) : FactorSet :=
  if i = 0 then (w &&& 0xFF00) ||| b.setWidth 16 else (w &&& 0x00FF) ||| (b.setWidth 16 <<< 8)

/-- The cell whose mask a unit writes, and the mask its bytes make of the one that stands. -/
def maskUnit (l : List (Nat × Byte)) (s : State) : Option (CellId × FactorSet) :=
  l.foldl (fun acc e => match placeAt e.1 with
    | .maskByte cell i => some (cell, withByte ((acc.map Prod.snd).getD (maskOf s cell)) i e.2)
    | _ => acc) none

/-- The cell whose acknowledge field a unit writes, and the factors its bytes name. -/
def ackUnit (l : List (Nat × Byte)) : Option (CellId × FactorSet) :=
  l.foldl (fun acc e => match placeAt e.1 with
    | .ackByte cell i => some (cell, withByte ((acc.map Prod.snd).getD 0) i e.2)
    | _ => acc) none

/-- R159: the mask of a unit is written before its acknowledge field is taken (log entry 19). -/
def stationUnitWrite (l : List (Nat × Byte)) (s : State) : State :=
  let t := match maskUnit l s with
    | some (cell, value) => writeMask cell value s
    | none => s
  match ackUnit l with
  | some (cell, value) => acknowledge cell value t
  | none => t

/-- R172: one aligned 4-byte unit of a host write. -/
def hostUnit (off : Nat) (lanes : List (Option Byte)) (s : State) : State :=
  let l := covered off lanes
  stationUnitWrite l (stateWordUnit lanes l (countStray off l (storeBytes l s)))

/-! ### The decoder (R176, R177) -/

/-- R177: whether a basket has a PAY or SETTLE in flight. -/
def basketInFlight (s : State) (b : Nat) : Bool := (s.board.inflight.getD b none).isSome

/-- R176: the checks of a take, in order: the kind taken, or the code of the refusal. -/
def takeCheck (s : State) (code b : Nat) : Except ResultCode RequestKind :=
  match kindOfCode code with
  | none => .error .badKind
  | some k =>
    if !running s && !takenUnconfigured k then .error .notConfigured
    else if namesBasket k && k != .cancelPay && basketInFlight s b then .error .basketBusy
    else .ok k

/-- R177: whether a kind sets its basket's in-flight entry. -/
def setsInFlight (k : RequestKind) : Bool := k == .pay || k == .settle

/-- R176: the decoder takes the oldest posted slot. The echoed tag is written at the take, as R176 says, although R174 keeps it
until the slot next completes: the model's choice between the two (log entry 31). -/
def decoderTakeOp (s : State) : State :=
  match s.board.posting with
  | [] => s
  | slot :: rest =>
    let params := memReadAll s.mem (slotBase slot) 88
    let b := leValue (params.take 1)
    let t := echoTag slot { s with board := { s.board with posting := rest } }
    match takeCheck s (memRead s.mem (slotBase slot + 0x5A)).toNat b with
    | .error code => finish slot code t
    | .ok k =>
      { t with board := { t.board with
        slots := t.board.slots.set slot .taken
        inflight := if setsInFlight k then t.board.inflight.set b (some slot) else t.board.inflight
        handed := t.board.handed ++ [{ slot := slot, kind := k, params := params }] } }

/-- R180: the coalescing deadline falls due. -/
def coalescingOp (s : State) : State := if dueNow (nowOf s) s.board.coalescing then setCompletions s else s

end Sys2Proof.Machine
end

