-- ==== Sys2Proof/Machine/Configure.lean ====
section
/-! DEFINITION. CONFIGURE and CLEAR_COUNTS (Chapter 11): the configuration record, its structural faults and clamps, and the
share each unit takes of it. -/

namespace Sys2Proof.Machine

/-! ### The record in staging (10.6) -/

/-- The length of the configuration record: 22 bytes of fields, 12 lines of 3, 12 links of 2, 4 counters of 4, 16 kinds of 32. -/
def recordSize : Nat := 610

/-- Where the groups of the record begin. -/
def linesOffset : Nat := 22
def linksOffset : Nat := 58
def countersOffset : Nat := 82
def kindsOffset : Nat := 98

/-- A field of `n` bytes of a record. -/
def fieldAt (rec : List Byte) (off n : Nat) : Nat := leValue ((rec.drop off).take n)

/-- The parameters of terminal line n. -/
def lineParamsAt (rec : List Byte) (n : Nat) : LineParams :=
  let o := linesOffset + 3 * n
  ⟨fieldAt rec o 1, fieldAt rec (o + 1) 1, fieldAt rec (o + 2) 1⟩

/-- The parameters of printer link n. -/
def linkParamsAt (rec : List Byte) (n : Nat) : LinkParams :=
  let o := linksOffset + 2 * n
  ⟨fieldAt rec o 1, fieldAt rec (o + 1) 1⟩

/-- The parameters and the enable of counter line m. -/
def counterParamsAt (rec : List Byte) (m : Nat) : LineParams × Bool :=
  let o := countersOffset + 4 * m
  (⟨fieldAt rec o 1, fieldAt rec (o + 1) 1, fieldAt rec (o + 2) 1⟩, fieldAt rec (o + 3) 1 == 1)

/-- The bytes of voucher kind n of the record. -/
def kindBytesAt (rec : List Byte) (n : Nat) : List Byte := (rec.drop (kindsOffset + 32 * n)).take 32

/-- A voucher kind from its 32 bytes: name, V, slip template. -/
def kindOfBytes (b : List Byte) : VoucherKind :=
  { name := textOf (b.take 16), price := fieldAt b 16 2, template := fieldAt b 18 1 }

/-! ### Structural faults (R184) -/

/-- R184: the faults of a serial line's parameters, each with the offset of its field. -/
def lineFaults (rec : List Byte) (o : Nat) : List (Nat × Bool) :=
  [(o, decide (4 < fieldAt rec o 1)), (o + 1, decide (2 < fieldAt rec (o + 1) 1)),
   (o + 2, fieldAt rec (o + 2) 1 != 1 && fieldAt rec (o + 2) 1 != 2)]

/-- R184: the faults of a printer link's parameters. -/
def linkFaults (rec : List Byte) (o : Nat) : List (Nat × Bool) :=
  [(o, decide (3 < fieldAt rec o 1)), (o + 1, decide (1 < fieldAt rec (o + 1) 1))]

/-- R184: the faults of a voucher kind. -/
def kindFaults (rec : List Byte) (o : Nat) : List (Nat × Bool) :=
  [(o, !(textOf ((rec.drop o).take 16)).all isPrintable), (o + 16, decide (20000 < fieldAt rec (o + 16) 2)),
   (o + 18, decide (31 < fieldAt rec (o + 18) 1))]

/-- R184: every field that can carry a structural fault, in record order. -/
def structuralFaults (rec : List Byte) : List (Nat × Bool) :=
  [(0, decide (99 < fieldAt rec 0 1)), (9, fieldAt rec 9 3 == 0 || decide (999999 < fieldAt rec 9 3)),
   (12, decide (300 < fieldAt rec 12 2)), (14, fieldAt rec 14 1 == 0 || decide (10 < fieldAt rec 14 1)),
   (15, fieldAt rec 15 1 == 0 || decide (6 < fieldAt rec 15 1)), (16, decide (50 < fieldAt rec 16 1)),
   (17, decide (1 < fieldAt rec 17 1))]
  ++ (List.range 12).flatMap (fun n => lineFaults rec (linesOffset + 3 * n))
  ++ (List.range 12).flatMap (fun n => linkFaults rec (linksOffset + 2 * n))
  ++ (List.range 4).flatMap (fun m => lineFaults rec (countersOffset + 4 * m)
      ++ [(countersOffset + 4 * m + 3, decide (1 < fieldAt rec (countersOffset + 4 * m + 3) 1))])
  ++ (List.range 16).flatMap (fun n => kindFaults rec (kindsOffset + 32 * n))

/-- R184, check (3): the offset of the first faulty field. -/
def firstFault (rec : List Byte) : Option Nat := ((structuralFaults rec).find? Prod.snd).map Prod.fst

/-! ### Clamping (R185) -/

/-- R185: a value taken to the nearer limit of its range. -/
def clampTo (lo hi v : Nat) : Nat := if v < lo then lo else if hi < v then hi else v

/-- R185: the clamped fields in the order of their mark bits: the value read and the limits. -/
def clampedFields (rec : List Byte) : List (Nat × Nat × Nat) :=
  [(fieldAt rec 1 2, 30, 900), (fieldAt rec 3 2, 30, 300), (fieldAt rec 5 1, 30, 180), (fieldAt rec 6 2, 10, 300),
   (fieldAt rec 8 1, 0, 240), (fieldAt rec 18 1, 0, 8), (fieldAt rec 19 1, 1, 32), (fieldAt rec 21 1, 1, 10)]

/-- Which of the clamped fields were out of range. -/
def clampMarks (rec : List Byte) : List Bool := (clampedFields rec).map (fun x => clampTo x.2.1 x.2.2 x.1 != x.1)

/-- Bits as a number, bit 0 first. -/
def bitsValue : List Bool → Nat
  | [] => 0
  | b :: rest => (if b then 1 else 0) + 2 * bitsValue rest

/-- R184, R185: the configuration a record gives, clamped. -/
def configurationOf (rec : List Byte) : Configuration :=
  { site := fieldAt rec 0 1, holdTime := clampTo 30 900 (fieldAt rec 1 2), retryGrace := clampTo 30 300 (fieldAt rec 3 2)
    authTimeout := clampTo 30 180 (fieldAt rec 5 1), collectTimeout := clampTo 10 300 (fieldAt rec 6 2)
    voucherGrace := clampTo 0 240 (fieldAt rec 8 1), ceiling := fieldAt rec 9 3, taxRate := fieldAt rec 12 2
    comboSeats := fieldAt rec 14 1, comboVouchers := fieldAt rec 15 1, comboPercent := fieldAt rec 16 1
    receipts := fieldAt rec 17 1 == 1, lowWater := clampTo 0 8 (fieldAt rec 18 1), threshold := clampTo 1 32 (fieldAt rec 19 1)
    delay := fieldAt rec 20 1, answerTime := clampTo 1 10 (fieldAt rec 21 1)
    lines := (List.range 12).map (lineParamsAt rec), links := (List.range 12).map (linkParamsAt rec)
    counters := (List.range 4).map (counterParamsAt rec) }

/-! ### Shares (R185) -/

/-- Whether a unit's parameters start or change: no configuration was in force, or another value was. -/
def changed {α : Type} [DecidableEq α] (old : Option Configuration) (c : Configuration) (f : Configuration → List α) (n : Nat) :
    Bool :=
  match old with
  | none => true
  | some o => (f o)[n]? != (f c)[n]?

/-- R93: a terminal line started or restarted. -/
def restartLine (n : Nat) (s : State) : State :=
  updLine n (fun x => enterState (nowOf s) .down (outsideFrame (stopWaits x))) (endReverse n .terminalFault s)

/-- R139: a counter's receiver started or restarted with an empty code. -/
def restartReceiver (m : Nat) (s : State) : State := setReceiver m emptyCode s

/-- R139: whether a configuration enables a counter. -/
def enables (c : Configuration) (m : Nat) : Bool := (c.counters[m]?).any Prod.snd

/-- R139: a counter cell's enabled field; a counter that is disabled answers no code handed on before. -/
def writeEnabled (c : Configuration) (m : Nat) (s : State) : State :=
  updCounter m (fun x => { x with enabled := enables c m })
    (if enables c m then s else setReceiver m (fun r => { r with scanned := [] }) s)

/-- R185: the units' shares of a record put in force over `old`. A printer link is restarted at once, also while a sale check is open on its
queue: DESIGN CHOICE (log entry 49). -/
def takeShares (old : Option Configuration) (c : Configuration) (kinds : List VoucherKind) (s : State) : State :=
  let t := { s with showUnit := { s.showUnit with kinds := kinds } }
  let t := forEach ((List.range 12).filter (changed old c Configuration.lines)) restartLine t
  let t := forEach ((List.range 12).filter (changed old c Configuration.links)) restartPrinter t
  let t := forEach ((List.range 4).filter (changed old c Configuration.counters)) restartReceiver t
  let t := forEach (List.range 4) (writeEnabled c) t
  writeSupply t

/-- R184: the checks of CONFIGURE, in order; a fault carries the offset of its field. -/
def configureRefusal (s : State) (off : Nat) : Option (ResultCode × List Byte) :=
  if inStaging off recordSize = false then some (.badParameter, [])
  else if running s && !(s.basketUnit.baskets.all (fun c => c.state == .free) && s.print.printers.all (fun p => p.queue == [])) then
    some (.wrongState, [])
  else (firstFault (stagingBytes s off recordSize)).map (fun o => (.badParameter, leBytes 2 o))

/-- R184, R185: CONFIGURE. The shares of R185 are made before the completion, so that CONFIGURE's own completion, and that of a
REVERSE its share ends, is served with the new threshold and delay: DESIGN CHOICE (log entry 38). -/
def configureOp (r : Request) (s : State) : State :=
  let off := param2 r 0
  match configureRefusal s off with
  | some (code, fields) => completeSlot r.slot code fields s
  | none =>
    let bytes := stagingBytes s off recordSize
    let c := configurationOf bytes
    let kinds := (List.range 16).map (fun n => kindOfBytes (kindBytesAt bytes n))
    let marks := clampMarks bytes
    completeSlot r.slot .ok (leBytes 1 (marks.filter id).length ++ leBytes 1 (bitsValue marks))
      (takeShares s.config c kinds { s with config := some c })

/-- R188: CLEAR_COUNTS. -/
def clearCountsOp (r : Request) (s : State) : State :=
  completeSlot r.slot .ok (leBytes 6 (nowOf s)) { s with stats := [] }

end Sys2Proof.Machine
end

