-- ==== Sys2Proof/Machine/Waiting.lean ====
section
/-! DEFINITION. Events that waited: how each is taken once what it waited for is over (R29, R47, R124, R153), and the
requests' own taking, shared with it. -/

namespace Sys2Proof.Machine

/-- A request taken by its owner, or made to wait by a call, a sale check or a refund. -/
def takeRequest (r : Request) (s : State) : State :=
  match r.kind with
  | .setClock => setClockOp r s
  | .loadShow => loadShowOp r s
  | .setPrices => setPricesOp r s
  | .closeSale => closeSaleOp r s
  | .dropShow => dropShowOp r s
  | .blockSeats => blockSeatsOp r s
  | .unblockSeats => unblockSeatsOp r s
  | .holdSeats => basketRequest r (holdSeatsNow r) s
  | .releaseSeats => basketRequest r (releaseSeatsNow r) s
  | .openBasket => openBasketOp r s
  | .addVoucher => basketRequest r (addVoucherNow r) s
  | .dropVoucher => basketRequest r (dropVoucherNow r) s
  | .quote => basketRequest r (quoteNow r) s
  | .pay => basketRequest r (payNow r) s
  | .settle => basketRequest r (settleNow r) s
  | .abandon => basketRequest r (abandonNow r) s
  | .retire => basketRequest r (retireNow r) s
  | .cancelPay => cancelPayOp r s
  | .reverse => reverseOp r s
  | .loadTemplate => loadTemplateOp r s
  | .reprint => reprintOp r s
  | .redirect => redirectOp r s
  | .resumePrinter => resumeOp r s
  | .voidVoucher => voidVoucherOp r s
  | .refund => refundTake r s
  | .resetStation => resetStationOp r s
  | .setSense => setSenseOp r s
  | .setPattern => setPatternOp r s
  | .setBinding => setBindingOp r s
  | .setLamp => setLampOp r s
  | .configure => configureOp r s
  | .clearCounts => clearCountsOp r s

/-- A waiting event taken; it finds the state as the event before it left it. -/
def takeWaiting (e : WaitEvent) (s : State) : State :=
  match e with
  | .request r => takeRequest r s
  | .holdDeadline b => holdDeadlineOp b s
  | .leftSale b => whenFree (.basket b) (.leftSale b) (leftSaleNow b) s
  | .status p byte => statusMoveOp p byte s
  | .absence p => absenceOp p s
  | .returned p byte => returnOp p byte s
  | .cutDeadline p => cutDeadlineOp p s
  | .pull p => pullOp p s
  | .printerReset k => printerResetOp k s
  | .saleCheck p => saleCheckOp p s
  | .salesRemoval sh => salesRemovalOp sh s

/-- The first event waiting for a resource, and the others. -/
def nextWaiting (r : Resource) : List (Resource × WaitEvent) → Option (WaitEvent × List (Resource × WaitEvent))
  | [] => none
  | (q, e) :: rest =>
    if q = r then some (e, rest)
    else match nextWaiting r rest with
      | some (x, others) => some (x, (q, e) :: others)
      | none => none

/-- The events waiting for a resource are taken in the order in which they reached it, until one makes it busy again. -/
def drainFor (r : Resource) : Nat → State → State
  | 0, s => s
  | n + 1, s =>
    if busy s r then s
    else match nextWaiting r s.waiting with
      | none => s
      | some (e, others) => drainFor r n (takeWaiting e { s with waiting := others })

/-- R29, R124, R153: a resource has come free. -/
def drain (r : Resource) (s : State) : State := drainFor r s.waiting.length s

end Sys2Proof.Machine
end

