-- ==== Sys2Proof/Machine/Calls.lean ====
section
/-! DEFINITION. The events that end a wait, each with the taking of what waited: the answers to calls (R29, R47), the end of
a sale check (R124), the writing of a refund (R153); and the last share of RESET_STATION. -/

namespace Sys2Proof.Machine

/-- R29: the hold event, and the events that waited for its call. -/
def holdEventClose (b : Nat) (s : State) : State := drain (.basket b) (holdEventOp b s)

/-- R36: the release event, and the events that waited for its call. -/
def releaseEventClose (b : Nat) (s : State) : State := drain (.basket b) (releaseEventOp b s)

/-- R53: the issue, and the events that waited for its call. -/
def voucherIssueClose (b : Nat) (s : State) : State := drain (.basket b) (voucherIssueOp b s)

/-- R54: the removal, and the events that waited for its call. -/
def voucherRemovalClose (b : Nat) (s : State) : State := drain (.basket b) (voucherRemovalOp b s)

/-- R124: the sale check; a refusal closes it, and what waited for the queue is taken. -/
def saleCheckClose (p : Nat) (s : State) : State := drain (.printer p) (saleCheckOp p s)

/-- R124: the items enter, or are refused, and what waited for the queue is taken. -/
def reprintEnterClose (p : Nat) (s : State) : State := drain (.printer p) (reprintEnterNow p s)

/-- R153: the refund is written; what waited for the record is taken, and then what waited for a queue whose sale check that
closed. -/
def refundCompleteClose (serial : Nat) (s : State) : State :=
  forEach (List.range 12) (fun p => drain (.printer p)) (drain (.sale serial) (refundWrite serial s))

/-- R169, share (3): made when the other two have been made; RESET_STATION then completes. -/
def stationCellResetOp (k : Nat) (s : State) : State :=
  match s.station.resets.find? (fun r => r.kiosk == k && r.printerDone) with
  | none => s
  | some r =>
    finish r.slot .ok (stationShare k { s with station := { s.station with resets := s.station.resets.erase r } })

end Sys2Proof.Machine
end

