-- ==== Sys2Proof/Machine/ExecBaskets.lean ====
section
/-! DEFINITION. The meanings of the commands of seats and baskets (Chapters 2 and 3). Each meaning is one event of the unit that owns it. -/

namespace Sys2Proof.Machine

/-- BLOCK_SEATS (R40). -/
def execBlockSeats (s : State) : Host.Outcome State Fault Refusal :=
  .next (withRequest .blockSeats (fun r => blockSeatsOp r) s)

/-- UNBLOCK_SEATS (R41). -/
def execUnblockSeats (s : State) : Host.Outcome State Fault Refusal :=
  .next (withRequest .unblockSeats (fun r => unblockSeatsOp r) s)

/-- HOLD_SEATS (R29). -/
def execHoldSeats (s : State) : Host.Outcome State Fault Refusal :=
  .next (withRequest .holdSeats (fun r => basketRequest r (holdSeatsNow r)) s)

/-- HOLD_EVENT (R30). -/
def execHoldEvent (basket : Fin 24) (s : State) : Host.Outcome State Fault Refusal :=
  .next (holdEventClose basket s)

/-- RELEASE_SEATS (R35). -/
def execReleaseSeats (s : State) : Host.Outcome State Fault Refusal :=
  .next (withRequest .releaseSeats (fun r => basketRequest r (releaseSeatsNow r)) s)

/-- RELEASE_EVENT (R36). -/
def execReleaseEvent (basket : Fin 24) (s : State) : Host.Outcome State Fault Refusal :=
  .next (releaseEventClose basket s)

/-- OPEN_BASKET (R48). -/
def execOpenBasket (s : State) : Host.Outcome State Fault Refusal :=
  .next (withRequest .openBasket (fun r => openBasketOp r) s)

/-- ADD_VOUCHER (R53). -/
def execAddVoucher (s : State) : Host.Outcome State Fault Refusal :=
  .next (withRequest .addVoucher (fun r => basketRequest r (addVoucherNow r)) s)

/-- VOUCHER_ISSUE (R133). -/
def execVoucherIssue (basket : Fin 24) (s : State) : Host.Outcome State Fault Refusal :=
  .next (voucherIssueClose basket s)

/-- DROP_VOUCHER (R54). -/
def execDropVoucher (s : State) : Host.Outcome State Fault Refusal :=
  .next (withRequest .dropVoucher (fun r => basketRequest r (dropVoucherNow r)) s)

/-- VOUCHER_REMOVAL (R134). -/
def execVoucherRemoval (basket : Fin 24) (s : State) : Host.Outcome State Fault Refusal :=
  .next (voucherRemovalClose basket s)

/-- QUOTE (R78). -/
def execQuote (s : State) : Host.Outcome State Fault Refusal :=
  .next (withRequest .quote (fun r => basketRequest r (quoteNow r)) s)

/-- PAY (R56). -/
def execPay (s : State) : Host.Outcome State Fault Refusal :=
  .next (withRequest .pay (fun r => basketRequest r (payNow r)) s)

/-- PAYMENT_OUTCOME (R60). -/
def execPaymentOutcome (basket : Fin 24) (s : State) : Host.Outcome State Fault Refusal :=
  .next (paymentOutcomeOp basket s)

/-- SETTLE (R63). -/
def execSettle (s : State) : Host.Outcome State Fault Refusal :=
  .next (withRequest .settle (fun r => basketRequest r (settleNow r)) s)

/-- ABANDON (R55). -/
def execAbandon (s : State) : Host.Outcome State Fault Refusal :=
  .next (withRequest .abandon (fun r => basketRequest r (abandonNow r)) s)

/-- RETIRE (R68). -/
def execRetire (s : State) : Host.Outcome State Fault Refusal :=
  .next (withRequest .retire (fun r => basketRequest r (retireNow r)) s)

/-- HOLD_DEADLINE (R51). -/
def execHoldDeadline (basket : Fin 24) (s : State) : Host.Outcome State Fault Refusal :=
  .next (holdDeadlineOp basket s)

/-- SHOW_LEFT_SALE (R52). -/
def execShowLeftSale (sh : Fin 48) (s : State) : Host.Outcome State Fault Refusal :=
  .next (showLeftSaleOp sh s)

/-- MOVE_TO_COLLECT (R65). -/
def execMoveToCollect (basket : Fin 24) (s : State) : Host.Outcome State Fault Refusal :=
  .next (moveToCollectOp basket s)

/-- CHUTE_CLEARED (R66). -/
def execChuteCleared (kiosk : Fin 12) (s : State) : Host.Outcome State Fault Refusal :=
  .next (chuteClearedOp kiosk s)

/-- COLLECT_DEADLINE (R67). -/
def execCollectDeadline (basket : Fin 24) (s : State) : Host.Outcome State Fault Refusal :=
  .next (collectDeadlineOp basket s)

end Sys2Proof.Machine
end

