-- ==== Sys2Proof/Machine/ExecBoard.lean ====
section
/-! DEFINITION. The meanings of the commands of the register window, the work board, the resets and the configuration (Chapters 10 and 11). Each meaning is one event of the unit that owns it. -/

namespace Sys2Proof.Machine

/-- POWER_ON_RESET (R186). -/
def execPowerOnReset (s : State) : Host.Outcome State Fault Refusal :=
  .next (powerOn s)

/-- SOFT_RESET (R186). -/
def execSoftReset (s : State) : Host.Outcome State Fault Refusal :=
  .next (softResetOp s)

/-- NOTICE_ENABLE_WRITE (R171). -/
def execNoticeEnableWrite (value : Word32) (s : State) : Host.Outcome State Fault Refusal :=
  .next (runWrite value s)

/-- NOTICE_ACKNOWLEDGE (R180). -/
def execNoticeAcknowledge (s : State) : Host.Outcome State Fault Refusal :=
  .next (noticeWrite s)

/-- RUNTIME_LOW_READ (R171). -/
def execRuntimeLowRead (s : State) : Host.Outcome State Fault Refusal :=
  .next (runtimeLow s)

/-- RUNTIME_HIGH_READ (R171). -/
def execRuntimeHighRead (s : State) : Host.Outcome State Fault Refusal :=
  .next (runtimeHigh s)

/-- REGISTER_WRITE_IGNORED (R171). -/
def execRegisterWriteIgnored (_reg : IgnoredRegister) (_value : Word32) (s : State) : Host.Outcome State Fault Refusal :=
  .next s

/-- HOST_WRITE_UNIT (R172): one aligned 4-byte unit of a host write. No unit lies outside the window, and none is otherwise shaped. -/
def execHostWriteUnit (offset : Nat) (lanes : List (Option Byte)) (s : State) : Host.Outcome State Fault Refusal :=
  if Config.windowSize ≤ offset then .fault .outsideWindow
  else if offset % 4 ≠ 0 ∨ lanes.length ≠ 4 then .refused .illFormedUnit
  else .next (hostUnit offset lanes s)

/-- POSTING_WRITE (R175). -/
def execPostingWrite (slot : Fin 64) (s : State) : Host.Outcome State Fault Refusal :=
  .next (stateWordWrite slot 1 s)

/-- WITHDRAWAL (R178). -/
def execWithdrawal (slot : Fin 64) (s : State) : Host.Outcome State Fault Refusal :=
  .next (stateWordWrite slot 4 s)

/-- FREE_WRITE (R175). -/
def execFreeWrite (slot : Fin 64) (s : State) : Host.Outcome State Fault Refusal :=
  .next (stateWordWrite slot 0 s)

/-- MASK_WRITE (R159). -/
def execMaskWrite (cell : CellId) (value : FactorSet) (s : State) : Host.Outcome State Fault Refusal :=
  .next (writeMask cell value s)

/-- ACKNOWLEDGE_WRITE (R159). -/
def execAcknowledgeWrite (cell : CellId) (value : FactorSet) (s : State) : Host.Outcome State Fault Refusal :=
  .next (acknowledge cell value s)

/-- DECODER_TAKE (R176). -/
def execDecoderTake (s : State) : Host.Outcome State Fault Refusal :=
  .next (decoderTakeOp s)

/-- COALESCING_DEADLINE (R180). -/
def execCoalescingDeadline (s : State) : Host.Outcome State Fault Refusal :=
  .next (coalescingOp s)

/-- CONFIGURE (R184). -/
def execConfigure (s : State) : Host.Outcome State Fault Refusal :=
  .next (withRequest .configure (fun r => configureOp r) s)

/-- CLEAR_COUNTS (R188). -/
def execClearCounts (s : State) : Host.Outcome State Fault Refusal :=
  .next (withRequest .clearCounts (fun r => clearCountsOp r) s)

end Sys2Proof.Machine
end

