-- ==== Sys2Proof/Machine/ExecCounters.lean ====
section
/-! DEFINITION. The meanings of the commands of vouchers, counter lines and refunds (Chapters 7 and 8). Each meaning is one event of the unit that owns it. -/

namespace Sys2Proof.Machine

/-- VOID_VOUCHER (R136). -/
def execVoidVoucher (s : State) : Host.Outcome State Fault Refusal :=
  .next (withRequest .voidVoucher (fun r => voidVoucherOp r) s)

/-- REFUND (R150). -/
def execRefund (s : State) : Host.Outcome State Fault Refusal :=
  .next (withRequest .refund (fun r => refundTake r) s)

/-- REFUND_FREEING (R39). -/
def execRefundFreeing (serial : Nat) (s : State) : Host.Outcome State Fault Refusal :=
  .next (refundFreeingOp serial s)

/-- REFUND_VOUCHER_STEP (R137). -/
def execRefundVoucherStep (serial : Nat) (s : State) : Host.Outcome State Fault Refusal :=
  .next (refundVoucherOp serial s)

/-- REFUND_COMPLETE (R151). -/
def execRefundComplete (serial : Nat) (s : State) : Host.Outcome State Fault Refusal :=
  .next (refundCompleteClose serial s)

/-- COUNTER_BYTE (R140). -/
def execCounterByte (counter : Fin 4) (byte : Byte) (s : State) : Host.Outcome State Fault Refusal :=
  .next (counterByteOp counter byte s)

/-- COUNTER_BYTE_FAULT (R140). -/
def execCounterByteFault (counter : Fin 4) (kind : ByteFault) (s : State) : Host.Outcome State Fault Refusal :=
  .next (counterFaultOp counter kind s)

/-- COUNTER_GAP_TIMEOUT (R140). -/
def execCounterGapTimeout (counter : Fin 4) (s : State) : Host.Outcome State Fault Refusal :=
  .next (counterGapOp counter s)

/-- VALIDATION (R141). -/
def execValidation (counter : Fin 4) (s : State) : Host.Outcome State Fault Refusal :=
  .next (validationOp counter s)

/-- ANSWER_DEADLINE (R167). -/
def execAnswerDeadline (counter : Fin 4) (s : State) : Host.Outcome State Fault Refusal :=
  .next (answerExpires counter s)

end Sys2Proof.Machine
end

