-- ==== Sys2Proof/Machine/ExecPayment.lean ====
section
/-! DEFINITION. The meanings of the commands of the terminal lines (Chapter 5). Each meaning is one event of the unit that owns it. -/

namespace Sys2Proof.Machine

/-- CANCEL_PAY (R99). -/
def execCancelPay (s : State) : Host.Outcome State Fault Refusal :=
  .next (withRequest .cancelPay (fun r => cancelPayOp r) s)

/-- REVERSE (R103). -/
def execReverse (s : State) : Host.Outcome State Fault Refusal :=
  .next (withRequest .reverse (fun r => reverseOp r) s)

/-- TERMINAL_BYTE_FAULT (R85). -/
def execTerminalByteFault (line : Fin 12) (kind : ByteFault) (s : State) : Host.Outcome State Fault Refusal :=
  .next (lineFaultOp line kind s)

/-- FRAME_GAP_TIMEOUT (R86). -/
def execFrameGapTimeout (line : Fin 12) (s : State) : Host.Outcome State Fault Refusal :=
  .next (lineGapOp line s)

/-- BAD_FRAME (R86). -/
def execBadFrame (line : Fin 12) (bytes : List Byte) (s : State) : Host.Outcome State Fault Refusal :=
  .next (bytesArrive line bytes s)

/-- ACK (R88). -/
def execAck (line : Fin 12) (s : State) : Host.Outcome State Fault Refusal :=
  .next (bytesArrive line [ackByte] s)

/-- NAK (R88). -/
def execNak (line : Fin 12) (s : State) : Host.Outcome State Fault Refusal :=
  .next (bytesArrive line [nakByte] s)

/-- ACK_WAIT_TIMEOUT (R88). -/
def execAckWaitTimeout (line : Fin 12) (s : State) : Host.Outcome State Fault Refusal :=
  .next (ackWaitOp line s)

/-- CARD (R97). -/
def execCard (line : Fin 12) (tag : Byte) (cardKind : Byte) (s : State) : Host.Outcome State Fault Refusal :=
  .next (frameArrives line ⟨fkCard, tag, [cardKind]⟩ s)

/-- RESULT (R97). -/
def execResult (line : Fin 12) (tag : Byte) (verdict : Byte) (code : List Byte) (tail : List Byte) (s : State) : Host.Outcome State Fault Refusal :=
  .next (frameArrives line ⟨fkResult, tag, verdict :: code ++ tail⟩ s)

/-- ABORT_DONE (R100). -/
def execAbortDone (line : Fin 12) (tag : Byte) (byte : Byte) (s : State) : Host.Outcome State Fault Refusal :=
  .next (frameArrives line ⟨fkAbortDone, tag, [byte]⟩ s)

/-- REVERSE_DONE (R104). -/
def execReverseDone (line : Fin 12) (tag : Byte) (verdict : Byte) (s : State) : Host.Outcome State Fault Refusal :=
  .next (frameArrives line ⟨fkReverseDone, tag, [verdict]⟩ s)

/-- PONG (R91). -/
def execPong (line : Fin 12) (tag : Byte) (status : Byte) (s : State) : Host.Outcome State Fault Refusal :=
  .next (frameArrives line ⟨fkPong, tag, [status]⟩ s)

/-- FAULT (R92). -/
def execFault (line : Fin 12) (tag : Byte) (code : Byte) (s : State) : Host.Outcome State Fault Refusal :=
  .next (frameArrives line ⟨fkFault, tag, [code]⟩ s)

/-- PING_TIMER (R91). -/
def execPingTimer (line : Fin 12) (s : State) : Host.Outcome State Fault Refusal :=
  .next (pingTimerOp line s)

/-- AUTH_TIMEOUT (R98). -/
def execAuthTimeout (line : Fin 12) (s : State) : Host.Outcome State Fault Refusal :=
  .next (authTimeoutOp line s)

/-- ABORT_WAIT_TIMEOUT (R100). -/
def execAbortWaitTimeout (line : Fin 12) (s : State) : Host.Outcome State Fault Refusal :=
  .next (abortWaitOp line s)

/-- REVERSE_WAIT_TIMEOUT (R104). -/
def execReverseWaitTimeout (line : Fin 12) (s : State) : Host.Outcome State Fault Refusal :=
  .next (reverseWaitOp line s)

/-- FRAME_OF_UNKNOWN_KIND (R87). -/
def execFrameOfUnknownKind (line : Fin 12) (kind : Byte) (tag : Byte) (payload : List Byte) (s : State) : Host.Outcome State Fault Refusal :=
  .next (frameArrives line ⟨kind, tag, payload⟩ s)

end Sys2Proof.Machine
end

