-- ==== Sys2Proof/Machine/ExecPrinting.lean ====
section
/-! DEFINITION. The meanings of the commands of the printers (Chapter 6). Each meaning is one event of the unit that owns it. -/

namespace Sys2Proof.Machine

/-- STATUS_BYTE (R108). -/
def execStatusByte (printer : Fin 12) (status : Byte) (s : State) : Host.Outcome State Fault Refusal :=
  .next (statusByteOp printer status s)

/-- CUT_DEADLINE (R121). -/
def execCutDeadline (printer : Fin 12) (s : State) : Host.Outcome State Fault Refusal :=
  .next (cutDeadlineOp printer s)

/-- PULL (R114). -/
def execPull (printer : Fin 12) (s : State) : Host.Outcome State Fault Refusal :=
  .next (pullOp printer s)

/-- LOAD_TEMPLATE (R116). -/
def execLoadTemplate (s : State) : Host.Outcome State Fault Refusal :=
  .next (withRequest .loadTemplate (fun r => loadTemplateOp r) s)

/-- RESUME_PRINTER (R122). -/
def execResumePrinter (s : State) : Host.Outcome State Fault Refusal :=
  .next (withRequest .resumePrinter (fun r => resumeOp r) s)

/-- REDIRECT (R123). -/
def execRedirect (s : State) : Host.Outcome State Fault Refusal :=
  .next (withRequest .redirect (fun r => redirectOp r) s)

/-- REPRINT (R124). -/
def execReprint (s : State) : Host.Outcome State Fault Refusal :=
  .next (withRequest .reprint (fun r => reprintOp r) s)

/-- SALE_CHECK (R149). -/
def execSaleCheck (printer : Fin 12) (s : State) : Host.Outcome State Fault Refusal :=
  .next (saleCheckClose printer s)

/-- REPRINT_ITEMS_ENTER (R124). -/
def execReprintItemsEnter (printer : Fin 12) (s : State) : Host.Outcome State Fault Refusal :=
  .next (reprintEnterClose printer s)

end Sys2Proof.Machine
end

