-- ==== Sys2Proof/Machine/ExecShows.lean ====
section
/-! DEFINITION. The meanings of the commands of time and of the show unit (Chapter 1). Each meaning is one event of the unit that owns it. -/

namespace Sys2Proof.Machine

/-- RUN_TIME_ADVANCE (R1). -/
def execRunTimeAdvance (s : State) : Host.Outcome State Fault Refusal :=
  .next (runTimeOp s)

/-- CLOCK_SECOND (R3). -/
def execClockSecond (s : State) : Host.Outcome State Fault Refusal :=
  .next (clockSecondOp s)

/-- DAY_CHANGE (R132). -/
def execDayChange (s : State) : Host.Outcome State Fault Refusal :=
  .next (dayChangeOp s)

/-- SET_CLOCK (R5). -/
def execSetClock (s : State) : Host.Outcome State Fault Refusal :=
  .next (withRequest .setClock (fun r => setClockOp r) s)

/-- LOAD_SHOW (R12). -/
def execLoadShow (s : State) : Host.Outcome State Fault Refusal :=
  .next (withRequest .loadShow (fun r => loadShowOp r) s)

/-- LOADING_COMPLETE (R14). -/
def execLoadingComplete (sh : Fin 48) (s : State) : Host.Outcome State Fault Refusal :=
  .next (loadingCompleteOp sh s)

/-- SET_PRICES (R18). -/
def execSetPrices (s : State) : Host.Outcome State Fault Refusal :=
  .next (withRequest .setPrices (fun r => setPricesOp r) s)

/-- CLOSE_SALE (R15). -/
def execCloseSale (s : State) : Host.Outcome State Fault Refusal :=
  .next (withRequest .closeSale (fun r => closeSaleOp r) s)

/-- DROP_SHOW (R16). -/
def execDropShow (s : State) : Host.Outcome State Fault Refusal :=
  .next (withRequest .dropShow (fun r => dropShowOp r) s)

/-- SALES_REMOVAL (R154). -/
def execSalesRemoval (sh : Fin 48) (s : State) : Host.Outcome State Fault Refusal :=
  .next (salesRemovalOp sh s)

/-- VOUCHER_SHOW_REMOVAL (R138). -/
def execVoucherShowRemoval (sh : Fin 48) (s : State) : Host.Outcome State Fault Refusal :=
  .next (voucherShowRemovalOp sh s)

/-- SEAT_RANGE_CLEAR (R43). -/
def execSeatRangeClear (sh : Fin 48) (s : State) : Host.Outcome State Fault Refusal :=
  .next (seatRangeClearOp sh s)

/-- DROP_COMPLETE (R17). -/
def execDropComplete (sh : Fin 48) (s : State) : Host.Outcome State Fault Refusal :=
  .next (dropCompleteOp sh s)

end Sys2Proof.Machine
end

