-- ==== Sys2Proof/Machine/ExecStations.lean ====
section
/-! DEFINITION. The meanings of the commands of the stations (Chapter 9). Each meaning is one event of the unit that owns it. -/

namespace Sys2Proof.Machine

/-- SENSE_INPUT_CHANGE (R160). -/
def execSenseInputChange (kiosk : Fin 12) (line : Fin 4) (asserted : Bool) (s : State) : Host.Outcome State Fault Refusal :=
  .next (senseChange kiosk line asserted s)

/-- SENSE_FILTER_DEADLINE (R160). -/
def execSenseFilterDeadline (kiosk : Fin 12) (line : Fin 4) (s : State) : Host.Outcome State Fault Refusal :=
  .next (senseFilterDue kiosk line s)

/-- SET_SENSE (R162). -/
def execSetSense (s : State) : Host.Outcome State Fault Refusal :=
  .next (withRequest .setSense (fun r => setSenseOp r) s)

/-- SET_BINDING (R165). -/
def execSetBinding (s : State) : Host.Outcome State Fault Refusal :=
  .next (withRequest .setBinding (fun r => setBindingOp r) s)

/-- SET_LAMP (R166). -/
def execSetLamp (s : State) : Host.Outcome State Fault Refusal :=
  .next (withRequest .setLamp (fun r => setLampOp r) s)

/-- OVERRIDE_DEADLINE (R166). -/
def execOverrideDeadline (lamp : LampId) (s : State) : Host.Outcome State Fault Refusal :=
  .next (overrideExpires lamp s)

/-- SET_PATTERN (R168). -/
def execSetPattern (s : State) : Host.Outcome State Fault Refusal :=
  .next (withRequest .setPattern (fun r => setPatternOp r) s)

/-- PATTERN_STEP (R168). -/
def execPatternStep (generator : Fin 8) (s : State) : Host.Outcome State Fault Refusal :=
  .next (patternStepOp generator s)

/-- RESET_STATION (R169). -/
def execResetStation (s : State) : Host.Outcome State Fault Refusal :=
  .next (withRequest .resetStation (fun r => resetStationOp r) s)

/-- PRINTER_RESET (R125). -/
def execPrinterReset (kiosk : Fin 12) (s : State) : Host.Outcome State Fault Refusal :=
  .next (printerResetOp kiosk s)

/-- STATION_CELL_RESET (R169). -/
def execStationCellReset (kiosk : Fin 12) (s : State) : Host.Outcome State Fault Refusal :=
  .next (stationCellResetOp kiosk s)

end Sys2Proof.Machine
end

