-- ==== Sys2Proof/Machine/Dispatch.lean ====
section
/-! DEFINITION. The dispatch of a command to its meaning: one arm for each row of the table, in its order. -/

namespace Sys2Proof.Machine

def exec (i : Instr) (s : State) : Host.Outcome State Fault Refusal :=
  match i with
  | .powerOnReset => Sys2Proof.Machine.execPowerOnReset s
  | .softReset => Sys2Proof.Machine.execSoftReset s
  | .noticeEnableWrite value => Sys2Proof.Machine.execNoticeEnableWrite value s
  | .noticeAcknowledge => Sys2Proof.Machine.execNoticeAcknowledge s
  | .runtimeLowRead => Sys2Proof.Machine.execRuntimeLowRead s
  | .runtimeHighRead => Sys2Proof.Machine.execRuntimeHighRead s
  | .registerWriteIgnored reg value => Sys2Proof.Machine.execRegisterWriteIgnored reg value s
  | .hostWriteUnit offset lanes => Sys2Proof.Machine.execHostWriteUnit offset lanes s
  | .postingWrite slot => Sys2Proof.Machine.execPostingWrite slot s
  | .withdrawal slot => Sys2Proof.Machine.execWithdrawal slot s
  | .freeWrite slot => Sys2Proof.Machine.execFreeWrite slot s
  | .maskWrite cell value => Sys2Proof.Machine.execMaskWrite cell value s
  | .acknowledgeWrite cell value => Sys2Proof.Machine.execAcknowledgeWrite cell value s
  | .decoderTake => Sys2Proof.Machine.execDecoderTake s
  | .coalescingDeadline => Sys2Proof.Machine.execCoalescingDeadline s
  | .runTimeAdvance => Sys2Proof.Machine.execRunTimeAdvance s
  | .clockSecond => Sys2Proof.Machine.execClockSecond s
  | .dayChange => Sys2Proof.Machine.execDayChange s
  | .setClock => Sys2Proof.Machine.execSetClock s
  | .loadShow => Sys2Proof.Machine.execLoadShow s
  | .loadingComplete sh => Sys2Proof.Machine.execLoadingComplete sh s
  | .setPrices => Sys2Proof.Machine.execSetPrices s
  | .closeSale => Sys2Proof.Machine.execCloseSale s
  | .dropShow => Sys2Proof.Machine.execDropShow s
  | .salesRemoval sh => Sys2Proof.Machine.execSalesRemoval sh s
  | .voucherShowRemoval sh => Sys2Proof.Machine.execVoucherShowRemoval sh s
  | .seatRangeClear sh => Sys2Proof.Machine.execSeatRangeClear sh s
  | .dropComplete sh => Sys2Proof.Machine.execDropComplete sh s
  | .blockSeats => Sys2Proof.Machine.execBlockSeats s
  | .unblockSeats => Sys2Proof.Machine.execUnblockSeats s
  | .holdSeats => Sys2Proof.Machine.execHoldSeats s
  | .holdEvent basket => Sys2Proof.Machine.execHoldEvent basket s
  | .releaseSeats => Sys2Proof.Machine.execReleaseSeats s
  | .releaseEvent basket => Sys2Proof.Machine.execReleaseEvent basket s
  | .openBasket => Sys2Proof.Machine.execOpenBasket s
  | .addVoucher => Sys2Proof.Machine.execAddVoucher s
  | .voucherIssue basket => Sys2Proof.Machine.execVoucherIssue basket s
  | .dropVoucher => Sys2Proof.Machine.execDropVoucher s
  | .voucherRemoval basket => Sys2Proof.Machine.execVoucherRemoval basket s
  | .quote => Sys2Proof.Machine.execQuote s
  | .pay => Sys2Proof.Machine.execPay s
  | .paymentOutcome basket => Sys2Proof.Machine.execPaymentOutcome basket s
  | .settle => Sys2Proof.Machine.execSettle s
  | .abandon => Sys2Proof.Machine.execAbandon s
  | .retire => Sys2Proof.Machine.execRetire s
  | .holdDeadline basket => Sys2Proof.Machine.execHoldDeadline basket s
  | .showLeftSale sh => Sys2Proof.Machine.execShowLeftSale sh s
  | .moveToCollect basket => Sys2Proof.Machine.execMoveToCollect basket s
  | .chuteCleared kiosk => Sys2Proof.Machine.execChuteCleared kiosk s
  | .collectDeadline basket => Sys2Proof.Machine.execCollectDeadline basket s
  | .cancelPay => Sys2Proof.Machine.execCancelPay s
  | .reverse => Sys2Proof.Machine.execReverse s
  | .terminalByteFault line kind => Sys2Proof.Machine.execTerminalByteFault line kind s
  | .frameGapTimeout line => Sys2Proof.Machine.execFrameGapTimeout line s
  | .badFrame line bytes => Sys2Proof.Machine.execBadFrame line bytes s
  | .ack line => Sys2Proof.Machine.execAck line s
  | .nak line => Sys2Proof.Machine.execNak line s
  | .ackWaitTimeout line => Sys2Proof.Machine.execAckWaitTimeout line s
  | .card line tag cardKind => Sys2Proof.Machine.execCard line tag cardKind s
  | .result line tag verdict code tail => Sys2Proof.Machine.execResult line tag verdict code tail s
  | .abortDone line tag byte => Sys2Proof.Machine.execAbortDone line tag byte s
  | .reverseDone line tag verdict => Sys2Proof.Machine.execReverseDone line tag verdict s
  | .pong line tag status => Sys2Proof.Machine.execPong line tag status s
  | .fault line tag code => Sys2Proof.Machine.execFault line tag code s
  | .pingTimer line => Sys2Proof.Machine.execPingTimer line s
  | .authTimeout line => Sys2Proof.Machine.execAuthTimeout line s
  | .abortWaitTimeout line => Sys2Proof.Machine.execAbortWaitTimeout line s
  | .reverseWaitTimeout line => Sys2Proof.Machine.execReverseWaitTimeout line s
  | .statusByte printer status => Sys2Proof.Machine.execStatusByte printer status s
  | .cutDeadline printer => Sys2Proof.Machine.execCutDeadline printer s
  | .pull printer => Sys2Proof.Machine.execPull printer s
  | .loadTemplate => Sys2Proof.Machine.execLoadTemplate s
  | .resumePrinter => Sys2Proof.Machine.execResumePrinter s
  | .redirect => Sys2Proof.Machine.execRedirect s
  | .reprint => Sys2Proof.Machine.execReprint s
  | .saleCheck printer => Sys2Proof.Machine.execSaleCheck printer s
  | .reprintItemsEnter printer => Sys2Proof.Machine.execReprintItemsEnter printer s
  | .voidVoucher => Sys2Proof.Machine.execVoidVoucher s
  | .refund => Sys2Proof.Machine.execRefund s
  | .refundFreeing serial => Sys2Proof.Machine.execRefundFreeing serial s
  | .refundVoucherStep serial => Sys2Proof.Machine.execRefundVoucherStep serial s
  | .refundComplete serial => Sys2Proof.Machine.execRefundComplete serial s
  | .counterByte counter byte => Sys2Proof.Machine.execCounterByte counter byte s
  | .counterByteFault counter kind => Sys2Proof.Machine.execCounterByteFault counter kind s
  | .counterGapTimeout counter => Sys2Proof.Machine.execCounterGapTimeout counter s
  | .validation counter => Sys2Proof.Machine.execValidation counter s
  | .answerDeadline counter => Sys2Proof.Machine.execAnswerDeadline counter s
  | .senseInputChange kiosk line asserted => Sys2Proof.Machine.execSenseInputChange kiosk line asserted s
  | .senseFilterDeadline kiosk line => Sys2Proof.Machine.execSenseFilterDeadline kiosk line s
  | .setSense => Sys2Proof.Machine.execSetSense s
  | .setBinding => Sys2Proof.Machine.execSetBinding s
  | .setLamp => Sys2Proof.Machine.execSetLamp s
  | .overrideDeadline lamp => Sys2Proof.Machine.execOverrideDeadline lamp s
  | .setPattern => Sys2Proof.Machine.execSetPattern s
  | .patternStep generator => Sys2Proof.Machine.execPatternStep generator s
  | .resetStation => Sys2Proof.Machine.execResetStation s
  | .printerReset kiosk => Sys2Proof.Machine.execPrinterReset kiosk s
  | .stationCellReset kiosk => Sys2Proof.Machine.execStationCellReset kiosk s
  | .configure => Sys2Proof.Machine.execConfigure s
  | .clearCounts => Sys2Proof.Machine.execClearCounts s
  | .frameOfUnknownKind line kind tag payload => Sys2Proof.Machine.execFrameOfUnknownKind line kind tag payload s

end Sys2Proof.Machine
end

