-- ==== Sys2Proof/Machine/View.lean ====
section
/-! DEFINITION. The host's view of foyer memory: every byte of the 256 KiB window as a host read finds it (10.2, 10.3, 10.6,
11.4). A host read changes nothing. -/

namespace Sys2Proof.Machine

/-- Entries of a list of fixed length, an unused place reading as an absent value (log entry 11). -/
def listBytes {α : Type} (places width : Nat) (f : α → List Byte) (l : List α) : List Byte :=
  (List.range places).flatMap (fun n => match l[n]? with
    | some x => f x
    | none => absentBytes width)

/-- A deadline or its absence (10.6: a run-time value is 6 bytes). -/
def dueBytes (d : Option Deadline) : List Byte := optBytes 6 (d.map Deadline.value)

/-- Flags as bits, bit 0 first, in `n` bytes. -/
def flagsBytes (n : Nat) (l : List Bool) : List Byte := leBytes n (bitsValue l)

/-- A record of `n` bytes whose change count stands in its last two. -/
def counted (n : Nat) (fields : List Byte) (changes : Nat) : List Byte := padTo (n - 2) fields ++ leBytes 2 changes

/-- The state word of a slot (R174). -/
def stateWordBytes (s : State) (slot : Nat) : List Byte := leBytes 4 (slotStateNum (slotAt s slot))

/-- The board area (10.6). In its byte of COMPLETIONS and FACTORS, bit 0 is COMPLETIONS and bit 1 FACTORS, as in NOTICE, by the
model's choice (log entry 33). -/
def boardBytes (s : State) : List Byte :=
  flagsBytes 8 s.board.doneMark ++ leBytes 1 s.board.posting.length ++ listBytes 64 1 (leBytes 1) s.board.posting
    ++ leBytes 2 s.board.unnoticed ++ flagsBytes 1 [s.board.completions, factorsCause s] ++ dueBytes s.board.coalescing
    ++ leBytes 1 s.board.attention ++ flagsBytes 3 (s.board.inflight.map Option.isSome)
    ++ (match s.board.lastFault with
        | some (slot, value, st) => leBytes 1 slot ++ leBytes 1 value ++ leBytes 1 (slotStateNum st)
        | none => absentBytes 3)
    ++ optBytes 3 s.board.lastStray

/-- The clock record (10.6). -/
def clockBytes (c : Clock) : List Byte :=
  [flagByte c.isSet] ++ instantBytes c.now ++ leBytes 2 c.phase ++ leBytes 2 c.changes

/-- The sale summary (10.6). -/
def summaryBytes (u : SalesUnit) : List Byte :=
  leBytes 4 u.nextSerial ++ leBytes 2 u.inUse ++ leBytes 1 u.reserved ++ leBytes 2 u.changes

/-- A lamp record, 12 bytes (10.6). -/
def lampBytes (l : Lamp) : List Byte :=
  optBytes 1 l.follow ++ (match l.override with
    | some (f, d) => [functionByte f] ++ dueBytes d
    | none => absentBytes 7)
    ++ [functionByte l.function] ++ leBytes 1 (lampSourceNum l.source) ++ [0, 0]

/-- A sense record, 10 bytes (10.6). -/
def senseBytes (x : Sense) : List Byte :=
  leBytes 1 (levelNum x.present) ++ leBytes 1 (levelNum x.accepted) ++ leBytes 1 (filterWidthNum x.width)
    ++ leBytes 1 (edgeSelectNum x.edge) ++ dueBytes x.deadline

/-- A payment record, 26 bytes (10.6). -/
def payBytes (r : PayRecord) : List Byte :=
  leBytes 1 r.tag ++ leBytes 1 r.basket ++ leBytes 3 r.amount ++ leBytes 1 (payPhaseNum r.phase)
    ++ optBytes 1 (r.outcome.map payOutcomeNum) ++ (r.code.getD (absentBytes 6)) ++ tailBytes r.tail
    ++ flagsBytes 1 [r.cardPresented, r.cancelSlots != []] ++ optBytes 1 (r.cause.map abortCauseNum) ++ optBytes 1 r.cardKind
    ++ leBytes 6 r.openedAt ++ leBytes 2 r.changes

/-- A late entry, 12 bytes (10.6). -/
def lateBytes (e : Late) : List Byte := leBytes 1 e.tag ++ leBytes 3 e.amount ++ e.code ++ tailBytes e.tail

/-- The line status record's own 12 bytes (10.6). -/
def lineBytesOf (x : Line) : List Byte :=
  leBytes 1 (lineStateNum x.state) ++ leBytes 1 x.pings ++ leBytes 1 x.nextTag ++ optBytes 1 x.lastClosed
    ++ optBytes 1 x.faultCode ++ leBytes 2 x.parityFaults ++ leBytes 2 x.framingFaults ++ leBytes 2 x.overruns ++ [0]

/-- The printer status record, 10 bytes (10.6). -/
def printerBytes (p : Printer) : List Byte :=
  leBytes 1 (printerStateNum p.state) ++ optBytes 1 (p.lastStatus.map BitVec.toNat) ++ leBytes 1 p.absentRun
    ++ optBytes 1 (p.stallCause.map stallCauseNum) ++ dueBytes p.cutDue

/-- A kiosk cell, 256 bytes (10.6). The acknowledge field reads empty. The late count takes 1 byte (log entry 41). -/
def kioskBytes (s : State) (k : Nat) : List Byte :=
  let c := kioskAt s k
  let x := lineAt s k
  counted 256
    (leBytes 1 (conditionNum c.condition) ++ [flagByte c.service] ++ optBytes 1 c.current ++ [0]
      ++ leBytes 2 c.factors.toNat ++ leBytes 2 c.mask.toNat ++ [0, 0] ++ c.senses.flatMap senseBytes
      ++ lampBytes c.green ++ lampBytes c.red ++ lineBytesOf x ++ x.records.flatMap payBytes ++ printerBytes (printerAt s k)
      ++ leBytes 1 x.late.length ++ leBytes 2 x.lateOverflow ++ listBytes 4 12 lateBytes x.late) c.changes

/-- The last answer of a counter cell, 32 bytes (10.6). -/
def answerBytes : Option Answer → List Byte
  | some a => leBytes 1 a.code.length ++ padTo 16 a.code ++ leBytes 1 (answerNum a.answer) ++ optBytes 1 a.kind
      ++ optInstantBytes a.instant ++ (match a.first with
        | some (m, i) => leBytes 1 m ++ instantBytes i
        | none => absentBytes 7)
  | none => absentBytes 32

/-- A counter cell, 128 bytes (10.6). -/
def counterBytes (s : State) (m : Nat) : List Byte :=
  let c := counterAt s m
  counted 128
    ([flagByte c.enabled] ++ leBytes 1 (showingNum c.showing) ++ dueBytes c.answerDue ++ leBytes 1 c.factors.toNat
      ++ leBytes 1 c.mask.toNat ++ [0, 0] ++ lampBytes c.green ++ lampBytes c.red ++ answerBytes c.lastAnswer) c.changes

/-- A pattern generator, 8 bytes (10.6). -/
def generatorBytes (g : Generator) : List Byte :=
  flagsBytes 2 g.steps ++ leBytes 1 g.length ++ leBytes 2 g.width ++ leBytes 1 g.position ++ [0, 0]

/-- A binding entry: green then red (10.6). -/
def bindingBytes (b : Binding) : List Byte := [functionByte b.green, functionByte b.red]

/-- The foyer cell, generators and binding tables from 03600h (10.6). Two of its bytes are the model's choice: the low state (R157, which
no table defines) is 01h when low and 00h when not (log entry 40), and the FREE count takes 1 byte (log entry 41). -/
def foyerBytes (s : State) : List Byte :=
  let f := s.station.foyer
  padTo 0x10 (leBytes 1 f.freeCount ++ [flagByte f.low] ++ leBytes 1 f.factors.toNat ++ leBytes 1 f.mask.toNat ++ [0, 0]
      ++ leBytes 2 f.changes)
    ++ padTo 0x40 (s.station.generators.flatMap generatorBytes)
    ++ padTo 0x20 (s.station.kioskBindings.flatMap bindingBytes) ++ padTo 0x190 (s.station.counterBindings.flatMap bindingBytes)

/-- A show record, 128 bytes (10.6). The row count takes 1 byte (log entry 41). -/
def showBytes (w : ShowRec) : List Byte :=
  counted 128
    (leBytes 1 (showStateNum w.state) ++ padTo 32 w.title ++ leBytes 1 w.auditorium ++ instantBytes w.saleOpen
      ++ instantBytes w.start ++ instantBytes w.finish ++ leBytes 1 w.lateWindow ++ leBytes 1 w.priceList
      ++ leBytes 1 (gapRuleNum w.gapRule) ++ leBytes 1 w.rowLengths.length ++ leBytes 2 w.seatBase ++ leBytes 2 w.seatCount
      ++ countBytes w ++ listBytes 32 1 (leBytes 1) w.rowLengths) w.changes

/-- A price list, 128 bytes (10.6). -/
def priceBytes (l : PriceList) : List Byte :=
  counted 128
    ((List.zipWith (fun p n => leBytes 2 p ++ padTo 12 n) l.prices l.names).flatten ++ leBytes 1 l.factor ++ leBytes 2 l.fee)
    l.changes

/-- A voucher kind, 32 bytes (10.6). -/
def kindBytes (k : VoucherKind) : List Byte := padTo 32 (padTo 16 k.name ++ leBytes 2 k.price ++ leBytes 1 k.template)

/-- A plan item: kind in bits 6 and 7, index in bits 0 to 3 (10.6). -/
def planByte (x : PlanItem) : List Byte := leBytes 1 (64 * itemKindNum x.kind + x.index)

/-- A basket context, 256 bytes (10.6). The seat, voucher and done counts take 1 byte each (log entry 41). -/
def basketBytes (c : Basket) : List Byte :=
  counted 256
    (leBytes 1 (basketStateNum c.state) ++ leBytes 1 c.kiosk ++ leBytes 1 c.sh
      ++ leBytes 1 c.seats.length ++ listBytes 10 2 (leBytes 2) c.seats
      ++ leBytes 1 c.vouchers.length ++ listBytes 6 2 (leBytes 2) c.vouchers
      ++ dueBytes c.deadline ++ leBytes 6 c.openedAt ++ quoteBytes c.quote
      ++ (match c.payRef with
          | some (line, tag) => leBytes 1 line ++ leBytes 1 tag
          | none => absentBytes 2)
      ++ optBytes 3 c.serial ++ leBytes 1 c.plan.length ++ listBytes 17 1 planByte c.plan ++ leBytes 1 c.cursor
      ++ leBytes 1 c.printed ++ leBytes 1 c.printer ++ [flagByte c.uncollected]) c.changes

/-- A queue item, 12 bytes (10.6): priority NORMAL 0, URGENT 1; source FFh for REPRINT. -/
def itemBytes (x : Item) : List Byte :=
  leBytes 1 (itemKindNum x.kind) ++ leBytes 1 x.template ++ leBytes 3 x.serial ++ leBytes 1 x.index ++ [flagByte x.urgent]
    ++ leBytes 1 x.reprints ++ leBytes 1 (itemStateNum x.state)
    ++ (match x.source with
        | .basket b => leBytes 1 b
        | .reprint => absentBytes 1)
    ++ leBytes 2 x.arrival

/-- A printer queue, 256 bytes (10.6). The item count takes 1 byte (log entry 41). -/
def queueBytes (p : Printer) : List Byte :=
  padTo 256 (padTo 16 (leBytes 1 p.queue.length ++ leBytes 2 p.nextArrival ++ leBytes 2 p.queueChanges)
    ++ listBytes 16 12 itemBytes p.queue)

/-- A template directory entry, 4 bytes (10.6). -/
def directoryBytes (t : TemplateEntry) : List Byte := leBytes 2 t.length ++ leBytes 2 t.changes

/-- A voucher entry, 24 bytes (10.6). -/
def voucherBytes (v : Voucher) : List Byte :=
  optBytes 1 (v.state.map voucherStateNum) ++ codeBytes v.code ++ leBytes 1 v.kind ++ leBytes 1 v.sh ++ optBytes 3 v.owner
    ++ (match v.redeemedAt with
        | some (i, m) => instantBytes i ++ leBytes 1 m
        | none => absentBytes 7)
    ++ optBytes 2 v.link ++ [0] ++ leBytes 2 v.changes

/-- The chain change count, and the sequence record, from 1A200h (10.6). -/
def sequenceBytes (u : VoucherUnit) : List Byte :=
  padTo 4 (leBytes 2 u.chainChanges)
    ++ (match u.seqDay with
        | some (year, day) => leBytes 1 (year - 2000) ++ leBytes 2 day
        | none => absentBytes 3)
    ++ leBytes 3 u.nextSeq

/-- A sale record, packed into 32 bytes (10.6). -/
def saleBytes (x : Sale) : List Byte :=
  leBytes 3 x.serial
    ++ leBytes 1 (x.sh + (if x.byCard then 64 else 0) + (if x.refunded then 128 else 0))
    ++ leBytes 1 (x.seatCount + 16 * x.voucherCount + 128 * (x.voucherSubtotal / 65536))
    ++ leBytes 1 (x.kiosk + 16 * x.reprints)
    ++ leBytes 3 x.seatSubtotal ++ leBytes 2 (x.voucherSubtotal % 65536) ++ leBytes 2 x.discount ++ leBytes 3 x.gross
    ++ leBytes 3 x.tax ++ (x.code.getD [0, 0, 0, 0, 0, 0]) ++ tailBytes x.tail ++ optBytes 3 x.refundAmount
    ++ leBytes 2 x.changes

/-- A seat cell, 4 bytes; an absent owner reads 000000h (10.6). -/
def seatBytes (c : Seat) : List Byte := leBytes 1 (seatStateNum c.state + 4 * c.tier) ++ leBytes 3 (c.owner.getD 0)

/-- The byte at an offset of a list of bytes; past its end a region reads zero. -/
def byteOf (l : List Byte) (o : Nat) : Byte := l.getD o 0

/-- The byte at an offset of a table of records of `n` bytes each. -/
def tableByte (n : Nat) (f : Nat → List Byte) (o : Nat) : Byte := byteOf (f (o / n)) (o % n)

/-- R172: the byte a host read finds at an offset of the memory window. -/
def readByte (s : State) (a : Nat) : Byte :=
  if a < 0x2000 then
    (if 0x7C ≤ a % 128 then byteOf (stateWordBytes s (a / 128)) (a % 128 - 0x7C) else memRead s.mem a)
  else if a < 0x2400 then byteOf (boardBytes s) (a - 0x2000)
  else if a < 0x2440 then byteOf (clockBytes s.showUnit.clock) (a - 0x2400)
  else if a < 0x2800 then byteOf (summaryBytes s.salesUnit) (a - 0x2440)
  else if a < 0x3400 then tableByte 256 (kioskBytes s) (a - 0x2800)
  else if a < 0x3600 then tableByte 128 (counterBytes s) (a - 0x3400)
  else if a < 0x3800 then byteOf (foyerBytes s) (a - 0x3600)
  else if a < 0x5000 then tableByte 128 (fun n => showBytes (showAt s n)) (a - 0x3800)
  else if a < 0x5800 then tableByte 128 (fun n => priceBytes (listAt s n)) (a - 0x5000)
  else if a < 0x5A00 then tableByte 32 (fun n => kindBytes (kindAt s n)) (a - 0x5800)
  else if a < 0x6000 then 0
  else if a < 0x7800 then tableByte 256 (fun n => basketBytes (basketAt s n)) (a - 0x6000)
  else if a < 0x8000 then 0
  else if a < 0x12000 then memRead s.mem a
  else if a < 0x12C00 then tableByte 256 (fun n => queueBytes (printerAt s n)) (a - 0x12000)
  else if a < 0x12C80 then tableByte 4 (fun n => directoryBytes (templateAt s n)) (a - 0x12C00)
  else if a < 0x14000 then 0
  else if a < 0x1A000 then tableByte 24 (fun n => voucherBytes (voucherAt s n)) (a - 0x14000)
  else if a < 0x1A200 then tableByte 2 (fun n => optBytes 2 (headAt s n)) (a - 0x1A000)
  else if a < 0x1C000 then byteOf (sequenceBytes s.voucherUnit) (a - 0x1A200)
  else if a < 0x2C000 then tableByte 32 (fun n => saleBytes (saleAt s n)) (a - 0x1C000)
  else if a < 0x3C000 then tableByte 4 (fun n => seatBytes (seatAt s n)) (a - 0x2C000)
  else if a < 0x3C2F8 then tableByte 4 (fun n => leBytes 4 (statAt s (4 * n))) (a - 0x3C000)
  else 0

end Sys2Proof.Machine
end

