-- ==== Sys2Proof/Safety.lean ====
section
/-! DEFINITION. What holds of every state the part reaches, in the terms the statements use: tables of their fixed lengths,
canonical stores, the board's law (R175), the printer queues' law (R112), the attention count (R181), the laws of the units, and the
law of kiosk conditions and lamps (R163, R164). -/

namespace Sys2Proof.Machine

/-- Every table has the number of records the manual gives it. -/
structure Shaped (s : State) : Prop where
  slots : s.board.slots.length = 64
  doneMark : s.board.doneMark.length = 64
  inflight : s.board.inflight.length = 24
  shows : s.showUnit.shows.length = 48
  prices : s.showUnit.prices.length = 16
  kinds : s.showUnit.kinds.length = 16
  baskets : s.basketUnit.baskets.length = 24
  lines : s.lines.length = 12
  records : ∀ x ∈ s.lines, x.records.length = 4
  printers : s.print.printers.length = 12
  templates : s.print.templates.length = 32
  receivers : s.voucherUnit.receivers.length = 4
  kiosks : s.station.kiosks.length = 12
  senses : ∀ x ∈ s.station.kiosks, x.senses.length = 4
  counters : s.station.counters.length = 4
  kioskBindings : s.station.kioskBindings.length = 9
  counterBindings : s.station.counterBindings.length = 8
  generators : s.station.generators.length = 8

/-- Every sparse store is in its one canonical form. -/
structure Canonical (s : State) : Prop where
  mem : Memory.wf s.mem
  seats : sparseWf Seat.spare s.seats
  entries : sparseWf Voucher.empty s.voucherUnit.entries
  heads : sparseWf (none : Option Nat) s.voucherUnit.heads
  sales : sparseWf Sale.empty s.salesUnit.sales
  stats : sparseWf (0 : Nat) s.stats

/-- R175: a work slot is in the done list if and only if it is DONE, and in the posting list if and only if it is POSTED. The
posting list names no slot twice. -/
structure BoardLaw (s : State) : Prop where
  slots : s.board.slots.length = 64
  marks : s.board.doneMark.length = 64
  posted : ∀ n < 64, n ∈ s.board.posting ↔ slotAt s n = .posted
  done : ∀ n < 64, s.board.doneMark.getD n false = true ↔ slotAt s n = .done
  once : s.board.posting.Nodup

/-- R112: a printer queue holds at most 16 items, and an item that is PRINTING or INCOMPLETE is the head. -/
abbrev QueueLaw (q : Printer) : Prop := q.queue.length ≤ 16 ∧ ∀ x ∈ q.queue.tail, x.state = .queued

/-- R181: the number of station cells that draw attention. -/
def drawingCells (s : State) : Nat :=
  (s.station.kiosks.filter (fun c => draws c.factors c.mask)).length
    + (s.station.counters.filter (fun c => draws c.factors c.mask)).length
    + (if draws s.station.foyer.factors s.station.foyer.mask then 1 else 0)

/-- R181: the board unit's attention count is the number of cells drawing attention. -/
abbrev AttentionLaw (s : State) : Prop := s.board.attention = drawingCells s

/-! ### The laws of the units (R22, R27, R45, R46, R94, R128, R130, R145, R147) -/

/-- R46: a basket in SELECTING, PAYING or UNRESOLVED. -/
abbrev Selling (c : Basket) : Prop := c.state = .selecting ∨ c.state = .paying ∨ c.state = .unresolved

/-- R94: a payment record from its opening until its close. -/
abbrev OpenRecord (r : PayRecord) : Prop := r.tag ≠ 0 ∧ r.phase ≠ .closed

/-- R94: a line has at most one open record. It is that of a PAYING basket of the line's kiosk, for the gross of its quote, and its
outcome has not been handed over; the line is AUTHORIZING or ABORTING. What the basket unit has been handed is one outcome each of
PAYING baskets. An unconfigured part has been handed no request but those it takes (R176). -/
structure PaymentLaw (s : State) : Prop where
  lines : s.lines.length = 12
  records : ∀ n < 12, (lineAt s n).records.length = 4
  baskets : s.basketUnit.baskets.length = 24
  opened : ∀ n < 12, ∀ i < 4, OpenRecord ((lineAt s n).records.getD i .empty) →
    s.config ≠ none ∧ ((lineAt s n).state = .authorizing ∨ (lineAt s n).state = .aborting) ∧
    (∀ j < 4, OpenRecord ((lineAt s n).records.getD j .empty) → j = i) ∧
    (let r := (lineAt s n).records.getD i .empty
     let c := basketAt s r.basket
     r.basket < 24 ∧ c.state = .paying ∧ c.kiosk = n ∧ 1 ≤ r.amount ∧ r.amount = c.quote.gross ∧
      ∀ o ∈ s.basketUnit.outcomes, o.basket ≠ r.basket)
  outcomes : ∀ o ∈ s.basketUnit.outcomes, o.basket < 24 ∧ (basketAt s o.basket).state = .paying
  once : (s.basketUnit.outcomes.map OutcomeReport.basket).Nodup
  calls : ∀ b < 24, (basketAt s b).call ≠ none → (basketAt s b).state = .selecting
  unconfigured : s.config = none → (∀ r ∈ s.board.handed, r.kind = .configure ∨ r.kind = .setClock ∨ r.kind = .clearCounts) ∧
    ∀ e ∈ s.waiting, ∀ r, e.2 ≠ .request r

/-- R45, R46: a basket lists at most 10 seats, each once, and at most 6 vouchers; a call is open on a SELECTING basket only, an issue
only where there is room for its voucher; the plan cursor stays within the plan. A kiosk has at most one selling basket. -/
structure BasketLaw (s : State) : Prop where
  baskets : s.basketUnit.baskets.length = 24
  lists : ∀ b < 24, let c := basketAt s b
    c.seats.length ≤ 10 ∧ c.seats.Nodup ∧ c.vouchers.length ≤ 6 ∧ c.plan.length ≤ 17 ∧ c.cursor ≤ c.plan.length ∧
    (c.call ≠ none → c.state = .selecting) ∧ (∀ slot kind, c.call = some (.issue slot kind) → c.vouchers.length < 6)
  oneSelling : ∀ a < 24, ∀ b < 24, Selling (basketAt s a) → Selling (basketAt s b) →
    (basketAt s a).kiosk = (basketAt s b).kiosk → a = b

/-- R145 to R147: serials are given once and stay below the next; a refund amount lies between 0 and its gross; the summary counts the
records, and a place is reserved for each PAYING and each UNRESOLVED basket, so that the table and the serials suffice. -/
structure SalesLaw (s : State) : Prop where
  baskets : s.basketUnit.baskets.length = 24
  store : sparseWf Sale.empty s.salesUnit.sales
  records : ∀ e ∈ s.salesUnit.sales, e.1 < 2048 ∧ 1 ≤ e.2.serial ∧ e.2.serial < s.salesUnit.nextSerial ∧
    (e.2.refunded = true → ∃ a, e.2.refundAmount = some a ∧ a ≤ e.2.gross) ∧ (e.2.refunded = false → e.2.refundAmount = none)
  once : (s.salesUnit.sales.map (fun e => e.2.serial)).Nodup
  first : 1 ≤ s.salesUnit.nextSerial
  inUse : s.salesUnit.inUse = s.salesUnit.sales.length
  reserved : s.salesUnit.reserved =
    (s.basketUnit.baskets.filter (fun c => c.state == .paying || c.state == .unresolved)).length
  places : s.salesUnit.inUse + s.salesUnit.reserved ≤ 2048
  serials : s.salesUnit.nextSerial + s.salesUnit.reserved ≤ 16777216

/-- R13: a range is allocated to a show that is not EMPTY and to one that is loading. -/
abbrev Allocated (s : State) (n : Nat) : Prop := (showAt s n).state ≠ .empty ∨ ∃ l ∈ s.showUnit.loadings, l.sh = n

/-- The cell with a pool index lies in the range of a show. -/
abbrev InRange (s : State) (n cell : Nat) : Prop :=
  (showAt s n).seatBase ≤ cell ∧ cell < (showAt s n).seatBase + (showAt s n).seatCount

/-- R27: the number of a show's seat cells in a state. -/
def cellsIn (s : State) (n : Nat) (st : SeatState) : Nat :=
  ((List.range (showAt s n).seatCount).filter (fun i => (seatAt s ((showAt s n).seatBase + i)).state == st)).length

/-- R145: the number of seat cells SOLD under a serial. -/
def cellsSold (s : State) (serial : Nat) : Nat :=
  (s.seats.filter (fun e => e.2.state == .sold && e.2.owner == some serial)).length

/-- R130: a list of table indices is the chain of a bucket: it runs from the head through the links, and it lists exactly the entries
of the table whose code hashes to the bucket. -/
structure ChainOf (s : State) (bucket : Nat) (l : List Nat) : Prop where
  once : l.Nodup
  head : headAt s bucket = l.head?
  links : ∀ j i, l[j]? = some i → (voucherAt s i).link = l[j + 1]?
  members : ∀ i, i ∈ l ↔ (voucherAt s i).state ≠ none ∧ bucketOf (voucherAt s i).code = bucket

/-- The laws over seats (R22, R27, R145) and vouchers (R128, R130), with what the show and basket units keep for them. -/
structure HouseLaw (s : State) : Prop where
  shows : s.showUnit.shows.length = 48
  baskets : s.basketUnit.baskets.length = 24
  canonical : Canonical s
  /-- R22: a cell has an owner exactly while it is HELD or SOLD -/
  owned : ∀ c, (seatAt s c).owner ≠ none ↔ ((seatAt s c).state = .held ∨ (seatAt s c).state = .sold)
  /-- R13: ranges lie in the pool and do not meet; a show without a range has no seats -/
  pool : ∀ n < 48, Allocated s n → (showAt s n).seatBase + (showAt s n).seatCount ≤ 16384
  apart : ∀ n < 48, ∀ m < 48, n ≠ m → Allocated s n → Allocated s m → ∀ c, InRange s n c → ¬ InRange s m c
  unallocated : ∀ n < 48, ¬ Allocated s n → (showAt s n).seatCount = 0
  /-- R14: a loading is of an EMPTY show, with a map as long as its range -/
  loadings : ∀ l ∈ s.showUnit.loadings, l.sh < 48 ∧ (showAt s l.sh).state = .empty ∧ l.map.length = (showAt s l.sh).seatCount
  loadingOnce : (s.showUnit.loadings.map Loading.sh).Nodup
  /-- R16: a removal is of an ENDED show that no context in use names -/
  removals : ∀ x ∈ s.showUnit.removals, x.sh < 48 ∧ (showAt s x.sh).state = .ended ∧
    ∀ c ∈ s.basketUnit.baskets, c.state = .free ∨ c.sh ≠ x.sh
  removalOnce : (s.showUnit.removals.map Removal.sh).Nodup
  /-- R27: the counts are the numbers of cells, until the range of a show being dropped has been cleared -/
  counts : ∀ n < 48, (showAt s n).state ≠ .empty → (∀ x ∈ s.showUnit.removals, x.sh = n → x.step ≠ .finish) →
    let w := showAt s n
    w.free = cellsIn s n .free ∧ w.held = cellsIn s n .held ∧ w.sold = cellsIn s n .sold ∧ w.blocked = cellsIn s n .blocked ∧
    w.free + w.held + w.sold + w.blocked = w.seatCount
  /-- R22: the seats of a selling basket are HELD by it, and every HELD cell is such a seat -/
  listed : ∀ b < 24, let c := basketAt s b
    Selling c → c.sh < 48 ∧ (showAt s c.sh).state ≠ .empty ∧ c.seats.Nodup ∧
      ∀ i ∈ c.seats, i < (showAt s c.sh).seatCount ∧ (seatOf s c.sh i).state = .held ∧ (seatOf s c.sh i).owner = some b
  held : ∀ cell, (seatAt s cell).state = .held → ∃ b < 24, Selling (basketAt s b) ∧ (seatAt s cell).owner = some b ∧
    ∃ i ∈ (basketAt s b).seats, cell = (showAt s (basketAt s b).sh).seatBase + i
  calls : ∀ b < 24, (basketAt s b).call ≠ none → (basketAt s b).state = .selecting
  releases : ∀ b < 24, ∀ slot list, (basketAt s b).call = some (.release slot list) →
    list.Nodup ∧ ∀ i ∈ list, i ∈ (basketAt s b).seats
  /-- R128: the vouchers of a selling basket are PENDING and its own, and every PENDING entry is such a voucher -/
  vouchers : ∀ b < 24, let c := basketAt s b
    Selling c → c.vouchers.Nodup ∧
      ∀ i ∈ c.vouchers, (voucherAt s i).state = some .pending ∧ (voucherAt s i).owner = some b ∧ (voucherAt s i).sh = c.sh
  pendings : ∀ i, (voucherAt s i).state = some .pending → ∃ b < 24, Selling (basketAt s b) ∧ (voucherAt s i).owner = some b ∧
    i ∈ (basketAt s b).vouchers
  /-- R127, R130: the table has 1,024 entries, each in the chain of its bucket, and no two carry the same code -/
  table : ∀ i, 1024 ≤ i → voucherAt s i = Voucher.empty
  chains : ∀ bucket < 256, ∃ l, ChainOf s bucket l
  codes : ∀ i j, (voucherAt s i).state ≠ none → (voucherAt s j).state ≠ none → (voucherAt s i).code = (voucherAt s j).code → i = j
  /-- R145: a sale's SOLD cells lie in its show's range and are as many as its seat count, none once it is REFUNDED -/
  sold : ∀ c serial, (seatAt s c).state = .sold → (seatAt s c).owner = some serial → serial < s.salesUnit.nextSerial ∧
    ∀ e ∈ s.salesUnit.sales, e.2.serial = serial → InRange s e.2.sh c
  sales : ∀ e ∈ s.salesUnit.sales, e.2.sh < 48 ∧ (showAt s e.2.sh).state ≠ .empty ∧
    (∀ x ∈ s.showUnit.removals, x.sh = e.2.sh → x.step = .sales) ∧
    ((∀ f ∈ s.salesUnit.refunds, f.serial ≠ e.2.serial) →
      cellsSold s e.2.serial = if e.2.refunded then 0 else e.2.seatCount)
  /-- R151: a refund is of a SOLD record; its cells are SOLD until they have been freed -/
  refunds : ∀ f ∈ s.salesUnit.refunds, ∃ e ∈ s.salesUnit.sales, e.2.serial = f.serial ∧ e.2.refunded = false ∧
    cellsSold s f.serial = if f.seatsFreed = none then e.2.seatCount else 0
  refundOnce : (s.salesUnit.refunds.map Refund.serial).Nodup
  /-- R128: an ACTIVE voucher is owned by a sale of its show that stands SOLD, until the removal of the show, whose records have gone,
  takes its vouchers (R138) -/
  actives : ∀ i, (voucherAt s i).state = some .active →
    (∃ e ∈ s.salesUnit.sales, (voucherAt s i).owner = some e.2.serial ∧ e.2.sh = (voucherAt s i).sh ∧ e.2.refunded = false) ∨
    ∃ x ∈ s.showUnit.removals, x.sh = (voucherAt s i).sh ∧ x.step = .vouchers
  /-- R137: once the voucher step of a refund has been made, no voucher of its sale is ACTIVE -/
  voided : ∀ f ∈ s.salesUnit.refunds, f.vouchers ≠ none →
    ∀ i, (voucherAt s i).state = some .active → (voucherAt s i).owner ≠ some f.serial

/-- R48, R163, R164: what is derived in the station cells stands as its rule gives it. A kiosk's current basket is one of its own, from
SELECTING to COLLECT; its condition is the first row of R163's table that applies; each lamp's function in force is that of its
follow line, else of its override, else of the binding its station's condition or showing has for its colour. -/
structure StationLaw (s : State) : Prop where
  currents : ∀ k < 12, ∀ b, (kioskAt s k).current = some b → b < 24 ∧ (basketAt s b).kiosk = k ∧
    (Selling (basketAt s b) ∨ (basketAt s b).state = .printing ∨ (basketAt s b).state = .collect)
  conditions : ∀ k < 12,
    let c := kioskAt s k
    let printer := (printerAt s k).state
    c.condition =
      if c.service = true then .service
      else if printer = .stalled ∨ printer = .absent then .stalled
      else match c.current.map (fun b => (basketAt s b).state) with
        | some .selecting => .selecting
        | some .paying => .paying
        | some .unresolved => .paying
        | some .printing => .printing
        | some .collect => .collect
        | some _ => .idle
        | none =>
          if s.station.foyer.low = true then .wait else if (senseAt s k 0).accepted = true then .greet else .idle
  lamps : ∀ l : LampId,
    let x := lampAt s l
    (∀ line, x.follow = some line → x.function = .follow line ∧ x.source = .follow) ∧
    (∀ f d, x.follow = none → x.override = some (f, d) → x.function = f ∧ x.source = .override) ∧
    (∀ e : Binding, x.follow = none → x.override = none →
      (match l with
        | .kiosk k _ => s.station.kioskBindings[conditionNum (kioskAt s k).condition]? = some e
        | .counter m _ => s.station.counterBindings[showingNum (counterAt s m).showing]? = some e) →
      x.function = (match l with
        | .kiosk _ .green => e.green
        | .kiosk _ .red => e.red
        | .counter _ .green => e.green
        | .counter _ .red => e.red) ∧ x.source = .binding)

/-! ### Terms of the statements -/

/-- R176: the request `r`, of kind `k`, is the oldest handed to its owner and not yet taken. -/
abbrev Handed (k : RequestKind) (r : Request) (s : State) : Prop := nextHanded (ownerOf k) s = some r ∧ r.kind = k

/-- The state once its owner has taken a request from those handed over. -/
def taken (r : Request) (s : State) : State := { s with board := { s.board with handed := s.board.handed.erase r } }

/-- 10.5: the result codes 00h to 1Fh, in code order. -/
def codesInOrder : List ResultCode :=
  [.ok, .withdrawn, .badKind, .badParameter, .notConfigured, .clockUnset, .wrongState, .basketBusy,
   .noContext, .noShow, .saleClosed, .seatTaken, .seatBlocked, .gapLeft, .basketFull, .poolFull,
   .tableFull, .salesFull, .sequenceSpent, .overCeiling, .terminalFault, .declined, .cancelled, .timedOut, .unresolved, .tooLate,
   .queueFull, .templateInUse, .printerAbsent, .showStarted, .unknownSale, .stationService]

/-- R181: the message sent at an event that sends one, under the notice enable. -/
def message (enable : Bool) : List Output := if enable then [.interrupt] else []

/-- R157, R159: one station cell with its factor set and mask replaced, under its change count; every other field of the units
stays. -/
def cellWritten (cell : CellId) (factors mask : FactorSet) (u : StationUnit) : StationUnit :=
  match cell with
  | .kiosk k =>
    let c := u.kiosks.getD k (.atLevels [])
    { u with kiosks := u.kiosks.set k { c with factors := factors, mask := mask, changes := bump c.changes } }
  | .counter m =>
    let c := u.counters.getD m .initial
    { u with counters := u.counters.set m { c with factors := factors, mask := mask, changes := bump c.changes } }
  | .foyer => { u with foyer := { u.foyer with factors := factors, mask := mask, changes := bump u.foyer.changes } }

/-! ### Places of the memory window (R172, 10.6) -/

/-- A byte the host may write: the parameters, host tag and kind of a slot, and staging. -/
abbrev storedPlace (a : Nat) : Prop := (a < 0x2000 ∧ a % 128 < 0x5B) ∨ (0x8000 ≤ a ∧ a < 0xA000)

/-- A byte of a slot's state word. -/
abbrev guardedPlace (a : Nat) : Prop := a < 0x2000 ∧ 0x7C ≤ a % 128

/-- A byte of a station cell's mask. -/
abbrev maskPlace (a : Nat) : Prop :=
  (0x2800 ≤ a ∧ a < 0x3400 ∧ (a % 256 = 6 ∨ a % 256 = 7)) ∨ (0x3400 ≤ a ∧ a < 0x3600 ∧ a % 128 = 9) ∨ a = 0x3603

/-- A byte of a station cell's acknowledge field. -/
abbrev ackPlace (a : Nat) : Prop :=
  (0x2800 ≤ a ∧ a < 0x3400 ∧ (a % 256 = 8 ∨ a % 256 = 9)) ∨ (0x3400 ≤ a ∧ a < 0x3600 ∧ a % 128 = 10) ∨ a = 0x3604

/-- Every other byte belongs to the part. -/
abbrev partPlace (a : Nat) : Prop := ¬ storedPlace a ∧ ¬ guardedPlace a ∧ ¬ maskPlace a ∧ ¬ ackPlace a

/-- Two bytes as a factor set, the low one first, and the bytes of one. -/
def twoBytes (lo hi : Byte) : FactorSet := BitVec.ofNat 16 (lo.toNat + 256 * hi.toNat)
def lowByte (w : FactorSet) : Byte := BitVec.ofNat 8 (w.toNat % 256)
def highByte (w : FactorSet) : Byte := BitVec.ofNat 8 (w.toNat / 256)

/-! ### The configuration record (R184, 10.6) -/

/-- R184: the field of a configuration record that begins at an offset holds a structural fault. -/
def faultAt (rec : List Byte) (o : Nat) : Prop :=
  let v := fun (at' n : Nat) => leValue ((rec.drop at').take n)
  (o = 0 ∧ 99 < v 0 1) ∨ (o = 9 ∧ (v 9 3 = 0 ∨ 999999 < v 9 3)) ∨ (o = 12 ∧ 300 < v 12 2) ∨
  (o = 14 ∧ (v 14 1 = 0 ∨ 10 < v 14 1)) ∨ (o = 15 ∧ (v 15 1 = 0 ∨ 6 < v 15 1)) ∨ (o = 16 ∧ 50 < v 16 1) ∨
  (o = 17 ∧ 1 < v 17 1) ∨
  (∃ n < 12, (o = 22 + 3 * n ∧ 4 < v o 1) ∨ (o = 23 + 3 * n ∧ 2 < v o 1) ∨ (o = 24 + 3 * n ∧ v o 1 ≠ 1 ∧ v o 1 ≠ 2)) ∨
  (∃ n < 12, (o = 58 + 2 * n ∧ 3 < v o 1) ∨ (o = 59 + 2 * n ∧ 1 < v o 1)) ∨
  (∃ m < 4, (o = 82 + 4 * m ∧ 4 < v o 1) ∨ (o = 83 + 4 * m ∧ 2 < v o 1) ∨ (o = 84 + 4 * m ∧ v o 1 ≠ 1 ∧ v o 1 ≠ 2) ∨
    (o = 85 + 4 * m ∧ 1 < v o 1)) ∨
  (∃ n < 16, (o = 98 + 32 * n ∧ ∃ b ∈ textOf ((rec.drop o).take 16), ¬ (0x20 ≤ b.toNat ∧ b.toNat ≤ 0x7E)) ∨
    (o = 114 + 32 * n ∧ 20000 < v o 2) ∨ (o = 116 + 32 * n ∧ 31 < v o 1))

/-- A lamp record with another function in force. -/
def lampLike (a b : Lamp) : Prop := a = { b with function := a.function, source := a.source }

/-- R163, R164: a kiosk cell that differs from another only in what is derived (condition, functions in force) and in its
change count. -/
def kioskLike (a b : Kiosk) : Prop :=
  a = { b with condition := a.condition, green := a.green, red := a.red, changes := a.changes } ∧ lampLike a.green b.green ∧
    lampLike a.red b.red

/-- The station units of two states differ only in what is derived in the kiosk cells. -/
def stationLike (t s : State) : Prop :=
  (∀ k, kioskLike (kioskAt t k) (kioskAt s k)) ∧ t.station = { s.station with kiosks := t.station.kiosks }

/-- R50: the run time at which the foyer clock, as it stands, reaches the sale close of a show. -/
def closeAt (s : State) (sh : Nat) : Nat :=
  s.showUnit.runTime + 1000 * (instantSeconds (showAt s sh).start + 60 * (showAt s sh).lateWindow)
    - (1000 * instantSeconds s.showUnit.clock.now + s.showUnit.clock.phase)

/-- R9 to R11: the foyer factors that transitions raise. -/
def raisedBy (moves : List ShowState) : FactorSet :=
  (if ShowState.closed ∈ moves then ffShowClosed else 0) ||| (if ShowState.ended ∈ moves then ffShowEnded else 0)

/-- R3, R6, R9 to R11: every show has made in `t` the transitions due at an instant; of the show records only state and change count
move, the basket unit is told of each leaving of ON_SALE, and of the foyer cell only the factors raised and its change count move. -/
def ShowsMoved (now : Instant) (s t : State) : Prop :=
  (∀ n < 48, showAt t n = { (showAt s n) with
    state := (dueMoves now (showAt s n)).getLastD (showAt s n).state, changes := (showAt t n).changes }) ∧
  (∀ n, n ∈ t.showUnit.leftSale ↔ n ∈ s.showUnit.leftSale ∨ (n < 48 ∧ ShowState.closed ∈ dueMoves now (showAt s n))) ∧
  t.station.foyer = { s.station.foyer with
    factors := s.station.foyer.factors ||| raisedBy ((List.range 48).flatMap (fun n => dueMoves now (showAt s n)))
    changes := t.station.foyer.changes }

/-- The listed seats of a show stand in one state with one owner in `t`, their tiers as in `s`; every other cell is as in `s`. -/
def CellsMoved (sh : Nat) (list : List Nat) (st : SeatState) (owner : Option Nat) (s t : State) : Prop :=
  (∀ i ∈ list, seatAt t ((showAt s sh).seatBase + i) = ⟨st, (seatAt s ((showAt s sh).seatBase + i)).tier, owner⟩) ∧
    ∀ c, (∀ i ∈ list, c ≠ (showAt s sh).seatBase + i) → seatAt t c = seatAt s c

/-- The listed entries are empty in `t`; every other one is as in `s` but for its chain link and change count. -/
def EntriesRemoved (list : List Nat) (s t : State) : Prop :=
  (∀ i ∈ list, voucherAt t i = Voucher.empty) ∧
    ∀ i, i ∉ list → voucherAt t i = { (voucherAt s i) with link := (voucherAt t i).link, changes := (voucherAt t i).changes }

/-- R52, R55: a basket ended without a sale in `t`: seats released, vouchers removed, lists emptied, deadline absent, its kiosk's
reference to it cleared. -/
def Ended (b : Nat) (dest : BasketState) (s t : State) : Prop :=
  let c := basketAt s b
  CellsMoved c.sh c.seats .free none s t ∧ EntriesRemoved c.vouchers s t ∧
  showAt t c.sh = { (showAt s c.sh) with
    held := (showAt s c.sh).held - c.seats.length, free := (showAt s c.sh).free + c.seats.length
    changes := (showAt t c.sh).changes } ∧
  (∀ n, n ≠ c.sh → showAt t n = showAt s n) ∧
  basketAt t b = { c with state := dest, seats := [], vouchers := [], deadline := none, changes := bump c.changes } ∧
  (∀ n, n ≠ b → basketAt t n = basketAt s n) ∧
  (∀ k, kioskLike (kioskAt t k) { (kioskAt s k) with
    current := if k = c.kiosk ∧ (kioskAt s k).current = some b then none else (kioskAt s k).current }) ∧
  t = { s with
    seats := t.seats, showUnit := { s.showUnit with shows := t.showUnit.shows }
    voucherUnit := { s.voucherUnit with entries := t.voucherUnit.entries, heads := t.voucherUnit.heads, chainChanges := t.voucherUnit.chainChanges }
    basketUnit := { s.basketUnit with baskets := t.basketUnit.baskets }
    station := { s.station with kiosks := t.station.kiosks } }

/-- R38, R57, R64, R135, R148: a sale made of a basket in `t`: the record in the lowest empty place with the next serial, the
seats SOLD and the vouchers ACTIVE under that serial, the counts raised, and the basket PRINTING with its plan. -/
def Sold (b : Nat) (m : Method) (s t : State) : Prop :=
  let c := basketAt s b
  let serial := s.salesUnit.nextSerial
  let place := lowestFree 0 s.salesUnit.sales
  saleAt t place = { serial := serial, sh := c.sh, kiosk := c.kiosk, seatCount := c.seats.length, voucherCount := c.vouchers.length
                     seatSubtotal := c.quote.seatSubtotal, voucherSubtotal := c.quote.voucherSubtotal, discount := c.quote.discount
                     gross := c.quote.gross, tax := c.quote.tax, byCard := m.byCard, code := m.code, tail := m.tail
                     refunded := false, refundAmount := none, reprints := 0, changes := bump (saleAt s place).changes } ∧
  (∀ p, p ≠ place → saleAt t p = saleAt s p) ∧
  t.salesUnit = { s.salesUnit with sales := t.salesUnit.sales, nextSerial := serial + 1, inUse := s.salesUnit.inUse + 1, reserved := s.salesUnit.reserved - 1, changes := t.salesUnit.changes } ∧
  CellsMoved c.sh c.seats .sold (some serial) s t ∧
  showAt t c.sh = { (showAt s c.sh) with
    held := (showAt s c.sh).held - c.seats.length, sold := (showAt s c.sh).sold + c.seats.length
    changes := (showAt t c.sh).changes } ∧
  (∀ n, n ≠ c.sh → showAt t n = showAt s n) ∧
  (∀ i, voucherAt t i = if i ∈ c.vouchers then
    { (voucherAt s i) with state := some .active, owner := some serial, changes := bump (voucherAt s i).changes } else voucherAt s i) ∧
  (statAt t (24 * c.kiosk) = min (statAt s (24 * c.kiosk) + c.seats.length) 4294967295 ∧
    statAt t (24 * c.kiosk + 4) = min (statAt s (24 * c.kiosk + 4) + c.vouchers.length) 4294967295 ∧
    ∀ o, o ≠ 24 * c.kiosk → o ≠ 24 * c.kiosk + 4 → statAt t o = statAt s o) ∧
  basketAt t b = { c with
    state := .printing, deadline := none, serial := some serial, cursor := 0, printed := 0
    plan := (List.range c.seats.length).map (fun n => ⟨.ticket, n⟩) ++ (List.range c.vouchers.length).map (fun n => ⟨.slip, n⟩)
      ++ (if (cfgOf s).receipts then [⟨.receipt, 0⟩] else [])
    changes := bump c.changes } ∧
  (∀ n, n ≠ b → basketAt t n = basketAt s n) ∧ stationLike t s ∧
  t = { s with
    seats := t.seats, showUnit := { s.showUnit with shows := t.showUnit.shows }
    voucherUnit := { s.voucherUnit with entries := t.voucherUnit.entries }
    basketUnit := { s.basketUnit with baskets := t.basketUnit.baskets }, salesUnit := t.salesUnit, stats := t.stats
    station := t.station }

/-! ### Terms of the statements about terminal lines -/

/-- The receiver of a line stands outside a frame (R86). -/
abbrev Outside (n : Nat) (s : State) : Prop := (lineAt s n).rx = none ∧ (lineAt s n).gapDue = none

/-- A good frame answered ACK (R86). -/
def acked (n : Nat) (s : State) : State := { s with wire := s.wire ++ [.answer n 0x06] }

/-- Only one line's fields and what its kiosk cell derives or counts move, with whatever is sent. -/
def LineMoved (n : Nat) (x : Line) (sent : List Output) (s t : State) : Prop :=
  lineAt t n = x ∧ (∀ m, m ≠ n → lineAt t m = lineAt s m) ∧ t.wire = s.wire ++ sent ∧
    (∀ k, kioskLike (kioskAt t k) (kioskAt s k)) ∧
    t = { s with lines := t.lines, wire := t.wire, station := { s.station with kiosks := t.station.kiosks } }

/-- One payment record of a line replaced. -/
def withRecord (i : Nat) (r : PayRecord) (x : Line) : Line := { x with records := x.records.set i r }

/-- R95, R98, R99: the frame ABORT of a record. -/
def abortOf (tag : Nat) (cause : AbortCause) : Frame := ⟨0x02, BitVec.ofNat 8 tag, [if cause = .customer then 0x01 else 0x02]⟩

/-- A frame sent at a run time and its answer awaited (R88). -/
def sentAt (now : Nat) (f : Frame) : Option Awaiting := some { frame := f, sendings := 1, due := ⟨now + 300, now⟩ }

/-- R98, R99: the line once ABORT has been sent for its record `i`. -/
def abortingLine (now i : Nat) (cause : AbortCause) (r : PayRecord) (x : Line) : Line :=
  withRecord i { r with phase := .aborting, cause := some cause, changes := bump r.changes }
    { x with state := .aborting, pingDue := none, authDue := none, abortDue := some ⟨now + 10000, now⟩
             awaiting := sentAt now (abortOf r.tag cause) }

/-- R90 to R92: the line at rest in a state, its exchange over, with the PING timer started. -/
def restingLine (now : Nat) (dest : LineState) (x : Line) : Line :=
  { x with state := dest, pings := if dest = .idle then 0 else x.pings, pingDue := some ⟨now + 5000, now⟩, authDue := none
           abortDue := none, reverseDue := none, awaiting := none, reversing := none }

/-- R96: the record `i` of a line closed in `t`: its outcome, code and tail; the line in IDLE or FAULT, with TERMINAL_FAULT raised
for FAULT; the outcome counted for the kiosk and handed to the basket unit. What waited for the record is not yet answered. -/
def RecordClosed (n i : Nat) (o : PayOutcome) (code : Option (List Byte)) (tail : Option Nat) (dest : LineState)
    (s t : State) : Prop :=
  let r := recordAt s n i
  let x := lineAt s n
  lineAt t n = restingLine s.showUnit.runTime dest (withRecord i
    { r with phase := .closed, outcome := some o, code := code, tail := tail, cancelSlots := [], closedOrder := x.closes
             changes := bump r.changes } { x with lastClosed := some r.tag, closes := x.closes + 1 }) ∧
  (∀ m, m ≠ n → lineAt t m = lineAt s m) ∧
  (∀ cell, factorsOf t cell =
    if dest = .fault ∧ cell = kioskCell n then factorsOf s cell ||| kfTerminalFault else factorsOf s cell) ∧
  (dest = .idle → t.wire = s.wire ∧ t.board = s.board) ∧
  (∀ off, statAt t off =
    if (o = .approved ∧ off = 24 * n + 8) ∨ (o = .declined ∧ off = 24 * n + 12) ∨ (o = .timedOut ∧ off = 24 * n + 16) ∨
      (o = .unresolved ∧ off = 24 * n + 20) then min (statAt s off + 1) 4294967295 else statAt s off) ∧
  t.basketUnit = { s.basketUnit with outcomes := s.basketUnit.outcomes ++ [⟨r.basket, o, code.getD [], tail⟩] } ∧
  t = { s with
    lines := t.lines, basketUnit := t.basketUnit, stats := t.stats, wire := t.wire
    board := { s.board with attention := t.board.attention }, station := { s.station with kiosks := t.station.kiosks } }

/-- R99: every CANCEL_PAY that waited for a record completes, by the record's outcome. -/
def answerCancels (r : PayRecord) (o : PayOutcome) (s : State) : State :=
  forEach r.cancelSlots (fun slot => completeSlot slot
    (match o with
      | .cancelled => .ok
      | .approved => .tooLate
      | .declined => .ok
      | .timedOut => .ok
      | .unresolved => .unresolved) []) s

/-- R87: a stray frame, acknowledged and counted. -/
def StrayFrame (n : Nat) (s t : State) : Prop :=
  t.wire = s.wire ++ [.answer n 0x06] ∧ statAt t (0x210 + 20 * n) = min (statAt s (0x210 + 20 * n) + 1) 4294967295 ∧
    (∀ o, o ≠ 0x210 + 20 * n → statAt t o = statAt s o) ∧ t = { s with wire := t.wire, stats := t.stats }

/-! ### Terms of the statements about counters and stations -/

/-- R142, R167: an answer given at a counter in `t`: the last answer, the factor, the statistics, and the showing with its
deadline; of the lamps only the functions in force move. -/
def Answered (m : Nat) (chars : List Byte) (a : Showing) (kind : Option Nat) (first : Option (Nat × Instant)) (s t : State) : Prop :=
  let c := counterAt s m
  let now := s.showUnit.runTime
  let off := 0x1B0 + 20 * m + (if a = .redeemed then 0 else 4)
  counterAt t m = { c with
    lastAnswer := some { code := chars, answer := a, kind := kind, first := first
                         instant := if s.showUnit.clock.isSet then some s.showUnit.clock.now else none }
    showing := a, answerDue := some ⟨now + 1000 * (cfgOf s).answerTime, now⟩
    factors := c.factors ||| (if a = .redeemed then cfRedeemed else cfRefused)
    green := (counterAt t m).green, red := (counterAt t m).red, changes := (counterAt t m).changes } ∧
  lampLike (counterAt t m).green c.green ∧ lampLike (counterAt t m).red c.red ∧
  (∀ j, j ≠ m → counterAt t j = counterAt s j) ∧
  statAt t off = min (statAt s off + 1) 4294967295 ∧ (∀ o, o ≠ off → statAt t o = statAt s o) ∧
  t = { s with
    stats := t.stats, wire := t.wire, board := { s.board with attention := t.board.attention }
    station := { s.station with counters := t.station.counters } }

/-- R161: the change at a sense input accepted in `t`: the record, the factor, the internal use of S1 and S2, and the condition. -/
def EdgeAccepted (k l : Nat) (s t : State) : Prop :=
  let x := senseAt s k l
  let matching := match x.edge with
    | .none => False
    | .rising => x.present = true
    | .falling => x.present = false
    | .both => True
  senseAt t k l = { x with accepted := x.present, deadline := none } ∧ (∀ j, j ≠ l → senseAt t k j = senseAt s k j) ∧
  (∀ j, j ≠ k → kioskAt t j = kioskAt s j) ∧
  (kioskAt t k).service = (if l = 1 then x.present else (kioskAt s k).service) ∧
  (kioskAt t k).current = (kioskAt s k).current ∧ (kioskAt t k).mask = (kioskAt s k).mask ∧
  (kioskAt t k).condition = conditionOf t k ∧ lampLike (kioskAt t k).green (kioskAt s k).green ∧
  lampLike (kioskAt t k).red (kioskAt s k).red ∧
  (matching → (kioskAt t k).factors = (kioskAt s k).factors ||| BitVec.ofNat 16 (2 ^ (9 + l))) ∧
  (¬ matching → (kioskAt t k).factors = (kioskAt s k).factors ∧ t.wire = s.wire ∧ t.board = s.board) ∧
  t.basketUnit = { s.basketUnit with
    chutes := s.basketUnit.chutes ++ (if l = 2 ∧ x.present = false then [k] else []) } ∧
  t = { s with
    basketUnit := t.basketUnit, wire := t.wire, board := { s.board with attention := t.board.attention }
    station := { s.station with kiosks := t.station.kiosks } }

/-- One sense record of a kiosk replaced. -/
def SenseWritten (k l : Nat) (x : Sense) (s t : State) : Prop :=
  senseAt t k l = x ∧ (∀ j, j ≠ l → senseAt t k j = senseAt s k j) ∧ (∀ j, j ≠ k → kioskAt t j = kioskAt s j) ∧
    kioskAt t k = { (kioskAt s k) with senses := (kioskAt t k).senses, changes := bump (kioskAt s k).changes } ∧
    t = { s with station := { s.station with kiosks := t.station.kiosks } }

/-- One lamp's record replaced. -/
def LampWritten (l : LampId) (x : Lamp) (s t : State) : Prop :=
  lampAt t l = x ∧ (∀ j, j ≠ l → lampAt t j = lampAt s j) ∧
    (∀ k, kioskAt t k = { (kioskAt s k) with
      green := (kioskAt t k).green, red := (kioskAt t k).red, changes := (kioskAt t k).changes }) ∧
    (∀ m, counterAt t m = { (counterAt s m) with
      green := (counterAt t m).green, red := (counterAt t m).red, changes := (counterAt t m).changes }) ∧
    t = { s with station := { s.station with kiosks := t.station.kiosks, counters := t.station.counters } }

/-! ### Terms of the statements about printers -/

/-- R121: a printer stalled for a cause. -/
def stalledAs (c : StallCause) (z : Printer) : Printer :=
  { interruptHead z with state := .stalled, stallCause := some c, cutDue := none }

/-- R109: a printer lost. -/
def lostFrom (z : Printer) : Printer := { interruptHead z with state := .absent, cutDue := none }

/-- R120: a printer waiting for the cut. -/
def finishingAt (now : Nat) (z : Printer) : Printer := { z with state := .finishing, cutDue := some ⟨now + 5000, now⟩ }

/-- R119: a printer whose head `x`, with `rest` behind it, has started. -/
def startedFrom (s : State) (x : Item) (rest : List Item) (z : Printer) : Printer :=
  { z with
    state := if rendering s x = [] then .finishing else .streaming, toSend := rendering s x
    cutDue := if rendering s x = [] then some ⟨s.showUnit.runTime + 5000, s.showUnit.runTime⟩ else z.cutDue
    queue := { x with state := .printing } :: rest, queueChanges := bump z.queueChanges }

/-- R110: printer `p` becomes `x` in `t`, with factors raised in its kiosk cell and the listed statistics counted once; of the units
only its record moves, and of the station cells only that kiosk's, with what it derives. Nothing is sent but notices. -/
def PrinterMoved (p : Nat) (x : Printer) (raised : FactorSet) (counts : List Nat) (s t : State) : Prop :=
  printerAt t p = x ∧ (∀ j, j ≠ p → printerAt t j = printerAt s j) ∧
  kioskLike (kioskAt t p) { (kioskAt s p) with factors := (kioskAt s p).factors ||| raised } ∧
  (kioskAt t p).condition = conditionOf t p ∧ (∀ k, k ≠ p → kioskAt t k = kioskAt s k) ∧
  (∀ o, statAt t o = if o ∈ counts then min (statAt s o + 1) 4294967295 else statAt s o) ∧
  (∃ more, t.wire = s.wire ++ more ∧ ∀ o ∈ more, o = .interrupt) ∧
  t = { s with
    print := { s.print with printers := t.print.printers }, stats := t.stats, wire := t.wire
    board := { s.board with attention := t.board.attention }, station := { s.station with kiosks := t.station.kiosks } }

/-- R119, R121: from `s` to `t` a printer in READY, standing as `z`, is stalled by a status byte or starts its head, if its last
status allows one. -/
def ReadyMoved (p : Nat) (b : Byte) (z : Printer) (raised : FactorSet) (counts : List Nat) (s t : State) : Prop :=
  (∀ c, shownCause b = some c → PrinterMoved p (stalledAs c z) (raised ||| kfPrinterStalled) ((0x124 + 12 * p) :: counts) s t) ∧
  (shownCause b = none →
    (∀ x rest, z.queue = x :: rest → x.state = .queued → z.lastStatus.any allowsByte = true →
      PrinterMoved p (startedFrom s x rest z) raised counts s t) ∧
    ((z.queue = [] ∨ (∃ x rest, z.queue = x :: rest ∧ x.state ≠ .queued) ∨ z.lastStatus.any allowsByte = false) →
      PrinterMoved p z raised counts s t))

/-- R120: the completion in `t` of the head `x` of a printer that stands as `y` in FINISHING: the item is reported and counted, the
next plan item, of the lowest serial, is pulled into the room it leaves, and the same byte finds the printer READY. -/
def CutMoved (p : Nat) (b : Byte) (y : Printer) (x : Item) (rest : List Item) (raised : FactorSet) (s t : State) : Prop :=
  let done := { y with state := .ready, cutDue := none, toSend := [], queue := rest, queueChanges := bump y.queueChanges }
  let mayPull := fun n => (basketAt s n).state = .printing ∧ (basketAt s n).printer = p ∧
    (basketAt s n).cursor < (basketAt s n).plan.length
  let told := fun n => if x.source = .basket n then
    { (basketAt s n) with printed := (basketAt s n).printed + 1, changes := bump (basketAt s n).changes } else basketAt s n
  let counts := (0x120 + 12 * p) :: (if 0 < x.reprints then [0x128 + 12 * p] else [])
  let thenReady := fun z =>
    ReadyMoved p b z raised counts { s with basketUnit := t.basketUnit, salesUnit := t.salesUnit } t
  t.basketUnit = { s.basketUnit with baskets := t.basketUnit.baskets } ∧ t.basketUnit.baskets.length = 24 ∧
  (((∀ n < 24, ¬ mayPull n) ∨ 16 ≤ rest.length) → thenReady done ∧ ∀ n < 24, basketAt t n = told n) ∧
  (∀ n m item template, n < 24 → mayPull n → (basketAt s n).serial = some m →
    (basketAt s n).plan[(basketAt s n).cursor]? = some item →
    (∀ k < 24, k ≠ n → mayPull k → ∃ l, (basketAt s k).serial = some l ∧ m < l) → rest.length < 16 →
    (item.kind = .ticket → template = 0) → (item.kind = .receipt → template = 1) →
    (item.kind = .slip → ∃ i, (basketAt s n).vouchers[item.index]? = some i ∧
      template = (kindAt s (voucherAt s i).kind).template) →
    thenReady { done with
      queue := placeItem ⟨item.kind, template, m, item.index, false, 0, .queued, .basket n, y.nextArrival⟩ rest
      nextArrival := (y.nextArrival + 1) % 65536, queueChanges := bump (bump y.queueChanges) } ∧
    basketAt t n = { (told n) with cursor := (told n).cursor + 1, changes := bump (told n).changes } ∧
    (∀ k < 24, k ≠ n → basketAt t k = told k)) ∧
  t.salesUnit = { s.salesUnit with sales := t.salesUnit.sales } ∧
  (∀ place, saleAt t place =
    if x.source = .reprint ∧ saleplace s x.serial = some place ∧ (saleAt s place).refunded = false ∧ (saleAt s place).reprints < x.reprints
    then { (saleAt s place) with reprints := x.reprints, changes := bump (saleAt s place).changes } else saleAt s place)

/-- R109, R110, R119 to R121: what a status byte with presence set does in `t` to a printer that stands as `y`, once it is recorded
with the factors `raised`. -/
def StatusMoved (p : Nat) (b : Byte) (y : Printer) (raised : FactorSet) (s t : State) : Prop :=
  let stalls := fun c => PrinterMoved p (stalledAs c y) (raised ||| kfPrinterStalled) [0x124 + 12 * p] s t
  (y.state = .stalled → PrinterMoved p y raised [] s t) ∧
  (y.state = .ready → ReadyMoved p b y raised [] s t) ∧
  (y.state = .absent →
    (∀ c, shownCause b = some c → stalls c) ∧
    (shownCause b = none →
      ((∃ x rest, y.queue = x :: rest ∧ x.state = .incomplete) → stalls .absence) ∧
      ((∀ x rest, y.queue = x :: rest → x.state ≠ .incomplete) → ReadyMoved p b { y with state := .ready } raised [] s t))) ∧
  (y.state = .streaming →
    (∀ c, shownCause b = some c → stalls c) ∧
    (shownCause b = none → PrinterMoved p (if y.toSend = [] then finishingAt s.showUnit.runTime y else y) raised [] s t)) ∧
  (y.state = .finishing →
    (stCutDone b = false → (∀ c, shownCause b = some c → stalls c) ∧ (shownCause b = none → PrinterMoved p y raised [] s t)) ∧
    (stCutDone b = true → ∀ x rest, y.queue = x :: rest → CutMoved p b y x rest raised s t))

/-- R109, R119, R120: what a status byte with presence clear does in `t` to a printer that stands as `y`, once it is recorded. -/
def AbsenceMoved (p : Nat) (y : Printer) (s t : State) : Prop :=
  (y.absentRun = 10 → y.state ≠ .absent → PrinterMoved p (lostFrom y) kfPrinterAbsent [] s t) ∧
  ((y.absentRun ≠ 10 ∨ y.state = .absent) →
    PrinterMoved p (if y.state = .streaming ∧ y.toSend = [] then finishingAt s.showUnit.runTime y else y) 0 [] s t)

/-- R113: a status byte with presence set, and so one on the queue (log entry 39): it starts the head of a READY printer that stands
as `y`, completes it, or stops it. -/
def OnQueue (y : Printer) (b : Byte) : Prop :=
  (y.state = .finishing ∧ stCutDone b = true) ∨
  ((y.state = .ready ∨ y.state = .streaming ∨ y.state = .finishing) ∧ shownCause b ≠ none ∧
    ∃ x rest, y.queue = x :: rest ∧ x.state = .printing) ∨
  (y.state = .ready ∧ shownCause b = none ∧ y.lastStatus.any allowsByte = true ∧ ∃ x rest, y.queue = x :: rest ∧ x.state = .queued)

/-- No event waits for a resource (R29, R47, R124, R153). -/
abbrev NoneWaits (r : Resource) (s : State) : Prop := ∀ e ∈ s.waiting, e.1 ≠ r

/-- R29, R124, R153: what makes an event wait: a call open on the basket, a sale check open on the queue, a refund in progress. -/
def Busy (s : State) : Resource → Prop
  | .basket b => (basketAt s b).call ≠ none
  | .printer p => (printerAt s p).check ≠ none
  | .sale serial => ∃ f ∈ s.salesUnit.refunds, f.serial = serial

/-- The command by which its owner takes a request of a kind (10.5). -/
def commandOf : RequestKind → Instr
  | .setClock => .setClock | .loadShow => .loadShow | .setPrices => .setPrices | .closeSale => .closeSale | .dropShow => .dropShow
  | .blockSeats => .blockSeats | .unblockSeats => .unblockSeats | .holdSeats => .holdSeats | .releaseSeats => .releaseSeats
  | .openBasket => .openBasket | .addVoucher => .addVoucher | .dropVoucher => .dropVoucher | .quote => .quote | .pay => .pay
  | .settle => .settle | .abandon => .abandon | .retire => .retire | .cancelPay => .cancelPay | .reverse => .reverse
  | .loadTemplate => .loadTemplate | .reprint => .reprint | .redirect => .redirect | .resumePrinter => .resumePrinter
  | .voidVoucher => .voidVoucher | .refund => .refund | .resetStation => .resetStation | .setSense => .setSense
  | .setPattern => .setPattern | .setBinding => .setBinding | .setLamp => .setLamp | .configure => .configure
  | .clearCounts => .clearCounts

/-- An event that waited has in `t` the effect its own command has on `s`: a request the command of its kind, with the request the
oldest handed over; a deadline, a pull and a unit's step their own; a show's leaving ON_SALE ends the basket it reached as EXPIRED
(R52), if that is SELECTING still. A status byte, recorded when it came, moves the printer as it then stands, but ends no absence that
began after it came; a loss makes the printer ABSENT, if it is not ABSENT already, and a byte that came behind it ends that absence
(log entry 39). -/
def OwnEffect (e : WaitEvent) (s t : State) : Prop :=
  match e with
  | .request r => exec (commandOf r.kind) { s with board := { s.board with handed := r :: s.board.handed } } = .next t
  | .holdDeadline b => ∀ h : b < 24, exec (.holdDeadline ⟨b, h⟩) s = .next t
  | .leftSale b =>
    ((basketAt s b).call ≠ none → t = { s with waiting := s.waiting ++ [(.basket b, .leftSale b)] }) ∧
    ((basketAt s b).call = none → (basketAt s b).state ≠ .selecting → t = s) ∧
    ((basketAt s b).call = none → (basketAt s b).state = .selecting → b < 24 → (basketAt s b).sh < 48 → Canonical s →
      s.basketUnit.baskets.length = 24 → s.showUnit.shows.length = 48 →
      ∃ u, t = raiseFactor (kioskCell (basketAt s b).kiosk) kfHoldExpired u ∧ Ended b .expired s u)
  | .status p byte =>
    ((printerAt s p).check ≠ none → t = { s with waiting := s.waiting ++ [(.printer p, .status p byte)] }) ∧
    ((printerAt s p).check = none → p < 12 → s.print.printers.length = 12 → s.station.kiosks.length = 12 →
      s.basketUnit.baskets.length = 24 → Canonical s →
      ((printerAt s p).state = .absent → PrinterMoved p (printerAt s p) 0 [] s t) ∧
      ((printerAt s p).state ≠ .absent → StatusMoved p byte (printerAt s p) 0 s t))
  | .returned p byte =>
    ((printerAt s p).check ≠ none → t = { s with waiting := s.waiting ++ [(.printer p, .returned p byte)] }) ∧
    ((printerAt s p).check = none → p < 12 → s.print.printers.length = 12 → s.station.kiosks.length = 12 →
      s.basketUnit.baskets.length = 24 → Canonical s → StatusMoved p byte (printerAt s p) 0 s t)
  | .absence p =>
    ((printerAt s p).state = .absent → t = s) ∧
    ((printerAt s p).state ≠ .absent → (printerAt s p).check ≠ none →
      t = { s with waiting := s.waiting ++ [(.printer p, .absence p)] }) ∧
    ((printerAt s p).state ≠ .absent → (printerAt s p).check = none → p < 12 → s.print.printers.length = 12 →
      s.station.kiosks.length = 12 → Canonical s → PrinterMoved p (lostFrom (printerAt s p)) kfPrinterAbsent [] s t)
  | .cutDeadline p => ∀ h : p < 12, exec (.cutDeadline ⟨p, h⟩) s = .next t
  | .pull p => ∀ h : p < 12, exec (.pull ⟨p, h⟩) s = .next t
  | .printerReset k => ∀ h : k < 12, exec (.printerReset ⟨k, h⟩) s = .next t
  | .saleCheck p => ∀ h : p < 12, ∃ u, exec (.saleCheck ⟨p, h⟩) { s with waiting := [] } = .next u ∧
      t = { u with waiting := s.waiting ++ u.waiting }
  | .salesRemoval sh => ∀ h : sh < 48, exec (.salesRemoval ⟨sh, h⟩) s = .next t

/-- R29, R124, R153 (order and moment by log entry 4): from `s` to `t` the listed events are taken, each while the resource is not
busy, each the first that waits for it, each leaving the list and having its own effect; the others keep their order. -/
inductive Turns (r : Resource) : List WaitEvent → State → State → Prop
  | stop (s : State) : Turns r [] s s
  | turn (e : WaitEvent) (more : List WaitEvent) (before after : List (Resource × WaitEvent)) (s t u : State) :
      ¬ Busy s r → s.waiting = before ++ (r, e) :: after → (∀ x ∈ before, x.1 ≠ r) →
      OwnEffect e { s with waiting := before ++ after } t → Turns r more t u → Turns r (e :: more) s u

end Sys2Proof.Machine
end

