-- ==== Sys2Proof/WellFormed.lean ====
section
/-! DEFINITION. Which terms of `Instr` are commands that can reach the part: the checks on operands that the types do not
make. Places are bounded by their types (R8, R45, R171 and the counts of 1.1). -/

namespace Sys2Proof

/-- R172: a host write's unit is aligned, has four lanes and lies in the memory window (10.1). -/
def unitFormed (offset : Nat) (lanes : List (Option Byte)) : Bool :=
  decide (offset < Config.windowSize) && offset % 4 == 0 && lanes.length == 4

/-- R89: the approval code of a RESULT has 6 characters and its tail 4. -/
def resultFormed (code tail : List Byte) : Bool := code.length == 6 && tail.length == 4

/-- R86: bytes that travel as a bad frame: a lead, then a length outside 3 to 40 that ends it, or a good length and as many
bytes as it asks for, whose check bytes are wrong. -/
def badFrameFormed (bytes : List Byte) : Bool :=
  match bytes with
  | lead :: len :: rest =>
    lead == Machine.leadByte &&
      (if len.toNat < 3 ∨ 40 < len.toNat then rest.isEmpty
       else rest.length == len.toNat + 2 && (Machine.frameOfBytes (len :: rest)).isNone)
  | _ => false

/-- R86, R87: a sound frame has a payload of 1 to 38 bytes; here its kind, or its length, is none the terminal sends. -/
def unknownFormed (kind : Byte) (payload : List Byte) : Bool :=
  decide (1 ≤ payload.length) && decide (payload.length ≤ 38) && Machine.payloadLength kind != some payload.length

/-- R145: a sale serial. -/
def serialFormed (serial : Nat) : Bool := decide (1 ≤ serial) && decide (serial ≤ 16777215)

/-- The commands that can reach the part. -/
def wellFormed (i : Instr) : Bool :=
  match i with
  | .hostWriteUnit offset lanes => unitFormed offset lanes
  | .result _ _ _ code tail => resultFormed code tail
  | .badFrame _ bytes => badFrameFormed bytes
  | .frameOfUnknownKind _ kind _ payload => unknownFormed kind payload
  | .refundFreeing serial => serialFormed serial
  | .refundVoucherStep serial => serialFormed serial
  | .refundComplete serial => serialFormed serial
  | .powerOnReset => true
  | .softReset => true
  | .noticeEnableWrite _ => true
  | .noticeAcknowledge => true
  | .runtimeLowRead => true
  | .runtimeHighRead => true
  | .registerWriteIgnored _ _ => true
  | .postingWrite _ => true
  | .withdrawal _ => true
  | .freeWrite _ => true
  | .maskWrite _ _ => true
  | .acknowledgeWrite _ _ => true
  | .decoderTake => true
  | .coalescingDeadline => true
  | .runTimeAdvance => true
  | .clockSecond => true
  | .dayChange => true
  | .setClock => true
  | .loadShow => true
  | .loadingComplete _ => true
  | .setPrices => true
  | .closeSale => true
  | .dropShow => true
  | .salesRemoval _ => true
  | .voucherShowRemoval _ => true
  | .seatRangeClear _ => true
  | .dropComplete _ => true
  | .blockSeats => true
  | .unblockSeats => true
  | .holdSeats => true
  | .holdEvent _ => true
  | .releaseSeats => true
  | .releaseEvent _ => true
  | .openBasket => true
  | .addVoucher => true
  | .voucherIssue _ => true
  | .dropVoucher => true
  | .voucherRemoval _ => true
  | .quote => true
  | .pay => true
  | .paymentOutcome _ => true
  | .settle => true
  | .abandon => true
  | .retire => true
  | .holdDeadline _ => true
  | .showLeftSale _ => true
  | .moveToCollect _ => true
  | .chuteCleared _ => true
  | .collectDeadline _ => true
  | .cancelPay => true
  | .reverse => true
  | .terminalByteFault _ _ => true
  | .frameGapTimeout _ => true
  | .ack _ => true
  | .nak _ => true
  | .ackWaitTimeout _ => true
  | .card _ _ _ => true
  | .abortDone _ _ _ => true
  | .reverseDone _ _ _ => true
  | .pong _ _ _ => true
  | .fault _ _ _ => true
  | .pingTimer _ => true
  | .authTimeout _ => true
  | .abortWaitTimeout _ => true
  | .reverseWaitTimeout _ => true
  | .statusByte _ _ => true
  | .cutDeadline _ => true
  | .pull _ => true
  | .loadTemplate => true
  | .resumePrinter => true
  | .redirect => true
  | .reprint => true
  | .saleCheck _ => true
  | .reprintItemsEnter _ => true
  | .voidVoucher => true
  | .refund => true
  | .counterByte _ _ => true
  | .counterByteFault _ _ => true
  | .counterGapTimeout _ => true
  | .validation _ => true
  | .answerDeadline _ => true
  | .senseInputChange _ _ _ => true
  | .senseFilterDeadline _ _ => true
  | .setSense => true
  | .setBinding => true
  | .setLamp => true
  | .overrideDeadline _ => true
  | .setPattern => true
  | .patternStep _ => true
  | .resetStation => true
  | .printerReset _ => true
  | .stationCellReset _ => true
  | .configure => true
  | .clearCounts => true

end Sys2Proof
end

