-- ==== Sys2Proof/Certificates/Slice0/Obligations.lean ====
section
/-! DEFINITION. The statements for the provers, chapter by chapter of the manual. Where a statement says that an effect on
the board is a completion it writes `completeSlot`, which `CompletionWritesTheSlotAndServesTheNotice` describes whole. -/

open Sys2Proof Sys2Proof.Machine

/-! ### The queue of commands, reset, and what every step keeps -/

/-- A command at the front of the queue is run on the state with the queue's rest; with no command waiting the part stays as it
is, which is the model's choice (log entry 1). -/
def Obligations.StepRunsTheFrontCommandAndIdlesByChoice : Prop :=
  (∀ (c : Instr) (s : State), step { s with pending := c :: s.pending } = exec c s) ∧
  (∀ s : State, s.pending = [] → step s = .next s)

/-- R20, R44, R69, R106, R126, R144, R155, R170, R182, R186: every value after power-on reset, written out with the defaults that R8,
R18, R19, R21, R45, R94, R127, R140, R145, R164 and R168 give, and every law the steps keep. By the model's choice staging reads 00h (log
entry 5), the sense inputs stand released (log entry 6), the card kind of a payment record, which R94's defaults do not name, is absent
(log entry 11), and what the model keeps beside the manual's fields is empty (log entries 16, 24). -/
def Obligations.ResetStateHoldsTheGivenValuesAndMeetsTheLaws : Prop :=
  let s := State.reset
  let origin : Instant := ⟨2000, 1, 0⟩
  (s.config = none ∧ (cfgOf s).threshold = 4 ∧ (cfgOf s).delay = 10 ∧ s.stats = [] ∧ (∀ o, statAt s o = 0) ∧ s.mem = [] ∧
    (∀ a, memRead s.mem a = 0) ∧ s.pending = [] ∧ s.wire = [] ∧ s.waiting = []) ∧
  s.showUnit = {
    runTime := 0, clock := { isSet := false, now := origin, phase := 0, changes := 0 }
    shows := List.replicate 48 {
      state := .empty, title := [], auditorium := 0, saleOpen := origin, start := origin, finish := origin, lateWindow := 0
      priceList := 0, gapRule := false, seatBase := 0, seatCount := 0, rowLengths := [], free := 0, held := 0, sold := 0
      blocked := 0, changes := 0 }
    prices := List.replicate 16 {
      prices := [0, 0, 0, 0, 0, 0, 0, 0], factor := 100, fee := 0, changes := 0
      names := [[0x54, 0x30], [0x54, 0x31], [0x54, 0x32], [0x54, 0x33], [0x54, 0x34], [0x54, 0x35], [0x54, 0x36], [0x54, 0x37]] }
    kinds := List.replicate 16 { name := [], price := 0, template := 0 }
    loadings := [], removals := [], leftSale := [], dayChanges := [] } ∧
  (s.seats = [] ∧ ∀ cell, seatAt s cell = { state := .free, tier := 0, owner := none }) ∧
  s.basketUnit = {
    baskets := List.replicate 24 {
      state := .free, kiosk := 0, sh := 0, seats := [], vouchers := [], deadline := none, openedAt := 0
      quote := { seatSubtotal := 0, voucherSubtotal := 0, discount := 0, gross := 0, tax := 0, overCeiling := false }
      payRef := none, serial := none, plan := [], cursor := 0, printed := 0, printer := 0, uncollected := false, changes := 0
      call := none }
    outcomes := [], chutes := [] } ∧
  s.lines = List.replicate 12 {
    state := .down, pings := 0, nextTag := 1, lastClosed := none, faultCode := none, parityFaults := 0, framingFaults := 0
    overruns := 0, late := [], lateOverflow := 0, pingDue := none, authDue := none, abortDue := none, reverseDue := none
    awaiting := none, reversing := none, rx := none, gapDue := none, closes := 0
    records := List.replicate 4 {
      tag := 0, basket := 0, amount := 0, phase := .closed, outcome := none, code := none, tail := none, cardPresented := false
      cardKind := none, cause := none, cancelSlots := [], openedAt := 0, closedOrder := 0, changes := 0 } } ∧
  s.print = {
    printers := List.replicate 12 {
      state := .absent, lastStatus := none, absentRun := 0, stallCause := none, cutDue := none, queue := [], nextArrival := 0
      queueChanges := 0, toSend := [], polled := false, check := none }
    templates := List.replicate 32 { length := 0, changes := 0 } } ∧
  (s.voucherUnit = {
    entries := [], heads := [], chainChanges := 0, seqDay := none, nextSeq := 0
    receivers := List.replicate 4 {
      chars := [], bad := false, discard := false, silence := false, gapDue := none, scanned := [] } } ∧
    (∀ i, voucherAt s i = {
      state := none, code := 0, kind := 0, sh := 0, owner := none, redeemedAt := none, link := none, changes := 0 }) ∧
    ∀ bucket, headAt s bucket = none) ∧
  (s.salesUnit = { sales := [], nextSerial := 1, inUse := 0, reserved := 0, changes := 0, refunds := [] } ∧
    ∀ place, saleAt s place = {
      serial := 0, sh := 0, kiosk := 0, seatCount := 0, voucherCount := 0, seatSubtotal := 0, voucherSubtotal := 0, discount := 0
      gross := 0, tax := 0, byCard := false, code := none, tail := none, refunded := false, refundAmount := none, reprints := 0
      changes := 0 }) ∧
  s.board = {
    slots := List.replicate 64 .free, posting := [], doneMark := List.replicate 64 false, handed := [], unnoticed := 0
    completions := false, coalescing := none, attention := 0, noticeEnable := false, runtimeLatch := none
    inflight := List.replicate 24 none, lastFault := none, lastStray := none } ∧
  s.station = {
    kiosks := List.replicate 12 {
      condition := .stalled, service := false, current := none
      senses := List.replicate 4 { present := false, accepted := false, width := .ms8, edge := .none, deadline := none }
      factors := 0, mask := 0x1FFF
      green := { follow := none, override := none, function := .off, source := .binding }
      red := { follow := none, override := none, function := .pattern 2, source := .binding }, changes := 0 }
    counters := List.replicate 4 {
      enabled := false, lastAnswer := none, showing := .idle, answerDue := none, factors := 0, mask := 0x0003
      green := { follow := none, override := none, function := .off, source := .binding }
      red := { follow := none, override := none, function := .off, source := .binding }, changes := 0 }
    foyer := { freeCount := 24, low := false, factors := 0, mask := 0x000F, changes := 0 }
    kioskBindings := [⟨.off, .pattern 4⟩, ⟨.off, .pattern 2⟩, ⟨.on, .off⟩, ⟨.pattern 1, .off⟩, ⟨.pattern 2, .off⟩,
      ⟨.pattern 3, .off⟩, ⟨.off, .pattern 1⟩, ⟨.pattern 7, .off⟩, ⟨.pattern 6, .off⟩]
    counterBindings := [⟨.off, .off⟩, ⟨.on, .off⟩, ⟨.off, .pattern 2⟩, ⟨.off, .pattern 3⟩, ⟨.off, .on⟩, ⟨.off, .pattern 1⟩,
      ⟨.off, .on⟩, ⟨.off, .pattern 4⟩]
    generators := (
      let started := fun (steps : List Nat) (length width : Nat) =>
        ({ steps := steps.map (fun b => b == 1), length := length, width := width, position := 0, stepDue := ⟨width, 0⟩ } : Generator)
      [started [0, 0, 0, 0, 0, 0, 0, 0, 0, 0, 0, 0] 12 400, started [1, 1, 1, 1, 1, 1, 0, 0, 0, 0, 0, 0] 12 100,
       started [1, 0, 1, 0, 1, 0, 1, 0, 0, 0, 0, 0] 8 100, started [1, 0, 1, 0, 0, 0, 0, 0, 0, 0, 0, 0] 12 100,
       started [1, 1, 0, 0, 1, 1, 0, 0, 0, 0, 0, 0] 8 200, started [1, 1, 1, 1, 1, 1, 1, 1, 0, 0, 0, 0] 8 400,
       started [1, 0, 0, 0, 0, 0, 0, 0, 0, 0, 0, 0] 9 100, started [1, 1, 1, 1, 1, 0, 0, 0, 0, 0, 0, 0] 10 50])
    resets := [] } ∧
  (Shaped s ∧ Canonical s ∧ BoardLaw s ∧ AttentionLaw s ∧ (∀ q ∈ s.print.printers, QueueLaw q) ∧ PaymentLaw s ∧ BasketLaw s ∧
    SalesLaw s ∧ HouseLaw s ∧ StationLaw s)

/-- Every step keeps foyer memory, the seat pool, the voucher and sale tables, the bucket heads and the statistics in the one
canonical form their stores have. -/
def Obligations.EveryStepKeepsTheStoresCanonical : Prop :=
  ∀ s t : State, Canonical s → step s = .next t → Canonical t

/-- Every step keeps every table at the number of records the manual gives it. -/
def Obligations.EveryStepKeepsTheTablesShaped : Prop :=
  ∀ s t : State, Shaped s → step s = .next t → Shaped t

/-- R175's law: at every step a slot stands in the done mark exactly while it is DONE and in the posting list exactly while it
is POSTED, and the posting list names no slot twice. -/
def Obligations.EveryStepKeepsTheBoardLaw : Prop :=
  ∀ s t : State, BoardLaw s → step s = .next t → BoardLaw t

/-- R111, R112: at every step each printer queue holds at most 16 items, and every item but the head is QUEUED. -/
def Obligations.EveryStepKeepsTheQueueLaw : Prop :=
  ∀ s t : State, (∀ q ∈ s.print.printers, QueueLaw q) → step s = .next t → ∀ q ∈ t.print.printers, QueueLaw q

/-- R181: at every step the attention count is the number of station cells that draw attention. -/
def Obligations.EveryStepKeepsTheAttentionCount : Prop :=
  ∀ s t : State, Shaped s → AttentionLaw s → step s = .next t → AttentionLaw t

/-- R22, R27, R45, R46, R94, R128, R130, R145 to R147: the laws the units keep hold on at every step. A terminal line has at most
one open payment record, that of a PAYING basket of its kiosk; a basket lists at most 10 seats and 6 vouchers, and a kiosk has at
most one basket selling; serials are given once, refunds stay within their gross, and places are reserved for what is being paid;
a cell is HELD exactly while a selling basket lists it and that basket owns it, each show's counts are the numbers of its cells, a
sale's SOLD cells are as many as its seats; a PENDING voucher is one a selling basket lists, an ACTIVE one is owned by a sale that stands
SOLD, but while its show is being removed, no two entries carry one code, and every entry lies in the chain of its bucket. -/
def Obligations.EveryStepKeepsTheLawsOfTheUnits : Prop :=
  (∀ s t : State, PaymentLaw s → step s = .next t → PaymentLaw t) ∧
  (∀ s t : State, BasketLaw s → step s = .next t → BasketLaw t) ∧
  (∀ s t : State, SalesLaw s → step s = .next t → SalesLaw t) ∧
  (∀ s t : State, SalesLaw s → HouseLaw s → step s = .next t → HouseLaw t)

/-- R48, R163, R164: at every step each kiosk's condition is the first row of R163's table that applies to it, whatever event moved
an input of the table, each kiosk's current basket is one of its own from SELECTING to COLLECT, and each kiosk's and counter's lamps
have the function in force that follow line, override and binding give them. -/
def Obligations.EveryStepKeepsConditionsAndLamps : Prop :=
  ∀ s t : State, Shaped s → StationLaw s → step s = .next t → StationLaw t

/-- R29, R47, R124, R153: the commands that close a call, a sale check or a refund do what they do where nothing waits; then the events
that wait for that basket, queue or record are taken, the oldest first, each leaving the list and having the effect of its own command,
until one makes it busy again or none waits. A refund, once written, serves its record so and then every queue, whose sale checks it
may have let close. That what waited is taken in that very command, and in this order, is the model's choice (log entry 4), and so is
that of a status byte only its event on the queue waits (log entry 39). -/
def Obligations.WaitingEventsAreTakenOldestFirst : Prop :=
  ∀ s u : State,
    let joined := { u with waiting := s.waiting ++ u.waiting }
    (∀ (c : Instr) (r : Resource), exec c { s with waiting := [] } = .next u →
      ((∃ b : Fin 24, r = .basket b ∧ (c = .holdEvent b ∨ c = .releaseEvent b ∨ c = .voucherIssue b ∨ c = .voucherRemoval b)) ∨
        ∃ p : Fin 12, r = .printer p ∧ (c = .saleCheck p ∨ c = .reprintItemsEnter p)) →
      ∃ list t, exec c s = .next t ∧ Turns r list joined t ∧ (Busy t r ∨ NoneWaits r t)) ∧
    (∀ serial : Nat, exec (.refundComplete serial) { s with waiting := [] } = .next u →
      ∃ (list : List WaitEvent) (v : Nat → State), exec (.refundComplete serial) s = .next (v 12) ∧
        Turns (.sale serial) list joined (v 0) ∧ (Busy (v 0) (.sale serial) ∨ NoneWaits (.sale serial) (v 0)) ∧
        ∀ p < 12, ∃ more, Turns (.printer p) more (v p) (v (p + 1)) ∧
          (Busy (v (p + 1)) (.printer p) ∨ NoneWaits (.printer p) (v (p + 1))))

/-- R1: nothing but its own advance and the resets moves run time; SET_CLOCK does not, nor does any other request. -/
def Obligations.OnlyItsAdvanceAndTheResetsMoveRunTime : Prop :=
  ∀ (c : Instr) (s t : State), c ≠ .runTimeAdvance → c ≠ .clockSecond → c ≠ .powerOnReset → c ≠ .softReset →
    (∀ value : Word32, c = .noticeEnableWrite value → value.getLsbD 8 = false) → exec c s = .next t →
    t.showUnit.runTime = s.showUnit.runTime

/-! ### The board unit (Chapter 10) -/

/-- R179, R180, R181: what a completion does, whole: the slot DONE with its done mark and out of the posting list, the result
fields padded with 00h and the result code, numbered in the order of 10.5, every other byte as it was, the in-flight entries of the slot cleared, the
unnoticed count raised, and the notice served. -/
def Obligations.CompletionWritesTheSlotAndServesTheNotice : Prop :=
  ∀ (s : State) (slot : Nat) (code : ResultCode) (fields : List Byte),
    slot < 64 → s.board.slots.length = 64 → s.board.doneMark.length = 64 → Memory.wf s.mem → fields.length ≤ 24 →
    let t := completeSlot slot code fields s
    (slotAt t slot = .done ∧ t.board.doneMark.getD slot false = true ∧ slot ∉ t.board.posting) ∧
    (∀ n, n ≠ slot → slotAt t n = slotAt s n ∧ t.board.doneMark.getD n false = s.board.doneMark.getD n false ∧
      (n ∈ t.board.posting ↔ n ∈ s.board.posting)) ∧
    (∀ i < fields.length, memRead t.mem (128 * slot + 0x60 + i) = fields.getD i 0) ∧
    (∀ i < 24, fields.length ≤ i → memRead t.mem (128 * slot + 0x60 + i) = 0) ∧
    memRead t.mem (128 * slot + 0x78) = resultByte code ∧ (resultByte code).toNat = codesInOrder.idxOf code ∧
    (∀ a, (a < 128 * slot + 0x60 ∨ 128 * slot + 0x78 < a) → memRead t.mem a = memRead s.mem a) ∧
    (∀ b, t.board.inflight.getD b none =
      if s.board.inflight.getD b none = some slot then none else s.board.inflight.getD b none) ∧
    t.board.unnoticed = min 65535 (s.board.unnoticed + 1) ∧
    (s.board.completions = true →
      t.board.completions = true ∧ t.board.coalescing = s.board.coalescing ∧ t.wire = s.wire) ∧
    (s.board.completions = false →
      if (cfgOf s).threshold ≤ min 65535 (s.board.unnoticed + 1) ∨ (s.board.unnoticed = 0 ∧ (cfgOf s).delay = 0) then
        t.board.completions = true ∧ t.board.coalescing = none ∧ t.wire = s.wire ++ message s.board.noticeEnable
      else if s.board.unnoticed = 0 then
        t.board.completions = false ∧ t.wire = s.wire ∧
          t.board.coalescing = some ⟨s.showUnit.runTime + (cfgOf s).delay, s.showUnit.runTime⟩
      else t.board.completions = false ∧ t.board.coalescing = s.board.coalescing ∧ t.wire = s.wire) ∧
    (t.board.handed = s.board.handed ∧ t.board.attention = s.board.attention ∧
      t.board.noticeEnable = s.board.noticeEnable ∧ t.board.runtimeLatch = s.board.runtimeLatch ∧
      t.board.lastFault = s.board.lastFault ∧ t.board.lastStray = s.board.lastStray) ∧
    t = { s with mem := t.mem, board := t.board, wire := t.wire }

/-- R158, R159, R181: what writes a station cell's factor set and mask, whole. Each factor has the bit that 10.6 gives it, and a cell
draws attention exactly while a factor of its set is not in its mask. A factor raised joins the cell's set; unmasked it makes
a cell that drew no attention draw it and sends a message, masked it does neither. MASK_WRITE stores the mask (bits that name no factor
read 0, 10.6) and ACKNOWLEDGE_WRITE clears the factors it names; each tells the board unit when the cell begins or ceases to draw
attention, and a message goes out when FACTORS becomes set. Each is one update of that cell, and nothing else of the part moves. -/
def Obligations.FactorsMasksAndAcknowledgesWriteOneCell : Prop :=
  (([kfHoldExpired, kfUncollected, kfTerminalFault, kfCardPresented, kfLateApproval, kfLateOverflow, kfPrinterAbsent, kfPrinterStalled,
      kfPaperLow] : List FactorSet) = (List.range 9).map (fun i => 1#16 <<< i) ∧
    (∀ line < 4, kfSense line = 1#16 <<< (9 + line)) ∧ ([cfRedeemed, cfRefused] : List FactorSet) = [1, 2] ∧
    ([ffContextLow, ffShowClosed, ffShowEnded, ffBoardFault] : List FactorSet) = [1, 2, 4, 8] ∧
    ∀ factors mask : FactorSet, draws factors mask = true ↔ ∃ i < 16, factors.getLsbD i = true ∧ mask.getLsbD i = false) ∧
  ∀ (s : State) (cell : CellId), s.station.kiosks.length = 12 → s.station.counters.length = 4 →
    let named : FactorSet := match cell with | .kiosk _ => 0x1FFF | .counter _ => 0x0003 | .foyer => 0x000F
    let drew := draws (factorsOf s cell) (maskOf s cell)
    let written := fun (factors mask : FactorSet) =>
      let draw := draws factors mask
      { s with
        station := cellWritten cell factors mask s.station
        board := { s.board with attention :=
          if !drew && draw then s.board.attention + 1 else if drew && !draw then s.board.attention - 1 else s.board.attention }
        wire := s.wire ++ message (!drew && draw && s.board.noticeEnable && s.board.attention == 0) }
    (∀ f : FactorSet, raiseFactor cell f s = { s with
      station := cellWritten cell (factorsOf s cell ||| f) (maskOf s cell) s.station
      board := { s.board with attention := s.board.attention + (if draws f (maskOf s cell) && !drew then 1 else 0) }
      wire := s.wire ++ message (draws f (maskOf s cell) && s.board.noticeEnable) }) ∧
    (∀ value : FactorSet, exec (.maskWrite cell value) s = .next (written (factorsOf s cell) (value &&& named))) ∧
    (∀ value : FactorSet, exec (.acknowledgeWrite cell value) s = .next (written (factorsOf s cell &&& ~~~value) (maskOf s cell)))

/-- R172, R175: the guarded transitions of a state word. POSTED onto a FREE slot puts it last in the posting list, FREE onto a DONE
slot clears its done mark, and nothing else moves. Any other write is not stored; it is counted, recorded with the state it
found, and raises BOARD_FAULT in the foyer cell (WITHDRAWN onto a POSTED or a TAKEN slot is R178's). A host write unit on a state word
is that transition when it is whole and carries one of the three values; with another value, or in part, it is a board fault in every
state, recorded with one byte by the model's choice (log entry 20). -/
def Obligations.StateWordWritesMoveTheSlotOrAreBoardFaults : Prop :=
  (∀ (s : State) (slot : Fin 64), s.board.slots.length = 64 → s.board.doneMark.length = 64 →
    (slotAt s slot = .free →
      ∃ t, exec (.postingWrite slot) s = .next t ∧ slotAt t slot = .posted ∧ (∀ n, n ≠ slot.val → slotAt t n = slotAt s n) ∧
        t = { s with board := { s.board with slots := t.board.slots, posting := s.board.posting ++ [slot.val] } }) ∧
    (slotAt s slot = .done →
      ∃ t, exec (.freeWrite slot) s = .next t ∧ slotAt t slot = .free ∧ (∀ n, n ≠ slot.val → slotAt t n = slotAt s n) ∧
        t.board.doneMark.getD slot false = false ∧
        (∀ n, n ≠ slot.val → t.board.doneMark.getD n false = s.board.doneMark.getD n false) ∧
        t = { s with board := { s.board with slots := t.board.slots, doneMark := t.board.doneMark } })) ∧
  (∀ (s : State) (slot : Fin 64) (c : Instr) (value : Nat), sparseWf (0 : Nat) s.stats →
    ((c = .postingWrite slot ∧ value = 1 ∧ slotAt s slot ≠ .free) ∨
     (c = .freeWrite slot ∧ value = 0 ∧ slotAt s slot ≠ .done) ∨
     (c = .withdrawal slot ∧ value = 4 ∧ (slotAt s slot = .free ∨ slotAt s slot = .done))) →
    ∃ t, exec c s = .next t ∧
      t.board = { s.board with lastFault := some (slot.val, value, slotAt s slot), attention := t.board.attention } ∧
      statAt t statBoardFault = min (statAt s statBoardFault + 1) 4294967295 ∧
      (∀ o, o ≠ statBoardFault → statAt t o = statAt s o) ∧
      factorsOf t .foyer = factorsOf s .foyer ||| ffBoardFault ∧
      t = { s with board := t.board, wire := t.wire, station := { s.station with foyer := t.station.foyer }, stats := t.stats }) ∧
  (∀ (s : State) (slot : Fin 64),
    (∀ a b c d : Byte, let value := a.toNat + 256 * (b.toNat + 256 * (c.toNat + 256 * d.toNat))
      let unit := Instr.hostWriteUnit (128 * slot + 0x7C) [some a, some b, some c, some d]
      (value = 1 → exec unit s = exec (.postingWrite slot) s) ∧ (value = 4 → exec unit s = exec (.withdrawal slot) s) ∧
      (value = 0 → exec unit s = exec (.freeWrite slot) s)) ∧
    (∀ (lanes : List (Option Byte)) (recorded : Byte), sparseWf (0 : Nat) s.stats → lanes.length = 4 →
      (recorded = (lanes.headD none).getD 0) →
      ((∃ x ∈ lanes, x = none) ∧ (∃ x ∈ lanes, x ≠ none) ∨
        ∃ a b c d : Byte, lanes = [some a, some b, some c, some d] ∧ ¬ (b = 0 ∧ c = 0 ∧ d = 0 ∧ (a = 0 ∨ a = 1 ∨ a = 4))) →
      ∃ t, exec (.hostWriteUnit (128 * slot + 0x7C) lanes) s = .next t ∧
        t.board = { s.board with
          lastFault := some (slot.val, recorded.toNat, slotAt s slot), attention := t.board.attention } ∧
        statAt t statBoardFault = min (statAt s statBoardFault + 1) 4294967295 ∧
        (∀ o, o ≠ statBoardFault → statAt t o = statAt s o) ∧
        factorsOf t .foyer = factorsOf s .foyer ||| ffBoardFault ∧
        t = { s with
          board := t.board, wire := t.wire, station := { s.station with foyer := t.station.foyer }, stats := t.stats }))

/-- R178: WITHDRAWN onto a POSTED slot takes it off the posting list and completes it with WITHDRAWN, without result fields
and with its present host tag echoed, counting as a completion, and no request reaches an owner; onto a TAKEN slot it is
neither stored nor counted, and the request runs on. -/
def Obligations.WithdrawalMeetsThePostedOrTheTakenSlot : Prop :=
  ∀ (s : State) (slot : Fin 64), s.board.slots.length = 64 → s.board.doneMark.length = 64 → Memory.wf s.mem →
    (slotAt s slot = .posted →
      ∃ u, exec (.withdrawal slot) s = .next (completeSlot slot .withdrawn [] u) ∧
        slotAt (completeSlot slot .withdrawn [] u) slot = .done ∧
        slot.val ∉ (completeSlot slot .withdrawn [] u).board.posting ∧
        (∀ i < 2, memRead (completeSlot slot .withdrawn [] u).mem (128 * slot + 0x7A + i) =
          memRead s.mem (128 * slot + 0x58 + i)) ∧
        (completeSlot slot .withdrawn [] u).board.handed = s.board.handed ∧
        (completeSlot slot .withdrawn [] u).board.unnoticed = min 65535 (s.board.unnoticed + 1) ∧
        (∀ a, a ≠ 128 * slot + 0x7A → a ≠ 128 * slot + 0x7B → memRead u.mem a = memRead s.mem a) ∧
        u = { s with mem := u.mem }) ∧
    (slotAt s slot = .taken → exec (.withdrawal slot) s = .next s)

/-- R176, R177: the kinds 01h to 20h, their owners, the kinds that name a basket and the result codes 00h to 1Fh are those of 10.5 and
R177; a parameter is one to three bytes, least significant first (10.6), a list its count byte and entries of 2 bytes that fit the
88; an owner takes the oldest request handed to it. The decoder takes the oldest posted slot. A request that passes its checks leaves the slot TAKEN and off the posting
list, its host tag echoed at the take (R176; R174 differs, and the model's choice is log entry 31), and is handed to its owner with the
parameter bytes as they stand, behind those handed before; a PAY or SETTLE sets its basket's in-flight entry. One that fails a check
goes from POSTED straight to DONE: an unknown kind, a kind not taken while UNCONFIGURED, or a kind that names a basket with a PAY or
SETTLE in flight. -/
def Obligations.DecoderHandsOnOrRefusesTheOldestPostedRequest : Prop :=
  (let kinds : List RequestKind := [.setClock, .loadShow, .setPrices, .closeSale, .dropShow, .blockSeats, .unblockSeats, .holdSeats,
      .releaseSeats, .openBasket, .addVoucher, .dropVoucher, .quote, .pay, .settle, .abandon, .retire, .cancelPay, .reverse,
      .loadTemplate, .reprint, .redirect, .resumePrinter, .voidVoucher, .refund, .resetStation, .setSense, .setPattern, .setBinding,
      .setLamp, .configure, .clearCounts]
   let owners : List Owner := List.replicate 5 .shows ++ List.replicate 2 .seats ++ List.replicate 10 .baskets ++
      List.replicate 2 .payment ++ List.replicate 4 .print ++ [.vouchers] ++ [.sales] ++ List.replicate 5 .station ++ List.replicate 2 .board
   (∀ n < 32, kindOfCode (n + 1) = kinds[n]?) ∧ kindOfCode 0x00 = none ∧ (∀ n, 0x20 < n → kindOfCode n = none) ∧
    (∀ k, k ∈ kinds) ∧ kinds.map ownerOf = owners ∧
    (∀ k, namesBasket k = true ↔ k ∈ ([.holdSeats, .releaseSeats, .addVoucher, .dropVoucher, .quote, .pay, .settle, .abandon, .retire,
      .cancelPay] : List RequestKind))) ∧
  ((∀ code, code ∈ codesInOrder) ∧ codesInOrder.map resultByte = (List.range 32).map (BitVec.ofNat 8)) ∧
  (∀ (r : Request) (n : Nat),
    let byte := fun i => (r.params.getD (n + i) 0).toNat
    param1 r n = byte 0 ∧ param2 r n = byte 0 + 256 * byte 1 ∧ param3 r n = byte 0 + 256 * byte 1 + 65536 * byte 2 ∧
    (∀ len, ∀ i < len, (paramBytes r n len).getD i 0 = r.params.getD (n + i) 0) ∧
    ∀ list, paramSeats r n = some list ↔
      n + 1 + 2 * param1 r n ≤ 88 ∧ list = (List.range (param1 r n)).map (fun i => param2 r (n + 1 + 2 * i))) ∧
  (∀ (o : Owner) (s : State) (r : Request), nextHanded o s = some r ↔
    ownerOf r.kind = o ∧ ∃ before after, s.board.handed = before ++ r :: after ∧ ∀ x ∈ before, ownerOf x.kind ≠ o) ∧
  (∀ (s : State) (slot : Nat) (rest : List Nat) (k : RequestKind), slot < 64 → s.board.slots.length = 64 →
    s.board.inflight.length = 24 → Memory.wf s.mem → s.board.posting = slot :: rest →
    kindOfCode (memRead s.mem (128 * slot + 0x5A)).toNat = some k →
    (s.config ≠ none ∨ k = .configure ∨ k = .setClock ∨ k = .clearCounts) →
    let b := (memRead s.mem (128 * slot)).toNat
    (namesBasket k = true → k ≠ .cancelPay → s.board.inflight.getD b none = none) →
    ∃ t r, exec .decoderTake s = .next t ∧ t.board.posting = rest ∧ slotAt t slot = .taken ∧
      (∀ n, n ≠ slot → slotAt t n = slotAt s n) ∧
      (r.slot = slot ∧ r.kind = k ∧ r.params.length = 88 ∧ ∀ i < 88, r.params.getD i 0 = memRead s.mem (128 * slot + i)) ∧
      t.board.handed = s.board.handed ++ [r] ∧
      (∀ i < 2, memRead t.mem (128 * slot + 0x7A + i) = memRead s.mem (128 * slot + 0x58 + i)) ∧
      (∀ a, a ≠ 128 * slot + 0x7A → a ≠ 128 * slot + 0x7B → memRead t.mem a = memRead s.mem a) ∧
      (∀ n < 24, t.board.inflight.getD n none =
        if (k = .pay ∨ k = .settle) ∧ n = b then some slot else s.board.inflight.getD n none) ∧
      t = { s with mem := t.mem, board := { s.board with posting := rest, slots := t.board.slots, handed := t.board.handed, inflight := t.board.inflight } }) ∧
  (∀ (s : State) (slot : Nat) (rest : List Nat) (code : ResultCode), s.board.posting = slot :: rest →
    let kind := kindOfCode (memRead s.mem (128 * slot + 0x5A)).toNat
    let b := (memRead s.mem (128 * slot)).toNat
    ((kind = none ∧ code = .badKind) ∨
     (∃ k, kind = some k ∧ s.config = none ∧ k ≠ .configure ∧ k ≠ .setClock ∧ k ≠ .clearCounts ∧ code = .notConfigured) ∨
     (∃ k slot', kind = some k ∧ (s.config ≠ none ∨ k = .configure ∨ k = .setClock ∨ k = .clearCounts) ∧ namesBasket k = true ∧
       k ≠ .cancelPay ∧ s.board.inflight.getD b none = some slot' ∧ code = .basketBusy)) →
    exec .decoderTake s = .next (completeSlot slot code []
      { s with mem := memWriteAll s.mem (128 * slot + 0x7A) [memRead s.mem (128 * slot + 0x58), memRead s.mem (128 * slot + 0x59)]
               board := { s.board with posting := rest } }))

/-- R171, R180, R181: what the host reads (functions of the state, by log entry 26): IDENT is the constant 40011216h, RUN shows the run
state and the notice enable, NOTICE the two causes and the unnoticed count, 0Ch zero, and an 8-byte read of RUNTIME the run time. The
coalescing deadline sets COMPLETIONS and sends the message; a write to NOTICE clears COMPLETIONS, the unnoticed count and the deadline;
a write to RUN with bit 8 clear stores bit 1 as the notice enable, and sends the message when the enable rises with a cause set, and
with bit 8 set makes a soft reset (and sends none, by the model's choice, log entry 47); a write to another register is ignored. A read of RUNTIME in two halves gives one value: the low
read latches the high half, and the high read that follows gives it, however far run time has moved; a high read with no latch
pending gives the high half of run time as it is. -/
def Obligations.RegistersReadAndWriteAsTheTableSays : Prop :=
  (∀ s : State, readRegister s 0x00 = 0x40011216 ∧ readRegister s 0x0C = 0 ∧
    ((readRegister s 0x04).getLsbD 0 = s.config.isSome ∧ (readRegister s 0x04).getLsbD 1 = s.board.noticeEnable ∧
      ∀ i, 2 ≤ i → (readRegister s 0x04).getLsbD i = false) ∧
    ((readRegister s 0x08).getLsbD 0 = s.board.completions ∧ (readRegister s 0x08).getLsbD 1 = (s.board.attention != 0) ∧
      (∀ i, 2 ≤ i → i < 16 → (readRegister s 0x08).getLsbD i = false) ∧
      (s.board.unnoticed < 65536 → (readRegister s 0x08).toNat / 65536 = s.board.unnoticed)) ∧
    (s.showUnit.runTime < 2 ^ 48 → (readRuntime s).toNat = s.showUnit.runTime)) ∧
  (∀ (s : State) (d : Deadline), s.board.coalescing = some d → d.value ≤ s.showUnit.runTime → d.setAt < s.showUnit.runTime →
    exec .coalescingDeadline s = .next { s with
      board := { s.board with completions := true, coalescing := none }, wire := s.wire ++ message s.board.noticeEnable }) ∧
  (∀ s : State, exec .noticeAcknowledge s = .next { s with
    board := { s.board with completions := false, unnoticed := 0, coalescing := none } }) ∧
  (∀ (s : State) (value : Word32), value.getLsbD 8 = false →
    exec (.noticeEnableWrite value) s = .next { s with
      board := { s.board with noticeEnable := value.getLsbD 1 }
      wire := s.wire ++ message (!s.board.noticeEnable && value.getLsbD 1 && (s.board.completions || s.board.attention != 0)) }) ∧
  (∀ (s : State) (value : Word32), value.getLsbD 8 = true → exec (.noticeEnableWrite value) s = exec .softReset s) ∧
  (∀ (s : State) (reg : IgnoredRegister) (value : Word32), exec (.registerWriteIgnored reg value) s = .next s) ∧
  (∀ s : State, s.showUnit.runTime < 2 ^ 64 →
    ∃ t lo, exec .runtimeLowRead s = .next t ∧ t.wire = s.wire ++ [.readData lo] ∧
      t = { s with wire := t.wire, board := { s.board with runtimeLatch := t.board.runtimeLatch } } ∧
      ∀ u : State, u.board.runtimeLatch = t.board.runtimeLatch →
        ∃ v hi, exec .runtimeHighRead u = .next v ∧ v.wire = u.wire ++ [.readData hi] ∧ v.board.runtimeLatch = none ∧
          v = { u with wire := v.wire, board := { u.board with runtimeLatch := none } } ∧
          hi.toNat * 2 ^ 32 + lo.toNat = s.showUnit.runTime) ∧
  (∀ s : State, s.board.runtimeLatch = none → s.showUnit.runTime < 2 ^ 64 →
    ∃ hi, exec .runtimeHighRead s = .next { s with wire := s.wire ++ [.readData hi] } ∧ hi.toNat = s.showUnit.runTime / 2 ^ 32)

/-- R172, R174, 10.1, 10.6: a host write of one unit that covers no state word. Its bytes on stored places (parameters, tag and
kind of a slot, and staging) are stored, and no other stored byte moves; where it covers a part-owned place (the model's reading
of "touches", log entry 17) it is counted once as stray and its offset recorded. On the mask and acknowledge places of a cell the
write is the command MASK_WRITE, then ACKNOWLEDGE_WRITE (this order is the model's choice, log entry 19, and so is the width of the
FREE count by which the foyer cell's stand at 3603h and 3604h, log entry 41). A host read of a stored
place gives its byte, and of a state word, a seat cell or a counter of the statistics the value the part holds. It stops only
outside the window (10.1), or where it is no aligned unit of four lanes. First, how numbers stand in memory, least significant byte
first, how a named value is numbered (10.6), and how a change count rises by one at each end of an update (R173). -/
def Obligations.HostWriteStoresOrIsCountedAsStray : Prop :=
  ((∀ n v : Nat, (leBytes n v).length = n ∧ ∀ i < n, (leBytes n v).getD i 0 = BitVec.ofNat 8 (v / 256 ^ i)) ∧
    leValue [] = 0 ∧ (∀ (b : Byte) (rest : List Byte), leValue (b :: rest) = b.toNat + 256 * leValue rest) ∧
    (∀ (m : List Host.Cell) (a n : Nat), (memReadAll m a n).length = n ∧ ∀ i < n, (memReadAll m a n).getD i 0 = memRead m (a + i)) ∧
    ([SlotState.free, .posted, .taken, .done].map slotStateNum = [0, 1, 2, 3] ∧
      [SeatState.free, .held, .sold, .blocked].map seatStateNum = [0, 1, 2, 3] ∧ (statStray, statBoardFault) = (0x2F0, 0x2F4)) ∧
    ∀ n < 65536, (stepCount n = if n = 65535 then 0 else n + 1) ∧ bump n = stepCount (stepCount n)) ∧
  (∀ (s : State) (offset : Nat) (lanes : List (Option Byte)), offset < 0x40000 → offset % 4 = 0 → lanes.length = 4 → Canonical s →
    let lane := fun i => lanes.getD i none
    let covers := fun i => i < 4 ∧ lane i ≠ none
    (∀ i, covers i → ¬ guardedPlace (offset + i)) →
    ∃ u t, exec (.hostWriteUnit offset lanes) s = .next t ∧
      (∀ i b, covers i → storedPlace (offset + i) → lane i = some b → memRead u.mem (offset + i) = b) ∧
      (∀ a, (∀ i, covers i → storedPlace (offset + i) → a ≠ offset + i) → memRead u.mem a = memRead s.mem a) ∧
      ((∃ i, covers i ∧ partPlace (offset + i)) → u.board = { s.board with lastStray := some offset } ∧
        statAt u statStray = min (statAt s statStray + 1) 4294967295 ∧ ∀ o, o ≠ statStray → statAt u o = statAt s o) ∧
      ((∀ i, covers i → ¬ partPlace (offset + i)) → u.board = s.board ∧ u.stats = s.stats) ∧
      u = { s with mem := u.mem, board := u.board, stats := u.stats } ∧
      ((∀ i, covers i → ¬ maskPlace (offset + i) ∧ ¬ ackPlace (offset + i)) → t = u) ∧
      (∀ k : Fin 12, offset = 0x2804 + 256 * k.val → (lane 2 ≠ none ∨ lane 3 ≠ none) →
        exec (.maskWrite (.kiosk k) (twoBytes ((lane 2).getD (lowByte (kioskAt s k).mask)) ((lane 3).getD (highByte (kioskAt s k).mask)))) u
          = .next t) ∧
      (∀ k : Fin 12, offset = 0x2808 + 256 * k.val → (lane 0 ≠ none ∨ lane 1 ≠ none) →
        exec (.acknowledgeWrite (.kiosk k) (twoBytes ((lane 0).getD 0) ((lane 1).getD 0))) u = .next t) ∧
      (∀ m : Fin 4, offset = 0x3408 + 128 * m.val → (lane 1 ≠ none ∨ lane 2 ≠ none) →
        ∃ v, (∀ b, lane 1 = some b → exec (.maskWrite (.counter m) (twoBytes b (highByte (counterAt s m).mask))) u = .next v) ∧
          (lane 1 = none → v = u) ∧ (∀ b, lane 2 = some b → exec (.acknowledgeWrite (.counter m) (twoBytes b 0)) v = .next t) ∧
          (lane 2 = none → t = v)) ∧
      (∀ b, offset = 0x3600 → lane 3 = some b → exec (.maskWrite .foyer (twoBytes b (highByte s.station.foyer.mask))) u = .next t) ∧
      (∀ b, offset = 0x3604 → lane 0 = some b → exec (.acknowledgeWrite .foyer (twoBytes b 0)) u = .next t)) ∧
  (∀ (s : State) (a : Nat), (storedPlace a → readByte s a = memRead s.mem a) ∧
    (∀ slot < 64, ∀ i < 4, readByte s (128 * slot + 0x7C + i) = (leBytes 4 (slotStateNum (slotAt s slot))).getD i 0) ∧
    (∀ cell < 16384, readByte s (0x2C000 + 4 * cell) = BitVec.ofNat 8 (seatStateNum (seatAt s cell).state + 4 * (seatAt s cell).tier) ∧
      ∀ i < 3, readByte s (0x2C001 + 4 * cell + i) = (leBytes 3 ((seatAt s cell).owner.getD 0)).getD i 0) ∧
    (∀ o < 0x2F8, o % 4 = 0 → ∀ i < 4, readByte s (0x3C000 + o + i) = (leBytes 4 (statAt s o)).getD i 0)) ∧
  (∀ (s : State) (offset : Nat) (lanes : List (Option Byte)),
    (0x40000 ≤ offset → exec (.hostWriteUnit offset lanes) s = .fault .outsideWindow) ∧
    (offset < 0x40000 → (offset % 4 ≠ 0 ∨ lanes.length ≠ 4) →
      exec (.hostWriteUnit offset lanes) s = .refused .illFormedUnit) ∧
    (offset < 0x40000 → offset % 4 = 0 → lanes.length = 4 → ∃ t, exec (.hostWriteUnit offset lanes) s = .next t))

/-- R20, R160, R170, R182, R186: the two resets, which complete in every state. Power-on reset leaves every unit at its reset
value: each kiosk cell STALLED, or SERVICE where its key is turned, with the lamps bound to that condition, its sense lines
accepted at the levels their inputs have, each counter cell disabled and dark, every change count 0. Soft reset differs in keeping
the clock (its change count 0), the statistics, and, by the model's choice (log entry 5), the staging bytes. The sense inputs (log
entry 6) and what is outside the part, the queue of commands and what was sent (log entry 24), stay by the model's choice. -/
def Obligations.ResetsLeaveTheResetState : Prop :=
  (∀ s : State, ∃ t, exec .powerOnReset s = .next t ∧
    t = { State.reset with pending := s.pending, wire := s.wire, station := t.station } ∧
    t.station = { State.reset.station with kiosks := t.station.kiosks } ∧
    t.station.kiosks.length = s.station.kiosks.length ∧
    (∀ m < 4, counterAt t m = { enabled := false, lastAnswer := none, showing := .idle, answerDue := none, factors := 0, mask := 0x0003
                                green := ⟨none, none, .off, .binding⟩, red := ⟨none, none, .off, .binding⟩, changes := 0 }) ∧
    ∀ k, let turned := (senseAt s k 1).present
      kioskAt t k = { condition := if turned then .service else .stalled, service := turned, current := none
                      senses := (kioskAt s k).senses.map (fun x => ⟨x.present, x.present, .ms8, .none, none⟩), factors := 0, mask := 0x1FFF
                      green := ⟨none, none, .off, .binding⟩
                      red := ⟨none, none, if turned then .pattern 4 else .pattern 2, .binding⟩, changes := 0 }) ∧
  (∀ s : State, Memory.wf s.mem → ∃ p t, exec .powerOnReset s = .next p ∧ exec .softReset s = .next t ∧
    t = { p with stats := s.stats, mem := t.mem, showUnit := { p.showUnit with clock := { s.showUnit.clock with changes := 0 } } } ∧
    ∀ a, memRead t.mem a = if 0x8000 ≤ a ∧ a < 0xA000 then memRead s.mem a else 0) ∧
  (∀ s : State, ∃ t, exec .softReset s = .next t)

/-! ### Configuration and statistics (Chapter 11) -/

/-- R184, R185: a CONFIGURE that passes its checks puts the clamped record in force, whole: each field is the bytes of the
record at its place in 10.6, the eight clamped fields taken into their ranges, and the request answers how many were clamped
and which. The kinds, the counters' enabled fields and the supply of contexts follow it. Each terminal line, printer link and
counter whose parameters start or change takes its share (R93, R107, R125, R139): the line goes to DOWN with its waits over, the
printer to ABSENT with its active head queued again and a poll byte sent, the receiver to an empty code; the others stay, and a
counter left disabled answers no code handed on before. A REVERSE in flight on a line that starts or changes completes with
TERMINAL_FAULT, in line order, its late entry kept. Nothing else of the part moves: of the memory and the board what those completions
move, of the kiosk cells what is derived, of the foyer cell its supply. One that fails a check changes nothing but the board: outside staging
BAD_PARAMETER, in RUNNING with a context not FREE or a queue not empty WRONG_STATE, with a structural fault BAD_PARAMETER and the
offset of the first faulty field, which is the least one that holds a fault. The 2-byte staging offset (log entry 10) and the
2-byte offset of the fault (log entry 9) are the model's choice, and so is that a link's start or restart moves its queue's change count
(log entry 7), that the restart does not wait for a sale check open on the queue (log entry 49), that of a kind's name no
byte after its first 00h is kept (log entry 48), and that its own completion, and that of a REVERSE its share ends, is already served with the new threshold and
delay (log entry 38). -/
def Obligations.ConfigurePutsTheClampedRecordInForce : Prop :=
  (∀ (s : State) (r : Request), Handed .configure r s →
    let off := param2 r 0
    let v := fun o n => leValue (memReadAll s.mem (0x8000 + off + o) n)
    off + 610 ≤ 8192 →
    (s.config = none ∨ ((∀ c ∈ s.basketUnit.baskets, c.state = .free) ∧ ∀ p ∈ s.print.printers, p.queue = [])) →
    firstFault (memReadAll s.mem (0x8000 + off) 610) = none → s.station.counters.length = 4 →
    ∃ c u, exec .configure s = .next (completeSlot r.slot .ok
        [BitVec.ofNat 8 (([v 1 2 != c.holdTime, v 3 2 != c.retryGrace, v 5 1 != c.authTimeout, v 6 2 != c.collectTimeout,
            v 8 1 != c.voucherGrace, v 18 1 != c.lowWater, v 19 1 != c.threshold, v 21 1 != c.answerTime].filter id).length),
         BitVec.ofNat 8 (bitsValue [v 1 2 != c.holdTime, v 3 2 != c.retryGrace, v 5 1 != c.authTimeout,
            v 6 2 != c.collectTimeout, v 8 1 != c.voucherGrace, v 18 1 != c.lowWater, v 19 1 != c.threshold,
            v 21 1 != c.answerTime])] u) ∧
      u.config = some c ∧
      (c.site = v 0 1 ∧ c.holdTime = max 30 (min 900 (v 1 2)) ∧ c.retryGrace = max 30 (min 300 (v 3 2)) ∧
        c.authTimeout = max 30 (min 180 (v 5 1)) ∧ c.collectTimeout = max 10 (min 300 (v 6 2)) ∧
        c.voucherGrace = min 240 (v 8 1) ∧ c.ceiling = v 9 3 ∧ c.taxRate = v 12 2 ∧ c.comboSeats = v 14 1 ∧
        c.comboVouchers = v 15 1 ∧ c.comboPercent = v 16 1 ∧ c.receipts = (v 17 1 == 1) ∧ c.lowWater = min 8 (v 18 1) ∧
        c.threshold = max 1 (min 32 (v 19 1)) ∧ c.delay = v 20 1 ∧ c.answerTime = max 1 (min 10 (v 21 1))) ∧
      (∀ n < 12, c.lines[n]? = some ⟨v (22 + 3 * n) 1, v (23 + 3 * n) 1, v (24 + 3 * n) 1⟩) ∧
      (∀ n < 12, c.links[n]? = some ⟨v (58 + 2 * n) 1, v (59 + 2 * n) 1⟩) ∧
      (∀ m < 4, c.counters[m]? = some (⟨v (82 + 4 * m) 1, v (83 + 4 * m) 1, v (84 + 4 * m) 1⟩, v (85 + 4 * m) 1 == 1)) ∧
      (∀ n < 16, kindAt u n =
        ⟨textOf (memReadAll s.mem (0x8000 + off + 98 + 32 * n) 16), v (114 + 32 * n) 2, v (116 + 32 * n) 1⟩) ∧
      (∀ m < 4, (counterAt u m).enabled = (v (85 + 4 * m) 1 == 1)) ∧
      u.station.foyer.freeCount = freeContexts s ∧ u.station.foyer.low = decide (freeContexts s ≤ c.lowWater) ∧
      (let ended := (List.range 12).filterMap (fun n =>
        if s.config.all (fun o => o.lines[n]? != c.lines[n]?) then (lineAt s n).reversing.map Prod.fst else none)
       let z := forEach ended (fun slot => completeSlot slot .terminalFault []) { taken r s with config := some c }
       u.mem = z.mem ∧ u.board = { z.board with attention := u.board.attention } ∧ z.wire <+: u.wire) ∧
      (u.station.foyer = { u.station.foyer with mask := s.station.foyer.mask, factors :=
          if c.lowWater < s.station.foyer.freeCount ∧ freeContexts s ≤ c.lowWater then s.station.foyer.factors ||| ffContextLow
          else s.station.foyer.factors } ∧
        (∀ k, kioskLike (kioskAt u k) (kioskAt s k)) ∧
        ∀ m < 4, counterAt u m = { (counterAt s m) with enabled := (counterAt u m).enabled, changes := (counterAt u m).changes }) ∧
      u = { taken r s with
        config := u.config, mem := u.mem, wire := u.wire, board := u.board, lines := u.lines
        showUnit := { s.showUnit with kinds := u.showUnit.kinds }, print := { s.print with printers := u.print.printers }
        voucherUnit := { s.voucherUnit with receivers := u.voucherUnit.receivers }
        station := { s.station with kiosks := u.station.kiosks, counters := u.station.counters, foyer := u.station.foyer } } ∧
      ((∀ x ∈ s.lines, x.reversing = none) → u.mem = s.mem) ∧ u.seats = s.seats ∧ u.basketUnit = s.basketUnit ∧ u.salesUnit = s.salesUnit ∧ u.stats = s.stats ∧
      u.voucherUnit.entries = s.voucherUnit.entries ∧ u.showUnit = { s.showUnit with kinds := u.showUnit.kinds } ∧
      (s.lines.length = 12 → ∀ n < 12,
        let fresh := ∀ o, s.config = some o → o.lines[n]? ≠ c.lines[n]?
        (fresh → lineAt u n = { (lineAt s n) with
          state := .down, rx := none, gapDue := none, pingDue := some ⟨s.showUnit.runTime + 5000, s.showUnit.runTime⟩
          authDue := none, abortDue := none, reverseDue := none, awaiting := none, reversing := none }) ∧
        (¬ fresh → lineAt u n = lineAt s n)) ∧
      (s.print.printers.length = 12 → ∃ sent, u.wire = s.wire ++ sent ∧ ∀ p < 12,
        let fresh := ∀ o, s.config = some o → o.links[p]? ≠ c.links[p]?
        let q := printerAt s p
        let started := fun (y : Printer) => { y with
          state := .absent, stallCause := none, cutDue := none, absentRun := 0, toSend := [], polled := true
          queueChanges := bump q.queueChanges }
        (Output.printerByte p false 0 ∈ sent ↔ fresh) ∧ (¬ fresh → printerAt u p = q) ∧
        (fresh → (q.queue = [] ∨ (∃ y rest, q.queue = y :: rest ∧ y.state = .queued)) → printerAt u p = started q) ∧
        (∀ y rest, fresh → q.queue = y :: rest → y.state ≠ .queued → printerAt u p = started { q with
          queue := placeItem { y with state := .queued, reprints := min 15 (y.reprints + 1) } rest })) ∧
      (s.voucherUnit.receivers.length = 4 → ∀ m < 4,
        let fresh := ∀ o, s.config = some o → o.counters[m]? ≠ c.counters[m]?
        let kept := if v (85 + 4 * m) 1 = 1 then (receiverAt s m).scanned else []
        (fresh → receiverAt u m =
          { chars := [], bad := false, discard := false, silence := false, gapDue := none, scanned := kept }) ∧
        (¬ fresh → receiverAt u m = { (receiverAt s m) with scanned := kept }))) ∧
  (∀ rec : List Byte, (∀ o, firstFault rec = some o ↔ faultAt rec o ∧ ∀ o' < o, ¬ faultAt rec o') ∧
    (firstFault rec = none ↔ ∀ o, ¬ faultAt rec o)) ∧
  (∀ (s : State) (r : Request), Handed .configure r s →
    (8192 < param2 r 0 + 610 → exec .configure s = .next (completeSlot r.slot .badParameter [] (taken r s))) ∧
    (param2 r 0 + 610 ≤ 8192 → s.config ≠ none →
      ((∃ c ∈ s.basketUnit.baskets, c.state ≠ .free) ∨ ∃ p ∈ s.print.printers, p.queue ≠ []) →
      exec .configure s = .next (completeSlot r.slot .wrongState [] (taken r s))) ∧
    (∀ o, param2 r 0 + 610 ≤ 8192 →
      (s.config = none ∨ ((∀ c ∈ s.basketUnit.baskets, c.state = .free) ∧ ∀ p ∈ s.print.printers, p.queue = [])) →
      firstFault (memReadAll s.mem (0x8000 + param2 r 0) 610) = some o →
      exec .configure s = .next (completeSlot r.slot .badParameter (leBytes 2 o) (taken r s))))

/-- R188: CLEAR_COUNTS sets every counter of the statistics to 0, answers the run time of the clear, and leaves every other
state as it was. -/
def Obligations.ClearCountsZeroesTheStatistics : Prop :=
  ∀ (s : State) (r : Request), Handed .clearCounts r s →
    ∃ u, exec .clearCounts s = .next (completeSlot r.slot .ok (leBytes 6 s.showUnit.runTime) u) ∧
      (∀ o, statAt u o = 0) ∧ u = { taken r s with stats := u.stats }

/-! ### Shows and the foyer clock (Chapter 1) -/

/-- R1, R3: an advance of run time adds one to it; the clock stands still while unset or at the end of its range, else phase
rises, and at 1,000 the second passes (with day and year rollover), a day change is reported, and every show makes the
transitions then due, each telling the basket unit of a leaving of ON_SALE and the foyer cell of a close or an end.
CLOCK_SECOND is, by the model's choice (log entry 3), that same advance. First, how instants compare, by year, then day, then second
(R2), one second being one second later across day and year ends, which transitions are due (R9 to R11), and where the clock's range
ends. -/
def Obligations.RunTimeAdvanceMovesTheClock : Prop :=
  (let days := fun year => if year % 4 = 0 then 366 else 365
   let valid := fun i : Instant => 2000 ≤ i.year ∧ i.year ≤ 2099 ∧ 1 ≤ i.day ∧ i.day ≤ days i.year ∧ i.second ≤ 86399
   let earlier := fun i j : Instant => i.year < j.year ∨ i.year = j.year ∧ (i.day < j.day ∨ i.day = j.day ∧ i.second < j.second)
   (∀ i j : Instant, instantBefore i j = true ↔ earlier i j) ∧
    (∀ i j : Instant, valid i → valid j → (instantSeconds i < instantSeconds j ↔ earlier i j)) ∧
    instantSeconds ⟨2000, 1, 0⟩ = 0 ∧
    ∀ i : Instant, valid i → instantSeconds (if i.second < 86399 then ⟨i.year, i.day, i.second + 1⟩
      else if i.day < days i.year then ⟨i.year, i.day + 1, 0⟩ else ⟨i.year + 1, 1, 0⟩) = instantSeconds i + 1) ∧
  (∀ (now : Instant) (w : ShowRec),
    dueMoves now w = [] ∧ (w.state = .empty ∨ w.state = .ended) ∨
    w.state = .loaded ∧ dueMoves now w =
      (if instantSeconds w.saleOpen ≤ instantSeconds now then
        [ShowState.onSale] ++ (if instantSeconds w.start + 60 * w.lateWindow ≤ instantSeconds now then
          [.closed] ++ (if instantSeconds w.finish ≤ instantSeconds now then [.ended] else []) else [])
       else []) ∨
    w.state = .onSale ∧ dueMoves now w =
      (if instantSeconds w.start + 60 * w.lateWindow ≤ instantSeconds now then
        [ShowState.closed] ++ (if instantSeconds w.finish ≤ instantSeconds now then [.ended] else []) else []) ∨
    w.state = .closed ∧ dueMoves now w = (if instantSeconds w.finish ≤ instantSeconds now then [ShowState.ended] else [])) ∧
  (∀ i : Instant, clockStopped i = true ↔ i = ⟨2099, 365, 86399⟩) ∧
  (∀ s : State, s.showUnit.clock.isSet = false ∨ clockStopped s.showUnit.clock.now = true →
    exec .runTimeAdvance s = .next { s with showUnit := { s.showUnit with runTime := s.showUnit.runTime + 1 } }) ∧
  (∀ s : State, s.showUnit.clock.isSet = true → clockStopped s.showUnit.clock.now = false → s.showUnit.clock.phase < 999 →
    ∃ t, exec .runTimeAdvance s = .next t ∧ t.showUnit.clock.phase = s.showUnit.clock.phase + 1 ∧
      t.showUnit.clock.now = s.showUnit.clock.now ∧ t.showUnit.clock.isSet = true ∧
      t = { s with showUnit := { s.showUnit with runTime := s.showUnit.runTime + 1, clock := t.showUnit.clock } }) ∧
  (∀ s : State, s.showUnit.clock.isSet = true → clockStopped s.showUnit.clock.now = false → s.showUnit.clock.phase = 999 →
    s.showUnit.shows.length = 48 →
    ∃ t, exec .runTimeAdvance s = .next t ∧ exec .clockSecond s = .next t ∧
      t.showUnit.runTime = s.showUnit.runTime + 1 ∧
      (t.showUnit.clock.isSet = true ∧ t.showUnit.clock.phase = 0) ∧
      (let i := s.showUnit.clock.now
       t.showUnit.clock.now =
        if i.second < 86399 then ⟨i.year, i.day, i.second + 1⟩
        else if i.day < (if i.year % 4 = 0 then 366 else 365) then ⟨i.year, i.day + 1, 0⟩ else ⟨i.year + 1, 1, 0⟩) ∧
      t.showUnit.dayChanges = s.showUnit.dayChanges ++
        (if s.showUnit.clock.now.second < 86399 then [] else [(t.showUnit.clock.now.year, t.showUnit.clock.now.day)]) ∧
      ShowsMoved t.showUnit.clock.now s t ∧
      t = { s with
        showUnit := { s.showUnit with runTime := t.showUnit.runTime, clock := t.showUnit.clock, shows := t.showUnit.shows
                                      leftSale := t.showUnit.leftSale, dayChanges := t.showUnit.dayChanges }
        board := { s.board with attention := t.board.attention }, wire := t.wire
        station := { s.station with foyer := t.station.foyer } })

/-- R5, R6: SET_CLOCK to a valid instant, in 6 bytes by the model's choice (log entry 10), sets the clock with phase 0, makes every
transition then due, reports a day change only from a set clock to another day, and answers the clock before (or the unset mark,
which the model's choice makes FFh in all 6 bytes, log entry 34) and, in one byte by the model's choice (log entry 9), the number of
transitions. The foyer cell gets SHOW_CLOSED and SHOW_ENDED as the transitions say and no other factor. An instant
out of range is BAD_PARAMETER, and nothing changes. -/
def Obligations.SetClockSetsAndMakesTheTransitionsDue : Prop :=
  ∀ (s : State) (r : Request), Handed .setClock r s → s.showUnit.shows.length = 48 →
    let i : Instant := ⟨2000 + param1 r 0, param2 r 1, param3 r 3⟩
    (i.year ≤ 2099 → 1 ≤ i.day → i.day ≤ (if i.year % 4 = 0 then 366 else 365) → i.second ≤ 86399 →
      ∃ u, exec .setClock s = .next (completeSlot r.slot .ok
          ((if s.showUnit.clock.isSet then leBytes 1 (s.showUnit.clock.now.year - 2000) ++ leBytes 2 s.showUnit.clock.now.day ++
              leBytes 3 s.showUnit.clock.now.second else List.replicate 6 0xFF) ++
            leBytes 1 (((List.range 48).map (fun n => (dueMoves i (showAt s n)).length)).sum)) u) ∧
        u.showUnit.clock = ⟨true, i, 0, bump s.showUnit.clock.changes⟩ ∧
        u.showUnit.runTime = s.showUnit.runTime ∧
        u.showUnit.dayChanges = s.showUnit.dayChanges ++
          (if s.showUnit.clock.isSet = true ∧
              (s.showUnit.clock.now.year ≠ i.year ∨ s.showUnit.clock.now.day ≠ i.day) then [(i.year, i.day)] else []) ∧
        ShowsMoved i s u ∧
        u = { taken r s with
          showUnit := { s.showUnit with clock := u.showUnit.clock, shows := u.showUnit.shows, leftSale := u.showUnit.leftSale
                                        dayChanges := u.showUnit.dayChanges }
          board := { (taken r s).board with attention := u.board.attention }, wire := u.wire
          station := { s.station with foyer := u.station.foyer } }) ∧
    (¬ (i.year ≤ 2099 ∧ 1 ≤ i.day ∧ i.day ≤ (if i.year % 4 = 0 then 366 else 365) ∧ i.second ≤ 86399) →
      exec .setClock s = .next (completeSlot r.slot .badParameter [] (taken r s)))

/-- R13: first-fit: the place found is a free run of the pool that begins at the lowest index, and none is found only when
there is none. -/
def Obligations.FirstFitFindsTheLowestFreeRun : Prop :=
  ∀ (ranges : List (Nat × Nat)) (n : Nat),
    (∀ base, firstFit ranges n = some base ↔
      (base + n ≤ 16384 ∧ (∀ q ∈ ranges, base + n ≤ q.1 ∨ q.1 + q.2 ≤ base)) ∧
      ∀ b < base, ¬ (b + n ≤ 16384 ∧ ∀ q ∈ ranges, b + n ≤ q.1 ∨ q.1 + q.2 ≤ b)) ∧
    (firstFit ranges n = none ↔ ∀ b, ¬ (b + n ≤ 16384 ∧ ∀ q ∈ ranges, b + n ≤ q.1 ∨ q.1 + q.2 ≤ b))

/-- R4, R12, R14: a LOAD_SHOW that passes its checks marks a loading in progress: the show record gets its fields from the
description, its range is the first-fit place, its state stays EMPTY, and the slot stays TAKEN; nothing else moves. The
refusals, in order, change nothing but the board. The description is the bytes of staging in the order of 10.6, and it is sound
exactly when it passes checks (4) to (7) of R12; a range is allocated to a show that is not EMPTY and to one that is loading (R13), and
the gap rule's byte is 0 for on and 1 for off (10.6; any other value is free, log entry 12). The 2-byte staging offset is the model's
choice (log entry 10), and that a title is judged by its length alone the model's reading (log entry 22). -/
def Obligations.LoadShowReservesTheRangeAndFillsTheRecord : Prop :=
  (∀ (s : State) (off : Nat),
    let d := descriptionAt s off
    let v := fun o n => leValue (memReadAll s.mem (0x8000 + off + o) n)
    let instant := fun o => (⟨2000 + v o 1, v (o + 1) 2, v (o + 3) 3⟩ : Instant)
    let a := 1 + v 0 1
    d.titleLength = v 0 1 ∧ d.title = memReadAll s.mem (0x8000 + off + 1) (v 0 1) ∧ d.auditorium = v a 1 ∧
    d.saleOpen = instant (a + 1) ∧ d.start = instant (a + 7) ∧ d.finish = instant (a + 13) ∧ d.lateWindow = v (a + 19) 1 ∧
    d.priceList = v (a + 20) 1 ∧ d.gapRule = v (a + 21) 1 ∧ d.rowCount = v (a + 22) 1 ∧
    d.rowLengths = (List.range d.rowCount).map (fun k => v (a + 23 + k) 1) ∧
    d.map = memReadAll s.mem (0x8000 + off + a + 23 + d.rowCount) d.rowLengths.sum ∧
    d.size = a + 23 + d.rowCount + d.rowLengths.sum) ∧
  (∀ d : Description,
    let valid := fun (i : Instant) => 2000 ≤ i.year ∧ i.year ≤ 2099 ∧ 1 ≤ i.day ∧
      i.day ≤ (if i.year % 4 = 0 then 366 else 365) ∧ i.second ≤ 86399
    descriptionSound d = true ↔
      (1 ≤ d.titleLength ∧ d.titleLength ≤ 32) ∧ (1 ≤ d.auditorium ∧ d.auditorium ≤ 16) ∧ d.lateWindow ≤ 30 ∧ d.priceList ≤ 15 ∧
      (1 ≤ d.rowCount ∧ d.rowCount ≤ 32) ∧ (valid d.saleOpen ∧ valid d.start ∧ valid d.finish) ∧
      (instantSeconds d.saleOpen < instantSeconds d.start ∧ instantSeconds d.start < instantSeconds d.finish ∧
        instantSeconds d.start + 60 * d.lateWindow ≤ instantSeconds d.finish) ∧
      (∀ l ∈ d.rowLengths, 1 ≤ l ∧ l ≤ 40) ∧ (1 ≤ d.rowLengths.sum ∧ d.rowLengths.sum ≤ 512) ∧
      ∀ b ∈ d.map, b.toNat % 128 ≤ 7) ∧
  (∀ (s : State) (range : Nat × Nat), range ∈ allocatedRanges s ↔
    ∃ n < 48, ((showAt s n).state ≠ .empty ∨ ∃ l ∈ s.showUnit.loadings, l.sh = n) ∧
      range = ((showAt s n).seatBase, (showAt s n).seatCount)) ∧
  (gapRuleOf 0 = true ∧ gapRuleOf 1 = false) ∧
  (∀ (s : State) (r : Request) (base : Nat), Handed .loadShow r s → s.showUnit.shows.length = 48 →
    let sh := param1 r 0
    let d := descriptionAt s (param2 r 1)
    s.showUnit.clock.isSet = true → sh < 48 → (showAt s sh).state = .empty → (∀ l ∈ s.showUnit.loadings, l.sh ≠ sh) →
    param2 r 1 + d.size ≤ 8192 → descriptionSound d = true →
    firstFit (allocatedRanges s) d.rowLengths.sum = some base →
    ∃ t, exec .loadShow s = .next t ∧
      showAt t sh = { (showAt s sh) with
        state := .empty, title := d.title, auditorium := d.auditorium, saleOpen := d.saleOpen, start := d.start
        finish := d.finish, lateWindow := d.lateWindow, priceList := d.priceList, gapRule := gapRuleOf d.gapRule
        seatBase := base, seatCount := d.rowLengths.sum, rowLengths := d.rowLengths
        changes := stepCount (showAt s sh).changes } ∧
      (∀ n, n ≠ sh → showAt t n = showAt s n) ∧
      t.showUnit.loadings = s.showUnit.loadings ++ [⟨r.slot, sh, d.map⟩] ∧
      t = { taken r s with showUnit := { s.showUnit with shows := t.showUnit.shows, loadings := t.showUnit.loadings } }) ∧
  (∀ (s : State) (r : Request), Handed .loadShow r s →
    let sh := param1 r 0
    let d := descriptionAt s (param2 r 1)
    (s.showUnit.clock.isSet = false → exec .loadShow s = .next (completeSlot r.slot .clockUnset [] (taken r s))) ∧
    (s.showUnit.clock.isSet = true → 48 ≤ sh → exec .loadShow s = .next (completeSlot r.slot .badParameter [] (taken r s))) ∧
    (s.showUnit.clock.isSet = true → sh < 48 → ((showAt s sh).state ≠ .empty ∨ ∃ l ∈ s.showUnit.loadings, l.sh = sh) →
      exec .loadShow s = .next (completeSlot r.slot .wrongState [] (taken r s))) ∧
    (s.showUnit.clock.isSet = true → sh < 48 → (showAt s sh).state = .empty → (∀ l ∈ s.showUnit.loadings, l.sh ≠ sh) →
      ((8192 < param2 r 1 + d.size ∨ descriptionSound d = false →
          exec .loadShow s = .next (completeSlot r.slot .badParameter [] (taken r s))) ∧
        (param2 r 1 + d.size ≤ 8192 → descriptionSound d = true → firstFit (allocatedRanges s) d.rowLengths.sum = none →
          exec .loadShow s = .next (completeSlot r.slot .poolFull [] (taken r s))))))

/-- R14, with the cells written at the loading's completion by the model's choice (log entry 8): each cell of the range gets
the tier of its seat byte and BLOCKED or FREE, without an owner, the counts follow, and the show enters LOADED and what is
then due, the basket unit told of a close and the foyer cell of a close and of an end; every other cell and show stays. The result names
the state by its number in R8's table (10.6). That the result gives the seat base in 2 bytes is the model's choice (log entry 9). -/
def Obligations.LoadingCompleteWritesTheSeats : Prop :=
  [ShowState.empty, .loaded, .onSale, .closed, .ended].map showStateNum = [0, 1, 2, 3, 4] ∧
  ∀ (s : State) (sh : Fin 48) (l : Loading), s.showUnit.loadings.find? (fun x => x.sh == sh.val) = some l → Canonical s →
    s.showUnit.shows.length = 48 →
    let base := (showAt s sh).seatBase
    let blocked := (l.map.filter (fun b => b.getLsbD 7)).length
    let w := { (showAt s sh) with state := ShowState.loaded }
    ∃ u, exec (.loadingComplete sh) s = .next (completeSlot l.slot .ok
        (leBytes 2 base ++ leBytes 1 (showStateNum ((dueMoves s.showUnit.clock.now w).getLastD .loaded))) u) ∧
      (∀ i < l.map.length, seatAt u (base + i) =
        ⟨if (l.map.getD i 0).getLsbD 7 then .blocked else .free, (l.map.getD i 0).toNat % 128, none⟩) ∧
      (∀ c, (c < base ∨ base + l.map.length ≤ c) → seatAt u c = seatAt s c) ∧
      (showAt u sh).state = (dueMoves s.showUnit.clock.now w).getLastD .loaded ∧
      showAt u sh = { (showAt s sh) with
        state := (showAt u sh).state, changes := (showAt u sh).changes, blocked := blocked
        free := (showAt s sh).seatCount - blocked, held := 0, sold := 0 } ∧
      (∀ n, n ≠ sh.val → showAt u n = showAt s n) ∧ u.showUnit.loadings = s.showUnit.loadings.erase l ∧
      (let moves := dueMoves s.showUnit.clock.now w
       u.showUnit.leftSale = s.showUnit.leftSale ++ (if ShowState.closed ∈ moves then [sh.val] else []) ∧
       u.station.foyer = { s.station.foyer with
        factors := s.station.foyer.factors ||| raisedBy moves, changes := u.station.foyer.changes }) ∧
      u = { s with seats := u.seats, showUnit := { s.showUnit with shows := u.showUnit.shows, loadings := u.showUnit.loadings, leftSale := u.showUnit.leftSale }
                   board := { s.board with attention := u.board.attention }, wire := u.wire
                   station := { s.station with foyer := u.station.foyer } }

/-- R9, R10, R15, R18: SET_PRICES replaces a price list whole from its record in staging, or is refused with BAD_PARAMETER. The
model's reading: the record takes 128 bytes of staging and a name is judged by its length alone (log entry 22), and a name is what
stands before its first 00h (log entry 48). Its 2-byte offset is the model's choice (log entry 10). CLOSE_SALE closes an ON_SALE show at once, tells the basket unit and raises
SHOW_CLOSED; a show in another state, an EMPTY one and a number above 47 are refused. -/
def Obligations.SetPricesAndCloseSaleActOnTheirRecord : Prop :=
  (∀ text rest : List Byte, (∀ b ∈ text, b ≠ 0) → textOf text = text ∧ textOf (text ++ 0 :: rest) = text) ∧
  (∀ (s : State) (r : Request), Handed .setPrices r s → s.showUnit.prices.length = 16 →
    let n := param1 r 0
    let off := param2 r 1
    let v := fun o k => leValue (memReadAll s.mem (0x8000 + off + o) k)
    (n < 16 → off + 128 ≤ 8192 →
      (∀ tier < 8, v (14 * tier) 2 ≤ 60000 ∧ textOf (memReadAll s.mem (0x8000 + off + 14 * tier + 2) 12) ≠ []) →
      50 ≤ v 112 1 → v 112 1 ≤ 250 → v 113 2 ≤ 2000 →
      ∃ u, exec .setPrices s = .next (completeSlot r.slot .ok [] u) ∧
        (∀ tier < 8, (listAt u n).prices.getD tier 0 = v (14 * tier) 2 ∧
          (listAt u n).names.getD tier [] = textOf (memReadAll s.mem (0x8000 + off + 14 * tier + 2) 12)) ∧
        (listAt u n).factor = v 112 1 ∧ (listAt u n).fee = v 113 2 ∧ (∀ m, m ≠ n → listAt u m = listAt s m) ∧
        u = { taken r s with showUnit := { s.showUnit with prices := u.showUnit.prices } }) ∧
    (16 ≤ n ∨ 8192 < off + 128 ∨ 250 < v 112 1 ∨ v 112 1 < 50 ∨ 2000 < v 113 2 ∨
      (∃ tier < 8, 60000 < v (14 * tier) 2 ∨ textOf (memReadAll s.mem (0x8000 + off + 14 * tier + 2) 12) = []) →
      exec .setPrices s = .next (completeSlot r.slot .badParameter [] (taken r s)))) ∧
  (∀ (s : State) (r : Request), Handed .closeSale r s → s.showUnit.shows.length = 48 →
    let n := param1 r 0
    (n < 48 → (showAt s n).state = .onSale →
      ∃ u, exec .closeSale s = .next (completeSlot r.slot .ok [] u) ∧
        showAt u n = { (showAt s n) with state := .closed, changes := bump (showAt s n).changes } ∧
        (∀ m, m ≠ n → showAt u m = showAt s m) ∧ u.showUnit.leftSale = s.showUnit.leftSale ++ [n] ∧
        factorsOf u .foyer = factorsOf s .foyer ||| ffShowClosed ∧
        u = { taken r s with showUnit := { s.showUnit with shows := u.showUnit.shows, leftSale := u.showUnit.leftSale }
                             board := { (taken r s).board with attention := u.board.attention }, wire := u.wire
                             station := { s.station with foyer := u.station.foyer } }) ∧
    (48 ≤ n → exec .closeSale s = .next (completeSlot r.slot .badParameter [] (taken r s))) ∧
    (n < 48 → (showAt s n).state = .empty → exec .closeSale s = .next (completeSlot r.slot .noShow [] (taken r s))) ∧
    (n < 48 → (showAt s n).state ≠ .empty → (showAt s n).state ≠ .onSale →
      exec .closeSale s = .next (completeSlot r.slot .wrongState [] (taken r s))))

/-- R16, R17, R43, R138, R154: DROP_SHOW of an ENDED show that no context names begins its removal, and its slot stays TAKEN.
The sales removal then takes every record of the show, the voucher removal returns every entry of the show to the defaults, the
range clear returns its cells to theirs, and the completion returns the show record to its defaults and answers the two
numbers, which count the show's records and entries. Nothing of another show moves but the links of the voucher chains. DROP_SHOW is refused, in order, for a show number, an
EMPTY show, one not ENDED or being dropped already, and one that a context not FREE names; the sales removal waits while a record of
the show is in refund (R153), and ends the drop with BASKET_BUSY while an item of one of its sales is queued, a sale check counting from its
opening by the model's reading (log entry 42). -/
def Obligations.DropShowRemovesAllThatBelongsToTheShow : Prop :=
  (∀ (s : State) (r : Request), Handed .dropShow r s →
    let sh := param1 r 0
    let named := ∃ c ∈ s.basketUnit.baskets, c.state ≠ .free ∧ c.sh = sh
    let dropping := ∃ x ∈ s.showUnit.removals, x.sh = sh
    ∀ code,
      (48 ≤ sh ∧ code = .badParameter ∨ sh < 48 ∧ (showAt s sh).state = .empty ∧ code = .noShow ∨
       sh < 48 ∧ (showAt s sh).state ≠ .empty ∧ ((showAt s sh).state ≠ .ended ∨ dropping) ∧ code = .wrongState ∨
       sh < 48 ∧ (showAt s sh).state = .ended ∧ ¬ dropping ∧ named ∧ code = .basketBusy) →
      exec .dropShow s = .next (completeSlot r.slot code [] (taken r s))) ∧
  (∀ s : State, Canonical s → ∀ serial,
    (∀ x, findSale s serial = some x → serial ≠ 0 ∧ x.serial = serial ∧ ∃ e ∈ s.salesUnit.sales, e.2 = x) ∧
    (findSale s serial = none ↔ serial = 0 ∨ ∀ e ∈ s.salesUnit.sales, e.2.serial ≠ serial)) ∧
  (∀ (s : State) (sh : Nat),
    (∀ serial, refundOfShow s sh = some serial → (∃ f ∈ s.salesUnit.refunds, f.serial = serial) ∧
      ∃ x, findSale s serial = some x ∧ x.sh = sh) ∧
    (refundOfShow s sh = none ↔ ∀ f ∈ s.salesUnit.refunds, ∀ x, findSale s f.serial = some x → x.sh ≠ sh) ∧
    (salesOfShow s sh).length = s.salesUnit.sales.countP (fun e => e.2.serial != 0 && e.2.sh == sh) ∧
    (vouchersOfShow s sh).length = s.voucherUnit.entries.countP (fun e => e.2.state != none && e.2.sh == sh)) ∧
  (∀ (s : State) (sh : Nat), showQueued s sh = true ↔ ∃ e ∈ s.salesUnit.sales, e.2.serial ≠ 0 ∧ e.2.sh = sh ∧
    ∃ q ∈ s.print.printers, (∃ x ∈ q.queue, x.serial = e.2.serial) ∨ ∃ c, q.check = some c ∧ c.serial = e.2.serial) ∧
  (∀ (s : State) (sh : Fin 48) (x : Removal), s.showUnit.removals.find? (fun y => y.sh == sh.val && y.step == .sales) = some x →
    s.showUnit.shows.length = 48 →
    (∀ serial, refundOfShow s sh = some serial →
      exec (.salesRemoval sh) s = .next { s with waiting := s.waiting ++ [(.sale serial, .salesRemoval sh)] }) ∧
    (refundOfShow s sh = none → showQueued s sh = true →
      ∃ u, exec (.salesRemoval sh) s = .next (completeSlot x.slot .basketBusy [] u) ∧
        showAt u sh = { (showAt s sh) with changes := stepCount (showAt s sh).changes } ∧
        (∀ n, n ≠ sh.val → showAt u n = showAt s n) ∧ u.showUnit.removals = s.showUnit.removals.erase x ∧
        u = { s with showUnit := { s.showUnit with shows := u.showUnit.shows, removals := u.showUnit.removals } })) ∧
  (∀ (s : State) (r : Request), Handed .dropShow r s → s.showUnit.shows.length = 48 →
    let sh := param1 r 0
    sh < 48 → (showAt s sh).state = .ended → (∀ x ∈ s.showUnit.removals, x.sh ≠ sh) →
    (∀ c ∈ s.basketUnit.baskets, c.state = .free ∨ c.sh ≠ sh) →
    ∃ t, exec .dropShow s = .next t ∧
      showAt t sh = { (showAt s sh) with changes := stepCount (showAt s sh).changes } ∧ (∀ n, n ≠ sh → showAt t n = showAt s n) ∧
      t.showUnit.removals = s.showUnit.removals ++ [⟨r.slot, sh, .sales, 0, 0⟩] ∧
      t = { taken r s with showUnit := { s.showUnit with shows := t.showUnit.shows, removals := t.showUnit.removals } }) ∧
  (∀ (s : State) (sh : Fin 48) (x : Removal), Canonical s → s.showUnit.shows.length = 48 → x ∈ s.showUnit.removals → x.sh = sh.val →
    (∀ y ∈ s.showUnit.removals, y.sh = sh.val → y = x) → s.showUnit.removals.Nodup →
    (x.step = .sales → refundOfShow s sh = none → showQueued s sh = false →
      ∃ t, exec (.salesRemoval sh) s = .next t ∧
        (∀ p, saleAt t p = if (saleAt s p).serial ≠ 0 ∧ (saleAt s p).sh = sh.val then Sale.empty else saleAt s p) ∧
        t.salesUnit.inUse = s.salesUnit.inUse - (salesOfShow s sh).length ∧
        { x with step := .vouchers, salesRemoved := (salesOfShow s sh).length } ∈ t.showUnit.removals ∧
        t = { s with salesUnit := { s.salesUnit with sales := t.salesUnit.sales, inUse := t.salesUnit.inUse, changes := t.salesUnit.changes }
                     showUnit := { s.showUnit with removals := t.showUnit.removals } }) ∧
    (x.step = .vouchers →
      ∃ t, exec (.voucherShowRemoval sh) s = .next t ∧
        (∀ i, ((voucherAt s i).state ≠ none ∧ (voucherAt s i).sh = sh.val → voucherAt t i = Voucher.empty) ∧
          (¬ ((voucherAt s i).state ≠ none ∧ (voucherAt s i).sh = sh.val) →
            voucherAt t i = { (voucherAt s i) with link := (voucherAt t i).link, changes := (voucherAt t i).changes })) ∧
        { x with step := .seats, vouchersRemoved := (vouchersOfShow s sh).length } ∈ t.showUnit.removals ∧
        t = { s with voucherUnit := { s.voucherUnit with entries := t.voucherUnit.entries, heads := t.voucherUnit.heads, chainChanges := t.voucherUnit.chainChanges }
                     showUnit := { s.showUnit with removals := t.showUnit.removals } }) ∧
    (x.step = .seats →
      ∃ t, exec (.seatRangeClear sh) s = .next t ∧
        (let w := showAt s sh
         ∀ c, seatAt t c = if w.seatBase ≤ c ∧ c < w.seatBase + w.seatCount then Seat.spare else seatAt s c) ∧
        showAt t sh = { (showAt s sh) with free := 0, held := 0, sold := 0, blocked := 0 } ∧
        (∀ n, n ≠ sh.val → showAt t n = showAt s n) ∧ { x with step := .finish } ∈ t.showUnit.removals ∧
        t = { s with seats := t.seats, showUnit := { s.showUnit with shows := t.showUnit.shows, removals := t.showUnit.removals } }) ∧
    (x.step = .finish →
      ∃ u, exec (.dropComplete sh) s = .next (completeSlot x.slot .ok (leBytes 2 x.salesRemoved ++ leBytes 2 x.vouchersRemoved) u) ∧
        showAt u sh = ShowRec.empty ∧ (∀ n, n ≠ sh.val → showAt u n = showAt s n) ∧ x ∉ u.showUnit.removals ∧
        u = { s with showUnit := { s.showUnit with shows := u.showUnit.shows, removals := u.showUnit.removals } }))

/-! ### Seats (Chapter 2) -/

/-- R24, R26: a seat index lies in the row whose run of indices holds it, the rows taken from the front, at its place in that run from
the left; an index past the last row names no seat. The neighbours of a seat stand beside it in its own row; at a row end there is
none on that side. -/
def Obligations.NeighboursStandBesideASeatInItsRow : Prop :=
  (∀ (lengths : List Nat) (i : Nat),
    (∀ k p len, seatPlace lengths i = some (k, p, len) ↔
      lengths[k]? = some len ∧ (lengths.take k).sum ≤ i ∧ i < (lengths.take k).sum + len ∧ p = i - (lengths.take k).sum + 1) ∧
    (seatPlace lengths i = none ↔ lengths.sum ≤ i)) ∧
  ∀ (lengths : List Nat) (i k p len : Nat), seatPlace lengths i = some (k, p, len) →
    (1 < p → ∃ j, leftNeighbour lengths i = some j ∧ seatPlace lengths j = some (k, p - 1, len)) ∧
    (p = 1 → leftNeighbour lengths i = none) ∧
    (p < len → ∃ j, rightNeighbour lengths i = some j ∧ seatPlace lengths j = some (k, p + 1, len)) ∧
    (p = len → rightNeighbour lengths i = none) ∧
    (∀ j k' p' len', seatPlace lengths j = some (k', p', len') → k' ≠ k →
      leftNeighbour lengths i ≠ some j ∧ rightNeighbour lengths i ≠ some j)

/-- R31: the gap check finds the first neighbour of a listed seat, in list order and left before right, that the hold would leave
FREE alone: FREE, not listed, no row end, with each of its neighbours listed or not FREE; it finds none exactly when there is none. -/
def Obligations.GapCheckFindsASeatLeftAlone : Prop :=
  ∀ (s : State) (sh : Nat) (list : List Nat),
    let lengths := (showAt s sh).rowLengths
    let alone := fun c => (seatOf s sh c).state = .free ∧ c ∉ list ∧ ∃ l r, leftNeighbour lengths c = some l ∧
      rightNeighbour lengths c = some r ∧ (l ∈ list ∨ (seatOf s sh l).state ≠ .free) ∧ (r ∈ list ∨ (seatOf s sh r).state ≠ .free)
    (∀ c, firstGap s sh list = some c → alone c ∧ ∃ before i after, list = before ++ i :: after ∧
      (∀ j ∈ before, ∀ n, (leftNeighbour lengths j = some n ∨ rightNeighbour lengths j = some n) → ¬ alone n) ∧
      (leftNeighbour lengths i = some c ∨ (rightNeighbour lengths i = some c ∧ ∀ n, leftNeighbour lengths i = some n → ¬ alone n))) ∧
    (firstGap s sh list = none ↔
      ∀ i ∈ list, ∀ c, (leftNeighbour lengths i = some c ∨ rightNeighbour lengths i = some c) → ¬ alone c)

/-- R40, R41: BLOCK_SEATS takes listed FREE seats to BLOCKED, UNBLOCK_SEATS listed BLOCKED seats to FREE, each as one event with
the show's counts, and answers the four counts. A bad show or list length, a show EMPTY or ENDED, an entry past the show's seats or
repeated, named, and a listed seat in another state, named, each refuse the whole list and move nothing. -/
def Obligations.BlockAndUnblockMoveTheListedSeats : Prop :=
  (∀ (s : State) (r : Request) (c : Instr), (Handed .blockSeats r s ∧ c = .blockSeats ∨ Handed .unblockSeats r s ∧ c = .unblockSeats) →
    let sh := param1 r 0
    let n := param1 r 1
    let w := showAt s sh
    let refused := fun code seat => exec c s = .next (completeSlot r.slot code seat (taken r s))
    ((48 ≤ sh ∨ n = 0 ∨ 40 < n) → refused .badParameter []) ∧
    (sh < 48 → 1 ≤ n → n ≤ 40 →
      (w.state = .empty → refused .noShow []) ∧ (w.state = .ended → refused .wrongState []) ∧
      (∀ before i after, w.state ≠ .empty → w.state ≠ .ended → paramSeats r 1 = some (before ++ i :: after) →
        (w.seatCount ≤ i ∨ i ∈ before) → before.Nodup → (∀ j ∈ before, j < w.seatCount) → refused .badParameter (leBytes 2 i)))) ∧
  ∀ (s : State) (r : Request) (list : List Nat), paramSeats r 1 = some list → Canonical s → s.showUnit.shows.length = 48 →
    let sh := param1 r 0
    let w := showAt s sh
    sh < 48 → 1 ≤ list.length → list.length ≤ 40 → w.state ≠ .empty → w.state ≠ .ended → list.Nodup →
    (∀ i ∈ list, i < w.seatCount) →
    (Handed .blockSeats r s →
      ((∀ i ∈ list, (seatOf s sh i).state = .free) →
        ∃ u, exec .blockSeats s = .next (completeSlot r.slot .ok (leBytes 2 (w.free - list.length) ++ leBytes 2 w.held ++
            leBytes 2 w.sold ++ leBytes 2 (w.blocked + list.length)) u) ∧
          CellsMoved sh list .blocked none s u ∧
          showAt u sh = { w with free := w.free - list.length, blocked := w.blocked + list.length, changes := bump w.changes } ∧
          (∀ n, n ≠ sh → showAt u n = showAt s n) ∧
          u = { taken r s with seats := u.seats, showUnit := { s.showUnit with shows := u.showUnit.shows } }) ∧
      (∀ x, list.find? (fun i => (seatOf s sh i).state != .free) = some x →
        exec .blockSeats s = .next (completeSlot r.slot (if (seatOf s sh x).state = .blocked then .seatBlocked else .seatTaken)
          (leBytes 2 x) (taken r s)))) ∧
    (Handed .unblockSeats r s →
      ((∀ i ∈ list, (seatOf s sh i).state = .blocked) →
        ∃ u, exec .unblockSeats s = .next (completeSlot r.slot .ok (leBytes 2 (w.free + list.length) ++ leBytes 2 w.held ++
            leBytes 2 w.sold ++ leBytes 2 (w.blocked - list.length)) u) ∧
          CellsMoved sh list .free none s u ∧
          showAt u sh = { w with blocked := w.blocked - list.length, free := w.free + list.length, changes := bump w.changes } ∧
          (∀ n, n ≠ sh → showAt u n = showAt s n) ∧
          u = { taken r s with seats := u.seats, showUnit := { s.showUnit with shows := u.showUnit.shows } }) ∧
      (∀ x, list.find? (fun i => (seatOf s sh i).state != .blocked) = some x →
        exec .unblockSeats s = .next (completeSlot r.slot (if (seatOf s sh x).state = .free then .wrongState else .seatTaken)
          (leBytes 2 x) (taken r s))))

/-- R29, R35, R47, R53, R54: HOLD_SEATS, RELEASE_SEATS, ADD_VOUCHER and DROP_VOUCHER that pass the basket unit's checks open a
call on the basket and leave everything else, their slots TAKEN; while a call is open on the basket every request that reaches the
basket unit for it waits behind the events that wait already, QUOTE (R78), PAY, SETTLE, ABANDON and RETIRE too. Their refusals, in order, change nothing but the board: a basket number, a list of no length or too long, a kind
or a position out of range, a basket not SELECTING, a seat the basket does not list (named), a show not ON_SALE, a full basket. -/
def Obligations.BasketRequestsOpenACallOrWait : Prop :=
  (∀ (s : State) (r : Request), s.basketUnit.baskets.length = 24 →
    let b := param1 r 0
    let n := param1 r 1
    let x := basketAt s b
    let list := (List.range n).map (fun i => param2 r (2 + 2 * i))
    x.call = none →
    (Handed .holdSeats r s → ∀ code,
      ((24 ≤ b ∨ n = 0 ∨ 10 < n) ∧ code = .badParameter ∨
       b < 24 ∧ 1 ≤ n ∧ n ≤ 10 ∧ x.state ≠ .selecting ∧ code = .wrongState) →
      exec .holdSeats s = .next (completeSlot r.slot code [] (taken r s))) ∧
    (Handed .releaseSeats r s → ∀ code seat,
      ((24 ≤ b ∨ n = 0 ∨ 10 < n ∨ ¬ list.Nodup) ∧ code = .badParameter ∧ seat = [] ∨
       b < 24 ∧ 1 ≤ n ∧ n ≤ 10 ∧ list.Nodup ∧ x.state ≠ .selecting ∧ code = .wrongState ∧ seat = [] ∨
       b < 24 ∧ 1 ≤ n ∧ n ≤ 10 ∧ list.Nodup ∧ x.state = .selecting ∧
         (∃ i, list.find? (fun j => decide (j ∉ x.seats)) = some i ∧ seat = leBytes 2 i) ∧ code = .badParameter) →
      exec .releaseSeats s = .next (completeSlot r.slot code seat (taken r s))) ∧
    (Handed .addVoucher r s → ∀ code,
      (s.showUnit.clock.isSet = false ∧ code = .clockUnset ∨
       s.showUnit.clock.isSet = true ∧ (24 ≤ b ∨ 16 ≤ n) ∧ code = .badParameter ∨
       s.showUnit.clock.isSet = true ∧ b < 24 ∧ n < 16 ∧ x.state ≠ .selecting ∧ code = .wrongState ∨
       s.showUnit.clock.isSet = true ∧ b < 24 ∧ n < 16 ∧ x.state = .selecting ∧ (showAt s x.sh).state ≠ .onSale ∧
         code = .saleClosed ∨
       s.showUnit.clock.isSet = true ∧ b < 24 ∧ n < 16 ∧ x.state = .selecting ∧ (showAt s x.sh).state = .onSale ∧
         6 ≤ x.vouchers.length ∧ code = .basketFull) →
      exec .addVoucher s = .next (completeSlot r.slot code [] (taken r s))) ∧
    (Handed .dropVoucher r s → ∀ code,
      ((24 ≤ b ∨ 5 < n) ∧ code = .badParameter ∨ b < 24 ∧ n ≤ 5 ∧ x.state ≠ .selecting ∧ code = .wrongState ∨
       b < 24 ∧ n ≤ 5 ∧ x.state = .selecting ∧ x.vouchers.length ≤ n ∧ code = .badParameter) →
      exec .dropVoucher s = .next (completeSlot r.slot code [] (taken r s)))) ∧
  (∀ (s : State) (r : Request) (k : RequestKind) (c : Instr),
    (k, c) ∈ ([(.holdSeats, .holdSeats), (.releaseSeats, .releaseSeats), (.addVoucher, .addVoucher), (.dropVoucher, .dropVoucher),
      (.quote, .quote), (.pay, .pay), (.settle, .settle), (.abandon, .abandon), (.retire, .retire)] : List (RequestKind × Instr)) →
    Handed k r s → (basketAt s (param1 r 0)).call ≠ none →
    exec c s = .next { taken r s with waiting := s.waiting ++ [(.basket (param1 r 0), .request r)] }) ∧
  ∀ (s : State) (r : Request) (c : Instr) (call : Call), s.basketUnit.baskets.length = 24 →
    let b := param1 r 0
    let x := basketAt s b
    b < 24 → x.state = .selecting →
    ((Handed .holdSeats r s ∧ c = .holdSeats ∧ ∃ list, paramSeats r 1 = some list ∧ 1 ≤ list.length ∧ list.length ≤ 10 ∧
        call = .hold r.slot list) ∨
     (Handed .releaseSeats r s ∧ c = .releaseSeats ∧ ∃ list, paramSeats r 1 = some list ∧ 1 ≤ list.length ∧ list.length ≤ 10 ∧
        list.Nodup ∧ (∀ i ∈ list, i ∈ x.seats) ∧ call = .release r.slot list) ∨
     (Handed .addVoucher r s ∧ c = .addVoucher ∧ s.showUnit.clock.isSet = true ∧ param1 r 1 < 16 ∧
        (showAt s x.sh).state = .onSale ∧ x.vouchers.length < 6 ∧ call = .issue r.slot (param1 r 1)) ∨
     (Handed .dropVoucher r s ∧ c = .dropVoucher ∧ param1 r 1 ≤ 5 ∧ param1 r 1 < x.vouchers.length ∧
        call = .removal r.slot (param1 r 1))) →
    x.call = none → ∃ t, exec c s = .next t ∧
      basketAt t b = { x with call := some call, changes := stepCount x.changes } ∧ (∀ n, n ≠ b → basketAt t n = basketAt s n) ∧
      t = { taken r s with basketUnit := { s.basketUnit with baskets := t.basketUnit.baskets } }

/-- R30, R32, R33, R50: the hold event. When every check passes, each listed seat is HELD by the basket, the counts move with
them, and the basket gets the seats behind its own, the later of its deadline and the new candidate, and a new quote; the
request completes with them. When a check fails (in R30's order) no cell, count or field of the basket moves, and the request
completes with its code and the seat it names. Either way the call is closed. That the result gives the seat count in one byte is
the model's choice (log entry 9). -/
def Obligations.HoldEventTakesAllListedSeatsOrNone : Prop :=
  (∀ (s : State) (sh i : Nat), seatOf s sh i = seatAt s ((showAt s sh).seatBase + i)) ∧
  ∀ (s : State) (b : Fin 24) (slot : Nat) (list : List Nat), Canonical s → s.basketUnit.baskets.length = 24 →
    s.showUnit.shows.length = 48 → (basketAt s b).call = some (.hold slot list) → NoneWaits (.basket b) s →
    let c := basketAt s b
    let w := showAt s c.sh
    let bad := fun (before : List Nat) i => w.seatCount ≤ i ∨ i ∈ before ∨ i ∈ c.seats
    (∀ d, c.sh < 48 → w.state = .onSale → c.seats.length + list.length ≤ 10 → list.Nodup → c.deadline = some d →
      (∀ i ∈ list, i < w.seatCount ∧ i ∉ c.seats ∧ (seatOf s c.sh i).state = .free) →
      (w.gapRule = true → firstGap s c.sh list = none) →
      let cand := min (s.showUnit.runTime + 1000 * (cfgOf s).holdTime)
        (min (c.openedAt + 3 * (1000 * (cfgOf s).holdTime)) (closeAt s c.sh))
      let d' := if d.value < cand then (⟨cand, s.showUnit.runTime⟩ : Deadline) else d
      let q := quoteOf (cfgOf s) (listAt s w.priceList) ((c.seats ++ list).map (fun i => (seatOf s c.sh i).tier))
        (c.vouchers.map (fun i => (kindAt s (voucherAt s i).kind).price))
      ∃ u, exec (.holdEvent b) s = .next (completeSlot slot .ok
          (leBytes 1 (c.seats.length + list.length) ++ leBytes 6 d'.value ++ quoteBytes q) u) ∧
        CellsMoved c.sh list .held (some b.val) s u ∧
        showAt u c.sh = { w with free := w.free - list.length, held := w.held + list.length, changes := (showAt u c.sh).changes } ∧
        (∀ n, n ≠ c.sh → showAt u n = showAt s n) ∧
        basketAt u b = { c with
          seats := c.seats ++ list, deadline := some d', quote := q, call := none, changes := stepCount c.changes } ∧
        (∀ n, n ≠ b.val → basketAt u n = basketAt s n) ∧
        u = { s with seats := u.seats, showUnit := { s.showUnit with shows := u.showUnit.shows }
                     basketUnit := { s.basketUnit with baskets := u.basketUnit.baskets } }) ∧
    (∀ code seat,
      (w.state ≠ .onSale ∧ code = .saleClosed ∧ seat = [] ∨
       w.state = .onSale ∧ 10 < c.seats.length + list.length ∧ code = .basketFull ∧ seat = [] ∨
       w.state = .onSale ∧ c.seats.length + list.length ≤ 10 ∧ (∃ before i after, list = before ++ i :: after ∧ bad before i ∧
         (∀ l j r', before = l ++ j :: r' → ¬ bad l j) ∧ code = .badParameter ∧ seat = leBytes 2 i) ∨
       w.state = .onSale ∧ c.seats.length + list.length ≤ 10 ∧ list.Nodup ∧ (∀ i ∈ list, i < w.seatCount ∧ i ∉ c.seats) ∧
         (∃ i, list.find? (fun j => (seatOf s c.sh j).state != .free) = some i ∧ seat = leBytes 2 i ∧
           code = if (seatOf s c.sh i).state = .blocked then .seatBlocked else .seatTaken) ∨
       w.state = .onSale ∧ c.seats.length + list.length ≤ 10 ∧ list.Nodup ∧
         (∀ i ∈ list, i < w.seatCount ∧ i ∉ c.seats ∧ (seatOf s c.sh i).state = .free) ∧ w.gapRule = true ∧
         (∃ i, firstGap s c.sh list = some i ∧ code = .gapLeft ∧ seat = leBytes 2 i)) →
      ∃ u, exec (.holdEvent b) s = .next (completeSlot slot code seat u) ∧
        basketAt u b = { c with call := none, changes := stepCount c.changes } ∧
        (∀ n, n ≠ b.val → basketAt u n = basketAt s n) ∧
        u = { s with basketUnit := { s.basketUnit with baskets := u.basketUnit.baskets } })

/-- R36, R54, R134: the release event frees the listed seats, and the voucher removal takes the entry at the position out of the
table; each shortens the basket's list, keeps its deadline, computes a new quote, closes the call and completes the request
with them. That the result gives the seat or voucher count in one byte is the model's choice (log entry 9). -/
def Obligations.ReleaseAndRemovalShortenTheBasket : Prop :=
  ∀ (s : State) (b : Fin 24) (slot : Nat), Canonical s → s.basketUnit.baskets.length = 24 → s.showUnit.shows.length = 48 →
    NoneWaits (.basket b) s → (basketAt s b).sh < 48 →
    let c := basketAt s b
    let w := showAt s c.sh
    let quote := fun (u : State) => quoteOf (cfgOf s) (listAt s w.priceList) ((basketAt u b).seats.map (fun i => (seatOf s c.sh i).tier))
      ((basketAt u b).vouchers.map (fun i => (kindAt s (voucherAt u i).kind).price))
    (∀ list, c.call = some (.release slot list) → list ≠ [] → list.Nodup →
      ∃ u, exec (.releaseEvent b) s = .next (completeSlot slot .ok
          (leBytes 1 (basketAt u b).seats.length ++ quoteBytes (basketAt u b).quote) u) ∧
        CellsMoved c.sh list .free none s u ∧
        showAt u c.sh = { w with held := w.held - list.length, free := w.free + list.length, changes := bump w.changes } ∧
        (∀ n, n ≠ c.sh → showAt u n = showAt s n) ∧
        basketAt u b = { c with
          seats := c.seats.filter (fun i => !list.contains i), quote := quote u, call := none
          changes := stepCount c.changes } ∧
        (∀ n, n ≠ b.val → basketAt u n = basketAt s n) ∧
        u = { s with seats := u.seats, showUnit := { s.showUnit with shows := u.showUnit.shows }
                     basketUnit := { s.basketUnit with baskets := u.basketUnit.baskets } }) ∧
    (∀ position i, c.call = some (.removal slot position) → c.vouchers[position]? = some i →
      ∃ u, exec (.voucherRemoval b) s = .next (completeSlot slot .ok
          (leBytes 1 (c.vouchers.length - 1) ++ quoteBytes (basketAt u b).quote) u) ∧
        EntriesRemoved [i] s u ∧
        basketAt u b = { c with
          vouchers := c.vouchers.eraseIdx position, quote := quote u, call := none
          changes := stepCount c.changes } ∧
        (∀ n, n ≠ b.val → basketAt u n = basketAt s n) ∧
        u = { s with
          voucherUnit := { s.voucherUnit with entries := u.voucherUnit.entries, heads := u.voucherUnit.heads, chainChanges := u.voucherUnit.chainChanges }
          basketUnit := { s.basketUnit with baskets := u.basketUnit.baskets } })

/-! ### Prices (Chapter 4) -/

/-- R72: the seat price is P × F / 100 rounded to the nearest minor unit, a half going up; it lies between 0 and 150,000, is 0 for
P = 0, and is greatest for P = 60,000 and F = 250. Equal tiers get equal prices, the order of the seats affects no amount, and
the tier names play no part. -/
def Obligations.SeatPriceIsRoundedHalfUp : Prop :=
  (∀ p f : Nat, seatPrice p f = (p * f + 50) / 100 ∧ 100 * seatPrice p f ≤ p * f + 50 ∧ p * f + 50 < 100 * seatPrice p f + 100) ∧
  (∀ p f : Nat, p ≤ 60000 → f ≤ 250 → seatPrice p f ≤ 150000) ∧ (∀ f : Nat, seatPrice 0 f = 0) ∧ seatPrice 60000 250 = 150000 ∧
  (∀ (c : Configuration) (l : PriceList) (tiers prices : List Nat), (quoteOf c l tiers prices).seatSubtotal =
    (tiers.map (fun tier => seatPrice (l.prices.getD tier 0) l.factor)).sum + tiers.length * l.fee) ∧
  (∀ (c : Configuration) (l l' : PriceList) (tiers tiers' prices : List Nat), tiers.Perm tiers' → l.prices = l'.prices →
    l.factor = l'.factor → l.fee = l'.fee → quoteOf c l tiers prices = quoteOf c l' tiers' prices)

/-- R73 to R76: with prices, fee, discount terms and tax rate in their ranges, the quote's amounts are those of the seven stages
and lie in their ranges: the discount is never more than the voucher subtotal and leaves at least 1 of it, the gross is 0 exactly
when both subtotals are, and the tax is never more than the gross. -/
def Obligations.QuoteAmountsStayInTheirRanges : Prop :=
  ∀ (c : Configuration) (l : PriceList) (tiers prices : List Nat), (∀ t ∈ tiers, l.prices.getD t 0 ≤ 60000) → l.factor ≤ 250 →
    l.fee ≤ 2000 → tiers.length ≤ 10 → prices.length ≤ 6 → (∀ p ∈ prices, p ≤ 20000) → c.comboPercent ≤ 50 → 1 ≤ c.comboSeats →
    c.taxRate ≤ 300 →
    let q := quoteOf c l tiers prices
    q.seatSubtotal = (tiers.map (fun t => (l.prices.getD t 0 * l.factor + 50) / 100)).sum + tiers.length * l.fee ∧
    (tiers = [] → q.seatSubtotal = 0) ∧ q.seatSubtotal ≤ 1520000 ∧ q.voucherSubtotal = prices.sum ∧ q.voucherSubtotal ≤ 120000 ∧
    q.discount = (if c.comboSeats ≤ tiers.length ∧ c.comboVouchers ≤ prices.length ∧ 0 < c.comboPercent then
      q.voucherSubtotal * c.comboPercent / 100 else 0) ∧
    q.discount ≤ 60000 ∧ q.discount ≤ q.voucherSubtotal / 2 ∧ (0 < q.voucherSubtotal → q.discount < q.voucherSubtotal) ∧ (tiers = [] → q.discount = 0) ∧
    q.gross + q.discount = q.seatSubtotal + q.voucherSubtotal ∧ q.gross ≤ 1640000 ∧
    (q.gross = 0 ↔ q.seatSubtotal = 0 ∧ q.voucherSubtotal = 0) ∧ (q.overCeiling = true ↔ c.ceiling < q.gross) ∧
    q.tax = (2 * q.gross * c.taxRate + (1000 + c.taxRate)) / (2 * (1000 + c.taxRate)) ∧ q.tax ≤ q.gross ∧
    q.tax ≤ 378462 ∧ (c.taxRate = 0 → q.tax = 0) ∧ (q.gross = 0 → q.tax = 0) ∧
    (tiers.length = 10 → prices.length = 6 → (∀ t ∈ tiers, l.prices.getD t 0 = 60000) → l.factor = 250 → l.fee = 2000 →
      (∀ p ∈ prices, p = 20000) → q.discount = 0 → q.gross = 1640000 ∧ (c.taxRate = 300 → q.tax = 378462))

/-! ### Voucher codes and baskets (Chapters 3 and 7) -/

/-- R131, R130: a voucher code is the day, the sequence, the site number and the check, read from the left in 3, 5, 2 and 2 digits;
its check is the weighted sum of its first ten digits modulo 97, never 97 to 99, and its bucket comes from day and sequence alone.
The check catches every single wrong digit (section 7.3.1). -/
def Obligations.VoucherCodeCarriesItsCheck : Prop :=
  (∀ n v : Nat, (digitsOf n v).length = n ∧ ∀ i < n, (digitsOf n v).getD i 0 = v / 10 ^ (n - 1 - i) % 10) ∧
  (∀ day seq site : Nat, 1 ≤ day → day ≤ 366 → seq ≤ 99999 → site ≤ 99 →
    let code := composeCode day seq site
    let d := digitsOf 12 code
    let digit := fun n => d.getD n 0
    code < 10 ^ 12 ∧ d.length = 12 ∧ code / 10 ^ 9 = day ∧ code / 10 ^ 4 % 10 ^ 5 = seq ∧ code / 10 ^ 2 % 10 ^ 2 = site ∧
    code % 100 = (3 * digit 0 + 7 * digit 1 + digit 2 + 3 * digit 3 + 7 * digit 4 + digit 5 + 3 * digit 6 + 7 * digit 7 + digit 8
      + 3 * digit 9) % 97 ∧
    code % 100 ≤ 96 ∧ checkRight code = true ∧ bucketOf code = (seq + 31 * day) % 256) ∧
  (∀ code : Nat, checkRight code = true → code % 100 ≤ 96) ∧
  (∀ code wrong k : Nat, code < 10 ^ 12 → wrong < 10 ^ 12 → k < 12 → checkRight code = true →
    (∀ n < 12, n ≠ k → (digitsOf 12 wrong).getD n 0 = (digitsOf 12 code).getD n 0) → wrong ≠ code → checkRight wrong = false)

/-- R130, R132, R133, R53: while the laws of the voucher table hold, a lookup finds a code exactly where an entry carries it. A day
change takes the sequence back to 0 unless the day stands already. An issue for an open call brings the
sequence record up to date, gives the first sequence number from the next one on whose code no entry carries, and fills the lowest
empty entry with it, PENDING and owned by the basket, at the head of its bucket's chain, where a lookup of the code finds it; the
answer closes the call and completes ADD_VOUCHER. An issue for an undefined kind, into a full table, or with no free sequence number
left is refused, in that order; nothing is issued, and the call closes. That the result gives the voucher count in one byte (log
entry 9) and the code's leftmost digit in the high half of its first byte (log entry 43) is the model's choice. -/
def Obligations.VoucherIssueFillsTheLowestEmptyEntry : Prop :=
  (∀ s : State, HouseLaw s → ∀ code i, lookupCode s code = some i ↔ (voucherAt s i).state ≠ none ∧ (voucherAt s i).code = code) ∧
  (∀ code : Nat, (codeBytes code).length = 6 ∧ ∀ i < 6, (codeBytes code).getD i 0 =
    BitVec.ofNat 8 (16 * (digitsOf 12 code).getD (2 * i) 0 + (digitsOf 12 code).getD (2 * i + 1) 0)) ∧
  (∀ (s : State) (b : Fin 24) (slot kind : Nat) (code : ResultCode), Canonical s → s.basketUnit.baskets.length = 24 →
    (basketAt s b).call = some (.issue slot kind) → NoneWaits (.basket b) s →
    let c := basketAt s b
    let now := s.showUnit.clock.now
    let first := if s.voucherUnit.seqDay = some (now.year, now.day) then s.voucherUnit.nextSeq else 0
    let named := (kindAt s kind).name ≠ []
    let room := ∃ i < 1024, voucherAt s i = Voucher.empty
    (¬ named ∧ code = .badParameter ∨ named ∧ ¬ room ∧ code = .tableFull ∨
      named ∧ room ∧ (∀ n, first ≤ n → n < 100000 → lookupCode s (composeCode now.day n (cfgOf s).site) ≠ none) ∧
        code = .sequenceSpent) →
    ∃ u, exec (.voucherIssue b) s = .next (completeSlot slot code [] u) ∧
      basketAt u b = { c with call := none, changes := stepCount c.changes } ∧ (∀ n, n ≠ b.val → basketAt u n = basketAt s n) ∧
      u.voucherUnit = { s.voucherUnit with
        seqDay := some (now.year, now.day), nextSeq := if code = .sequenceSpent then 100000 else first } ∧
      u = { s with voucherUnit := u.voucherUnit, basketUnit := { s.basketUnit with baskets := u.basketUnit.baskets } }) ∧
  (∀ (s : State) (d : Nat × Nat) (rest : List (Nat × Nat)), s.showUnit.dayChanges = d :: rest →
    exec .dayChange s = .next { s with
      showUnit := { s.showUnit with dayChanges := rest }
      voucherUnit := { s.voucherUnit with seqDay := some d, nextSeq := if s.voucherUnit.seqDay = some d then s.voucherUnit.nextSeq else 0 } }) ∧
  (∀ (s : State) (b : Fin 24) (slot kind index seq : Nat) (d : Deadline), Canonical s → s.basketUnit.baskets.length = 24 →
    (basketAt s b).call = some (.issue slot kind) → (basketAt s b).deadline = some d → NoneWaits (.basket b) s →
    let c := basketAt s b
    let now := s.showUnit.clock.now
    let first := if s.voucherUnit.seqDay = some (now.year, now.day) then s.voucherUnit.nextSeq else 0
    let codeOf := fun n => composeCode now.day n (cfgOf s).site
    (kindAt s kind).name ≠ [] → index < 1024 → voucherAt s index = Voucher.empty → (∀ i < index, voucherAt s i ≠ Voucher.empty) →
    first ≤ seq → seq < 100000 → (∀ n, first ≤ n → n < seq → lookupCode s (codeOf n) ≠ none) → lookupCode s (codeOf seq) = none →
    let cand := min (s.showUnit.runTime + 1000 * (cfgOf s).holdTime)
      (min (c.openedAt + 3 * (1000 * (cfgOf s).holdTime)) (closeAt s c.sh))
    ∃ u, exec (.voucherIssue b) s = .next (completeSlot slot .ok
        (codeBytes (codeOf seq) ++ leBytes 1 c.vouchers.length ++ quoteBytes (basketAt u b).quote) u) ∧
      voucherAt u index = { state := some .pending, code := codeOf seq, kind := kind, sh := c.sh, owner := some b.val
                            redeemedAt := none, link := headAt s (bucketOf (codeOf seq)), changes := 2 } ∧
      (∀ i, i ≠ index → voucherAt u i = voucherAt s i) ∧
      (∀ n, headAt u n = if n = bucketOf (codeOf seq) then some index else headAt s n) ∧
      lookupCode u (codeOf seq) = some index ∧
      u.voucherUnit.seqDay = some (now.year, now.day) ∧ u.voucherUnit.nextSeq = seq + 1 ∧
      basketAt u b = { c with
        vouchers := c.vouchers ++ [index], call := none, changes := stepCount c.changes
        quote := quoteOf (cfgOf s) (listAt s (showAt s c.sh).priceList) (c.seats.map (fun i => (seatOf s c.sh i).tier))
          ((c.vouchers ++ [index]).map (fun i => (kindAt s (voucherAt u i).kind).price))
        deadline := some (if d.value < cand then ⟨cand, s.showUnit.runTime⟩ else d) } ∧
      (∀ n, n ≠ b.val → basketAt u n = basketAt s n) ∧
      u = { s with
        voucherUnit := { u.voucherUnit with receivers := s.voucherUnit.receivers }
        basketUnit := { s.basketUnit with baskets := u.basketUnit.baskets } })

/-- R48, R49, R50: OPEN_BASKET that passes its checks takes the lowest FREE context for the kiosk and the show, SELECTING, with the
earlier of hold time and sale close as its deadline; the kiosk names it, and the supply in the foyer cell falls by one, raising
CONTEXT_LOW when it falls to the low-water mark. Each refusal, in order, changes nothing but the board. -/
def Obligations.OpenBasketTakesTheLowestFreeContext : Prop :=
  (∀ s : State, freeContexts s = s.basketUnit.baskets.countP (fun c => c.state == .free)) ∧
  ∀ (s : State) (r : Request), Handed .openBasket r s → s.basketUnit.baskets.length = 24 → s.station.kiosks.length = 12 →
    let k := param1 r 0
    let sh := param1 r 1
    let selling := ∃ c ∈ s.basketUnit.baskets, c.kiosk = k ∧ (c.state = .selecting ∨ c.state = .paying ∨ c.state = .unresolved)
    let refused := fun code => exec .openBasket s = .next (completeSlot r.slot code [] (taken r s))
    (s.showUnit.clock.isSet = false → refused .clockUnset) ∧
    (s.showUnit.clock.isSet = true → (12 ≤ k ∨ 48 ≤ sh) → refused .badParameter) ∧
    (s.showUnit.clock.isSet = true → k < 12 → sh < 48 →
      ((kioskAt s k).service = true → refused .stationService) ∧
      ((kioskAt s k).service = false → selling → refused .wrongState) ∧
      ((kioskAt s k).service = false → ¬ selling →
        ((showAt s sh).state = .empty → refused .noShow) ∧
        ((showAt s sh).state ≠ .empty → (showAt s sh).state ≠ .onSale → refused .saleClosed) ∧
        ((showAt s sh).state = .onSale → (∀ c ∈ s.basketUnit.baskets, c.state ≠ .free) → refused .noContext) ∧
        (∀ b < 24, (showAt s sh).state = .onSale → (basketAt s b).state = .free → (∀ n < b, (basketAt s n).state ≠ .free) →
          let d := min (s.showUnit.runTime + 1000 * (cfgOf s).holdTime) (closeAt s sh)
          let left := freeContexts s - 1
          ∃ u, exec .openBasket s = .next (completeSlot r.slot .ok (leBytes 1 b ++ leBytes 6 d ++ leBytes 6 s.showUnit.runTime) u) ∧
            basketAt u b = { Basket.free with
              state := .selecting, kiosk := k, sh := sh, openedAt := s.showUnit.runTime
              deadline := some ⟨d, s.showUnit.runTime⟩, printer := k, changes := bump (basketAt s b).changes } ∧
            (∀ n, n ≠ b → basketAt u n = basketAt s n) ∧
            (∀ j, kioskLike (kioskAt u j) { (kioskAt s j) with current := if j = k then some b else (kioskAt s j).current }) ∧
            (u.station.foyer.freeCount = left ∧ u.station.foyer.low = decide (left ≤ (cfgOf s).lowWater) ∧
              u.station.foyer.factors = (if (cfgOf s).lowWater < s.station.foyer.freeCount ∧ left ≤ (cfgOf s).lowWater
                then s.station.foyer.factors ||| ffContextLow else s.station.foyer.factors) ∧
              u.station.foyer.mask = s.station.foyer.mask) ∧
            u = { taken r s with
              basketUnit := { s.basketUnit with baskets := u.basketUnit.baskets }
              board := { (taken r s).board with attention := u.board.attention }, wire := u.wire
              station := { s.station with kiosks := u.station.kiosks, foyer := u.station.foyer } })))

/-- R56, R58, R59, R71, R78, R79, R95: QUOTE answers the counts and the quote of a SELECTING basket and stores it; the quote is that of
its seats' tiers and its vouchers' kind prices as they stand, its block the 16 bytes of 10.6. QUOTE and PAY wait while a call is open
on the basket. PAY takes the same quote as
its snapshot; it is refused, in order, for an unset clock, a basket number, a basket not SELECTING or empty, a show not ON_SALE, and,
with the quote stored and answered, for the ceiling, the line and the sale table. A PAY of more than nothing that passes reserves a
place and moves the basket to PAYING: the line opens a record under its next tag and sends AUTH; the slot stays TAKEN. The model's
choices: the change count of the record's place goes on (log entry 7), QUOTE's result gives its counts in one byte each (log entry 9),
and the record opened has no card kind yet (log entry 11). -/
def Obligations.QuoteAndPayTakeTheSnapshot : Prop :=
  (∀ q : Quote, (quoteBytes q).length = 16 ∧
    (∀ i < 15, (quoteBytes q).getD i 0 =
      BitVec.ofNat 8 ([q.seatSubtotal, q.voucherSubtotal, q.discount, q.gross, q.tax].getD (i / 3) 0 / 256 ^ (i % 3))) ∧
    (quoteBytes q).getD 15 0 = if q.overCeiling then 1 else 0) ∧
  ∀ (s : State) (r : Request), s.basketUnit.baskets.length = 24 → s.lines.length = 12 →
    let b := param1 r 0
    let c := basketAt s b
    let q := quoteOf (cfgOf s) (listAt s (showAt s c.sh).priceList) (c.seats.map (fun i => (seatOf s c.sh i).tier))
      (c.vouchers.map (fun i => (kindAt s (voucherAt s i).kind).price))
    let k := c.kiosk
    (∀ command, (Handed .quote r s ∧ command = Instr.quote ∨ Handed .pay r s ∧ command = .pay) → c.call ≠ none →
      exec command s = .next { taken r s with waiting := s.waiting ++ [(.basket b, .request r)] }) ∧
    (c.call = none →
    (Handed .quote r s →
      (b < 24 → c.state = .selecting →
        ∃ u, exec .quote s = .next (completeSlot r.slot .ok
            (leBytes 1 c.seats.length ++ leBytes 1 c.vouchers.length ++ quoteBytes q) u) ∧
          basketAt u b = { c with quote := q, changes := bump c.changes } ∧ (∀ n, n ≠ b → basketAt u n = basketAt s n) ∧
          u = { taken r s with basketUnit := { s.basketUnit with baskets := u.basketUnit.baskets } }) ∧
      (24 ≤ b → exec .quote s = .next (completeSlot r.slot .badParameter [] (taken r s))) ∧
      (b < 24 → c.state ≠ .selecting → exec .quote s = .next (completeSlot r.slot .wrongState [] (taken r s)))) ∧
    (Handed .pay r s →
      (∀ code,
        (s.showUnit.clock.isSet = false ∧ code = .clockUnset ∨
         s.showUnit.clock.isSet = true ∧ 24 ≤ b ∧ code = .badParameter ∨
         s.showUnit.clock.isSet = true ∧ b < 24 ∧ (c.state ≠ .selecting ∨ (c.seats = [] ∧ c.vouchers = [])) ∧ code = .wrongState ∨
         s.showUnit.clock.isSet = true ∧ b < 24 ∧ c.state = .selecting ∧ (c.seats ≠ [] ∨ c.vouchers ≠ []) ∧
           (showAt s c.sh).state ≠ .onSale ∧ code = .saleClosed) →
        exec .pay s = .next (completeSlot r.slot code [] (taken r s))) ∧
      (s.showUnit.clock.isSet = true → b < 24 → c.state = .selecting → (c.seats ≠ [] ∨ c.vouchers ≠ []) →
        (showAt s c.sh).state = .onSale →
        (∀ code,
          (q.overCeiling = true ∧ code = .overCeiling ∨
           q.overCeiling = false ∧ q.gross ≠ 0 ∧ ((lineAt s k).state = .down ∨ (lineAt s k).state = .fault) ∧ code = .terminalFault ∨
           q.overCeiling = false ∧ q.gross ≠ 0 ∧ ((lineAt s k).state = .authorizing ∨ (lineAt s k).state = .aborting ∨
             (lineAt s k).state = .reversing) ∧ code = .wrongState ∨
           q.overCeiling = false ∧ (q.gross = 0 ∨ (lineAt s k).state = .idle) ∧
             (2048 ≤ s.salesUnit.inUse + s.salesUnit.reserved ∨ 16777216 - s.salesUnit.nextSerial ≤ s.salesUnit.reserved) ∧
             code = .salesFull) →
          ∃ u, exec .pay s = .next (completeSlot r.slot code (quoteBytes q) u) ∧
            basketAt u b = { c with quote := q, changes := bump c.changes } ∧ (∀ n, n ≠ b → basketAt u n = basketAt s n) ∧
            u = { taken r s with basketUnit := { s.basketUnit with baskets := u.basketUnit.baskets } }) ∧
        (∀ i < 4, (lineAt s k).records.length = 4 →
          ((recordAt s k i).tag = 0 ∧ (∀ j < i, (recordAt s k j).tag ≠ 0) ∨
           (∀ j < 4, (recordAt s k j).tag ≠ 0) ∧ ∀ j < 4, j ≠ i → (recordAt s k i).closedOrder < (recordAt s k j).closedOrder) →
          k < 12 → q.overCeiling = false → q.gross ≠ 0 → (lineAt s k).state = .idle →
          s.salesUnit.inUse + s.salesUnit.reserved < 2048 → s.salesUnit.reserved < 16777216 - s.salesUnit.nextSerial →
          let x := lineAt s k
          let now := s.showUnit.runTime
          let frame : Frame := ⟨0x01, BitVec.ofNat 8 x.nextTag, beBytes 3 q.gross ++ [BitVec.ofNat 8 k]⟩
          ∃ t, exec .pay s = .next t ∧
            basketAt t b = { c with
              state := .paying, quote := q, deadline := none, payRef := some (k, x.nextTag), changes := (basketAt t b).changes } ∧
            (∀ n, n ≠ b → basketAt t n = basketAt s n) ∧
            recordAt t k i = { PayRecord.empty with
              tag := x.nextTag, basket := b, amount := q.gross, phase := .awaitAck, openedAt := now
              changes := bump (recordAt s k i).changes } ∧
            (∀ j, j ≠ i → recordAt t k j = recordAt s k j) ∧
            lineAt t k = { x with
              state := .authorizing, nextTag := if x.nextTag < 255 then x.nextTag + 1 else 1, records := (lineAt t k).records
              pingDue := none, authDue := some ⟨now + 1000 * (cfgOf s).authTimeout, now⟩
              awaiting := some { frame := frame, sendings := 1, due := ⟨now + 300, now⟩ } } ∧
            (∀ n, n ≠ k → lineAt t n = lineAt s n) ∧ t.wire = s.wire ++ [.frame k frame] ∧
            t.salesUnit = { s.salesUnit with reserved := s.salesUnit.reserved + 1, changes := bump s.salesUnit.changes } ∧
            stationLike t s ∧
            t = { taken r s with
              basketUnit := { s.basketUnit with baskets := t.basketUnit.baskets }, lines := t.lines, wire := t.wire
              salesUnit := t.salesUnit, station := t.station }))))

/-- R56, R57, R60, R63: the sale move is made by a PAY whose gross is 0 (with no card), by an approved payment outcome and by SETTLE
approved (each with the approval code), and the request completes with the new serial. SETTLE approved is refused for a basket number
or an approval code that is not six printable characters, and then for a basket not UNRESOLVED; nothing else moves. The model's
choices: a PAY whose gross is 0 updates the basket twice, for the quote and for the sale move (log entry 7); the bytes of an approved
PAY's result are code, tail (FFFFh where absent), then serial (log entry 10), the tail's digits by log entry 43. -/
def Obligations.ApprovalsAndZeroPayMakeTheSale : Prop :=
  (tailBytes none = [0xFF, 0xFF] ∧ ∀ d < 10000, tailBytes (some d) =
    [BitVec.ofNat 8 (16 * (d / 1000) + d / 100 % 10), BitVec.ofNat 8 (16 * (d / 10 % 10) + d % 10)]) ∧
  (∀ (s : State) (r : Request), Handed .settle r s → s.basketUnit.baskets.length = 24 →
    let b := param1 r 0
    let code := paramBytes r 2 6
    let printable := code.length = 6 ∧ ∀ x ∈ code, 0x20 ≤ x.toNat ∧ x.toNat ≤ 0x7E
    let refused := fun c => exec .settle s = .next (completeSlot r.slot c [] (taken r s))
    (basketAt s b).call = none →
    (24 ≤ b → refused .badParameter) ∧ (param1 r 1 = 1 → ¬ printable → refused .badParameter) ∧
    (b < 24 → param1 r 1 = 1 → printable → (basketAt s b).state ≠ .unresolved → refused .wrongState)) ∧
  ∀ (s : State) (b : Nat), Canonical s → b < 24 → s.basketUnit.baskets.length = 24 → s.showUnit.shows.length = 48 →
    let c := basketAt s b
    let serial := s.salesUnit.nextSerial
    let q := quoteOf (cfgOf s) (listAt s (showAt s c.sh).priceList) (c.seats.map (fun i => (seatOf s c.sh i).tier))
      (c.vouchers.map (fun i => (kindAt s (voucherAt s i).kind).price))
    c.sh < 48 → c.vouchers.Nodup → 1 ≤ serial → (∀ p, (saleAt s p).serial < serial) →
    (∀ (r : Request), Handed .pay r s → param1 r 0 = b → c.call = none → c.state = .selecting → s.showUnit.clock.isSet = true →
      (c.seats ≠ [] ∨ c.vouchers ≠ []) → (showAt s c.sh).state = .onSale → q.overCeiling = false →
      q.gross = 0 → s.salesUnit.inUse + s.salesUnit.reserved < 2048 → s.salesUnit.reserved < 16777216 - serial →
      ∃ v u, exec .pay s = .next (completeSlot r.slot .ok (leBytes 3 serial) u) ∧
        Sold b { byCard := false, code := none, tail := none } v u ∧
        basketAt v b = { c with quote := q, changes := bump c.changes } ∧ (∀ n, n ≠ b → basketAt v n = basketAt s n) ∧
        v = { taken r s with
          basketUnit := { s.basketUnit with baskets := v.basketUnit.baskets }
          salesUnit := { s.salesUnit with reserved := s.salesUnit.reserved + 1, changes := bump s.salesUnit.changes } }) ∧
    (∀ (o : OutcomeReport) (slot : Nat) (b' : Fin 24), b'.val = b → s.basketUnit.outcomes.find? (fun x => x.basket == b) = some o →
      o.outcome = .approved → c.state = .paying → s.board.inflight.getD b none = some slot →
      ∃ u, exec (.paymentOutcome b') s = .next (completeSlot slot .ok (o.code ++ tailBytes o.tail ++ leBytes 3 serial) u) ∧
        Sold b { byCard := true, code := some o.code, tail := o.tail }
          { s with basketUnit := { s.basketUnit with outcomes := s.basketUnit.outcomes.erase o } } u) ∧
    (∀ (r : Request), Handed .settle r s → param1 r 0 = b → c.call = none → c.state = .unresolved → param1 r 1 = 1 →
      (paramBytes r 2 6).length = 6 → (∀ x ∈ paramBytes r 2 6, 0x20 ≤ x.toNat ∧ x.toNat ≤ 0x7E) →
      ∃ u, exec .settle s = .next (completeSlot r.slot .ok (leBytes 3 serial) u) ∧
        Sold b { byCard := true, code := some (paramBytes r 2 6), tail := none } (taken r s) u)

/-- R60 to R63: a decline, a cancellation, a timed-out abort and SETTLE declined give the reserved place back; the basket returns to
SELECTING with the retry deadline while its show is ON_SALE, and expires with HOLD_EXPIRED when it is not. An unresolved outcome
leaves it UNRESOLVED with its place. The slot in flight completes with the outcome's code, SETTLE with the state reached. A basket
that is not PAYING takes no outcome, by the model's reading (log entry 2). -/
def Obligations.OtherOutcomesReturnExpireOrSuspendTheBasket : Prop :=
  ∀ (s : State) (b : Fin 24), Canonical s → s.basketUnit.baskets.length = 24 → s.showUnit.shows.length = 48 →
    let c := basketAt s b
    let open' := (showAt s c.sh).state = .onSale
    let retry := min (s.showUnit.runTime + 1000 * (cfgOf s).retryGrace) (closeAt s c.sh)
    let returned := fun (v u : State) =>
      basketAt u b = { c with state := .selecting, deadline := some ⟨retry, s.showUnit.runTime⟩, changes := bump c.changes } ∧
      (∀ n, n ≠ b.val → basketAt u n = basketAt s n) ∧ stationLike u s ∧
      u = { v with
        basketUnit := { v.basketUnit with baskets := u.basketUnit.baskets }, station := u.station
        salesUnit := { s.salesUnit with reserved := s.salesUnit.reserved - 1, changes := bump s.salesUnit.changes } }
    let givenBack := fun (v : State) =>
      { v with salesUnit := { s.salesUnit with reserved := s.salesUnit.reserved - 1, changes := bump s.salesUnit.changes } }
    c.sh < 48 →
    (∀ (o : OutcomeReport), s.basketUnit.outcomes.find? (fun x => x.basket == b.val) = some o →
      let v := { s with basketUnit := { s.basketUnit with outcomes := s.basketUnit.outcomes.erase o } }
      (c.state ≠ .paying → exec (.paymentOutcome b) s = .next v) ∧
      (∀ (slot : Nat) (code : ResultCode), c.state = .paying → s.board.inflight.getD b none = some slot →
        (o.outcome = .declined ∧ code = .declined ∨ o.outcome = .cancelled ∧ code = .cancelled ∨
          o.outcome = .timedOut ∧ code = .timedOut) →
        (open' → ∃ u, exec (.paymentOutcome b) s = .next (completeSlot slot code [] u) ∧ returned v u) ∧
        (¬ open' → ∃ u, exec (.paymentOutcome b) s =
            .next (completeSlot slot code [] (raiseFactor (kioskCell c.kiosk) kfHoldExpired u)) ∧
          Ended b .expired (givenBack v) u)) ∧
      (∀ slot, c.state = .paying → s.board.inflight.getD b none = some slot → o.outcome = .unresolved →
        ∃ u, exec (.paymentOutcome b) s = .next (completeSlot slot .unresolved [] u) ∧
          basketAt u b = { c with state := .unresolved, deadline := none, changes := bump c.changes } ∧
          (∀ n, n ≠ b.val → basketAt u n = basketAt s n) ∧ stationLike u s ∧
          u = { v with basketUnit := { v.basketUnit with baskets := u.basketUnit.baskets }, station := u.station })) ∧
    (∀ (r : Request), Handed .settle r s → param1 r 0 = b.val → c.call = none →
      (c.state = .unresolved → param1 r 1 = 2 →
        (open' → ∃ u, exec .settle s = .next (completeSlot r.slot .ok [0x01] u) ∧ returned (taken r s) u) ∧
        (¬ open' → ∃ u, exec .settle s = .next (completeSlot r.slot .ok [0x07] (raiseFactor (kioskCell c.kiosk) kfHoldExpired u)) ∧
          Ended b .expired (givenBack (taken r s)) u)) ∧
      (c.state ≠ .unresolved → param1 r 1 = 2 → exec .settle s = .next (completeSlot r.slot .wrongState [] (taken r s))) ∧
      (param1 r 1 ≠ 1 → param1 r 1 ≠ 2 → exec .settle s = .next (completeSlot r.slot .badParameter [] (taken r s))))

/-- R29, R51, R52, R55: ABANDON ends a SELECTING basket as ABANDONED and answers what it gave up; it is refused BASKET_BUSY from PAYING
to COLLECT and WRONG_STATE elsewhere. A hold deadline due, and a show's leaving ON_SALE, end a SELECTING basket as EXPIRED with
HOLD_EXPIRED; while a call is open on the basket each of the three waits. That ABANDON's result gives its counts in one byte each is the
model's choice (log entry 9), and so is that a report that a show has left ON_SALE stands until it is taken (log entry 44). -/
def Obligations.BasketsEndWithoutASale : Prop :=
  (∀ (s : State) (r : Request), Handed .abandon r s → Canonical s → s.basketUnit.baskets.length = 24 →
    s.showUnit.shows.length = 48 →
    let b := param1 r 0
    let c := basketAt s b
    (c.call ≠ none → exec .abandon s = .next { taken r s with waiting := s.waiting ++ [(.basket b, .request r)] }) ∧
    (b < 24 → c.sh < 48 → c.call = none → c.state = .selecting →
      ∃ u, exec .abandon s = .next (completeSlot r.slot .ok (leBytes 1 c.seats.length ++ leBytes 1 c.vouchers.length) u) ∧
        Ended b .abandoned (taken r s) u) ∧
    (b < 24 → c.call = none → (c.state = .paying ∨ c.state = .unresolved ∨ c.state = .printing ∨ c.state = .collect) →
      exec .abandon s = .next (completeSlot r.slot .basketBusy [] (taken r s))) ∧
    (b < 24 → c.call = none → (c.state = .free ∨ c.state = .closed ∨ c.state = .expired ∨ c.state = .abandoned) →
      exec .abandon s = .next (completeSlot r.slot .wrongState [] (taken r s))) ∧
    (24 ≤ b → exec .abandon s = .next (completeSlot r.slot .badParameter [] (taken r s)))) ∧
  (∀ (s : State) (b : Fin 24), Canonical s → s.basketUnit.baskets.length = 24 → s.showUnit.shows.length = 48 →
    let c := basketAt s b
    c.sh < 48 → c.state = .selecting →
    (∀ d, c.call = none → c.deadline = some d → d.value ≤ s.showUnit.runTime → d.setAt < s.showUnit.runTime →
      ∃ u, exec (.holdDeadline b) s = .next (raiseFactor (kioskCell c.kiosk) kfHoldExpired u) ∧ Ended b .expired s u) ∧
    (∀ d, c.call ≠ none → c.deadline = some d → d.value ≤ s.showUnit.runTime → d.setAt < s.showUnit.runTime →
      exec (.holdDeadline b) s = .next { s with waiting := s.waiting ++ [(.basket b, .holdDeadline b)] }) ∧
    (∀ sh : Fin 48, sh.val ∈ s.showUnit.leftSale → c.sh = sh.val →
      let v := { s with showUnit := { s.showUnit with leftSale := s.showUnit.leftSale.erase sh.val } }
      (∀ n < 24, (basketAt s n).state = .selecting → (basketAt s n).sh = sh.val → n = b.val) →
      (c.call = none → ∃ u, exec (.showLeftSale sh) s = .next (raiseFactor (kioskCell c.kiosk) kfHoldExpired u) ∧ Ended b .expired v u) ∧
      (c.call ≠ none → exec (.showLeftSale sh) s = .next { v with waiting := s.waiting ++ [(.basket b, .leftSale b)] }))) ∧
  (∀ (s : State) (sh : Fin 48), sh.val ∈ s.showUnit.leftSale → s.basketUnit.baskets.length = 24 →
    ∃ t, exec (.showLeftSale sh) s = .next t ∧ t.showUnit.leftSale = s.showUnit.leftSale.erase sh.val ∧
      (∀ n < 24, let c := basketAt s n
        basketAt t n = if c.state = .selecting ∧ c.sh = sh.val ∧ c.call = none then
          { c with state := .expired, seats := [], vouchers := [], deadline := none, changes := bump c.changes } else c))

/-- R49, R65 to R68: a PRINTING basket whose plan is printed moves to COLLECT under the collect deadline; a cleared chute closes every
COLLECT basket whose printer stands at that kiosk, and the collect deadline closes one uncollected, with UNCOLLECTED raised; each
leaves the kiosk without it. That a chute event closes a basket also where its edge was accepted before the basket entered COLLECT is
the model's choice (log entry 35). RETIRE gives an ended context back to the supply. -/
def Obligations.CollectedBasketsCloseAndRetire : Prop :=
  ∀ s : State, s.basketUnit.baskets.length = 24 → s.station.kiosks.length = 12 →
    let now := s.showUnit.runTime
    let leaves := fun (closed : Nat → Prop) (u : State) =>
      ∀ j, ∃ cur, kioskLike (kioskAt u j) { (kioskAt s j) with current := cur } ∧
        ((∃ n, closed n ∧ (basketAt s n).kiosk = j ∧ (kioskAt s j).current = some n) → cur = none) ∧
        ((∀ n, closed n → (basketAt s n).kiosk = j → (kioskAt s j).current ≠ some n) → cur = (kioskAt s j).current)
    (∀ b : Fin 24, (basketAt s b).state = .printing → (basketAt s b).printed = (basketAt s b).plan.length →
      ∃ t, exec (.moveToCollect b) s = .next t ∧
        basketAt t b = { (basketAt s b) with
          state := .collect, deadline := some ⟨now + 1000 * (cfgOf s).collectTimeout, now⟩, changes := bump (basketAt s b).changes } ∧
        (∀ n, n ≠ b.val → basketAt t n = basketAt s n) ∧ stationLike t s ∧
        t = { s with basketUnit := { s.basketUnit with baskets := t.basketUnit.baskets }, station := t.station }) ∧
    (∀ k : Fin 12, k.val ∈ s.basketUnit.chutes →
      let closed := fun n => n < 24 ∧ (basketAt s n).state = .collect ∧ (basketAt s n).printer = k.val
      ∃ t, exec (.chuteCleared k) s = .next t ∧
        (∀ n, closed n → basketAt t n = { (basketAt s n) with
          state := .closed, deadline := none, uncollected := false, changes := bump (basketAt s n).changes }) ∧
        (∀ n, ¬ closed n → basketAt t n = basketAt s n) ∧ leaves closed t ∧
        t = { s with
          basketUnit := { s.basketUnit with baskets := t.basketUnit.baskets, chutes := s.basketUnit.chutes.erase k.val }
          station := { s.station with kiosks := t.station.kiosks } }) ∧
    (∀ (b : Fin 24) (d : Deadline), (basketAt s b).state = .collect → (basketAt s b).deadline = some d → d.value ≤ now →
      d.setAt < now →
      ∃ u, exec (.collectDeadline b) s = .next (raiseFactor (kioskCell (basketAt s b).kiosk) kfUncollected u) ∧
        basketAt u b = { (basketAt s b) with
          state := .closed, deadline := none, uncollected := true, changes := bump (basketAt s b).changes } ∧
        (∀ n, n ≠ b.val → basketAt u n = basketAt s n) ∧ leaves (fun n => n = b.val) u ∧
        u = { s with
          basketUnit := { s.basketUnit with baskets := u.basketUnit.baskets }
          station := { s.station with kiosks := u.station.kiosks } }) ∧
    (∀ r : Request, Handed .retire r s →
      let b := param1 r 0
      let c := basketAt s b
      let left := freeContexts s + 1
      (b < 24 → c.call = none → (c.state = .closed ∨ c.state = .expired ∨ c.state = .abandoned) →
        ∃ u, exec .retire s = .next (completeSlot r.slot .ok [] u) ∧
          basketAt u b = { Basket.free with changes := bump c.changes } ∧ (∀ n, n ≠ b → basketAt u n = basketAt s n) ∧
          u.station.foyer.freeCount = left ∧ u.station.foyer.low = decide (left ≤ (cfgOf s).lowWater) ∧
          u.station.foyer.factors = (if (cfgOf s).lowWater < s.station.foyer.freeCount ∧ left ≤ (cfgOf s).lowWater
            then s.station.foyer.factors ||| ffContextLow else s.station.foyer.factors) ∧
          (∀ j, kioskLike (kioskAt u j) (kioskAt s j)) ∧
          u = { taken r s with
            basketUnit := { s.basketUnit with baskets := u.basketUnit.baskets }
            board := { (taken r s).board with attention := u.board.attention }, wire := u.wire
            station := { s.station with kiosks := u.station.kiosks, foyer := u.station.foyer } }) ∧
      (b < 24 → c.call = none → c.state ≠ .closed → c.state ≠ .expired → c.state ≠ .abandoned →
        exec .retire s = .next (completeSlot r.slot .wrongState [] (taken r s))) ∧
      (24 ≤ b → exec .retire s = .next (completeSlot r.slot .badParameter [] (taken r s))))

/-! ### Terminal lines and payment (Chapter 5) -/

/-- R86: a frame travels as A5h, the length, kind, tag, payload, and the sum and exclusive-or of those before; the receiver reads the
frame back, and any single changed byte after the lead makes the check bytes wrong. Each frame command is the arrival of its frame's
bytes, whatever the receiver's state. -/
def Obligations.FramesAreReadBackFromTheirBytes : Prop :=
  (∀ f : Frame, 1 ≤ f.payload.length → f.payload.length ≤ 38 →
    frameBytes f = 0xA5 :: BitVec.ofNat 8 (f.payload.length + 2) :: f.kind :: f.tag :: f.payload ++
      [BitVec.ofNat 8 (f.payload.length + 2) + f.kind + f.tag + f.payload.foldl (· + ·) 0,
       BitVec.ofNat 8 (f.payload.length + 2) ^^^ f.kind ^^^ f.tag ^^^ f.payload.foldl (· ^^^ ·) 0] ∧
    frameOfBytes (frameBytes f).tail = some f ∧
    ∀ n b, n < f.payload.length + 5 → (frameBytes f).tail[n]? ≠ some b → frameOfBytes ((frameBytes f).tail.set n b) = none) ∧
  (∀ (s : State) (n : Fin 12) (tag a b : Byte) (code tail payload : List Byte), s.lines.length = 12 → code.length = 6 →
    tail.length = 4 → 1 ≤ payload.length → payload.length ≤ 38 →
    exec (.card n tag a) s = .next (bytesArrive n (frameBytes ⟨0x81, tag, [a]⟩) s) ∧
    exec (.result n tag a code tail) s = .next (bytesArrive n (frameBytes ⟨0x82, tag, a :: code ++ tail⟩) s) ∧
    exec (.abortDone n tag a) s = .next (bytesArrive n (frameBytes ⟨0x83, tag, [a]⟩) s) ∧
    exec (.reverseDone n tag a) s = .next (bytesArrive n (frameBytes ⟨0x84, tag, [a]⟩) s) ∧
    exec (.pong n tag a) s = .next (bytesArrive n (frameBytes ⟨0x85, tag, [a]⟩) s) ∧
    exec (.fault n tag a) s = .next (bytesArrive n (frameBytes ⟨0x86, tag, [a]⟩) s) ∧
    exec (.frameOfUnknownKind n b tag payload) s = .next (bytesArrive n (frameBytes ⟨b, tag, payload⟩) s))

/-- R85, R86, R87, R93: a faulted byte is counted in the line record and the statistics and discards a frame in progress, as the
100 ms gap does without an answer; with the line's parity none there is no parity fault; a bad frame is answered NAK and has no
other effect; a good frame of an unknown kind is answered ACK and counted stray. A line of an unconfigured part receives nothing. -/
def Obligations.ReceiverCountsDiscardsAndAnswers : Prop :=
  (∀ (s : State) (n : Fin 12), s.lines.length = 12 → sparseWf (0 : Nat) s.stats → s.config ≠ none →
    let x := lineAt s n
    (∀ kind : ByteFault, let possible := kind = .parity → ∃ p, (cfgOf s).lines[n.val]? = some p ∧ p.parity ≠ 0
     (¬ possible → exec (.terminalByteFault n kind) s = .next s) ∧
     (possible → ∃ t, exec (.terminalByteFault n kind) s = .next t ∧
      (let off := 0x200 + 20 * n.val + (match kind with | .parity => 0 | .framing => 4 | .overrun => 8)
       statAt t off = min (statAt s off + 1) 4294967295 ∧ ∀ o, o ≠ off → statAt t o = statAt s o) ∧
      LineMoved n { x with
        rx := none, gapDue := none
        parityFaults := if kind = .parity then min 65535 (x.parityFaults + 1) else x.parityFaults
        framingFaults := if kind = .framing then min 65535 (x.framingFaults + 1) else x.framingFaults
        overruns := if kind = .overrun then min 65535 (x.overruns + 1) else x.overruns } [] { s with stats := t.stats } t)) ∧
    (Outside n s → ∀ bytes, badFrameFormed bytes = true →
      ∃ t, exec (.badFrame n bytes) s = .next t ∧ t = { s with wire := s.wire ++ [.answer n 0x15] }) ∧
    (Outside n s → ∀ kind tag payload, unknownFormed kind payload = true →
      ∃ t, exec (.frameOfUnknownKind n kind tag payload) s = .next t ∧ StrayFrame n s t)) ∧
  (∀ (s : State) (n : Fin 12) (d : Deadline), s.lines.length = 12 → (lineAt s n).gapDue = some d → d.value ≤ s.showUnit.runTime →
    d.setAt < s.showUnit.runTime →
    ∃ t, exec (.frameGapTimeout n) s = .next t ∧ lineAt t n = { (lineAt s n) with rx := none, gapDue := none } ∧
      (∀ m, m ≠ n.val → lineAt t m = lineAt s m) ∧ t = { s with lines := t.lines }) ∧
  (∀ (s : State) (n : Fin 12) (c : Instr), s.config = none →
    ((∃ kind, c = .terminalByteFault n kind) ∨ (∃ bytes, c = .badFrame n bytes) ∨ c = .ack n ∨ c = .nak n ∨
      (∃ tag a, c = .card n tag a) ∨ (∃ tag v code tail, c = .result n tag v code tail) ∨ (∃ tag a, c = .abortDone n tag a) ∨
      (∃ tag a, c = .reverseDone n tag a) ∨ (∃ tag a, c = .pong n tag a) ∨ (∃ tag a, c = .fault n tag a) ∨
      (∃ kind tag payload, c = .frameOfUnknownKind n kind tag payload)) → exec c s = .next s)

/-- R88, R97, R98: an ACK delivers the frame that awaits it; delivering AUTH moves the record to AUTHORIZING, or sends the ABORT held
for it. A NAK, or the 300 ms wait, sends the frame again and counts a retry; after the third sending the line goes to FAULT, an open
record closes UNRESOLVED and a REVERSE completes with TIMED_OUT. Without a frame awaited neither does anything. That an ACK or NAK
is the answer of the frame awaited, also where a PING was sent before it, is the model's choice (log entry 45). -/
def Obligations.FramesAreDeliveredOrResent : Prop :=
  ∀ (s : State) (n : Fin 12), s.lines.length = 12 → s.station.kiosks.length = 12 → s.station.counters.length = 4 →
    Canonical s → s.config ≠ none → Outside n s →
    let x := lineAt s n
    let now := s.showUnit.runTime
    (x.awaiting = none → exec (.ack n) s = .next s ∧ exec (.nak n) s = .next s ∧ exec (.ackWaitTimeout n) s = .next s) ∧
    (∀ a, x.awaiting = some a →
      ((openRecord s n = none ∨ (∃ i, openRecord s n = some i ∧ (recordAt s n i).phase ≠ .awaitAck)) →
        ∃ t, exec (.ack n) s = .next t ∧ LineMoved n { x with awaiting := none } [] s t) ∧
      (∀ i, openRecord s n = some i → (recordAt s n i).phase = .awaitAck →
        let r := recordAt s n i
        (r.cause = none → ∃ t, exec (.ack n) s = .next t ∧
          LineMoved n (withRecord i { r with phase := .authorizing, changes := bump r.changes } { x with awaiting := none }) [] s t) ∧
        (∀ cause, r.cause = some cause → ∃ t, exec (.ack n) s = .next t ∧
          LineMoved n (abortingLine now i cause r x) [.frame n (abortOf r.tag cause)] s t)) ∧
      (∀ c : Instr, (c = .nak n ∨ (c = .ackWaitTimeout n ∧ a.due.value ≤ now ∧ a.due.setAt < now)) →
        (a.sendings < 3 → ∃ t, exec c s = .next t ∧
          (statAt t (0x20C + 20 * n.val) = min (statAt s (0x20C + 20 * n.val) + 1) 4294967295 ∧
            ∀ o, o ≠ 0x20C + 20 * n.val → statAt t o = statAt s o) ∧
          LineMoved n { x with awaiting := some { a with sendings := a.sendings + 1, due := ⟨now + 300, now⟩ } } [.frame n a.frame]
            { s with stats := t.stats } t) ∧
        (3 ≤ a.sendings →
          (∀ i, openRecord s n = some i → ∃ u, RecordClosed n i .unresolved none none .fault s u ∧
            exec c s = .next (answerCancels (recordAt s n i) .unresolved u)) ∧
          (∀ slot tag, openRecord s n = none → x.reversing = some (slot, tag) →
            ∃ u, exec c s = .next (raiseFactor (kioskCell n) kfTerminalFault u) ∧
              LineMoved n (restingLine now .fault x) [] (completeSlot slot .timedOut [] s) u))))

/-- R87, R96, R97, R101, R102: a good frame is answered ACK. A CARD with the open record's tag writes the card and raises
CARD_PRESENTED, for a record in ABORTING too by the model's reading of section 5.8 (log entry 28); a RESULT with it closes the
record, approved with its code and tail or declined, and the line goes to IDLE. An approval for the last closed tag, not approved
before, joins the late list once, or counts an overflow when four stand there. Every other such frame is stray. -/
def Obligations.CardAndResultMeetTheOpenRecordOrTheLateList : Prop :=
  (∀ (s : State) (n tag : Nat), (lineAt s n).records.length = 4 →
    let isOpen := fun i => (recordAt s n i).tag ≠ 0 ∧ (recordAt s n i).phase ≠ .closed
    let carries := fun i => tag ≠ 0 ∧ (recordAt s n i).tag = tag
    (∀ i, openRecord s n = some i ↔ i < 4 ∧ isOpen i ∧ ∀ j < i, ¬ isOpen j) ∧ (openRecord s n = none ↔ ∀ i < 4, ¬ isOpen i) ∧
    (∀ i, recordWithTag s n tag = some i ↔ i < 4 ∧ carries i ∧ ∀ j < i, ¬ carries j) ∧
    (recordWithTag s n tag = none ↔ ∀ i < 4, ¬ carries i)) ∧
  ∀ (s : State) (n : Fin 12) (tag a : Byte) (code tail : List Byte), s.lines.length = 12 → s.station.kiosks.length = 12 →
    s.station.counters.length = 4 → Canonical s → s.config ≠ none → Outside n s → code.length = 6 → tail.length = 4 →
    let x := lineAt s n
    let printable := ∀ b ∈ code, 0x20 ≤ b.toNat ∧ b.toNat ≤ 0x7E
    let approval := fun (tv : Option Nat) => a = 0x01 ∧ printable ∧
      (tv = none ∧ tail = [0x20, 0x20, 0x20, 0x20] ∨ ∃ d < 10000, tv = some d ∧ tail = (digitsOf 4 d).map digitChar)
    let strayResult := ∃ t, exec (.result n tag a code tail) s = .next t ∧ StrayFrame n s t
    (∀ i, openRecord s n = some i → (recordAt s n i).tag = tag.toNat →
      let r := recordAt s n i
      (∃ u, exec (.card n tag a) s = .next (raiseFactor (kioskCell n) kfCardPresented u) ∧
        LineMoved n (withRecord i { r with cardPresented := true, cardKind := some a.toNat, changes := bump r.changes } x) []
          (acked n s) u) ∧
      (∀ tv, approval tv → ∃ u, RecordClosed n i .approved (some code) tv .idle (acked n s) u ∧
        exec (.result n tag a code tail) s = .next (answerCancels r .approved u)) ∧
      (a = 0x02 → ∃ u, RecordClosed n i .declined none none .idle (acked n s) u ∧
        exec (.result n tag a code tail) s = .next (answerCancels r .declined u)) ∧
      ((∀ tv, ¬ approval tv) → a ≠ 0x02 → strayResult)) ∧
    ((∀ i, openRecord s n = some i → (recordAt s n i).tag ≠ tag.toNat) →
      (∃ t, exec (.card n tag a) s = .next t ∧ StrayFrame n s t) ∧
      ((∀ tv, ¬ approval tv) → strayResult) ∧
      (∀ tv, approval tv →
        (∀ i, recordWithTag s n tag.toNat = some i → x.lastClosed = some tag.toNat → (recordAt s n i).phase = .closed →
          (recordAt s n i).outcome ≠ some .approved → (∀ e ∈ x.late, e.tag ≠ tag.toNat) →
          (x.late.length < 4 → ∃ u, exec (.result n tag a code tail) s = .next (raiseFactor (kioskCell n) kfLateApproval u) ∧
            LineMoved n { x with late := x.late ++ [⟨tag.toNat, (recordAt s n i).amount, code, tv⟩] } [] (acked n s) u) ∧
          (4 ≤ x.late.length → ∃ u, exec (.result n tag a code tail) s = .next (raiseFactor (kioskCell n) kfLateOverflow u) ∧
            LineMoved n { x with lateOverflow := min 65535 (x.lateOverflow + 1) } [] (acked n s) u)) ∧
        ((recordWithTag s n tag.toNat = none ∨ x.lastClosed ≠ some tag.toNat ∨ (∃ e ∈ x.late, e.tag = tag.toNat) ∨
          (∃ i, recordWithTag s n tag.toNat = some i ∧
            ((recordAt s n i).phase ≠ .closed ∨ (recordAt s n i).outcome = some .approved))) → strayResult)))

/-- R98 to R100: CANCEL_PAY sends ABORT for an AUTHORIZING record, is held in AWAIT_ACK until AUTH is delivered, is refused
WRONG_STATE while aborting or without a record and TOO_LATE once it has closed; it completes with the record. The auth timeout
does the same on its own account. A second CANCEL_PAY held in AWAIT_ACK waits with the first, by the model's choice (log entry
15), and the record of an AUTHORIZING CANCEL_PAY is updated twice in its one event (log entry 7). ABORT_DONE closes an aborting
record CANCELLED, or TIMED_OUT where the timeout began it, and is stray where no record is open or another one is; without it the
abort wait closes the record UNRESOLVED and the line goes to FAULT. -/
def Obligations.AbortsEndTheRecordOneWay : Prop :=
  (∀ (s : State) (r : Request), Handed .cancelPay r s → s.lines.length = 12 → s.basketUnit.baskets.length = 24 →
    let b := param1 r 0
    let refused := fun code => exec .cancelPay s = .next (completeSlot r.slot code [] (taken r s))
    (24 ≤ b → refused .badParameter) ∧
    (b < 24 → (basketAt s b).payRef = none → refused .wrongState) ∧
    (∀ n tag, b < 24 → n < 12 → (basketAt s b).payRef = some (n, tag) →
      (recordWithTag s n tag = none → refused .wrongState) ∧
      (∀ i, recordWithTag s n tag = some i →
        let p := recordAt s n i
        let x := lineAt s n
        (p.phase = .closed → refused .tooLate) ∧ (p.phase = .aborting → refused .wrongState) ∧
        (p.phase = .awaitAck → ∃ t, exec .cancelPay s = .next t ∧
          LineMoved n (withRecord i { p with
            cause := if p.cause = some .timeout then some .timeout else some .customer
            cancelSlots := p.cancelSlots ++ [r.slot], changes := bump p.changes } x) [] (taken r s) t) ∧
        (p.phase = .authorizing → ∃ t, exec .cancelPay s = .next t ∧
          LineMoved n (abortingLine s.showUnit.runTime i .customer
            { p with cancelSlots := p.cancelSlots ++ [r.slot], changes := bump p.changes } x)
            [.frame n (abortOf p.tag .customer)] (taken r s) t)))) ∧
  (∀ (s : State) (n : Fin 12) (i : Nat), s.lines.length = 12 → s.station.kiosks.length = 12 → s.station.counters.length = 4 →
    Canonical s → openRecord s n = some i →
    let r := recordAt s n i
    let x := lineAt s n
    let now := s.showUnit.runTime
    (∀ d, x.authDue = some d → d.value ≤ now → d.setAt < now →
      (r.phase = .awaitAck → ∃ t, exec (.authTimeout n) s = .next t ∧
        LineMoved n (withRecord i { r with cause := some (r.cause.getD .timeout), changes := bump r.changes }
          { x with authDue := none }) [] s t) ∧
      (r.phase ≠ .awaitAck → ∃ t, exec (.authTimeout n) s = .next t ∧
        LineMoved n (abortingLine now i .timeout r x) [.frame n (abortOf r.tag .timeout)] s t)) ∧
    (∀ d, x.abortDue = some d → d.value ≤ now → d.setAt < now →
      ∃ u, RecordClosed n i .unresolved none none .fault s u ∧
        exec (.abortWaitTimeout n) s = .next (answerCancels r .unresolved u)) ∧
    (∀ tag a : Byte, s.config ≠ none → Outside n s →
      (r.tag = tag.toNat → r.phase = .aborting →
        let o := if r.cause = some .timeout then PayOutcome.timedOut else .cancelled
        ∃ u, RecordClosed n i o none none .idle (acked n s) u ∧ exec (.abortDone n tag a) s = .next (answerCancels r o u)) ∧
      ((r.tag ≠ tag.toNat ∨ r.phase ≠ .aborting) → ∃ t, exec (.abortDone n tag a) s = .next t ∧ StrayFrame n s t))) ∧
  (∀ (s : State) (n : Fin 12) (tag a : Byte), s.lines.length = 12 → sparseWf (0 : Nat) s.stats → s.config ≠ none → Outside n s →
    openRecord s n = none → ∃ t, exec (.abortDone n tag a) s = .next t ∧ StrayFrame n s t)

/-- R103, R104: REVERSE of a late entry on an IDLE line sends the frame and waits; its slot stays TAKEN. REVERSE_DONE with the entry's
tag completes it and returns the line to IDLE, removing the entry when the terminal reversed it and keeping it when it declined;
without it the reverse wait keeps the entry, sends the line to FAULT and completes TIMED_OUT. A REVERSE_DONE on a line that
reverses nothing is stray. That REVERSE_DONE ends the wait for the ACK too, where the frame REVERSE is still unanswered, is read from
R104 by the model (log entry 36). -/
def Obligations.ReverseTakesBackALateApproval : Prop :=
  (∀ (s : State) (r : Request), Handed .reverse r s → s.lines.length = 12 →
    let k := param1 r 0
    let e := param1 r 1
    let x := lineAt s k
    let now := s.showUnit.runTime
    let refused := fun code => exec .reverse s = .next (completeSlot r.slot code [] (taken r s))
    ((12 ≤ k ∨ 4 ≤ e ∨ x.late[e]? = none) → refused .badParameter) ∧
    (∀ y, k < 12 → e < 4 → x.late[e]? = some y →
      (x.state ≠ .idle → refused .wrongState) ∧
      (x.state = .idle →
        let frame : Frame := ⟨0x03, BitVec.ofNat 8 y.tag, y.code ++ beBytes 3 y.amount⟩
        ∃ t, exec .reverse s = .next t ∧
          LineMoved k { x with
            state := .reversing, pingDue := none, reverseDue := some ⟨now + 30000, now⟩, reversing := some (r.slot, y.tag)
            awaiting := sentAt now frame } [.frame k frame] (taken r s) t))) ∧
  (∀ (s : State) (n : Fin 12) (slot late : Nat), s.lines.length = 12 → sparseWf (0 : Nat) s.stats → s.config ≠ none →
    (lineAt s n).reversing = some (slot, late) →
    let x := lineAt s n
    let now := s.showUnit.runTime
    (∀ tag verdict : Byte, Outside n s →
      (x.state = .reversing → late = tag.toNat → (verdict = 0x01 ∨ verdict = 0x02) →
        ∃ u, exec (.reverseDone n tag verdict) s = .next (completeSlot slot (if verdict = 0x01 then .ok else .declined) [] u) ∧
          LineMoved n { (restingLine now .idle x) with
            late := if verdict = 0x01 then x.late.filter (fun y => y.tag != late) else x.late } [] (acked n s) u) ∧
      ((x.state ≠ .reversing ∨ late ≠ tag.toNat ∨ (verdict ≠ 0x01 ∧ verdict ≠ 0x02)) →
        ∃ t, exec (.reverseDone n tag verdict) s = .next t ∧ StrayFrame n s t)) ∧
    (∀ d, x.reverseDue = some d → d.value ≤ now → d.setAt < now → openRecord s n = none →
      ∃ u, exec (.reverseWaitTimeout n) s = .next (raiseFactor (kioskCell n) kfTerminalFault u) ∧
        LineMoved n (restingLine now .fault x) [] (completeSlot slot .timedOut [] s) u)) ∧
  (∀ (s : State) (n : Fin 12) (tag verdict : Byte), s.lines.length = 12 → sparseWf (0 : Nat) s.stats → s.config ≠ none →
    (lineAt s n).reversing = none → Outside n s → ∃ t, exec (.reverseDone n tag verdict) s = .next t ∧ StrayFrame n s t)

/-- R87, R90 to R92: a PONG brings a line from DOWN or FAULT to IDLE and in IDLE clears the unanswered pings; in any other state it has
no use and is stray. A FAULT frame writes its code
and moves the line to FAULT with TERMINAL_FAULT raised, an open record closing UNRESOLVED and a REVERSE completing with
TERMINAL_FAULT; in DOWN or FAULT it writes the code alone. The PING timer sends PING and starts again; in IDLE it counts the ping, and
the fourth unanswered moves the line to FAULT. -/
def Obligations.LivenessMovesTheLine : Prop :=
  ∀ (s : State) (n : Fin 12), s.lines.length = 12 → s.station.kiosks.length = 12 → s.station.counters.length = 4 → Canonical s →
    let x := lineAt s n
    let now := s.showUnit.runTime
    let ping : Output := .frame n ⟨0x04, 0x00, [BitVec.ofNat 8 n.val]⟩
    (∀ tag a : Byte, s.config ≠ none → Outside n s →
      ((x.state = .down ∨ x.state = .fault) → ∃ t, exec (.pong n tag a) s = .next t ∧
        LineMoved n { x with state := .idle, pings := 0, pingDue := some ⟨now + 5000, now⟩ } [] (acked n s) t) ∧
      (x.state = .idle → ∃ t, exec (.pong n tag a) s = .next t ∧ LineMoved n { x with pings := 0 } [] (acked n s) t) ∧
      ((x.state = .authorizing ∨ x.state = .aborting ∨ x.state = .reversing) →
        ∃ t, exec (.pong n tag a) s = .next t ∧ StrayFrame n s t) ∧
      ((x.state = .down ∨ x.state = .fault) → ∃ t, exec (.fault n tag a) s = .next t ∧
        LineMoved n { x with faultCode := some a.toNat } [] (acked n s) t) ∧
      (x.state ≠ .down → x.state ≠ .fault →
        (openRecord s n = none → x.reversing = none → ∃ u, exec (.fault n tag a) s = .next (raiseFactor (kioskCell n) kfTerminalFault u) ∧
          LineMoved n (restingLine now .fault { x with faultCode := some a.toNat }) [] (acked n s) u) ∧
        (∀ slot late, openRecord s n = none → x.reversing = some (slot, late) →
          ∃ u, exec (.fault n tag a) s = .next (raiseFactor (kioskCell n) kfTerminalFault u) ∧
            LineMoved n (restingLine now .fault { x with faultCode := some a.toNat }) []
              (completeSlot slot .terminalFault [] (acked n s)) u) ∧
        (∀ i, openRecord s n = some i → ∃ v u, exec (.fault n tag a) s = .next (answerCancels (recordAt s n i) .unresolved u) ∧
          LineMoved n { x with faultCode := some a.toNat } [] (acked n s) v ∧
          RecordClosed n i .unresolved none none .fault v u))) ∧
    (∀ d, x.pingDue = some d → d.value ≤ now → d.setAt < now →
      ((x.state = .down ∨ x.state = .fault) → ∃ t, exec (.pingTimer n) s = .next t ∧
        LineMoved n { x with pingDue := some ⟨now + 5000, now⟩ } [ping] s t) ∧
      (x.state = .idle → x.pings < 3 → ∃ t, exec (.pingTimer n) s = .next t ∧
        LineMoved n { x with pings := x.pings + 1, pingDue := some ⟨now + 5000, now⟩ } [ping] s t) ∧
      (x.state = .idle → 3 ≤ x.pings → openRecord s n = none → x.reversing = none →
        ∃ u, LineMoved n (restingLine now .fault x) [] s u ∧
          exec (.pingTimer n) s = .next (let v := raiseFactor (kioskCell n) kfTerminalFault u
            { v with wire := v.wire ++ [ping] })))

/-! ### Printers (Chapter 6) -/

/-- R107 to R110, R113, R119 to R121, R124: an exchange clocks the next data byte while STREAMING on a status that allows one, and a
poll byte otherwise, and takes the status byte, which becomes the last status, moves the absent run and raises PAPER_LOW when paper
low appears. Ten absent bytes in a row lose the printer; a stall cause stalls it; an INCOMPLETE head stalls it on its return. A READY
printer starts its QUEUED head, a spent rendering waits for the cut, and the cut completes the item and pulls the next plan item, the
lowest sale serial first, into the room it leaves; the same byte then stalls the printer, if it shows a cause, or starts what now
stands at the head. The cut deadline stalls it. While a sale check is open on the queue, only a start, a completion and an
interruption of an item wait, a loss and the cut deadline among them, and a byte with presence set behind a loss that waits; every
other byte is taken as ever. That a waiting byte is recorded at once, that an absence ends at once and that no data byte follows a stop
that waits are the model's choice (log entry 39).
An unconfigured part clocks nothing. Which byte an exchange carries, the mark of a poll byte already out, that an item starts only
when a status byte is taken and that paper low is an edge are the model's choice too (log entry 13), and so is that a pull inside a
completion updates the queue and the basket once more (log entry 7). -/
def Obligations.PrinterFollowsItsStatusBytes : Prop :=
  (∀ c : Byte, stPresence c = c.getLsbD 7 ∧ stCutDone c = c.getLsbD 5 ∧ stPaperLow c = c.getLsbD 2 ∧ stReady c = c.getLsbD 0 ∧
    (shownCause c = if c.getLsbD 7 = false then none else if c.getLsbD 6 then some .fault else if c.getLsbD 4 then some .headOpen
      else if c.getLsbD 3 then some .paperOut else none) ∧
    (allowsByte c = true ↔ c.getLsbD 7 = true ∧ c.getLsbD 0 = true ∧ c.getLsbD 1 = false ∧ shownCause c = none)) ∧
  ∀ (s : State) (p : Fin 12) (b : Byte) (sends : Bool), s.print.printers.length = 12 → s.station.kiosks.length = 12 →
    s.basketUnit.baskets.length = 24 → Canonical s →
    let q := printerAt s p
    let now := s.showUnit.runTime
    (sends = true ↔ q.polled = false ∧ q.state = .streaming ∧ q.lastStatus.any allowsByte = true ∧ q.toSend ≠ [] ∧
      ∀ e ∈ s.waiting, e.2 ≠ .absence p ∧ ∀ c, e.2 ≠ .status p c ∧ e.2 ≠ .returned p c) →
    let y : Printer := { q with
      lastStatus := some b, absentRun := if stPresence b then 0 else min 10 (q.absentRun + 1), polled := false
      toSend := if sends then q.toSend.tail else q.toSend }
    let showed := q.lastStatus.any (fun l => stPresence l && stPaperLow l)
    let low : FactorSet := if stPresence b && stPaperLow b && !showed then kfPaperLow else 0
    let r := { s with wire := s.wire ++ (if q.polled then [] else [.printerByte p sends (if sends then q.toSend.headD 0 else 0)]) }
    let waits := fun e => { r with waiting := s.waiting ++ [(.printer p, e)] }
    let headIn := fun st => ∃ x rest, q.queue = x :: rest ∧ x.state = st
    let startsOnReturn := q.state = .absent ∧ shownCause b = none ∧ allowsByte b = true ∧ headIn .queued
    let behindLoss := ∃ e ∈ s.waiting, e.2 = .absence p ∨ ∃ c, e.2 = .returned p c
    (s.config = none → exec (.statusByte p b) s = .next s) ∧
    (s.config ≠ none → ∃ t, exec (.statusByte p b) s = .next t ∧
      (stPresence b = true →
        ((q.check = none ∨ (¬ behindLoss ∧ ¬ OnQueue y b ∧ ¬ startsOnReturn)) → StatusMoved p b y low r t) ∧
        (q.check ≠ none → behindLoss → PrinterMoved p y low [] (waits (.returned p b)) t) ∧
        (q.check ≠ none → ¬ behindLoss → OnQueue y b → PrinterMoved p y low [] (waits (.status p b)) t) ∧
        (q.check ≠ none → ¬ behindLoss → startsOnReturn → PrinterMoved p { y with state := .ready } low [] (waits (.status p b)) t)) ∧
      (stPresence b = false →
        ((q.check = none ∨ y.absentRun ≠ 10 ∨ q.state = .absent ∨ ¬ headIn .printing) → AbsenceMoved p y r t) ∧
        (q.check ≠ none → y.absentRun = 10 → q.state ≠ .absent → headIn .printing →
          PrinterMoved p y 0 [] (waits (.absence p)) t))) ∧
    (∀ d, q.state = .finishing → q.cutDue = some d → d.value ≤ now → d.setAt < now →
      (q.check = none → ∃ t, exec (.cutDeadline p) s = .next t ∧
        PrinterMoved p (stalledAs .cutTimeout q) kfPrinterStalled [0x124 + 12 * p.val] s t) ∧
      (q.check ≠ none →
        exec (.cutDeadline p) s = .next { s with waiting := s.waiting ++ [(.printer p, .cutDeadline p)] }))

/-- R111 to R118, R122, R123, R25, R82: a pull places the next plan item of the PRINTING basket of lowest serial behind the queue
and moves its cursor. An arriving item stands behind the PRINTING or INCOMPLETE head, URGENT before NORMAL, each class by arrival.
LOAD_TEMPLATE copies the staged bytes unless an item names the template. RESUME_PRINTER frees a STALLED printer with a clean last
status, an interrupted head queued again with its reprint count raised. REDIRECT moves the whole queue of a STALLED or ABSENT
printer to another as new arrivals and reassigns its baskets. A rendering is the template with each marker 1Fh and its number
replaced by the field's text, cut after 4,096 bytes. While a sale check is open on a queue that one of them reads or moves, it waits
(R124). The model's choices: a request waits before its first check (log entry 4), a pull is its own event but for the one inside a
completion (log entry 29), the 2-byte offset and length (log entry 10), the counts of a result in one byte each (log entry 9), a
LOAD_TEMPLATE's check counted at every queue it reads and a refused RESUME_PRINTER or REDIRECT at none (log entry 7), a LOAD_TEMPLATE
refused whose offset lies past staging although its length is 0 (log entry 46). -/
def Obligations.QueuesAndTemplatesMoveAsAsked : Prop :=
  (∀ (s : State) (p : Fin 12) (b m : Nat) (x : PlanItem), s.print.printers.length = 12 → s.basketUnit.baskets.length = 24 →
    let q := printerAt s p
    let c := basketAt s b
    let mayPull := fun n => (basketAt s n).state = .printing ∧ (basketAt s n).printer = p.val ∧
      (basketAt s n).cursor < (basketAt s n).plan.length
    q.check = none → q.queue.length < 16 → b < 24 → mayPull b → c.serial = some m → c.plan[c.cursor]? = some x →
    (∀ n < 24, n ≠ b → mayPull n → ∃ k, (basketAt s n).serial = some k ∧ m < k) →
    (∀ y ∈ q.queue, arrivedBefore q.nextArrival y.arrival = false) →
    ∃ t template, exec (.pull p) s = .next t ∧
      (x.kind = .ticket → template = 0) ∧ (x.kind = .receipt → template = 1) ∧
      (∀ i, x.kind = .slip → c.vouchers[x.index]? = some i → template = (kindAt s (voucherAt s i).kind).template) ∧
      printerAt t p = { q with
        queue := q.queue ++ [⟨x.kind, template, m, x.index, false, 0, .queued, .basket b, q.nextArrival⟩]
        nextArrival := (q.nextArrival + 1) % 65536, queueChanges := bump q.queueChanges } ∧
      (∀ j, j ≠ p.val → printerAt t j = printerAt s j) ∧
      basketAt t b = { c with cursor := c.cursor + 1, changes := bump c.changes } ∧ (∀ n, n ≠ b → basketAt t n = basketAt s n) ∧
      t = { s with print := { s.print with printers := t.print.printers }, basketUnit := { s.basketUnit with baskets := t.basketUnit.baskets } }) ∧
  (∀ (s : State) (p : Fin 12) (b : Nat), s.basketUnit.baskets.length = 24 → (printerAt s p).check ≠ none →
    (printerAt s p).queue.length < 16 → b < 24 → (basketAt s b).state = .printing → (basketAt s b).printer = p.val →
    (basketAt s b).cursor < (basketAt s b).plan.length →
    exec (.pull p) s = .next { s with waiting := s.waiting ++ [(.printer p, .pull p)] }) ∧
  (∀ (s : State) (r : Request) (p : Nat),
    let waits := { taken r s with waiting := s.waiting ++ [(.printer p, .request r)] }
    (Handed .loadTemplate r s → p < 12 → (printerAt s p).check ≠ none → (∀ j < p, (printerAt s j).check = none) →
      exec .loadTemplate s = .next waits) ∧
    (Handed .resumePrinter r s → p = param1 r 0 → (printerAt s p).check ≠ none → exec .resumePrinter s = .next waits) ∧
    (Handed .redirect r s → p = param1 r 0 → (printerAt s p).check ≠ none → exec .redirect s = .next waits) ∧
    (Handed .redirect r s → p = param1 r 1 → (printerAt s (param1 r 0)).check = none → (printerAt s p).check ≠ none →
      exec .redirect s = .next waits)) ∧
  (∀ (s : State) (r : Request), Handed .loadTemplate r s → s.print.printers.length = 12 → s.print.templates.length = 32 →
    Memory.wf s.mem → (∀ q ∈ s.print.printers, q.check = none) →
    let n := param1 r 0
    let off := param2 r 1
    let len := param2 r 3
    let refused := fun code => exec .loadTemplate s = .next (completeSlot r.slot code [] (taken r s))
    ((32 ≤ n ∨ 1024 < len ∨ 8192 < off + len) → refused .badParameter) ∧
    (n < 32 → len ≤ 1024 → off + len ≤ 8192 →
      let counted := s.print.printers.map (fun q => { q with queueChanges := bump q.queueChanges })
      ((∃ q ∈ s.print.printers, ∃ x ∈ q.queue, x.template = n) → exec .loadTemplate s =
        .next (completeSlot r.slot .templateInUse [] { taken r s with print := { s.print with printers := counted } })) ∧
      ((∀ q ∈ s.print.printers, ∀ x ∈ q.queue, x.template ≠ n) →
        ∃ u, exec .loadTemplate s = .next (completeSlot r.slot .ok [] u) ∧
          (∀ i < len, memRead u.mem (0xA000 + 1024 * n + i) = memRead s.mem (0x8000 + off + i)) ∧
          (∀ a, (a < 0xA000 + 1024 * n ∨ 0xA000 + 1024 * n + len ≤ a) → memRead u.mem a = memRead s.mem a) ∧
          templateAt u n = ⟨len, bump (templateAt s n).changes⟩ ∧ (∀ j, j ≠ n → templateAt u j = templateAt s j) ∧
          u = { taken r s with mem := u.mem, print := { printers := counted, templates := u.print.templates } }))) ∧
  (∀ (s : State) (r : Request), Handed .resumePrinter r s → s.print.printers.length = 12 →
    let p := param1 r 0
    let q := printerAt s p
    let refused := fun code => exec .resumePrinter s = .next (completeSlot r.slot code [] (taken r s))
    let clean := ∃ b, q.lastStatus = some b ∧ stPresence b = true ∧ stReady b = true ∧ shownCause b = none
    q.check = none →
    (12 ≤ p → refused .badParameter) ∧ (p < 12 → q.state = .absent → refused .printerAbsent) ∧
    (p < 12 → q.state ≠ .absent → (q.state ≠ .stalled ∨ ¬ clean) → refused .wrongState) ∧
    (p < 12 → q.state = .stalled → clean →
      ∃ u, exec .resumePrinter s = .next (completeSlot r.slot .ok (leBytes 1 q.queue.length) u) ∧
        ((q.queue = [] ∨ (∃ x rest, q.queue = x :: rest ∧ x.state = .queued)) →
          printerAt u p = { q with state := .ready, stallCause := none, queueChanges := bump q.queueChanges }) ∧
        (∀ x rest, q.queue = x :: rest → x.state ≠ .queued → printerAt u p = { q with
          state := .ready, stallCause := none, queueChanges := bump q.queueChanges
          queue := placeItem { x with state := .queued, reprints := min 15 (x.reprints + 1) } rest }) ∧
        (∀ j, j ≠ p → printerAt u j = printerAt s j) ∧ stationLike u s ∧
        u = { taken r s with print := { s.print with printers := u.print.printers }, station := u.station })) ∧
  (∀ (s : State) (r : Request), Handed .redirect r s → s.print.printers.length = 12 → s.basketUnit.baskets.length = 24 →
    let src := param1 r 0
    let dst := param1 r 1
    let q := printerAt s src
    let d := printerAt s dst
    let refused := fun code => exec .redirect s = .next (completeSlot r.slot code [] (taken r s))
    let mine := fun n => (basketAt s n).state = .printing ∧ (basketAt s n).printer = src
    q.check = none → d.check = none →
    ((12 ≤ src ∨ 12 ≤ dst ∨ src = dst) → refused .badParameter) ∧
    (src < 12 → dst < 12 → src ≠ dst →
      ((q.state ≠ .stalled ∧ q.state ≠ .absent ∨ d.state = .stalled ∨ d.state = .absent) → refused .wrongState) ∧
      ((q.state = .stalled ∨ q.state = .absent) → d.state ≠ .stalled → d.state ≠ .absent → d.queue.length ≤ 16 →
        (16 < d.queue.length + q.queue.length → refused .queueFull) ∧
        (d.queue.length + q.queue.length ≤ 16 →
          ∃ u n, exec .redirect s = .next (completeSlot r.slot .ok (leBytes 1 q.queue.length ++ leBytes 1 n) u) ∧
            n = ((List.range 24).filter (fun k => (basketAt s k).state == .printing && (basketAt s k).printer == src)).length ∧
            printerAt u src = { q with queue := [], queueChanges := bump q.queueChanges } ∧
            (printerAt u dst = { d with
                queue := (printerAt u dst).queue, nextArrival := (printerAt u dst).nextArrival, queueChanges := bump d.queueChanges } ∧
              (printerAt u dst).queue.length = d.queue.length + q.queue.length ∧ (∀ x ∈ d.queue, x ∈ (printerAt u dst).queue) ∧
              (∀ (j : Nat) (x : Item), q.queue[j]? = some x → d.nextArrival < 65536 →
                { (if x.state = .queued then x else { x with state := .queued, reprints := min 15 (x.reprints + 1) }) with
                  arrival := (d.nextArrival + j) % 65536 } ∈ (printerAt u dst).queue)) ∧
            (∀ j, j ≠ src → j ≠ dst → printerAt u j = printerAt s j) ∧
            (∀ k < 24, (mine k → basketAt u k = { (basketAt s k) with printer := dst, changes := bump (basketAt s k).changes }) ∧
              (¬ mine k → basketAt u k = basketAt s k)) ∧
            u = { taken r s with
              print := { s.print with printers := u.print.printers }, basketUnit := { s.basketUnit with baskets := u.basketUnit.baskets } })))) ∧
  (∀ (active urgents normals : List Item) (x : Item), x.state = .queued → active.length ≤ 1 →
    (∀ y ∈ active, y.state ≠ .queued) → (∀ y ∈ urgents, y.state = .queued ∧ y.urgent = true) →
    (∀ y ∈ normals, y.state = .queued ∧ y.urgent = false) →
    let later := fun (l : List Item) => ∀ y ∈ l, arrivedBefore x.arrival y.arrival = false
    let earlier := fun (l : List Item) => ∀ y ∈ l, arrivedBefore x.arrival y.arrival = true
    (x.urgent = true → later urgents → placeItem x (active ++ urgents ++ normals) = active ++ (urgents ++ [x]) ++ normals) ∧
    (x.urgent = false → later normals → placeItem x (active ++ urgents ++ normals) = active ++ urgents ++ (normals ++ [x])) ∧
    (x.urgent = true → earlier urgents → placeItem x (active ++ urgents ++ normals) = active ++ (x :: urgents) ++ normals) ∧
    (x.urgent = false → earlier normals → placeItem x (active ++ urgents ++ normals) = active ++ urgents ++ (x :: normals)) ∧
    ∀ a < 65536, ∀ k < 32768, arrivedBefore ((a + k) % 65536) a = false ∧ (0 < k → arrivedBefore a ((a + k) % 65536) = true)) ∧
  (∀ (s : State) (x : Item),
    let expanded := expand (fieldText s x) (memReadAll s.mem (0xA000 + 1024 * x.template) (templateAt s x.template).length)
    rendering s x = expanded.take 4096 ∧ (expanded.length ≤ 4096 → rendering s x = expanded)) ∧
  (∀ (field : Nat → List Byte), expand field [] = [] ∧ expand field [0x1F] = [] ∧
    (∀ b rest, b ≠ (0x1F : Byte) → expand field (b :: rest) = b :: expand field rest) ∧
    (∀ n rest, expand field (0x1F :: n :: rest) = field n.toNat ++ expand field rest)) ∧
  (∀ (s : State) (x : Item) (m : Sale), findSale s x.serial = some m →
    let w := showAt s m.sh
    let text := fieldText s x
    text 0 = [] ∧ (∀ n, 17 < n → text n = []) ∧ text 1 = w.title ∧ text 2 = decimal w.auditorium ∧ text 3 = dateText w.start ∧
    text 4 = ((digitsOf 2 (w.start.second / 3600)).map digitChar) ++ [0x3A] ++
      ((digitsOf 2 (w.start.second % 3600 / 60)).map digitChar) ∧
    text 8 = amountText m.tax ∧ text 9 = amountText m.gross ∧ text 10 = decimal x.serial ∧ text 14 = m.code.getD [] ∧
    (m.tail = none → text 15 = []) ∧ (∀ d, m.tail = some d → text 15 = (digitsOf 4 d).map digitChar) ∧
    (x.reprints = 0 → text 16 = []) ∧
    (x.reprints ≠ 0 → text 16 = [0x44, 0x55, 0x50, 0x4C, 0x49, 0x43, 0x41, 0x54, 0x45, 0x20] ++ decimal x.reprints) ∧
    text 17 = decimal m.kiosk ∧
    (∀ i, x.kind = .ticket →
      ((∃ b, x.source = .basket b ∧ (basketAt s b).seats[x.index]? = some i) ∨
       (x.source = .reprint ∧ ((List.range w.seatCount).filter (fun j => (seatAt s (w.seatBase + j)).state == .sold &&
          (seatAt s (w.seatBase + j)).owner == some x.serial))[x.index]? = some i)) → Canonical s →
      let tier := (seatAt s (w.seatBase + i)).tier
      let l := listAt s w.priceList
      (∀ row len, w.rowLengths[row]? = some len → (w.rowLengths.take row).sum ≤ i → i < (w.rowLengths.take row).sum + len → text 5 =
        (if row < 26 then [BitVec.ofNat 8 (0x41 + row)] else [0x41, BitVec.ofNat 8 (0x41 + (row - 26))]) ++
          decimal (i - (w.rowLengths.take row).sum + 1)) ∧
      text 6 = l.names.getD tier [] ∧ text 7 = amountText (seatPrice (l.prices.getD tier 0) l.factor + l.fee) ∧
      text 11 = decimal x.serial ++ [0x2D] ++ (digitsOf 2 ((List.range w.seatCount).filter (fun j => decide (j < i) &&
        (seatAt s (w.seatBase + j)).state == .sold && (seatAt s (w.seatBase + j)).owner == some x.serial)).length).map digitChar ∧
      text 12 = [] ∧ text 13 = []) ∧
    (∀ v, x.kind = .slip →
      ((∃ b, x.source = .basket b ∧ (basketAt s b).vouchers[x.index]? = some v) ∨
       (x.source = .reprint ∧ (vouchersOf s x.serial)[x.index]? = some v)) →
      text 7 = amountText (kindAt s (voucherAt s v).kind).price ∧ text 12 = (digitsOf 12 (voucherAt s v).code).map digitChar ∧
      text 13 = (kindAt s (voucherAt s v).kind).name ∧ text 5 = [] ∧ text 6 = [] ∧ text 11 = []) ∧
    (x.kind = .receipt → text 7 = amountText m.discount ∧ ∀ n ∈ [5, 6, 11, 12, 13], text n = [])) ∧
  ((∀ n d : Nat, d < 10 → decimal d = [digitChar d] ∧ (0 < n → 10 * n + d < 10 ^ 10 → decimal (10 * n + d) = decimal n ++ [digitChar d])) ∧
    (∀ a : Nat, amountText a = decimal (a / 100) ++ [0x2E] ++ (digitsOf 2 (a % 100)).map digitChar) ∧
    (∀ (i : Instant) (month day : Nat),
      let february := if i.year % 4 = 0 then 29 else 28
      let before := ([31, february, 31, 30, 31, 30, 31, 31, 30, 31, 30, 31] : List Nat)
      1 ≤ month → month ≤ 12 → 1 ≤ day → day ≤ before.getD (month - 1) 0 → i.day = (before.take (month - 1)).sum + day →
      dateText i = (digitsOf 2 day).map digitChar ++ [0x2E] ++ (digitsOf 2 month).map digitChar ++ [0x2E] ++
        (digitsOf 4 i.year).map digitChar))

/-- R124, R149, R153: a selector byte is 00h to 03h for TICKET, SLIP, RECEIPT and ALL, a rank 0 to 9 for a ticket and 0 to 5 for a slip
(10.5), and the slips of a sale are the entries it owns in table order. REPRINT that passes the print unit's checks opens a sale check
on the queue; with one open it waits, before its first check by the model's choice (log entry 4). The sale check waits while its record
is in refund (R153). Else it finds the record and answers its reprint and item counts, or refuses an unknown serial, a REFUNDED record and a rank
the sale does not have. The selected items then enter URGENT, QUEUED, as new arrivals, with the next reprint count, or the request
is refused QUEUE_FULL; either way the check closes. The model's choices: the check moves the queue's change count neither when it
opens nor when it closes without an item (log entry 7), and the result gives its count in one byte (log entry 9). -/
def Obligations.ReprintAsksTheSaleAndQueuesUrgentItems : Prop :=
  (∀ s : State, Canonical s → ∀ serial, (vouchersOf s serial).Pairwise (· < ·) ∧ ∀ i, i ∈ vouchersOf s serial ↔
    (voucherAt s i).state ≠ none ∧ (voucherAt s i).state ≠ some .pending ∧ (voucherAt s i).owner = some serial) ∧
  (∀ (kind rank : Nat) (sel : Selector), selectorOf kind rank = some sel ↔
    (kind = 0 ∧ rank ≤ 9 ∧ sel = .ticket rank) ∨ (kind = 1 ∧ rank ≤ 5 ∧ sel = .slip rank) ∨ (kind = 2 ∧ sel = .receipt) ∨
    (kind = 3 ∧ sel = .all)) ∧
  (∀ (s : State) (r : Request), Handed .reprint r s → s.print.printers.length = 12 →
    let serial := param3 r 0
    let p := param1 r 5
    let q := printerAt s p
    let refused := fun code => exec .reprint s = .next (completeSlot r.slot code [] (taken r s))
    (q.check ≠ none → exec .reprint s = .next { taken r s with waiting := s.waiting ++ [(.printer p, .request r)] }) ∧
    (q.check = none →
      ((selectorOf (param1 r 3) (param1 r 4) = none ∨ 12 ≤ p) → refused .badParameter) ∧
      (∀ sel, selectorOf (param1 r 3) (param1 r 4) = some sel → p < 12 →
        (q.state = .absent → refused .printerAbsent) ∧
        (q.state ≠ .absent → sel ≠ .all → 16 ≤ q.queue.length → refused .queueFull) ∧
        (q.state ≠ .absent → (sel = .all ∨ q.queue.length < 16) →
          ∃ t, exec .reprint s = .next t ∧
            printerAt t p = { q with check := some { slot := r.slot, serial := serial, selector := sel, answer := none } } ∧
            (∀ j, j ≠ p → printerAt t j = printerAt s j) ∧ t = { taken r s with print := { s.print with printers := t.print.printers } })))) ∧
  (∀ (s : State) (p : Fin 12) (c : Reprint), s.print.printers.length = 12 → (printerAt s p).check = some c → NoneWaits (.printer p) s →
    let q := printerAt s p
    let closes := fun (command : Instr) (code : ResultCode) => ∃ u, exec command s = .next (completeSlot c.slot code [] u) ∧
      printerAt u p = { q with check := none } ∧ (∀ j, j ≠ p.val → printerAt u j = printerAt s j) ∧
      u = { s with print := { s.print with printers := u.print.printers } }
    (c.answer = none → (∃ f ∈ s.salesUnit.refunds, f.serial = c.serial) →
      exec (.saleCheck p) s = .next { s with waiting := s.waiting ++ [(.sale c.serial, .saleCheck p)] }) ∧
    (c.answer = none → (∀ f ∈ s.salesUnit.refunds, f.serial ≠ c.serial) →
      (findSale s c.serial = none → closes (.saleCheck p) .unknownSale) ∧
      (∀ x, findSale s c.serial = some x →
        (x.refunded = true → closes (.saleCheck p) .wrongState) ∧
        (x.refunded = false → (∃ k, c.selector = .ticket k ∧ x.seatCount ≤ k ∨ c.selector = .slip k ∧ x.voucherCount ≤ k) →
          closes (.saleCheck p) .badParameter) ∧
        (x.refunded = false → (∀ k, c.selector = .ticket k → k < x.seatCount) → (∀ k, c.selector = .slip k → k < x.voucherCount) →
          ∃ t, exec (.saleCheck p) s = .next t ∧
            printerAt t p = { q with check := some { c with
              answer := some { reprints := x.reprints, seats := x.seatCount, vouchers := x.voucherCount } } } ∧
            (∀ j, j ≠ p.val → printerAt t j = printerAt s j) ∧ t = { s with print := { s.print with printers := t.print.printers } }))) ∧
    (∀ a, c.answer = some a → q.queue.length ≤ 16 →
      let items : List (ItemKind × Nat) := match c.selector with
        | .ticket k => [(ItemKind.ticket, k)]
        | .slip k => [(.slip, k)]
        | .receipt => [(.receipt, 0)]
        | .all => (List.range a.seats).map (fun n => (ItemKind.ticket, n)) ++ (List.range a.vouchers).map (fun n => (ItemKind.slip, n))
            ++ (if (cfgOf s).receipts then [(.receipt, 0)] else [])
      (16 < q.queue.length + items.length → closes (.reprintItemsEnter p) .queueFull) ∧
      (q.queue.length + items.length ≤ 16 →
        ∃ u, exec (.reprintItemsEnter p) s = .next (completeSlot c.slot .ok (leBytes 1 items.length) u) ∧
          (printerAt u p = { q with
              queue := (printerAt u p).queue, nextArrival := (printerAt u p).nextArrival, queueChanges := bump q.queueChanges, check := none } ∧
            (printerAt u p).queue.length = q.queue.length + items.length ∧ (∀ x ∈ q.queue, x ∈ (printerAt u p).queue) ∧
            (∀ j k n, items[j]? = some (k, n) → q.nextArrival < 65536 → ∃ x ∈ (printerAt u p).queue,
              x = { x with kind := k, serial := c.serial, index := n, urgent := true, reprints := min 15 (a.reprints + 1), state := .queued
                           source := .reprint, arrival := (q.nextArrival + j) % 65536 } ∧
              (k = .ticket → x.template = 0) ∧ (k = .receipt → x.template = 1) ∧
              (∀ i, k = .slip → (vouchersOf s c.serial)[n]? = some i → x.template = (kindAt s (voucherAt s i).kind).template))) ∧
          (∀ j, j ≠ p.val → printerAt u j = printerAt s j) ∧ u = { s with print := { s.print with printers := u.print.printers } })))

/-! ### Vouchers, counters, sales and refunds (Chapters 7 and 8) -/

/-- R136, R141, R142, R167: VOID_VOUCHER takes an ACTIVE voucher out of use, and is refused for a code that is no voucher of the
table or a voucher in another state. A scanned code is answered by the first row that applies: BAD_CODE, UNKNOWN, the answer of
its state, EXPIRED past the show's end and the voucher grace, or REDEEMED, which alone moves the voucher. The answer shows for the
answer time. A code handed on at a counter that is not enabled (R139) is dropped without an answer. -/
def Obligations.VouchersAreVoidedAndAnswered : Prop :=
  (∀ (s : State) (r : Request), Handed .voidVoucher r s → Canonical s →
    let chars := paramBytes r 0 12
    let refused := fun code => exec .voidVoucher s = .next (completeSlot r.slot code [] (taken r s))
    (¬ (chars.length = 12 ∧ ∀ b ∈ chars, 0x30 ≤ b.toNat ∧ b.toNat ≤ 0x39) → refused .badParameter) ∧
    (∀ code, code < 10 ^ 12 → chars = (digitsOf 12 code).map digitChar →
      ((checkRight code = false ∨ lookupCode s code = none) → refused .badParameter) ∧
      (∀ i, checkRight code = true → lookupCode s code = some i →
        let e := voucherAt s i
        (e.state ≠ some .active → refused .wrongState) ∧
        (e.state = some .active →
          ∃ u, exec .voidVoucher s = .next (completeSlot r.slot .ok (leBytes 2 i ++ leBytes 1 e.kind ++ (e.owner.elim [0xFF, 0xFF, 0xFF] (leBytes 3))) u) ∧
            voucherAt u i = { e with state := some .voided, changes := bump e.changes } ∧ (∀ j, j ≠ i → voucherAt u j = voucherAt s j) ∧
            u = { taken r s with voucherUnit := { s.voucherUnit with entries := u.voucherUnit.entries } })))) ∧
  (∀ (s : State) (m : Fin 4) (chars : List Byte) (rest : List (List Byte)), s.voucherUnit.receivers.length = 4 →
    s.station.counters.length = 4 → Canonical s → (receiverAt s m).scanned = chars :: rest →
    ∃ v t, exec (.validation m) s = .next t ∧ ((counterAt s m).enabled = false → t = v) ∧
      receiverAt v m = { (receiverAt s m) with scanned := rest } ∧ (∀ j, j ≠ m.val → receiverAt v j = receiverAt s j) ∧
      v = { s with voucherUnit := { s.voucherUnit with receivers := v.voucherUnit.receivers } } ∧
      ((counterAt s m).enabled = true → ¬ (chars.length = 12 ∧ ∀ b ∈ chars, 0x30 ≤ b.toNat ∧ b.toNat ≤ 0x39) →
        Answered m chars .badCode none none v t) ∧
      (∀ code, (counterAt s m).enabled = true → code < 10 ^ 12 → chars = (digitsOf 12 code).map digitChar →
        (checkRight code = false → Answered m chars .badCode none none v t) ∧
        (checkRight code = true → lookupCode s code = none → Answered m chars .unknown none none v t) ∧
        (∀ i, checkRight code = true → lookupCode s code = some i →
          let e := voucherAt s i
          let late := instantSeconds (showAt s e.sh).finish + 60 * (cfgOf s).voucherGrace < instantSeconds s.showUnit.clock.now
          (e.state = none → Answered m chars .unknown none none v t) ∧
          (e.state = some .pending → Answered m chars .notPaid (some e.kind) none v t) ∧
          (e.state = some .voided → Answered m chars .voided (some e.kind) none v t) ∧
          (e.state = some .redeemed → Answered m chars .alreadyUsed (some e.kind) (e.redeemedAt.map (fun x => (x.2, x.1))) v t) ∧
          (e.state = some .active → late → Answered m chars .expired (some e.kind) none v t) ∧
          (e.state = some .active → ¬ late → ∃ w, Answered m chars .redeemed (some e.kind) none w t ∧
            voucherAt w i = { e with
              state := some .redeemed, redeemedAt := some (s.showUnit.clock.now, m.val), changes := bump e.changes } ∧
            (∀ j, j ≠ i → voucherAt w j = voucherAt s j) ∧
            w = { v with voucherUnit := { v.voucherUnit with entries := w.voucherUnit.entries } })))) ∧
  (∀ (s : State) (m : Fin 4) (d : Deadline), s.station.counters.length = 4 → (counterAt s m).answerDue = some d →
    d.value ≤ s.showUnit.runTime → d.setAt < s.showUnit.runTime →
    ∃ t, exec (.answerDeadline m) s = .next t ∧
      counterAt t m = { (counterAt s m) with
        showing := .idle, answerDue := none
        green := refreshLamp ((s.station.counterBindings[0]?).map Binding.green) (counterAt s m).green
        red := refreshLamp ((s.station.counterBindings[0]?).map Binding.red) (counterAt s m).red
        changes := (counterAt t m).changes } ∧
      (∀ j, j ≠ m.val → counterAt t j = counterAt s j) ∧ t = { s with station := { s.station with counters := t.station.counters } })

/-- R139, R140: an enabled counter gathers up to 16 characters; LF is ignored, a longer code is discarded, and CR ends the code:
handed on when it is digits alone, answered BAD_CODE when it is not or was too long, nothing when it is empty or a fault silenced
it. A byte fault is counted and discards the code to its CR without an answer (with the line's parity none there is no parity
fault); more than 100 ms between bytes discards what was held. A counter not enabled, or of an unconfigured part, takes no byte. -/
def Obligations.CounterCodesAreGathered : Prop :=
  ∀ (s : State) (m : Fin 4), s.voucherUnit.receivers.length = 4 → s.station.counters.length = 4 → Canonical s →
    let now := s.showUnit.runTime
    let r := receiverAt s m
    let emptied : Receiver := { chars := [], bad := false, discard := false, silence := false, gapDue := none, scanned := r.scanned }
    let running := some (⟨now + 101, now⟩ : Deadline)
    let receives := fun (c : Instr) (x : Receiver) => ∃ t, exec c s = .next t ∧ receiverAt t m = x ∧
      (∀ j, j ≠ m.val → receiverAt t j = receiverAt s j) ∧
      t = { s with voucherUnit := { s.voucherUnit with receivers := t.voucherUnit.receivers } }
    ((s.config = none ∨ (counterAt s m).enabled = false) →
      (∀ b, exec (.counterByte m b) s = .next s) ∧ ∀ kind, exec (.counterByteFault m kind) s = .next s) ∧
    (s.config ≠ none → (counterAt s m).enabled = true →
      (∀ kind : ByteFault, let possible := kind = .parity → ∃ p, (cfgOf s).counters[m.val]? = some p ∧ p.1.parity ≠ 0
       (¬ possible → exec (.counterByteFault m kind) s = .next s) ∧
       (possible → ∃ t, exec (.counterByteFault m kind) s = .next t ∧
        receiverAt t m = { emptied with discard := true, silence := true, gapDue := running } ∧
        (∀ j, j ≠ m.val → receiverAt t j = receiverAt s j) ∧
        (let off := 0x1B8 + 20 * m.val + (match kind with | .parity => 0 | .framing => 4 | .overrun => 8)
         statAt t off = min (statAt s off + 1) 4294967295 ∧ ∀ o, o ≠ off → statAt t o = statAt s o) ∧
        t = { s with stats := t.stats, voucherUnit := { s.voucherUnit with receivers := t.voucherUnit.receivers } })) ∧
      (∀ x : Receiver, x = (if dueNow now r.gapDue then emptied else r) →
        receives (.counterByte m 0x0A) { x with gapDue := if x.chars = [] ∧ x.discard = false then none else running } ∧
        (∀ b : Byte, b ≠ 0x0A → b ≠ 0x0D →
          (x.discard = true → receives (.counterByte m b) { x with gapDue := running }) ∧
          (x.discard = false → x.chars.length < 16 → receives (.counterByte m b) { x with
            chars := x.chars ++ [b], bad := x.bad || !(decide (0x30 ≤ b.toNat) && decide (b.toNat ≤ 0x39)), gapDue := running }) ∧
          (x.discard = false → 16 ≤ x.chars.length → receives (.counterByte m b) { x with discard := true, gapDue := running })) ∧
        ((x.silence = true ∨ (x.discard = false ∧ x.chars = [])) → receives (.counterByte m 0x0D) emptied) ∧
        (x.silence = false → x.discard = false → x.chars ≠ [] → x.bad = false →
          receives (.counterByte m 0x0D) { emptied with scanned := r.scanned ++ [x.chars] }) ∧
        (x.silence = false → (x.discard = true ∨ (x.chars ≠ [] ∧ x.bad = true)) →
          ∃ v t, exec (.counterByte m 0x0D) s = .next t ∧ Answered m x.chars .badCode none none v t ∧ receiverAt v m = emptied ∧
            (∀ j, j ≠ m.val → receiverAt v j = receiverAt s j) ∧
            v = { s with voucherUnit := { s.voucherUnit with receivers := v.voucherUnit.receivers } }))) ∧
    (∀ d, r.gapDue = some d → d.value ≤ now → d.setAt < now → receives (.counterGapTimeout m) emptied)

/-- R39, R83, R137, R150, R151, R153: REFUND that passes its checks marks its record in refund and leaves the slot TAKEN; another
REFUND of it waits. The freeing returns the sale's SOLD seats to FREE, the voucher step voids its ACTIVE vouchers and prices the
REDEEMED ones, and once both have answered the record becomes REFUNDED with the gross less that price, never below 0, and REFUND
completes. A sale has something in flight (R152) while an item of it is queued, a REPRINT of it has its sale check open, or its
plan is not fully queued. That the result gives its counts in one byte each is the model's choice
(log entry 9), and that a sale check counts from its opening the model's reading (log entry 42). -/
def Obligations.RefundFreesVoidsAndPaysBack : Prop :=
  (∀ (s : State) (serial : Nat), saleInFlight s serial = true ↔
    (∃ q ∈ s.print.printers, (∃ x ∈ q.queue, x.serial = serial) ∨ ∃ c, q.check = some c ∧ c.serial = serial) ∨
    ∃ c ∈ s.basketUnit.baskets, c.state = .printing ∧ c.serial = some serial ∧ c.cursor < c.plan.length) ∧
  (∀ (s : State) (r : Request), Handed .refund r s → Canonical s →
    let serial := param3 r 0
    let refused := fun code => exec .refund s = .next (completeSlot r.slot code [] (taken r s))
    ((∃ f ∈ s.salesUnit.refunds, f.serial = serial) →
      exec .refund s = .next { taken r s with waiting := s.waiting ++ [(.sale serial, .request r)] }) ∧
    ((∀ f ∈ s.salesUnit.refunds, f.serial ≠ serial) →
      (s.showUnit.clock.isSet = false → refused .clockUnset) ∧
      (s.showUnit.clock.isSet = true →
        (serial = 0 → refused .badParameter) ∧ (serial ≠ 0 → saleplace s serial = none → refused .unknownSale) ∧
        (∀ p, saleplace s serial = some p →
          let x := saleAt s p
          let before := instantBefore s.showUnit.clock.now (showAt s x.sh).start
          (x.refunded = true → refused .wrongState) ∧ (x.refunded = false → before = false → refused .showStarted) ∧
          (x.refunded = false → before = true → saleInFlight s serial = true → refused .basketBusy) ∧
          (x.refunded = false → before = true → saleInFlight s serial = false →
            ∃ t, exec .refund s = .next t ∧ saleAt t p = { x with changes := stepCount x.changes } ∧
              (∀ j, j ≠ p → saleAt t j = saleAt s j) ∧
              t.salesUnit.refunds = s.salesUnit.refunds ++ [{ slot := r.slot, serial := serial, seatsFreed := none, vouchers := none }] ∧
              t = { taken r s with salesUnit := { s.salesUnit with sales := t.salesUnit.sales, refunds := t.salesUnit.refunds } }))))) ∧
  (∀ (s : State) (serial p : Nat) (f : Refund), Canonical s → s.showUnit.shows.length = 48 →
    s.salesUnit.refunds.find? (fun x => x.serial == serial) = some f → saleplace s serial = some p → (saleAt s p).sh < 48 →
    let x := saleAt s p
    let w := showAt s x.sh
    let inUse := fun (t : State) (g : Refund) => t.salesUnit.refunds.find? (fun y => y.serial == serial) = some g ∧
      (∀ k, k ≠ serial → t.salesUnit.refunds.find? (fun y => y.serial == k) = s.salesUnit.refunds.find? (fun y => y.serial == k))
    (f.seatsFreed = none →
      let mine := fun c => w.seatBase ≤ c ∧ c < w.seatBase + w.seatCount ∧ (seatAt s c).state = .sold ∧ (seatAt s c).owner = some serial
      let n := ((List.range w.seatCount).filter (fun i =>
        (seatAt s (w.seatBase + i)).state == .sold && (seatAt s (w.seatBase + i)).owner == some serial)).length
      ∃ t, exec (.refundFreeing serial) s = .next t ∧ inUse t { f with seatsFreed := some n } ∧
        (∀ c, (mine c → seatAt t c = ⟨.free, (seatAt s c).tier, none⟩) ∧ (¬ mine c → seatAt t c = seatAt s c)) ∧
        showAt t x.sh = { w with sold := w.sold - n, free := w.free + n, changes := (showAt t x.sh).changes } ∧
        (∀ k, k ≠ x.sh → showAt t k = showAt s k) ∧
        t = { s with
          seats := t.seats, showUnit := { s.showUnit with shows := t.showUnit.shows }
          salesUnit := { s.salesUnit with refunds := t.salesUnit.refunds } }) ∧
    (f.vouchers = none →
      ∃ (t : State) (voided redeemed : List Nat), exec (.refundVoucherStep serial) s = .next t ∧
        inUse t { f with vouchers := some {
          voided := voided.length, redeemed := redeemed.length
          sum := (redeemed.map (fun i => (kindAt s (voucherAt s i).kind).price)).sum } } ∧
        voided.Nodup ∧ redeemed.Nodup ∧
        (∀ i, i ∈ voided ↔ (voucherAt s i).state = some .active ∧ (voucherAt s i).owner = some serial) ∧
        (∀ i, i ∈ redeemed ↔ (voucherAt s i).state = some .redeemed ∧ (voucherAt s i).owner = some serial) ∧
        (∀ i, i ∈ voided → voucherAt t i = { (voucherAt s i) with state := some .voided, changes := bump (voucherAt s i).changes }) ∧
        (∀ i, i ∉ voided → voucherAt t i = voucherAt s i) ∧
        t = { s with
          voucherUnit := { s.voucherUnit with entries := t.voucherUnit.entries }
          salesUnit := { s.salesUnit with refunds := t.salesUnit.refunds } }) ∧
    (∀ n a, f.seatsFreed = some n → f.vouchers = some a → NoneWaits (.sale serial) s → (∀ k, NoneWaits (.printer k) s) →
      ∃ u, exec (.refundComplete serial) s = .next (completeSlot f.slot .ok
          (leBytes 3 (x.gross - a.sum) ++ leBytes 1 a.redeemed ++ leBytes 1 a.voided ++ leBytes 1 n) u) ∧
        saleAt u p = { x with refunded := true, refundAmount := some (x.gross - a.sum), changes := stepCount x.changes } ∧
        (∀ j, j ≠ p → saleAt u j = saleAt s j) ∧ u.salesUnit.refunds = s.salesUnit.refunds.filter (fun y => y.serial != serial) ∧
        u = { s with salesUnit := { s.salesUnit with sales := u.salesUnit.sales, refunds := u.salesUnit.refunds } }))

/-! ### Stations (Chapter 9) -/

/-- R160 to R162: a change at a sense input writes the present level; back at the accepted level it ends the filter, with the
filter OFF it is accepted at once, and else the filter starts or restarts. The filter deadline accepts it. SET_SENSE writes both
settings and restarts a running filter with the new width, or accepts at once with OFF, the edge tested against the new select.
Where one event writes a sense record twice, the cell's change count moves with each, by the model's choice (log entry 7). -/
def Obligations.SenseLinesAreFilteredAndAccepted : Prop :=
  (∀ (s : State) (k : Fin 12) (l : Fin 4), s.station.kiosks.length = 12 → (kioskAt s k).senses.length = 4 →
    let x := senseAt s k l
    let now := s.showUnit.runTime
    let ms := match x.width with | .off => 0 | .ms2 => 2 | .ms8 => 8 | .ms32 => 32
    (exec (.senseInputChange k l x.present) s = .next s) ∧
    (∀ level : Bool, level ≠ x.present →
      (level = x.accepted → ∃ v t, exec (.senseInputChange k l level) s = .next t ∧ SenseWritten k l { x with present := level } s v ∧
        SenseWritten k l { x with present := level, deadline := none } v t) ∧
      (level ≠ x.accepted → x.width = .off → ∃ v t, exec (.senseInputChange k l level) s = .next t ∧
        SenseWritten k l { x with present := level } s v ∧ EdgeAccepted k l v t) ∧
      (level ≠ x.accepted → x.width ≠ .off → ∃ v t, exec (.senseInputChange k l level) s = .next t ∧
        SenseWritten k l { x with present := level } s v ∧
        SenseWritten k l { x with present := level, deadline := some ⟨now + ms, now⟩ } v t)) ∧
    (∀ d, x.deadline = some d → d.value ≤ now → d.setAt < now →
      ∃ t, exec (.senseFilterDeadline k l) s = .next t ∧ EdgeAccepted k l s t)) ∧
  (∀ (s : State) (r : Request), Handed .setSense r s → s.station.kiosks.length = 12 →
    let k := param1 r 0
    let l := param1 r 1
    let x := senseAt s k l
    let now := s.showUnit.runTime
    ((12 ≤ k ∨ 4 ≤ l ∨ 4 ≤ param1 r 2 ∨ 4 ≤ param1 r 3) →
      exec .setSense s = .next (completeSlot r.slot .badParameter [] (taken r s))) ∧
    (∀ w e, k < 12 → l < 4 → (kioskAt s k).senses.length = 4 →
      (param1 r 2, w) ∈ [(0, FilterWidth.off), (1, .ms2), (2, .ms8), (3, .ms32)] →
      (param1 r 3, e) ∈ [(0, EdgeSelect.none), (1, .rising), (2, .falling), (3, .both)] →
      let ms := match w with | .off => 0 | .ms2 => 2 | .ms8 => 8 | .ms32 => 32
      ∃ v u, exec .setSense s = .next (completeSlot r.slot .ok [] u) ∧
        SenseWritten k l { x with width := w, edge := e } (taken r s) v ∧
        (x.deadline = none → u = v) ∧
        (x.deadline ≠ none → w = .off → EdgeAccepted k l v u) ∧
        (x.deadline ≠ none → w ≠ .off → SenseWritten k l { x with width := w, edge := e, deadline := some ⟨now + ms, now⟩ } v u)))

/-- R163 to R166, R168: a lamp is dark on OFF, lit on ON, shows the present step of its generator on PATTERN n and the accepted level of
its line on FOLLOW k. Conditions and showings are numbered as R164's tables list them. A kiosk's condition is the first row that applies, and a lamp's function comes from its follow line, its
override or its binding, in that order, or is OFF. A function byte, a colour byte and a station byte name what 10.5 says. SET_BINDING
replaces one function of a table, taken at once by the lamps it binds, or one follow line. SET_LAMP sets or clears an override, and its
deadline removes it. SET_PATTERN replaces a generator, which then starts at step 0, and the step deadline advances it round its length.
A SET_BINDING whose colour byte is above 01h or whose form byte is above 02h is refused with BAD_PARAMETER by the model's choice (log
entry 30), and so is it that bits 12 to 15 of SET_PATTERN's step word are ignored (log entry 37). -/
def Obligations.LampsTakeTheirFunctionsInForce : Prop :=
  (∀ (s : State) (lamp : LampId),
    let f := (lampAt s lamp).function
    (f = .off → lampLit s lamp = false) ∧ (f = .on → lampLit s lamp = true) ∧
    (∀ n g, f = .pattern n → s.station.generators[n]? = some g → lampLit s lamp = g.steps.getD g.position false) ∧
    ∀ k c line, lamp = .kiosk k c → f = .follow line → lampLit s lamp = (senseAt s k line).accepted) ∧
  (([.service, .stalled, .selecting, .paying, .printing, .collect, .wait, .greet, .idle] : List Condition).map conditionNum = List.range 9 ∧
    ([.idle, .redeemed, .alreadyUsed, .notPaid, .voided, .expired, .unknown, .badCode] : List Showing).map showingNum = List.range 8 ∧
    ∀ (s : State) (c : Colour),
      let part := fun (b : Binding) => match c with | .green => b.green | .red => b.red
      (∀ k, bindingFor s (.kiosk k c) = (s.station.kioskBindings[conditionNum (kioskAt s k).condition]?).map part) ∧
      ∀ m, bindingFor s (.counter m c) = (s.station.counterBindings[showingNum (counterAt s m).showing]?).map part) ∧
  (functionOf 0x00 = some .off ∧ functionOf 0x01 = some .on ∧ (∀ n < 8, functionOf (0x10 + n) = some (.pattern n)) ∧
    (∀ b, 1 < b → (b < 0x10 ∨ 0x17 < b) → functionOf b = none) ∧
    (colourOf 0x00 = some .green ∧ colourOf 0x01 = some .red ∧ ∀ b, 1 < b → colourOf b = none) ∧
    ∀ c : Colour, (∀ k : Fin 12, stationLamp k.val c = some (.kiosk k c)) ∧
      (∀ m : Fin 4, stationLamp (0x10 + m.val) c = some (.counter m c)) ∧
      ∀ b, 12 ≤ b → (b < 0x10 ∨ 0x13 < b) → stationLamp b c = none) ∧
  (∀ (s : State) (k : Nat),
    let c := kioskAt s k
    let p := (printerAt s k).state
    conditionOf s k =
      (if c.service then .service else if p = .stalled ∨ p = .absent then .stalled
       else match c.current.map (fun b => (basketAt s b).state) with
        | some .selecting => .selecting
        | some .paying => .paying
        | some .unresolved => .paying
        | some .printing => .printing
        | some .collect => .collect
        | some _ => .idle
        | none => if s.station.foyer.low then .wait else if (senseAt s k 0).accepted then .greet else .idle)) ∧
  (∀ (l : Lamp) (binding : Option LampFunction),
    (∀ line, l.follow = some line → refreshLamp binding l = { l with function := .follow line, source := .follow }) ∧
    (∀ f d, l.follow = none → l.override = some (f, d) → refreshLamp binding l = { l with function := f, source := .override }) ∧
    (∀ f, l.follow = none → l.override = none → binding = some f → refreshLamp binding l = { l with function := f, source := .binding }) ∧
    (l.follow = none → l.override = none → binding = none → refreshLamp binding l = { l with function := .off, source := .off })) ∧
  (∀ (s : State) (r : Request) (c : Colour) (f : LampFunction), Handed .setBinding r s → s.station.kiosks.length = 12 →
    s.station.counters.length = 4 → s.station.kioskBindings.length = 9 → s.station.counterBindings.length = 8 →
    let place := param1 r 1
    let part := fun (b : Binding) => match c with | .green => b.green | .red => b.red
    colourOf (param1 r 2) = some c →
    (param1 r 0 = 0 → functionOf (param1 r 3) = some f → place < 9 →
      ∃ u, exec .setBinding s = .next (completeSlot r.slot .ok [] u) ∧
        (∀ n, n ≠ place → u.station.kioskBindings[n]? = s.station.kioskBindings[n]?) ∧
        u.station.kioskBindings[place]? = (s.station.kioskBindings[place]?).map (fun b =>
          match c with | .green => { b with green := f } | .red => { b with red := f }) ∧
        (∀ k : Fin 12, lampAt u (.kiosk k c) = if conditionNum (kioskAt s k).condition = place
          then refreshLamp (some f) (lampAt s (.kiosk k c)) else lampAt s (.kiosk k c)) ∧
        (∀ j, (∀ k, j ≠ .kiosk k c) → lampAt u j = lampAt s j) ∧ (∀ k, kioskLike (kioskAt u k) (kioskAt s k)) ∧
        u = { taken r s with station := { s.station with kiosks := u.station.kiosks, kioskBindings := u.station.kioskBindings } }) ∧
    (param1 r 0 = 1 → functionOf (param1 r 3) = some f → place < 8 →
      ∃ u, exec .setBinding s = .next (completeSlot r.slot .ok [] u) ∧
        (∀ n, n ≠ place → u.station.counterBindings[n]? = s.station.counterBindings[n]?) ∧
        u.station.counterBindings[place]? = (s.station.counterBindings[place]?).map (fun b =>
          match c with | .green => { b with green := f } | .red => { b with red := f }) ∧
        (∀ k : Fin 4, lampAt u (.counter k c) = if showingNum (counterAt s k).showing = place
          then refreshLamp (some f) (lampAt s (.counter k c)) else lampAt s (.counter k c)) ∧
        (∀ j, (∀ k, j ≠ .counter k c) → lampAt u j = lampAt s j) ∧
        (∀ k, counterAt u k = { (counterAt s k) with
          green := (counterAt u k).green, red := (counterAt u k).red, changes := (counterAt u k).changes }) ∧
        u = { taken r s with station := { s.station with counters := u.station.counters, counterBindings := u.station.counterBindings } }) ∧
    (∀ k : Fin 12, param1 r 0 = 2 → place = k.val → (param1 r 3 < 4 ∨ param1 r 3 = 255) →
      ∃ u, exec .setBinding s = .next (completeSlot r.slot .ok [] u) ∧
        LampWritten (.kiosk k c) (refreshLamp (bindingFor s (.kiosk k c))
          { (lampAt s (.kiosk k c)) with follow := if param1 r 3 = 255 then none else some (param1 r 3) }) (taken r s) u) ∧
    ((3 ≤ param1 r 0 ∨ (param1 r 0 = 0 ∧ (9 ≤ place ∨ functionOf (param1 r 3) = none)) ∨
      (param1 r 0 = 1 ∧ (8 ≤ place ∨ functionOf (param1 r 3) = none)) ∨
      (param1 r 0 = 2 ∧ (12 ≤ place ∨ (4 ≤ param1 r 3 ∧ param1 r 3 ≠ 255)))) →
      exec .setBinding s = .next (completeSlot r.slot .badParameter [] (taken r s)))) ∧
  (∀ (s : State) (r : Request), (Handed .setBinding r s → colourOf (param1 r 2) = none →
      exec .setBinding s = .next (completeSlot r.slot .badParameter [] (taken r s))) ∧
    (Handed .setLamp r s → (colourOf (param1 r 1)).bind (stationLamp (param1 r 0)) = none →
      exec .setLamp s = .next (completeSlot r.slot .badParameter [] (taken r s)))) ∧
  (∀ (s : State) (r : Request) (lamp : LampId), Handed .setLamp r s → s.station.kiosks.length = 12 → s.station.counters.length = 4 →
    (colourOf (param1 r 1)).bind (stationLamp (param1 r 0)) = some lamp →
    let now := s.showUnit.runTime
    let duration := param1 r 3
    let sets := fun o => ∃ u, exec .setLamp s = .next (completeSlot r.slot .ok [] u) ∧
      LampWritten lamp (refreshLamp (bindingFor s lamp) { (lampAt s lamp) with override := o }) (taken r s) u
    (param1 r 2 = 0x30 → sets none) ∧
    (∀ f, functionOf (param1 r 2) = some f → duration ≤ 60 →
      sets (some (f, if duration = 0 then none else some ⟨now + 1000 * duration, now⟩))) ∧
    ((param1 r 2 ≠ 0x30 ∧ (functionOf (param1 r 2) = none ∨ 60 < duration)) →
      exec .setLamp s = .next (completeSlot r.slot .badParameter [] (taken r s)))) ∧
  (∀ (s : State) (lamp : LampId) (f : LampFunction) (d : Deadline), s.station.kiosks.length = 12 → s.station.counters.length = 4 →
    (lampAt s lamp).override = some (f, some d) → d.value ≤ s.showUnit.runTime → d.setAt < s.showUnit.runTime →
    ∃ t, exec (.overrideDeadline lamp) s = .next t ∧
      LampWritten lamp (refreshLamp (bindingFor s lamp) { (lampAt s lamp) with override := none }) s t) ∧
  (∀ (s : State) (r : Request), Handed .setPattern r s → s.station.generators.length = 8 →
    let n := param1 r 0
    let len := param1 r 3
    let width := param2 r 4
    let now := s.showUnit.runTime
    let sound := n < 8 ∧ len ∈ [8, 9, 10, 12] ∧ width ∈ [50, 100, 200, 400]
    (¬ sound → exec .setPattern s = .next (completeSlot r.slot .badParameter [] (taken r s))) ∧
    (sound → ∃ u steps, exec .setPattern s = .next (completeSlot r.slot .ok [] u) ∧
      u.station.generators[n]? = some { steps := steps, length := len, width := width, position := 0, stepDue := ⟨now + width, now⟩ } ∧
      (steps.length = 12 ∧ ∀ i < 12, steps.getD i false = (param2 r 1).testBit i) ∧
      (∀ j, j ≠ n → u.station.generators[j]? = s.station.generators[j]?) ∧
      u = { taken r s with station := { s.station with generators := u.station.generators } })) ∧
  (∀ (s : State) (n : Fin 8) (g : Generator), s.station.generators[n.val]? = some g → g.stepDue.value ≤ s.showUnit.runTime →
    g.stepDue.setAt < s.showUnit.runTime →
    ∃ t, exec (.patternStep n) s = .next t ∧
      t.station.generators[n.val]? = some { g with
        position := if g.position + 1 < g.length then g.position + 1 else 0
        stepDue := ⟨g.stepDue.value + g.width, s.showUnit.runTime⟩ } ∧
      (∀ j, j ≠ n.val → t.station.generators[j]? = s.station.generators[j]?) ∧
      t = { s with station := { s.station with generators := t.station.generators } })

/-- R105, R113, R124, R125, R169: RESET_STATION is refused for a kiosk number above 11 and for a kiosk whose basket is PAYING or UNRESOLVED;
else its line goes to DOWN with its counts, late list and waits cleared, a REVERSE in flight completing with TERMINAL_FAULT. The
printer then goes to ABSENT without a factor, an interrupted head queued again, and is polled at once, but waits first while a sale
check is open on its queue; last, the station cell
loses its factors and overrides and settles its sense lines without edges, and the request completes. -/
def Obligations.StationResetIsMadeInThreeShares : Prop :=
  (∀ (s : State) (r : Request), Handed .resetStation r s → s.lines.length = 12 →
    let k := param1 r 0
    let x := lineAt s k
    let now := s.showUnit.runTime
    let paying := ∃ c ∈ s.basketUnit.baskets, c.kiosk = k ∧ (c.state = .paying ∨ c.state = .unresolved)
    let refused := fun code => exec .resetStation s = .next (completeSlot r.slot code [] (taken r s))
    let share := fun (v : State) => ∃ u, LineMoved k { x with
        state := .down, pings := 0, parityFaults := 0, framingFaults := 0, overruns := 0, late := [], lateOverflow := 0
        pingDue := some ⟨now + 5000, now⟩, authDue := none, abortDue := none, reverseDue := none, awaiting := none
        reversing := none, rx := none, gapDue := none } [] v u ∧
      exec .resetStation s = .next { u with
        station := { u.station with resets := s.station.resets ++ [{ slot := r.slot, kiosk := k, printerDone := false }] } }
    (12 ≤ k → refused .badParameter) ∧ (k < 12 → paying → refused .basketBusy) ∧
    (k < 12 → ¬ paying → x.reversing = none → share (taken r s)) ∧
    (∀ slot late, k < 12 → ¬ paying → x.reversing = some (slot, late) → share (completeSlot slot .terminalFault [] (taken r s)))) ∧
  (∀ (s : State) (k : Fin 12) (x : StationReset), s.print.printers.length = 12 → s.station.kiosks.length = 12 →
    let q := printerAt s k
    (s.station.resets.find? (fun y => y.kiosk == k.val && !y.printerDone) = some x → q.check ≠ none →
      exec (.printerReset k) s = .next { s with waiting := s.waiting ++ [(.printer k, .printerReset k)] }) ∧
    (s.station.resets.find? (fun y => y.kiosk == k.val && !y.printerDone) = some x → q.check = none →
      ∃ t, exec (.printerReset k) s = .next t ∧
        (let cleared := fun (y : Printer) => { y with
          state := .absent, stallCause := none, cutDue := none, absentRun := 0, toSend := [], polled := true }
         ((q.queue = [] ∨ (∃ y rest, q.queue = y :: rest ∧ y.state = .queued)) →
          printerAt t k = cleared { q with queueChanges := bump q.queueChanges }) ∧
         (∀ y rest, q.queue = y :: rest → y.state ≠ .queued → printerAt t k = cleared { q with
          queueChanges := bump q.queueChanges
          queue := placeItem { y with state := .queued, reprints := min 15 (y.reprints + 1) } rest })) ∧
        (∀ j, j ≠ k.val → printerAt t j = printerAt s j) ∧ t.wire = s.wire ++ [.printerByte k false 0] ∧
        t.station.resets = s.station.resets.map (fun y => if y = x then { y with printerDone := true } else y) ∧
        (∀ j, kioskLike (kioskAt t j) (kioskAt s j)) ∧
        t = { s with
          print := { s.print with printers := t.print.printers }, wire := t.wire
          station := { s.station with kiosks := t.station.kiosks, resets := t.station.resets } }) ∧
    (s.station.resets.find? (fun y => y.kiosk == k.val && y.printerDone) = some x →
      let c := kioskAt s k
      ∃ u, exec (.stationCellReset k) s = .next (completeSlot x.slot .ok [] u) ∧
        (let senses := c.senses.map (fun y => { y with accepted := y.present, deadline := none })
         kioskLike (kioskAt u k) { c with
          factors := 0, senses := senses, service := (senses.getD 1 (.atLevel false)).accepted
          green := { c.green with override := none }, red := { c.red with override := none } }) ∧
        (kioskAt u k).condition = conditionOf u k ∧ (∀ j, j ≠ k.val → kioskAt u j = kioskAt s j) ∧
        u.board = { s.board with attention := s.board.attention - (if draws c.factors c.mask then 1 else 0) } ∧
        u = { s with
          board := u.board, station := { s.station with kiosks := u.station.kiosks, resets := s.station.resets.erase x } }))
end

