-- ==== Sys2Proof/Laws/State.lean ====
section
/-! SUPPORT. What each update of State writes and leaves: one lemma for each update and each field it leaves, and for each
update the field it writes. -/

namespace Sys2Proof.Machine

variable (s : State)

/-! ### setBasket -/

@[simp] theorem setBasket_pending (b : Nat) (f : Basket → Basket) : (setBasket b f s).pending = s.pending := rfl
@[simp] theorem setBasket_wire (b : Nat) (f : Basket → Basket) : (setBasket b f s).wire = s.wire := rfl
@[simp] theorem setBasket_waiting (b : Nat) (f : Basket → Basket) : (setBasket b f s).waiting = s.waiting := rfl
@[simp] theorem setBasket_mem (b : Nat) (f : Basket → Basket) : (setBasket b f s).mem = s.mem := rfl
@[simp] theorem setBasket_config (b : Nat) (f : Basket → Basket) : (setBasket b f s).config = s.config := rfl
@[simp] theorem setBasket_stats (b : Nat) (f : Basket → Basket) : (setBasket b f s).stats = s.stats := rfl
@[simp] theorem setBasket_board (b : Nat) (f : Basket → Basket) : (setBasket b f s).board = s.board := rfl
@[simp] theorem setBasket_showUnit (b : Nat) (f : Basket → Basket) : (setBasket b f s).showUnit = s.showUnit := rfl
@[simp] theorem setBasket_seats (b : Nat) (f : Basket → Basket) : (setBasket b f s).seats = s.seats := rfl
@[simp] theorem setBasket_lines (b : Nat) (f : Basket → Basket) : (setBasket b f s).lines = s.lines := rfl
@[simp] theorem setBasket_print (b : Nat) (f : Basket → Basket) : (setBasket b f s).print = s.print := rfl
@[simp] theorem setBasket_voucherUnit (b : Nat) (f : Basket → Basket) : (setBasket b f s).voucherUnit = s.voucherUnit := rfl
@[simp] theorem setBasket_salesUnit (b : Nat) (f : Basket → Basket) : (setBasket b f s).salesUnit = s.salesUnit := rfl
@[simp] theorem setBasket_station (b : Nat) (f : Basket → Basket) : (setBasket b f s).station = s.station := rfl
@[simp] theorem setBasket_basketUnit_outcomes (b : Nat) (f : Basket → Basket) : (setBasket b f s).basketUnit.outcomes = s.basketUnit.outcomes := rfl
@[simp] theorem setBasket_basketUnit_chutes (b : Nat) (f : Basket → Basket) : (setBasket b f s).basketUnit.chutes = s.basketUnit.chutes := rfl

/-! ### updBasket -/

@[simp] theorem updBasket_pending (b : Nat) (f : Basket → Basket) : (updBasket b f s).pending = s.pending := rfl
@[simp] theorem updBasket_wire (b : Nat) (f : Basket → Basket) : (updBasket b f s).wire = s.wire := rfl
@[simp] theorem updBasket_waiting (b : Nat) (f : Basket → Basket) : (updBasket b f s).waiting = s.waiting := rfl
@[simp] theorem updBasket_mem (b : Nat) (f : Basket → Basket) : (updBasket b f s).mem = s.mem := rfl
@[simp] theorem updBasket_config (b : Nat) (f : Basket → Basket) : (updBasket b f s).config = s.config := rfl
@[simp] theorem updBasket_stats (b : Nat) (f : Basket → Basket) : (updBasket b f s).stats = s.stats := rfl
@[simp] theorem updBasket_board (b : Nat) (f : Basket → Basket) : (updBasket b f s).board = s.board := rfl
@[simp] theorem updBasket_showUnit (b : Nat) (f : Basket → Basket) : (updBasket b f s).showUnit = s.showUnit := rfl
@[simp] theorem updBasket_seats (b : Nat) (f : Basket → Basket) : (updBasket b f s).seats = s.seats := rfl
@[simp] theorem updBasket_lines (b : Nat) (f : Basket → Basket) : (updBasket b f s).lines = s.lines := rfl
@[simp] theorem updBasket_print (b : Nat) (f : Basket → Basket) : (updBasket b f s).print = s.print := rfl
@[simp] theorem updBasket_voucherUnit (b : Nat) (f : Basket → Basket) : (updBasket b f s).voucherUnit = s.voucherUnit := rfl
@[simp] theorem updBasket_salesUnit (b : Nat) (f : Basket → Basket) : (updBasket b f s).salesUnit = s.salesUnit := rfl
@[simp] theorem updBasket_station (b : Nat) (f : Basket → Basket) : (updBasket b f s).station = s.station := rfl
@[simp] theorem updBasket_basketUnit_outcomes (b : Nat) (f : Basket → Basket) : (updBasket b f s).basketUnit.outcomes = s.basketUnit.outcomes := rfl
@[simp] theorem updBasket_basketUnit_chutes (b : Nat) (f : Basket → Basket) : (updBasket b f s).basketUnit.chutes = s.basketUnit.chutes := rfl

/-! ### setShow -/

@[simp] theorem setShow_pending (n : Nat) (f : ShowRec → ShowRec) : (setShow n f s).pending = s.pending := rfl
@[simp] theorem setShow_wire (n : Nat) (f : ShowRec → ShowRec) : (setShow n f s).wire = s.wire := rfl
@[simp] theorem setShow_waiting (n : Nat) (f : ShowRec → ShowRec) : (setShow n f s).waiting = s.waiting := rfl
@[simp] theorem setShow_mem (n : Nat) (f : ShowRec → ShowRec) : (setShow n f s).mem = s.mem := rfl
@[simp] theorem setShow_config (n : Nat) (f : ShowRec → ShowRec) : (setShow n f s).config = s.config := rfl
@[simp] theorem setShow_stats (n : Nat) (f : ShowRec → ShowRec) : (setShow n f s).stats = s.stats := rfl
@[simp] theorem setShow_board (n : Nat) (f : ShowRec → ShowRec) : (setShow n f s).board = s.board := rfl
@[simp] theorem setShow_seats (n : Nat) (f : ShowRec → ShowRec) : (setShow n f s).seats = s.seats := rfl
@[simp] theorem setShow_basketUnit (n : Nat) (f : ShowRec → ShowRec) : (setShow n f s).basketUnit = s.basketUnit := rfl
@[simp] theorem setShow_lines (n : Nat) (f : ShowRec → ShowRec) : (setShow n f s).lines = s.lines := rfl
@[simp] theorem setShow_print (n : Nat) (f : ShowRec → ShowRec) : (setShow n f s).print = s.print := rfl
@[simp] theorem setShow_voucherUnit (n : Nat) (f : ShowRec → ShowRec) : (setShow n f s).voucherUnit = s.voucherUnit := rfl
@[simp] theorem setShow_salesUnit (n : Nat) (f : ShowRec → ShowRec) : (setShow n f s).salesUnit = s.salesUnit := rfl
@[simp] theorem setShow_station (n : Nat) (f : ShowRec → ShowRec) : (setShow n f s).station = s.station := rfl
@[simp] theorem setShow_showUnit_runTime (n : Nat) (f : ShowRec → ShowRec) : (setShow n f s).showUnit.runTime = s.showUnit.runTime := rfl
@[simp] theorem setShow_showUnit_clock (n : Nat) (f : ShowRec → ShowRec) : (setShow n f s).showUnit.clock = s.showUnit.clock := rfl
@[simp] theorem setShow_showUnit_prices (n : Nat) (f : ShowRec → ShowRec) : (setShow n f s).showUnit.prices = s.showUnit.prices := rfl
@[simp] theorem setShow_showUnit_kinds (n : Nat) (f : ShowRec → ShowRec) : (setShow n f s).showUnit.kinds = s.showUnit.kinds := rfl
@[simp] theorem setShow_showUnit_loadings (n : Nat) (f : ShowRec → ShowRec) : (setShow n f s).showUnit.loadings = s.showUnit.loadings := rfl
@[simp] theorem setShow_showUnit_removals (n : Nat) (f : ShowRec → ShowRec) : (setShow n f s).showUnit.removals = s.showUnit.removals := rfl
@[simp] theorem setShow_showUnit_leftSale (n : Nat) (f : ShowRec → ShowRec) : (setShow n f s).showUnit.leftSale = s.showUnit.leftSale := rfl
@[simp] theorem setShow_showUnit_dayChanges (n : Nat) (f : ShowRec → ShowRec) : (setShow n f s).showUnit.dayChanges = s.showUnit.dayChanges := rfl

/-! ### updShow -/

@[simp] theorem updShow_pending (n : Nat) (f : ShowRec → ShowRec) : (updShow n f s).pending = s.pending := rfl
@[simp] theorem updShow_wire (n : Nat) (f : ShowRec → ShowRec) : (updShow n f s).wire = s.wire := rfl
@[simp] theorem updShow_waiting (n : Nat) (f : ShowRec → ShowRec) : (updShow n f s).waiting = s.waiting := rfl
@[simp] theorem updShow_mem (n : Nat) (f : ShowRec → ShowRec) : (updShow n f s).mem = s.mem := rfl
@[simp] theorem updShow_config (n : Nat) (f : ShowRec → ShowRec) : (updShow n f s).config = s.config := rfl
@[simp] theorem updShow_stats (n : Nat) (f : ShowRec → ShowRec) : (updShow n f s).stats = s.stats := rfl
@[simp] theorem updShow_board (n : Nat) (f : ShowRec → ShowRec) : (updShow n f s).board = s.board := rfl
@[simp] theorem updShow_seats (n : Nat) (f : ShowRec → ShowRec) : (updShow n f s).seats = s.seats := rfl
@[simp] theorem updShow_basketUnit (n : Nat) (f : ShowRec → ShowRec) : (updShow n f s).basketUnit = s.basketUnit := rfl
@[simp] theorem updShow_lines (n : Nat) (f : ShowRec → ShowRec) : (updShow n f s).lines = s.lines := rfl
@[simp] theorem updShow_print (n : Nat) (f : ShowRec → ShowRec) : (updShow n f s).print = s.print := rfl
@[simp] theorem updShow_voucherUnit (n : Nat) (f : ShowRec → ShowRec) : (updShow n f s).voucherUnit = s.voucherUnit := rfl
@[simp] theorem updShow_salesUnit (n : Nat) (f : ShowRec → ShowRec) : (updShow n f s).salesUnit = s.salesUnit := rfl
@[simp] theorem updShow_station (n : Nat) (f : ShowRec → ShowRec) : (updShow n f s).station = s.station := rfl
@[simp] theorem updShow_showUnit_runTime (n : Nat) (f : ShowRec → ShowRec) : (updShow n f s).showUnit.runTime = s.showUnit.runTime := rfl
@[simp] theorem updShow_showUnit_clock (n : Nat) (f : ShowRec → ShowRec) : (updShow n f s).showUnit.clock = s.showUnit.clock := rfl
@[simp] theorem updShow_showUnit_prices (n : Nat) (f : ShowRec → ShowRec) : (updShow n f s).showUnit.prices = s.showUnit.prices := rfl
@[simp] theorem updShow_showUnit_kinds (n : Nat) (f : ShowRec → ShowRec) : (updShow n f s).showUnit.kinds = s.showUnit.kinds := rfl
@[simp] theorem updShow_showUnit_loadings (n : Nat) (f : ShowRec → ShowRec) : (updShow n f s).showUnit.loadings = s.showUnit.loadings := rfl
@[simp] theorem updShow_showUnit_removals (n : Nat) (f : ShowRec → ShowRec) : (updShow n f s).showUnit.removals = s.showUnit.removals := rfl
@[simp] theorem updShow_showUnit_leftSale (n : Nat) (f : ShowRec → ShowRec) : (updShow n f s).showUnit.leftSale = s.showUnit.leftSale := rfl
@[simp] theorem updShow_showUnit_dayChanges (n : Nat) (f : ShowRec → ShowRec) : (updShow n f s).showUnit.dayChanges = s.showUnit.dayChanges := rfl

/-! ### updKiosk -/

@[simp] theorem updKiosk_pending (k : Nat) (f : Kiosk → Kiosk) : (updKiosk k f s).pending = s.pending := rfl
@[simp] theorem updKiosk_wire (k : Nat) (f : Kiosk → Kiosk) : (updKiosk k f s).wire = s.wire := rfl
@[simp] theorem updKiosk_waiting (k : Nat) (f : Kiosk → Kiosk) : (updKiosk k f s).waiting = s.waiting := rfl
@[simp] theorem updKiosk_mem (k : Nat) (f : Kiosk → Kiosk) : (updKiosk k f s).mem = s.mem := rfl
@[simp] theorem updKiosk_config (k : Nat) (f : Kiosk → Kiosk) : (updKiosk k f s).config = s.config := rfl
@[simp] theorem updKiosk_stats (k : Nat) (f : Kiosk → Kiosk) : (updKiosk k f s).stats = s.stats := rfl
@[simp] theorem updKiosk_board (k : Nat) (f : Kiosk → Kiosk) : (updKiosk k f s).board = s.board := rfl
@[simp] theorem updKiosk_showUnit (k : Nat) (f : Kiosk → Kiosk) : (updKiosk k f s).showUnit = s.showUnit := rfl
@[simp] theorem updKiosk_seats (k : Nat) (f : Kiosk → Kiosk) : (updKiosk k f s).seats = s.seats := rfl
@[simp] theorem updKiosk_basketUnit (k : Nat) (f : Kiosk → Kiosk) : (updKiosk k f s).basketUnit = s.basketUnit := rfl
@[simp] theorem updKiosk_lines (k : Nat) (f : Kiosk → Kiosk) : (updKiosk k f s).lines = s.lines := rfl
@[simp] theorem updKiosk_print (k : Nat) (f : Kiosk → Kiosk) : (updKiosk k f s).print = s.print := rfl
@[simp] theorem updKiosk_voucherUnit (k : Nat) (f : Kiosk → Kiosk) : (updKiosk k f s).voucherUnit = s.voucherUnit := rfl
@[simp] theorem updKiosk_salesUnit (k : Nat) (f : Kiosk → Kiosk) : (updKiosk k f s).salesUnit = s.salesUnit := rfl
@[simp] theorem updKiosk_station_counters (k : Nat) (f : Kiosk → Kiosk) : (updKiosk k f s).station.counters = s.station.counters := rfl
@[simp] theorem updKiosk_station_foyer (k : Nat) (f : Kiosk → Kiosk) : (updKiosk k f s).station.foyer = s.station.foyer := rfl
@[simp] theorem updKiosk_station_kioskBindings (k : Nat) (f : Kiosk → Kiosk) : (updKiosk k f s).station.kioskBindings = s.station.kioskBindings := rfl
@[simp] theorem updKiosk_station_counterBindings (k : Nat) (f : Kiosk → Kiosk) : (updKiosk k f s).station.counterBindings = s.station.counterBindings := rfl
@[simp] theorem updKiosk_station_generators (k : Nat) (f : Kiosk → Kiosk) : (updKiosk k f s).station.generators = s.station.generators := rfl
@[simp] theorem updKiosk_station_resets (k : Nat) (f : Kiosk → Kiosk) : (updKiosk k f s).station.resets = s.station.resets := rfl

/-! ### updCounter -/

@[simp] theorem updCounter_pending (m : Nat) (f : Counter → Counter) : (updCounter m f s).pending = s.pending := rfl
@[simp] theorem updCounter_wire (m : Nat) (f : Counter → Counter) : (updCounter m f s).wire = s.wire := rfl
@[simp] theorem updCounter_waiting (m : Nat) (f : Counter → Counter) : (updCounter m f s).waiting = s.waiting := rfl
@[simp] theorem updCounter_mem (m : Nat) (f : Counter → Counter) : (updCounter m f s).mem = s.mem := rfl
@[simp] theorem updCounter_config (m : Nat) (f : Counter → Counter) : (updCounter m f s).config = s.config := rfl
@[simp] theorem updCounter_stats (m : Nat) (f : Counter → Counter) : (updCounter m f s).stats = s.stats := rfl
@[simp] theorem updCounter_board (m : Nat) (f : Counter → Counter) : (updCounter m f s).board = s.board := rfl
@[simp] theorem updCounter_showUnit (m : Nat) (f : Counter → Counter) : (updCounter m f s).showUnit = s.showUnit := rfl
@[simp] theorem updCounter_seats (m : Nat) (f : Counter → Counter) : (updCounter m f s).seats = s.seats := rfl
@[simp] theorem updCounter_basketUnit (m : Nat) (f : Counter → Counter) : (updCounter m f s).basketUnit = s.basketUnit := rfl
@[simp] theorem updCounter_lines (m : Nat) (f : Counter → Counter) : (updCounter m f s).lines = s.lines := rfl
@[simp] theorem updCounter_print (m : Nat) (f : Counter → Counter) : (updCounter m f s).print = s.print := rfl
@[simp] theorem updCounter_voucherUnit (m : Nat) (f : Counter → Counter) : (updCounter m f s).voucherUnit = s.voucherUnit := rfl
@[simp] theorem updCounter_salesUnit (m : Nat) (f : Counter → Counter) : (updCounter m f s).salesUnit = s.salesUnit := rfl
@[simp] theorem updCounter_station_kiosks (m : Nat) (f : Counter → Counter) : (updCounter m f s).station.kiosks = s.station.kiosks := rfl
@[simp] theorem updCounter_station_foyer (m : Nat) (f : Counter → Counter) : (updCounter m f s).station.foyer = s.station.foyer := rfl
@[simp] theorem updCounter_station_kioskBindings (m : Nat) (f : Counter → Counter) : (updCounter m f s).station.kioskBindings = s.station.kioskBindings := rfl
@[simp] theorem updCounter_station_counterBindings (m : Nat) (f : Counter → Counter) : (updCounter m f s).station.counterBindings = s.station.counterBindings := rfl
@[simp] theorem updCounter_station_generators (m : Nat) (f : Counter → Counter) : (updCounter m f s).station.generators = s.station.generators := rfl
@[simp] theorem updCounter_station_resets (m : Nat) (f : Counter → Counter) : (updCounter m f s).station.resets = s.station.resets := rfl

/-! ### updFoyer -/

@[simp] theorem updFoyer_pending (f : Foyer → Foyer) : (updFoyer f s).pending = s.pending := rfl
@[simp] theorem updFoyer_wire (f : Foyer → Foyer) : (updFoyer f s).wire = s.wire := rfl
@[simp] theorem updFoyer_waiting (f : Foyer → Foyer) : (updFoyer f s).waiting = s.waiting := rfl
@[simp] theorem updFoyer_mem (f : Foyer → Foyer) : (updFoyer f s).mem = s.mem := rfl
@[simp] theorem updFoyer_config (f : Foyer → Foyer) : (updFoyer f s).config = s.config := rfl
@[simp] theorem updFoyer_stats (f : Foyer → Foyer) : (updFoyer f s).stats = s.stats := rfl
@[simp] theorem updFoyer_board (f : Foyer → Foyer) : (updFoyer f s).board = s.board := rfl
@[simp] theorem updFoyer_showUnit (f : Foyer → Foyer) : (updFoyer f s).showUnit = s.showUnit := rfl
@[simp] theorem updFoyer_seats (f : Foyer → Foyer) : (updFoyer f s).seats = s.seats := rfl
@[simp] theorem updFoyer_basketUnit (f : Foyer → Foyer) : (updFoyer f s).basketUnit = s.basketUnit := rfl
@[simp] theorem updFoyer_lines (f : Foyer → Foyer) : (updFoyer f s).lines = s.lines := rfl
@[simp] theorem updFoyer_print (f : Foyer → Foyer) : (updFoyer f s).print = s.print := rfl
@[simp] theorem updFoyer_voucherUnit (f : Foyer → Foyer) : (updFoyer f s).voucherUnit = s.voucherUnit := rfl
@[simp] theorem updFoyer_salesUnit (f : Foyer → Foyer) : (updFoyer f s).salesUnit = s.salesUnit := rfl
@[simp] theorem updFoyer_station_kiosks (f : Foyer → Foyer) : (updFoyer f s).station.kiosks = s.station.kiosks := rfl
@[simp] theorem updFoyer_station_counters (f : Foyer → Foyer) : (updFoyer f s).station.counters = s.station.counters := rfl
@[simp] theorem updFoyer_station_kioskBindings (f : Foyer → Foyer) : (updFoyer f s).station.kioskBindings = s.station.kioskBindings := rfl
@[simp] theorem updFoyer_station_counterBindings (f : Foyer → Foyer) : (updFoyer f s).station.counterBindings = s.station.counterBindings := rfl
@[simp] theorem updFoyer_station_generators (f : Foyer → Foyer) : (updFoyer f s).station.generators = s.station.generators := rfl
@[simp] theorem updFoyer_station_resets (f : Foyer → Foyer) : (updFoyer f s).station.resets = s.station.resets := rfl

/-! ### updLine -/

@[simp] theorem updLine_pending (n : Nat) (f : Line → Line) : (updLine n f s).pending = s.pending := rfl
@[simp] theorem updLine_wire (n : Nat) (f : Line → Line) : (updLine n f s).wire = s.wire := rfl
@[simp] theorem updLine_waiting (n : Nat) (f : Line → Line) : (updLine n f s).waiting = s.waiting := rfl
@[simp] theorem updLine_mem (n : Nat) (f : Line → Line) : (updLine n f s).mem = s.mem := rfl
@[simp] theorem updLine_config (n : Nat) (f : Line → Line) : (updLine n f s).config = s.config := rfl
@[simp] theorem updLine_stats (n : Nat) (f : Line → Line) : (updLine n f s).stats = s.stats := rfl
@[simp] theorem updLine_board (n : Nat) (f : Line → Line) : (updLine n f s).board = s.board := rfl
@[simp] theorem updLine_showUnit (n : Nat) (f : Line → Line) : (updLine n f s).showUnit = s.showUnit := rfl
@[simp] theorem updLine_seats (n : Nat) (f : Line → Line) : (updLine n f s).seats = s.seats := rfl
@[simp] theorem updLine_basketUnit (n : Nat) (f : Line → Line) : (updLine n f s).basketUnit = s.basketUnit := rfl
@[simp] theorem updLine_print (n : Nat) (f : Line → Line) : (updLine n f s).print = s.print := rfl
@[simp] theorem updLine_voucherUnit (n : Nat) (f : Line → Line) : (updLine n f s).voucherUnit = s.voucherUnit := rfl
@[simp] theorem updLine_salesUnit (n : Nat) (f : Line → Line) : (updLine n f s).salesUnit = s.salesUnit := rfl
@[simp] theorem updLine_station_counters (n : Nat) (f : Line → Line) : (updLine n f s).station.counters = s.station.counters := rfl
@[simp] theorem updLine_station_foyer (n : Nat) (f : Line → Line) : (updLine n f s).station.foyer = s.station.foyer := rfl
@[simp] theorem updLine_station_kioskBindings (n : Nat) (f : Line → Line) : (updLine n f s).station.kioskBindings = s.station.kioskBindings := rfl
@[simp] theorem updLine_station_counterBindings (n : Nat) (f : Line → Line) : (updLine n f s).station.counterBindings = s.station.counterBindings := rfl
@[simp] theorem updLine_station_generators (n : Nat) (f : Line → Line) : (updLine n f s).station.generators = s.station.generators := rfl
@[simp] theorem updLine_station_resets (n : Nat) (f : Line → Line) : (updLine n f s).station.resets = s.station.resets := rfl

/-! ### setPrinter -/

@[simp] theorem setPrinter_pending (p : Nat) (f : Printer → Printer) : (setPrinter p f s).pending = s.pending := rfl
@[simp] theorem setPrinter_wire (p : Nat) (f : Printer → Printer) : (setPrinter p f s).wire = s.wire := rfl
@[simp] theorem setPrinter_waiting (p : Nat) (f : Printer → Printer) : (setPrinter p f s).waiting = s.waiting := rfl
@[simp] theorem setPrinter_mem (p : Nat) (f : Printer → Printer) : (setPrinter p f s).mem = s.mem := rfl
@[simp] theorem setPrinter_config (p : Nat) (f : Printer → Printer) : (setPrinter p f s).config = s.config := rfl
@[simp] theorem setPrinter_stats (p : Nat) (f : Printer → Printer) : (setPrinter p f s).stats = s.stats := rfl
@[simp] theorem setPrinter_board (p : Nat) (f : Printer → Printer) : (setPrinter p f s).board = s.board := rfl
@[simp] theorem setPrinter_showUnit (p : Nat) (f : Printer → Printer) : (setPrinter p f s).showUnit = s.showUnit := rfl
@[simp] theorem setPrinter_seats (p : Nat) (f : Printer → Printer) : (setPrinter p f s).seats = s.seats := rfl
@[simp] theorem setPrinter_basketUnit (p : Nat) (f : Printer → Printer) : (setPrinter p f s).basketUnit = s.basketUnit := rfl
@[simp] theorem setPrinter_lines (p : Nat) (f : Printer → Printer) : (setPrinter p f s).lines = s.lines := rfl
@[simp] theorem setPrinter_voucherUnit (p : Nat) (f : Printer → Printer) : (setPrinter p f s).voucherUnit = s.voucherUnit := rfl
@[simp] theorem setPrinter_salesUnit (p : Nat) (f : Printer → Printer) : (setPrinter p f s).salesUnit = s.salesUnit := rfl
@[simp] theorem setPrinter_station (p : Nat) (f : Printer → Printer) : (setPrinter p f s).station = s.station := rfl
@[simp] theorem setPrinter_print_templates (p : Nat) (f : Printer → Printer) : (setPrinter p f s).print.templates = s.print.templates := rfl

/-! ### updPrinter -/

@[simp] theorem updPrinter_pending (p : Nat) (f : Printer → Printer) : (updPrinter p f s).pending = s.pending := rfl
@[simp] theorem updPrinter_wire (p : Nat) (f : Printer → Printer) : (updPrinter p f s).wire = s.wire := rfl
@[simp] theorem updPrinter_waiting (p : Nat) (f : Printer → Printer) : (updPrinter p f s).waiting = s.waiting := rfl
@[simp] theorem updPrinter_mem (p : Nat) (f : Printer → Printer) : (updPrinter p f s).mem = s.mem := rfl
@[simp] theorem updPrinter_config (p : Nat) (f : Printer → Printer) : (updPrinter p f s).config = s.config := rfl
@[simp] theorem updPrinter_stats (p : Nat) (f : Printer → Printer) : (updPrinter p f s).stats = s.stats := rfl
@[simp] theorem updPrinter_board (p : Nat) (f : Printer → Printer) : (updPrinter p f s).board = s.board := rfl
@[simp] theorem updPrinter_showUnit (p : Nat) (f : Printer → Printer) : (updPrinter p f s).showUnit = s.showUnit := rfl
@[simp] theorem updPrinter_seats (p : Nat) (f : Printer → Printer) : (updPrinter p f s).seats = s.seats := rfl
@[simp] theorem updPrinter_basketUnit (p : Nat) (f : Printer → Printer) : (updPrinter p f s).basketUnit = s.basketUnit := rfl
@[simp] theorem updPrinter_lines (p : Nat) (f : Printer → Printer) : (updPrinter p f s).lines = s.lines := rfl
@[simp] theorem updPrinter_voucherUnit (p : Nat) (f : Printer → Printer) : (updPrinter p f s).voucherUnit = s.voucherUnit := rfl
@[simp] theorem updPrinter_salesUnit (p : Nat) (f : Printer → Printer) : (updPrinter p f s).salesUnit = s.salesUnit := rfl
@[simp] theorem updPrinter_print_templates (p : Nat) (f : Printer → Printer) : (updPrinter p f s).print.templates = s.print.templates := rfl
@[simp] theorem updPrinter_station_counters (p : Nat) (f : Printer → Printer) : (updPrinter p f s).station.counters = s.station.counters := rfl
@[simp] theorem updPrinter_station_foyer (p : Nat) (f : Printer → Printer) : (updPrinter p f s).station.foyer = s.station.foyer := rfl
@[simp] theorem updPrinter_station_kioskBindings (p : Nat) (f : Printer → Printer) : (updPrinter p f s).station.kioskBindings = s.station.kioskBindings := rfl
@[simp] theorem updPrinter_station_counterBindings (p : Nat) (f : Printer → Printer) : (updPrinter p f s).station.counterBindings = s.station.counterBindings := rfl
@[simp] theorem updPrinter_station_generators (p : Nat) (f : Printer → Printer) : (updPrinter p f s).station.generators = s.station.generators := rfl
@[simp] theorem updPrinter_station_resets (p : Nat) (f : Printer → Printer) : (updPrinter p f s).station.resets = s.station.resets := rfl

/-! ### updQueue -/

@[simp] theorem updQueue_pending (p : Nat) (f : Printer → Printer) : (updQueue p f s).pending = s.pending := rfl
@[simp] theorem updQueue_wire (p : Nat) (f : Printer → Printer) : (updQueue p f s).wire = s.wire := rfl
@[simp] theorem updQueue_waiting (p : Nat) (f : Printer → Printer) : (updQueue p f s).waiting = s.waiting := rfl
@[simp] theorem updQueue_mem (p : Nat) (f : Printer → Printer) : (updQueue p f s).mem = s.mem := rfl
@[simp] theorem updQueue_config (p : Nat) (f : Printer → Printer) : (updQueue p f s).config = s.config := rfl
@[simp] theorem updQueue_stats (p : Nat) (f : Printer → Printer) : (updQueue p f s).stats = s.stats := rfl
@[simp] theorem updQueue_board (p : Nat) (f : Printer → Printer) : (updQueue p f s).board = s.board := rfl
@[simp] theorem updQueue_showUnit (p : Nat) (f : Printer → Printer) : (updQueue p f s).showUnit = s.showUnit := rfl
@[simp] theorem updQueue_seats (p : Nat) (f : Printer → Printer) : (updQueue p f s).seats = s.seats := rfl
@[simp] theorem updQueue_basketUnit (p : Nat) (f : Printer → Printer) : (updQueue p f s).basketUnit = s.basketUnit := rfl
@[simp] theorem updQueue_lines (p : Nat) (f : Printer → Printer) : (updQueue p f s).lines = s.lines := rfl
@[simp] theorem updQueue_voucherUnit (p : Nat) (f : Printer → Printer) : (updQueue p f s).voucherUnit = s.voucherUnit := rfl
@[simp] theorem updQueue_salesUnit (p : Nat) (f : Printer → Printer) : (updQueue p f s).salesUnit = s.salesUnit := rfl
@[simp] theorem updQueue_station (p : Nat) (f : Printer → Printer) : (updQueue p f s).station = s.station := rfl
@[simp] theorem updQueue_print_templates (p : Nat) (f : Printer → Printer) : (updQueue p f s).print.templates = s.print.templates := rfl

/-! ### setSeat -/

@[simp] theorem setSeat_pending (cell : Nat) (v : Seat) : (setSeat cell v s).pending = s.pending := rfl
@[simp] theorem setSeat_wire (cell : Nat) (v : Seat) : (setSeat cell v s).wire = s.wire := rfl
@[simp] theorem setSeat_waiting (cell : Nat) (v : Seat) : (setSeat cell v s).waiting = s.waiting := rfl
@[simp] theorem setSeat_mem (cell : Nat) (v : Seat) : (setSeat cell v s).mem = s.mem := rfl
@[simp] theorem setSeat_config (cell : Nat) (v : Seat) : (setSeat cell v s).config = s.config := rfl
@[simp] theorem setSeat_stats (cell : Nat) (v : Seat) : (setSeat cell v s).stats = s.stats := rfl
@[simp] theorem setSeat_board (cell : Nat) (v : Seat) : (setSeat cell v s).board = s.board := rfl
@[simp] theorem setSeat_showUnit (cell : Nat) (v : Seat) : (setSeat cell v s).showUnit = s.showUnit := rfl
@[simp] theorem setSeat_basketUnit (cell : Nat) (v : Seat) : (setSeat cell v s).basketUnit = s.basketUnit := rfl
@[simp] theorem setSeat_lines (cell : Nat) (v : Seat) : (setSeat cell v s).lines = s.lines := rfl
@[simp] theorem setSeat_print (cell : Nat) (v : Seat) : (setSeat cell v s).print = s.print := rfl
@[simp] theorem setSeat_voucherUnit (cell : Nat) (v : Seat) : (setSeat cell v s).voucherUnit = s.voucherUnit := rfl
@[simp] theorem setSeat_salesUnit (cell : Nat) (v : Seat) : (setSeat cell v s).salesUnit = s.salesUnit := rfl
@[simp] theorem setSeat_station (cell : Nat) (v : Seat) : (setSeat cell v s).station = s.station := rfl

/-! ### setVoucher -/

@[simp] theorem setVoucher_pending (i : Nat) (v : Voucher) : (setVoucher i v s).pending = s.pending := rfl
@[simp] theorem setVoucher_wire (i : Nat) (v : Voucher) : (setVoucher i v s).wire = s.wire := rfl
@[simp] theorem setVoucher_waiting (i : Nat) (v : Voucher) : (setVoucher i v s).waiting = s.waiting := rfl
@[simp] theorem setVoucher_mem (i : Nat) (v : Voucher) : (setVoucher i v s).mem = s.mem := rfl
@[simp] theorem setVoucher_config (i : Nat) (v : Voucher) : (setVoucher i v s).config = s.config := rfl
@[simp] theorem setVoucher_stats (i : Nat) (v : Voucher) : (setVoucher i v s).stats = s.stats := rfl
@[simp] theorem setVoucher_board (i : Nat) (v : Voucher) : (setVoucher i v s).board = s.board := rfl
@[simp] theorem setVoucher_showUnit (i : Nat) (v : Voucher) : (setVoucher i v s).showUnit = s.showUnit := rfl
@[simp] theorem setVoucher_seats (i : Nat) (v : Voucher) : (setVoucher i v s).seats = s.seats := rfl
@[simp] theorem setVoucher_basketUnit (i : Nat) (v : Voucher) : (setVoucher i v s).basketUnit = s.basketUnit := rfl
@[simp] theorem setVoucher_lines (i : Nat) (v : Voucher) : (setVoucher i v s).lines = s.lines := rfl
@[simp] theorem setVoucher_print (i : Nat) (v : Voucher) : (setVoucher i v s).print = s.print := rfl
@[simp] theorem setVoucher_salesUnit (i : Nat) (v : Voucher) : (setVoucher i v s).salesUnit = s.salesUnit := rfl
@[simp] theorem setVoucher_station (i : Nat) (v : Voucher) : (setVoucher i v s).station = s.station := rfl
@[simp] theorem setVoucher_voucherUnit_heads (i : Nat) (v : Voucher) : (setVoucher i v s).voucherUnit.heads = s.voucherUnit.heads := rfl
@[simp] theorem setVoucher_voucherUnit_chainChanges (i : Nat) (v : Voucher) : (setVoucher i v s).voucherUnit.chainChanges = s.voucherUnit.chainChanges := rfl
@[simp] theorem setVoucher_voucherUnit_seqDay (i : Nat) (v : Voucher) : (setVoucher i v s).voucherUnit.seqDay = s.voucherUnit.seqDay := rfl
@[simp] theorem setVoucher_voucherUnit_nextSeq (i : Nat) (v : Voucher) : (setVoucher i v s).voucherUnit.nextSeq = s.voucherUnit.nextSeq := rfl
@[simp] theorem setVoucher_voucherUnit_receivers (i : Nat) (v : Voucher) : (setVoucher i v s).voucherUnit.receivers = s.voucherUnit.receivers := rfl

/-! ### setHead -/

@[simp] theorem setHead_pending (i : Nat) (h : Option Nat) : (setHead i h s).pending = s.pending := rfl
@[simp] theorem setHead_wire (i : Nat) (h : Option Nat) : (setHead i h s).wire = s.wire := rfl
@[simp] theorem setHead_waiting (i : Nat) (h : Option Nat) : (setHead i h s).waiting = s.waiting := rfl
@[simp] theorem setHead_mem (i : Nat) (h : Option Nat) : (setHead i h s).mem = s.mem := rfl
@[simp] theorem setHead_config (i : Nat) (h : Option Nat) : (setHead i h s).config = s.config := rfl
@[simp] theorem setHead_stats (i : Nat) (h : Option Nat) : (setHead i h s).stats = s.stats := rfl
@[simp] theorem setHead_board (i : Nat) (h : Option Nat) : (setHead i h s).board = s.board := rfl
@[simp] theorem setHead_showUnit (i : Nat) (h : Option Nat) : (setHead i h s).showUnit = s.showUnit := rfl
@[simp] theorem setHead_seats (i : Nat) (h : Option Nat) : (setHead i h s).seats = s.seats := rfl
@[simp] theorem setHead_basketUnit (i : Nat) (h : Option Nat) : (setHead i h s).basketUnit = s.basketUnit := rfl
@[simp] theorem setHead_lines (i : Nat) (h : Option Nat) : (setHead i h s).lines = s.lines := rfl
@[simp] theorem setHead_print (i : Nat) (h : Option Nat) : (setHead i h s).print = s.print := rfl
@[simp] theorem setHead_salesUnit (i : Nat) (h : Option Nat) : (setHead i h s).salesUnit = s.salesUnit := rfl
@[simp] theorem setHead_station (i : Nat) (h : Option Nat) : (setHead i h s).station = s.station := rfl
@[simp] theorem setHead_voucherUnit_entries (i : Nat) (h : Option Nat) : (setHead i h s).voucherUnit.entries = s.voucherUnit.entries := rfl
@[simp] theorem setHead_voucherUnit_chainChanges (i : Nat) (h : Option Nat) : (setHead i h s).voucherUnit.chainChanges = s.voucherUnit.chainChanges := rfl
@[simp] theorem setHead_voucherUnit_seqDay (i : Nat) (h : Option Nat) : (setHead i h s).voucherUnit.seqDay = s.voucherUnit.seqDay := rfl
@[simp] theorem setHead_voucherUnit_nextSeq (i : Nat) (h : Option Nat) : (setHead i h s).voucherUnit.nextSeq = s.voucherUnit.nextSeq := rfl
@[simp] theorem setHead_voucherUnit_receivers (i : Nat) (h : Option Nat) : (setHead i h s).voucherUnit.receivers = s.voucherUnit.receivers := rfl

/-! ### bumpChain -/

@[simp] theorem bumpChain_pending : (bumpChain s).pending = s.pending := rfl
@[simp] theorem bumpChain_wire : (bumpChain s).wire = s.wire := rfl
@[simp] theorem bumpChain_waiting : (bumpChain s).waiting = s.waiting := rfl
@[simp] theorem bumpChain_mem : (bumpChain s).mem = s.mem := rfl
@[simp] theorem bumpChain_config : (bumpChain s).config = s.config := rfl
@[simp] theorem bumpChain_stats : (bumpChain s).stats = s.stats := rfl
@[simp] theorem bumpChain_board : (bumpChain s).board = s.board := rfl
@[simp] theorem bumpChain_showUnit : (bumpChain s).showUnit = s.showUnit := rfl
@[simp] theorem bumpChain_seats : (bumpChain s).seats = s.seats := rfl
@[simp] theorem bumpChain_basketUnit : (bumpChain s).basketUnit = s.basketUnit := rfl
@[simp] theorem bumpChain_lines : (bumpChain s).lines = s.lines := rfl
@[simp] theorem bumpChain_print : (bumpChain s).print = s.print := rfl
@[simp] theorem bumpChain_salesUnit : (bumpChain s).salesUnit = s.salesUnit := rfl
@[simp] theorem bumpChain_station : (bumpChain s).station = s.station := rfl
@[simp] theorem bumpChain_voucherUnit_entries : (bumpChain s).voucherUnit.entries = s.voucherUnit.entries := rfl
@[simp] theorem bumpChain_voucherUnit_heads : (bumpChain s).voucherUnit.heads = s.voucherUnit.heads := rfl
@[simp] theorem bumpChain_voucherUnit_seqDay : (bumpChain s).voucherUnit.seqDay = s.voucherUnit.seqDay := rfl
@[simp] theorem bumpChain_voucherUnit_nextSeq : (bumpChain s).voucherUnit.nextSeq = s.voucherUnit.nextSeq := rfl
@[simp] theorem bumpChain_voucherUnit_receivers : (bumpChain s).voucherUnit.receivers = s.voucherUnit.receivers := rfl

/-! ### setReceiver -/

@[simp] theorem setReceiver_pending (m : Nat) (f : Receiver → Receiver) : (setReceiver m f s).pending = s.pending := rfl
@[simp] theorem setReceiver_wire (m : Nat) (f : Receiver → Receiver) : (setReceiver m f s).wire = s.wire := rfl
@[simp] theorem setReceiver_waiting (m : Nat) (f : Receiver → Receiver) : (setReceiver m f s).waiting = s.waiting := rfl
@[simp] theorem setReceiver_mem (m : Nat) (f : Receiver → Receiver) : (setReceiver m f s).mem = s.mem := rfl
@[simp] theorem setReceiver_config (m : Nat) (f : Receiver → Receiver) : (setReceiver m f s).config = s.config := rfl
@[simp] theorem setReceiver_stats (m : Nat) (f : Receiver → Receiver) : (setReceiver m f s).stats = s.stats := rfl
@[simp] theorem setReceiver_board (m : Nat) (f : Receiver → Receiver) : (setReceiver m f s).board = s.board := rfl
@[simp] theorem setReceiver_showUnit (m : Nat) (f : Receiver → Receiver) : (setReceiver m f s).showUnit = s.showUnit := rfl
@[simp] theorem setReceiver_seats (m : Nat) (f : Receiver → Receiver) : (setReceiver m f s).seats = s.seats := rfl
@[simp] theorem setReceiver_basketUnit (m : Nat) (f : Receiver → Receiver) : (setReceiver m f s).basketUnit = s.basketUnit := rfl
@[simp] theorem setReceiver_lines (m : Nat) (f : Receiver → Receiver) : (setReceiver m f s).lines = s.lines := rfl
@[simp] theorem setReceiver_print (m : Nat) (f : Receiver → Receiver) : (setReceiver m f s).print = s.print := rfl
@[simp] theorem setReceiver_salesUnit (m : Nat) (f : Receiver → Receiver) : (setReceiver m f s).salesUnit = s.salesUnit := rfl
@[simp] theorem setReceiver_station (m : Nat) (f : Receiver → Receiver) : (setReceiver m f s).station = s.station := rfl
@[simp] theorem setReceiver_voucherUnit_entries (m : Nat) (f : Receiver → Receiver) : (setReceiver m f s).voucherUnit.entries = s.voucherUnit.entries := rfl
@[simp] theorem setReceiver_voucherUnit_heads (m : Nat) (f : Receiver → Receiver) : (setReceiver m f s).voucherUnit.heads = s.voucherUnit.heads := rfl
@[simp] theorem setReceiver_voucherUnit_chainChanges (m : Nat) (f : Receiver → Receiver) : (setReceiver m f s).voucherUnit.chainChanges = s.voucherUnit.chainChanges := rfl
@[simp] theorem setReceiver_voucherUnit_seqDay (m : Nat) (f : Receiver → Receiver) : (setReceiver m f s).voucherUnit.seqDay = s.voucherUnit.seqDay := rfl
@[simp] theorem setReceiver_voucherUnit_nextSeq (m : Nat) (f : Receiver → Receiver) : (setReceiver m f s).voucherUnit.nextSeq = s.voucherUnit.nextSeq := rfl

/-! ### setSale -/

@[simp] theorem setSale_pending (p : Nat) (v : Sale) : (setSale p v s).pending = s.pending := rfl
@[simp] theorem setSale_wire (p : Nat) (v : Sale) : (setSale p v s).wire = s.wire := rfl
@[simp] theorem setSale_waiting (p : Nat) (v : Sale) : (setSale p v s).waiting = s.waiting := rfl
@[simp] theorem setSale_mem (p : Nat) (v : Sale) : (setSale p v s).mem = s.mem := rfl
@[simp] theorem setSale_config (p : Nat) (v : Sale) : (setSale p v s).config = s.config := rfl
@[simp] theorem setSale_stats (p : Nat) (v : Sale) : (setSale p v s).stats = s.stats := rfl
@[simp] theorem setSale_board (p : Nat) (v : Sale) : (setSale p v s).board = s.board := rfl
@[simp] theorem setSale_showUnit (p : Nat) (v : Sale) : (setSale p v s).showUnit = s.showUnit := rfl
@[simp] theorem setSale_seats (p : Nat) (v : Sale) : (setSale p v s).seats = s.seats := rfl
@[simp] theorem setSale_basketUnit (p : Nat) (v : Sale) : (setSale p v s).basketUnit = s.basketUnit := rfl
@[simp] theorem setSale_lines (p : Nat) (v : Sale) : (setSale p v s).lines = s.lines := rfl
@[simp] theorem setSale_print (p : Nat) (v : Sale) : (setSale p v s).print = s.print := rfl
@[simp] theorem setSale_voucherUnit (p : Nat) (v : Sale) : (setSale p v s).voucherUnit = s.voucherUnit := rfl
@[simp] theorem setSale_station (p : Nat) (v : Sale) : (setSale p v s).station = s.station := rfl
@[simp] theorem setSale_salesUnit_nextSerial (p : Nat) (v : Sale) : (setSale p v s).salesUnit.nextSerial = s.salesUnit.nextSerial := rfl
@[simp] theorem setSale_salesUnit_inUse (p : Nat) (v : Sale) : (setSale p v s).salesUnit.inUse = s.salesUnit.inUse := rfl
@[simp] theorem setSale_salesUnit_reserved (p : Nat) (v : Sale) : (setSale p v s).salesUnit.reserved = s.salesUnit.reserved := rfl
@[simp] theorem setSale_salesUnit_changes (p : Nat) (v : Sale) : (setSale p v s).salesUnit.changes = s.salesUnit.changes := rfl
@[simp] theorem setSale_salesUnit_refunds (p : Nat) (v : Sale) : (setSale p v s).salesUnit.refunds = s.salesUnit.refunds := rfl

/-! ### updSummary -/

@[simp] theorem updSummary_pending (f : SalesUnit → SalesUnit) : (updSummary f s).pending = s.pending := rfl
@[simp] theorem updSummary_wire (f : SalesUnit → SalesUnit) : (updSummary f s).wire = s.wire := rfl
@[simp] theorem updSummary_waiting (f : SalesUnit → SalesUnit) : (updSummary f s).waiting = s.waiting := rfl
@[simp] theorem updSummary_mem (f : SalesUnit → SalesUnit) : (updSummary f s).mem = s.mem := rfl
@[simp] theorem updSummary_config (f : SalesUnit → SalesUnit) : (updSummary f s).config = s.config := rfl
@[simp] theorem updSummary_stats (f : SalesUnit → SalesUnit) : (updSummary f s).stats = s.stats := rfl
@[simp] theorem updSummary_board (f : SalesUnit → SalesUnit) : (updSummary f s).board = s.board := rfl
@[simp] theorem updSummary_showUnit (f : SalesUnit → SalesUnit) : (updSummary f s).showUnit = s.showUnit := rfl
@[simp] theorem updSummary_seats (f : SalesUnit → SalesUnit) : (updSummary f s).seats = s.seats := rfl
@[simp] theorem updSummary_basketUnit (f : SalesUnit → SalesUnit) : (updSummary f s).basketUnit = s.basketUnit := rfl
@[simp] theorem updSummary_lines (f : SalesUnit → SalesUnit) : (updSummary f s).lines = s.lines := rfl
@[simp] theorem updSummary_print (f : SalesUnit → SalesUnit) : (updSummary f s).print = s.print := rfl
@[simp] theorem updSummary_voucherUnit (f : SalesUnit → SalesUnit) : (updSummary f s).voucherUnit = s.voucherUnit := rfl
@[simp] theorem updSummary_station (f : SalesUnit → SalesUnit) : (updSummary f s).station = s.station := rfl

/-! ### emit -/

@[simp] theorem emit_pending (o : Output) : (emit o s).pending = s.pending := rfl
@[simp] theorem emit_waiting (o : Output) : (emit o s).waiting = s.waiting := rfl
@[simp] theorem emit_mem (o : Output) : (emit o s).mem = s.mem := rfl
@[simp] theorem emit_config (o : Output) : (emit o s).config = s.config := rfl
@[simp] theorem emit_stats (o : Output) : (emit o s).stats = s.stats := rfl
@[simp] theorem emit_board (o : Output) : (emit o s).board = s.board := rfl
@[simp] theorem emit_showUnit (o : Output) : (emit o s).showUnit = s.showUnit := rfl
@[simp] theorem emit_seats (o : Output) : (emit o s).seats = s.seats := rfl
@[simp] theorem emit_basketUnit (o : Output) : (emit o s).basketUnit = s.basketUnit := rfl
@[simp] theorem emit_lines (o : Output) : (emit o s).lines = s.lines := rfl
@[simp] theorem emit_print (o : Output) : (emit o s).print = s.print := rfl
@[simp] theorem emit_voucherUnit (o : Output) : (emit o s).voucherUnit = s.voucherUnit := rfl
@[simp] theorem emit_salesUnit (o : Output) : (emit o s).salesUnit = s.salesUnit := rfl
@[simp] theorem emit_station (o : Output) : (emit o s).station = s.station := rfl

/-! ### addStat -/

@[simp] theorem addStat_pending (off n : Nat) : (addStat off n s).pending = s.pending := rfl
@[simp] theorem addStat_wire (off n : Nat) : (addStat off n s).wire = s.wire := rfl
@[simp] theorem addStat_waiting (off n : Nat) : (addStat off n s).waiting = s.waiting := rfl
@[simp] theorem addStat_mem (off n : Nat) : (addStat off n s).mem = s.mem := rfl
@[simp] theorem addStat_config (off n : Nat) : (addStat off n s).config = s.config := rfl
@[simp] theorem addStat_board (off n : Nat) : (addStat off n s).board = s.board := rfl
@[simp] theorem addStat_showUnit (off n : Nat) : (addStat off n s).showUnit = s.showUnit := rfl
@[simp] theorem addStat_seats (off n : Nat) : (addStat off n s).seats = s.seats := rfl
@[simp] theorem addStat_basketUnit (off n : Nat) : (addStat off n s).basketUnit = s.basketUnit := rfl
@[simp] theorem addStat_lines (off n : Nat) : (addStat off n s).lines = s.lines := rfl
@[simp] theorem addStat_print (off n : Nat) : (addStat off n s).print = s.print := rfl
@[simp] theorem addStat_voucherUnit (off n : Nat) : (addStat off n s).voucherUnit = s.voucherUnit := rfl
@[simp] theorem addStat_salesUnit (off n : Nat) : (addStat off n s).salesUnit = s.salesUnit := rfl
@[simp] theorem addStat_station (off n : Nat) : (addStat off n s).station = s.station := rfl

/-! ### waitFor -/

@[simp] theorem waitFor_pending (r : Resource) (e : WaitEvent) : (waitFor r e s).pending = s.pending := rfl
@[simp] theorem waitFor_wire (r : Resource) (e : WaitEvent) : (waitFor r e s).wire = s.wire := rfl
@[simp] theorem waitFor_mem (r : Resource) (e : WaitEvent) : (waitFor r e s).mem = s.mem := rfl
@[simp] theorem waitFor_config (r : Resource) (e : WaitEvent) : (waitFor r e s).config = s.config := rfl
@[simp] theorem waitFor_stats (r : Resource) (e : WaitEvent) : (waitFor r e s).stats = s.stats := rfl
@[simp] theorem waitFor_board (r : Resource) (e : WaitEvent) : (waitFor r e s).board = s.board := rfl
@[simp] theorem waitFor_showUnit (r : Resource) (e : WaitEvent) : (waitFor r e s).showUnit = s.showUnit := rfl
@[simp] theorem waitFor_seats (r : Resource) (e : WaitEvent) : (waitFor r e s).seats = s.seats := rfl
@[simp] theorem waitFor_basketUnit (r : Resource) (e : WaitEvent) : (waitFor r e s).basketUnit = s.basketUnit := rfl
@[simp] theorem waitFor_lines (r : Resource) (e : WaitEvent) : (waitFor r e s).lines = s.lines := rfl
@[simp] theorem waitFor_print (r : Resource) (e : WaitEvent) : (waitFor r e s).print = s.print := rfl
@[simp] theorem waitFor_voucherUnit (r : Resource) (e : WaitEvent) : (waitFor r e s).voucherUnit = s.voucherUnit := rfl
@[simp] theorem waitFor_salesUnit (r : Resource) (e : WaitEvent) : (waitFor r e s).salesUnit = s.salesUnit := rfl
@[simp] theorem waitFor_station (r : Resource) (e : WaitEvent) : (waitFor r e s).station = s.station := rfl

/-! ### setReceiving -/

@[simp] theorem setReceiving_pending (n : Nat) (f : Line → Line) : (setReceiving n f s).pending = s.pending := rfl
@[simp] theorem setReceiving_wire (n : Nat) (f : Line → Line) : (setReceiving n f s).wire = s.wire := rfl
@[simp] theorem setReceiving_waiting (n : Nat) (f : Line → Line) : (setReceiving n f s).waiting = s.waiting := rfl
@[simp] theorem setReceiving_mem (n : Nat) (f : Line → Line) : (setReceiving n f s).mem = s.mem := rfl
@[simp] theorem setReceiving_config (n : Nat) (f : Line → Line) : (setReceiving n f s).config = s.config := rfl
@[simp] theorem setReceiving_stats (n : Nat) (f : Line → Line) : (setReceiving n f s).stats = s.stats := rfl
@[simp] theorem setReceiving_board (n : Nat) (f : Line → Line) : (setReceiving n f s).board = s.board := rfl
@[simp] theorem setReceiving_showUnit (n : Nat) (f : Line → Line) : (setReceiving n f s).showUnit = s.showUnit := rfl
@[simp] theorem setReceiving_seats (n : Nat) (f : Line → Line) : (setReceiving n f s).seats = s.seats := rfl
@[simp] theorem setReceiving_basketUnit (n : Nat) (f : Line → Line) : (setReceiving n f s).basketUnit = s.basketUnit := rfl
@[simp] theorem setReceiving_print (n : Nat) (f : Line → Line) : (setReceiving n f s).print = s.print := rfl
@[simp] theorem setReceiving_voucherUnit (n : Nat) (f : Line → Line) : (setReceiving n f s).voucherUnit = s.voucherUnit := rfl
@[simp] theorem setReceiving_salesUnit (n : Nat) (f : Line → Line) : (setReceiving n f s).salesUnit = s.salesUnit := rfl
@[simp] theorem setReceiving_station (n : Nat) (f : Line → Line) : (setReceiving n f s).station = s.station := rfl

/-! ### updGenerator -/

@[simp] theorem updGenerator_pending (n : Nat) (f : Generator → Generator) : (updGenerator n f s).pending = s.pending := rfl
@[simp] theorem updGenerator_wire (n : Nat) (f : Generator → Generator) : (updGenerator n f s).wire = s.wire := rfl
@[simp] theorem updGenerator_waiting (n : Nat) (f : Generator → Generator) : (updGenerator n f s).waiting = s.waiting := rfl
@[simp] theorem updGenerator_mem (n : Nat) (f : Generator → Generator) : (updGenerator n f s).mem = s.mem := rfl
@[simp] theorem updGenerator_config (n : Nat) (f : Generator → Generator) : (updGenerator n f s).config = s.config := rfl
@[simp] theorem updGenerator_stats (n : Nat) (f : Generator → Generator) : (updGenerator n f s).stats = s.stats := rfl
@[simp] theorem updGenerator_board (n : Nat) (f : Generator → Generator) : (updGenerator n f s).board = s.board := rfl
@[simp] theorem updGenerator_showUnit (n : Nat) (f : Generator → Generator) : (updGenerator n f s).showUnit = s.showUnit := rfl
@[simp] theorem updGenerator_seats (n : Nat) (f : Generator → Generator) : (updGenerator n f s).seats = s.seats := rfl
@[simp] theorem updGenerator_basketUnit (n : Nat) (f : Generator → Generator) : (updGenerator n f s).basketUnit = s.basketUnit := rfl
@[simp] theorem updGenerator_lines (n : Nat) (f : Generator → Generator) : (updGenerator n f s).lines = s.lines := rfl
@[simp] theorem updGenerator_print (n : Nat) (f : Generator → Generator) : (updGenerator n f s).print = s.print := rfl
@[simp] theorem updGenerator_voucherUnit (n : Nat) (f : Generator → Generator) : (updGenerator n f s).voucherUnit = s.voucherUnit := rfl
@[simp] theorem updGenerator_salesUnit (n : Nat) (f : Generator → Generator) : (updGenerator n f s).salesUnit = s.salesUnit := rfl
@[simp] theorem updGenerator_station_kiosks (n : Nat) (f : Generator → Generator) : (updGenerator n f s).station.kiosks = s.station.kiosks := rfl
@[simp] theorem updGenerator_station_counters (n : Nat) (f : Generator → Generator) : (updGenerator n f s).station.counters = s.station.counters := rfl
@[simp] theorem updGenerator_station_foyer (n : Nat) (f : Generator → Generator) : (updGenerator n f s).station.foyer = s.station.foyer := rfl
@[simp] theorem updGenerator_station_kioskBindings (n : Nat) (f : Generator → Generator) : (updGenerator n f s).station.kioskBindings = s.station.kioskBindings := rfl
@[simp] theorem updGenerator_station_counterBindings (n : Nat) (f : Generator → Generator) : (updGenerator n f s).station.counterBindings = s.station.counterBindings := rfl
@[simp] theorem updGenerator_station_resets (n : Nat) (f : Generator → Generator) : (updGenerator n f s).station.resets = s.station.resets := rfl

/-! ### updRefund -/

@[simp] theorem updRefund_pending (n : Nat) (f : Refund → Refund) : (updRefund n f s).pending = s.pending := rfl
@[simp] theorem updRefund_wire (n : Nat) (f : Refund → Refund) : (updRefund n f s).wire = s.wire := rfl
@[simp] theorem updRefund_waiting (n : Nat) (f : Refund → Refund) : (updRefund n f s).waiting = s.waiting := rfl
@[simp] theorem updRefund_mem (n : Nat) (f : Refund → Refund) : (updRefund n f s).mem = s.mem := rfl
@[simp] theorem updRefund_config (n : Nat) (f : Refund → Refund) : (updRefund n f s).config = s.config := rfl
@[simp] theorem updRefund_stats (n : Nat) (f : Refund → Refund) : (updRefund n f s).stats = s.stats := rfl
@[simp] theorem updRefund_board (n : Nat) (f : Refund → Refund) : (updRefund n f s).board = s.board := rfl
@[simp] theorem updRefund_showUnit (n : Nat) (f : Refund → Refund) : (updRefund n f s).showUnit = s.showUnit := rfl
@[simp] theorem updRefund_seats (n : Nat) (f : Refund → Refund) : (updRefund n f s).seats = s.seats := rfl
@[simp] theorem updRefund_basketUnit (n : Nat) (f : Refund → Refund) : (updRefund n f s).basketUnit = s.basketUnit := rfl
@[simp] theorem updRefund_lines (n : Nat) (f : Refund → Refund) : (updRefund n f s).lines = s.lines := rfl
@[simp] theorem updRefund_print (n : Nat) (f : Refund → Refund) : (updRefund n f s).print = s.print := rfl
@[simp] theorem updRefund_voucherUnit (n : Nat) (f : Refund → Refund) : (updRefund n f s).voucherUnit = s.voucherUnit := rfl
@[simp] theorem updRefund_station (n : Nat) (f : Refund → Refund) : (updRefund n f s).station = s.station := rfl
@[simp] theorem updRefund_salesUnit_sales (n : Nat) (f : Refund → Refund) : (updRefund n f s).salesUnit.sales = s.salesUnit.sales := rfl
@[simp] theorem updRefund_salesUnit_nextSerial (n : Nat) (f : Refund → Refund) : (updRefund n f s).salesUnit.nextSerial = s.salesUnit.nextSerial := rfl
@[simp] theorem updRefund_salesUnit_inUse (n : Nat) (f : Refund → Refund) : (updRefund n f s).salesUnit.inUse = s.salesUnit.inUse := rfl
@[simp] theorem updRefund_salesUnit_reserved (n : Nat) (f : Refund → Refund) : (updRefund n f s).salesUnit.reserved = s.salesUnit.reserved := rfl
@[simp] theorem updRefund_salesUnit_changes (n : Nat) (f : Refund → Refund) : (updRefund n f s).salesUnit.changes = s.salesUnit.changes := rfl

/-! ### writeClock -/

@[simp] theorem writeClock_pending (now : Instant) (phase : Nat) : (writeClock now phase s).pending = s.pending := rfl
@[simp] theorem writeClock_wire (now : Instant) (phase : Nat) : (writeClock now phase s).wire = s.wire := rfl
@[simp] theorem writeClock_waiting (now : Instant) (phase : Nat) : (writeClock now phase s).waiting = s.waiting := rfl
@[simp] theorem writeClock_mem (now : Instant) (phase : Nat) : (writeClock now phase s).mem = s.mem := rfl
@[simp] theorem writeClock_config (now : Instant) (phase : Nat) : (writeClock now phase s).config = s.config := rfl
@[simp] theorem writeClock_stats (now : Instant) (phase : Nat) : (writeClock now phase s).stats = s.stats := rfl
@[simp] theorem writeClock_board (now : Instant) (phase : Nat) : (writeClock now phase s).board = s.board := rfl
@[simp] theorem writeClock_seats (now : Instant) (phase : Nat) : (writeClock now phase s).seats = s.seats := rfl
@[simp] theorem writeClock_basketUnit (now : Instant) (phase : Nat) : (writeClock now phase s).basketUnit = s.basketUnit := rfl
@[simp] theorem writeClock_lines (now : Instant) (phase : Nat) : (writeClock now phase s).lines = s.lines := rfl
@[simp] theorem writeClock_print (now : Instant) (phase : Nat) : (writeClock now phase s).print = s.print := rfl
@[simp] theorem writeClock_voucherUnit (now : Instant) (phase : Nat) : (writeClock now phase s).voucherUnit = s.voucherUnit := rfl
@[simp] theorem writeClock_salesUnit (now : Instant) (phase : Nat) : (writeClock now phase s).salesUnit = s.salesUnit := rfl
@[simp] theorem writeClock_station (now : Instant) (phase : Nat) : (writeClock now phase s).station = s.station := rfl
@[simp] theorem writeClock_showUnit_runTime (now : Instant) (phase : Nat) : (writeClock now phase s).showUnit.runTime = s.showUnit.runTime := rfl
@[simp] theorem writeClock_showUnit_shows (now : Instant) (phase : Nat) : (writeClock now phase s).showUnit.shows = s.showUnit.shows := rfl
@[simp] theorem writeClock_showUnit_prices (now : Instant) (phase : Nat) : (writeClock now phase s).showUnit.prices = s.showUnit.prices := rfl
@[simp] theorem writeClock_showUnit_kinds (now : Instant) (phase : Nat) : (writeClock now phase s).showUnit.kinds = s.showUnit.kinds := rfl
@[simp] theorem writeClock_showUnit_loadings (now : Instant) (phase : Nat) : (writeClock now phase s).showUnit.loadings = s.showUnit.loadings := rfl
@[simp] theorem writeClock_showUnit_removals (now : Instant) (phase : Nat) : (writeClock now phase s).showUnit.removals = s.showUnit.removals := rfl
@[simp] theorem writeClock_showUnit_leftSale (now : Instant) (phase : Nat) : (writeClock now phase s).showUnit.leftSale = s.showUnit.leftSale := rfl
@[simp] theorem writeClock_showUnit_dayChanges (now : Instant) (phase : Nat) : (writeClock now phase s).showUnit.dayChanges = s.showUnit.dayChanges := rfl

/-! ### updRemoval -/

@[simp] theorem updRemoval_pending (x : Removal) (y : Option Removal) : (updRemoval x y s).pending = s.pending := rfl
@[simp] theorem updRemoval_wire (x : Removal) (y : Option Removal) : (updRemoval x y s).wire = s.wire := rfl
@[simp] theorem updRemoval_waiting (x : Removal) (y : Option Removal) : (updRemoval x y s).waiting = s.waiting := rfl
@[simp] theorem updRemoval_mem (x : Removal) (y : Option Removal) : (updRemoval x y s).mem = s.mem := rfl
@[simp] theorem updRemoval_config (x : Removal) (y : Option Removal) : (updRemoval x y s).config = s.config := rfl
@[simp] theorem updRemoval_stats (x : Removal) (y : Option Removal) : (updRemoval x y s).stats = s.stats := rfl
@[simp] theorem updRemoval_board (x : Removal) (y : Option Removal) : (updRemoval x y s).board = s.board := rfl
@[simp] theorem updRemoval_seats (x : Removal) (y : Option Removal) : (updRemoval x y s).seats = s.seats := rfl
@[simp] theorem updRemoval_basketUnit (x : Removal) (y : Option Removal) : (updRemoval x y s).basketUnit = s.basketUnit := rfl
@[simp] theorem updRemoval_lines (x : Removal) (y : Option Removal) : (updRemoval x y s).lines = s.lines := rfl
@[simp] theorem updRemoval_print (x : Removal) (y : Option Removal) : (updRemoval x y s).print = s.print := rfl
@[simp] theorem updRemoval_voucherUnit (x : Removal) (y : Option Removal) : (updRemoval x y s).voucherUnit = s.voucherUnit := rfl
@[simp] theorem updRemoval_salesUnit (x : Removal) (y : Option Removal) : (updRemoval x y s).salesUnit = s.salesUnit := rfl
@[simp] theorem updRemoval_station (x : Removal) (y : Option Removal) : (updRemoval x y s).station = s.station := rfl
@[simp] theorem updRemoval_showUnit_runTime (x : Removal) (y : Option Removal) : (updRemoval x y s).showUnit.runTime = s.showUnit.runTime := rfl
@[simp] theorem updRemoval_showUnit_clock (x : Removal) (y : Option Removal) : (updRemoval x y s).showUnit.clock = s.showUnit.clock := rfl
@[simp] theorem updRemoval_showUnit_shows (x : Removal) (y : Option Removal) : (updRemoval x y s).showUnit.shows = s.showUnit.shows := rfl
@[simp] theorem updRemoval_showUnit_prices (x : Removal) (y : Option Removal) : (updRemoval x y s).showUnit.prices = s.showUnit.prices := rfl
@[simp] theorem updRemoval_showUnit_kinds (x : Removal) (y : Option Removal) : (updRemoval x y s).showUnit.kinds = s.showUnit.kinds := rfl
@[simp] theorem updRemoval_showUnit_loadings (x : Removal) (y : Option Removal) : (updRemoval x y s).showUnit.loadings = s.showUnit.loadings := rfl
@[simp] theorem updRemoval_showUnit_leftSale (x : Removal) (y : Option Removal) : (updRemoval x y s).showUnit.leftSale = s.showUnit.leftSale := rfl
@[simp] theorem updRemoval_showUnit_dayChanges (x : Removal) (y : Option Removal) : (updRemoval x y s).showUnit.dayChanges = s.showUnit.dayChanges := rfl

/-! ### The field written -/

theorem setBasket_baskets (b : Nat) (f : Basket → Basket) :
    (setBasket b f s).basketUnit.baskets = updAt s.basketUnit.baskets b f := rfl
theorem updBasket_baskets (b : Nat) (f : Basket → Basket) :
    (updBasket b f s).basketUnit.baskets = updAt s.basketUnit.baskets b (fun c => { f c with changes := bump c.changes }) := rfl
theorem setShow_shows (n : Nat) (f : ShowRec → ShowRec) : (setShow n f s).showUnit.shows = updAt s.showUnit.shows n f := rfl
theorem updShow_shows (n : Nat) (f : ShowRec → ShowRec) :
    (updShow n f s).showUnit.shows = updAt s.showUnit.shows n (fun w => { f w with changes := bump w.changes }) := rfl
theorem updKiosk_kiosks (k : Nat) (f : Kiosk → Kiosk) :
    (updKiosk k f s).station.kiosks = updAt s.station.kiosks k (fun c => { f c with changes := bump c.changes }) := rfl
theorem updCounter_counters (m : Nat) (f : Counter → Counter) :
    (updCounter m f s).station.counters = updAt s.station.counters m (fun c => { f c with changes := bump c.changes }) := rfl
theorem updFoyer_foyer (f : Foyer → Foyer) :
    (updFoyer f s).station.foyer = { f s.station.foyer with changes := bump s.station.foyer.changes } := rfl
theorem updLine_lines (n : Nat) (f : Line → Line) : (updLine n f s).lines = updAt s.lines n f := rfl
theorem setReceiving_lines (n : Nat) (f : Line → Line) : (setReceiving n f s).lines = updAt s.lines n f := rfl
theorem setPrinter_printers (p : Nat) (f : Printer → Printer) :
    (setPrinter p f s).print.printers = updAt s.print.printers p f := rfl
theorem updPrinter_printers (p : Nat) (f : Printer → Printer) :
    (updPrinter p f s).print.printers = updAt s.print.printers p f := rfl
theorem updQueue_printers (p : Nat) (f : Printer → Printer) :
    (updQueue p f s).print.printers = updAt s.print.printers p (fun q => { f q with queueChanges := bump q.queueChanges }) := rfl
theorem setReceiver_receivers (m : Nat) (f : Receiver → Receiver) :
    (setReceiver m f s).voucherUnit.receivers = updAt s.voucherUnit.receivers m f := rfl
theorem updGenerator_generators (n : Nat) (f : Generator → Generator) :
    (updGenerator n f s).station.generators = updAt s.station.generators n f := rfl
theorem setSeat_seats (cell : Nat) (v : Seat) : (setSeat cell v s).seats = sparsePut .spare s.seats cell v := rfl
theorem setVoucher_entries (i : Nat) (v : Voucher) :
    (setVoucher i v s).voucherUnit.entries = sparsePut .empty s.voucherUnit.entries i v := rfl
theorem setHead_heads (i : Nat) (h : Option Nat) :
    (setHead i h s).voucherUnit.heads = sparsePut none s.voucherUnit.heads i h := rfl
theorem setSale_sales (p : Nat) (v : Sale) : (setSale p v s).salesUnit.sales = sparsePut .empty s.salesUnit.sales p v := rfl
theorem emit_wire (o : Output) : (emit o s).wire = s.wire ++ [o] := rfl
theorem waitFor_waiting (r : Resource) (e : WaitEvent) : (waitFor r e s).waiting = s.waiting ++ [(r, e)] := rfl
theorem addStat_stats (off n : Nat) :
    (addStat off n s).stats = sparsePut 0 s.stats off (min (statAt s off + n) 4294967295) := rfl

end Sys2Proof.Machine
end

