-- ==== Sys2Proof/Laws/Frames.lean ====
section
/-! SUPPORT. Which parts of State each operation leaves as they were: one lemma an operation, used by simp part by part. -/

namespace Sys2Proof.Machine

@[simp] theorem forEach_pending (l : List Nat) (f : Nat → State → State) (s : State) (h : ∀ n t, (f n t).pending = t.pending) :
    (forEach l f s).pending = s.pending := by
  unfold forEach
  induction l generalizing s with
  | nil => rfl
  | cons x r ih => simp only [List.foldl_cons]; rw [ih, h]
@[simp] theorem foldl_pending {α : Type} (l : List α) (f : State → α → State) (s : State) (h : ∀ t x, (f t x).pending = t.pending) :
    (l.foldl f s).pending = s.pending := by
  induction l generalizing s with
  | nil => rfl
  | cons x r ih => simp only [List.foldl_cons]; rw [ih, h]

@[simp] theorem forEach_wire (l : List Nat) (f : Nat → State → State) (s : State) (h : ∀ n t, (f n t).wire = t.wire) :
    (forEach l f s).wire = s.wire := by
  unfold forEach
  induction l generalizing s with
  | nil => rfl
  | cons x r ih => simp only [List.foldl_cons]; rw [ih, h]
@[simp] theorem foldl_wire {α : Type} (l : List α) (f : State → α → State) (s : State) (h : ∀ t x, (f t x).wire = t.wire) :
    (l.foldl f s).wire = s.wire := by
  induction l generalizing s with
  | nil => rfl
  | cons x r ih => simp only [List.foldl_cons]; rw [ih, h]

@[simp] theorem forEach_waiting (l : List Nat) (f : Nat → State → State) (s : State) (h : ∀ n t, (f n t).waiting = t.waiting) :
    (forEach l f s).waiting = s.waiting := by
  unfold forEach
  induction l generalizing s with
  | nil => rfl
  | cons x r ih => simp only [List.foldl_cons]; rw [ih, h]
@[simp] theorem foldl_waiting {α : Type} (l : List α) (f : State → α → State) (s : State) (h : ∀ t x, (f t x).waiting = t.waiting) :
    (l.foldl f s).waiting = s.waiting := by
  induction l generalizing s with
  | nil => rfl
  | cons x r ih => simp only [List.foldl_cons]; rw [ih, h]

@[simp] theorem forEach_mem (l : List Nat) (f : Nat → State → State) (s : State) (h : ∀ n t, (f n t).mem = t.mem) :
    (forEach l f s).mem = s.mem := by
  unfold forEach
  induction l generalizing s with
  | nil => rfl
  | cons x r ih => simp only [List.foldl_cons]; rw [ih, h]
@[simp] theorem foldl_mem {α : Type} (l : List α) (f : State → α → State) (s : State) (h : ∀ t x, (f t x).mem = t.mem) :
    (l.foldl f s).mem = s.mem := by
  induction l generalizing s with
  | nil => rfl
  | cons x r ih => simp only [List.foldl_cons]; rw [ih, h]

@[simp] theorem forEach_config (l : List Nat) (f : Nat → State → State) (s : State) (h : ∀ n t, (f n t).config = t.config) :
    (forEach l f s).config = s.config := by
  unfold forEach
  induction l generalizing s with
  | nil => rfl
  | cons x r ih => simp only [List.foldl_cons]; rw [ih, h]
@[simp] theorem foldl_config {α : Type} (l : List α) (f : State → α → State) (s : State) (h : ∀ t x, (f t x).config = t.config) :
    (l.foldl f s).config = s.config := by
  induction l generalizing s with
  | nil => rfl
  | cons x r ih => simp only [List.foldl_cons]; rw [ih, h]

@[simp] theorem forEach_stats (l : List Nat) (f : Nat → State → State) (s : State) (h : ∀ n t, (f n t).stats = t.stats) :
    (forEach l f s).stats = s.stats := by
  unfold forEach
  induction l generalizing s with
  | nil => rfl
  | cons x r ih => simp only [List.foldl_cons]; rw [ih, h]
@[simp] theorem foldl_stats {α : Type} (l : List α) (f : State → α → State) (s : State) (h : ∀ t x, (f t x).stats = t.stats) :
    (l.foldl f s).stats = s.stats := by
  induction l generalizing s with
  | nil => rfl
  | cons x r ih => simp only [List.foldl_cons]; rw [ih, h]

@[simp] theorem forEach_board (l : List Nat) (f : Nat → State → State) (s : State) (h : ∀ n t, (f n t).board = t.board) :
    (forEach l f s).board = s.board := by
  unfold forEach
  induction l generalizing s with
  | nil => rfl
  | cons x r ih => simp only [List.foldl_cons]; rw [ih, h]
@[simp] theorem foldl_board {α : Type} (l : List α) (f : State → α → State) (s : State) (h : ∀ t x, (f t x).board = t.board) :
    (l.foldl f s).board = s.board := by
  induction l generalizing s with
  | nil => rfl
  | cons x r ih => simp only [List.foldl_cons]; rw [ih, h]

@[simp] theorem forEach_showUnit (l : List Nat) (f : Nat → State → State) (s : State) (h : ∀ n t, (f n t).showUnit = t.showUnit) :
    (forEach l f s).showUnit = s.showUnit := by
  unfold forEach
  induction l generalizing s with
  | nil => rfl
  | cons x r ih => simp only [List.foldl_cons]; rw [ih, h]
@[simp] theorem foldl_showUnit {α : Type} (l : List α) (f : State → α → State) (s : State) (h : ∀ t x, (f t x).showUnit = t.showUnit) :
    (l.foldl f s).showUnit = s.showUnit := by
  induction l generalizing s with
  | nil => rfl
  | cons x r ih => simp only [List.foldl_cons]; rw [ih, h]

@[simp] theorem forEach_seats (l : List Nat) (f : Nat → State → State) (s : State) (h : ∀ n t, (f n t).seats = t.seats) :
    (forEach l f s).seats = s.seats := by
  unfold forEach
  induction l generalizing s with
  | nil => rfl
  | cons x r ih => simp only [List.foldl_cons]; rw [ih, h]
@[simp] theorem foldl_seats {α : Type} (l : List α) (f : State → α → State) (s : State) (h : ∀ t x, (f t x).seats = t.seats) :
    (l.foldl f s).seats = s.seats := by
  induction l generalizing s with
  | nil => rfl
  | cons x r ih => simp only [List.foldl_cons]; rw [ih, h]

@[simp] theorem forEach_basketUnit (l : List Nat) (f : Nat → State → State) (s : State) (h : ∀ n t, (f n t).basketUnit = t.basketUnit) :
    (forEach l f s).basketUnit = s.basketUnit := by
  unfold forEach
  induction l generalizing s with
  | nil => rfl
  | cons x r ih => simp only [List.foldl_cons]; rw [ih, h]
@[simp] theorem foldl_basketUnit {α : Type} (l : List α) (f : State → α → State) (s : State) (h : ∀ t x, (f t x).basketUnit = t.basketUnit) :
    (l.foldl f s).basketUnit = s.basketUnit := by
  induction l generalizing s with
  | nil => rfl
  | cons x r ih => simp only [List.foldl_cons]; rw [ih, h]

@[simp] theorem forEach_lines (l : List Nat) (f : Nat → State → State) (s : State) (h : ∀ n t, (f n t).lines = t.lines) :
    (forEach l f s).lines = s.lines := by
  unfold forEach
  induction l generalizing s with
  | nil => rfl
  | cons x r ih => simp only [List.foldl_cons]; rw [ih, h]
@[simp] theorem foldl_lines {α : Type} (l : List α) (f : State → α → State) (s : State) (h : ∀ t x, (f t x).lines = t.lines) :
    (l.foldl f s).lines = s.lines := by
  induction l generalizing s with
  | nil => rfl
  | cons x r ih => simp only [List.foldl_cons]; rw [ih, h]

@[simp] theorem forEach_print (l : List Nat) (f : Nat → State → State) (s : State) (h : ∀ n t, (f n t).print = t.print) :
    (forEach l f s).print = s.print := by
  unfold forEach
  induction l generalizing s with
  | nil => rfl
  | cons x r ih => simp only [List.foldl_cons]; rw [ih, h]
@[simp] theorem foldl_print {α : Type} (l : List α) (f : State → α → State) (s : State) (h : ∀ t x, (f t x).print = t.print) :
    (l.foldl f s).print = s.print := by
  induction l generalizing s with
  | nil => rfl
  | cons x r ih => simp only [List.foldl_cons]; rw [ih, h]

@[simp] theorem forEach_voucherUnit (l : List Nat) (f : Nat → State → State) (s : State) (h : ∀ n t, (f n t).voucherUnit = t.voucherUnit) :
    (forEach l f s).voucherUnit = s.voucherUnit := by
  unfold forEach
  induction l generalizing s with
  | nil => rfl
  | cons x r ih => simp only [List.foldl_cons]; rw [ih, h]
@[simp] theorem foldl_voucherUnit {α : Type} (l : List α) (f : State → α → State) (s : State) (h : ∀ t x, (f t x).voucherUnit = t.voucherUnit) :
    (l.foldl f s).voucherUnit = s.voucherUnit := by
  induction l generalizing s with
  | nil => rfl
  | cons x r ih => simp only [List.foldl_cons]; rw [ih, h]

@[simp] theorem forEach_salesUnit (l : List Nat) (f : Nat → State → State) (s : State) (h : ∀ n t, (f n t).salesUnit = t.salesUnit) :
    (forEach l f s).salesUnit = s.salesUnit := by
  unfold forEach
  induction l generalizing s with
  | nil => rfl
  | cons x r ih => simp only [List.foldl_cons]; rw [ih, h]
@[simp] theorem foldl_salesUnit {α : Type} (l : List α) (f : State → α → State) (s : State) (h : ∀ t x, (f t x).salesUnit = t.salesUnit) :
    (l.foldl f s).salesUnit = s.salesUnit := by
  induction l generalizing s with
  | nil => rfl
  | cons x r ih => simp only [List.foldl_cons]; rw [ih, h]

@[simp] theorem forEach_station (l : List Nat) (f : Nat → State → State) (s : State) (h : ∀ n t, (f n t).station = t.station) :
    (forEach l f s).station = s.station := by
  unfold forEach
  induction l generalizing s with
  | nil => rfl
  | cons x r ih => simp only [List.foldl_cons]; rw [ih, h]
@[simp] theorem foldl_station {α : Type} (l : List α) (f : State → α → State) (s : State) (h : ∀ t x, (f t x).station = t.station) :
    (l.foldl f s).station = s.station := by
  induction l generalizing s with
  | nil => rfl
  | cons x r ih => simp only [List.foldl_cons]; rw [ih, h]

@[simp] theorem whenFree_pending (r : Resource) (e : WaitEvent) (f : State → State) (s : State) (h : (f s).pending = s.pending) :
    (whenFree r e f s).pending = s.pending := by unfold whenFree; split <;> simp [h]
@[simp] theorem basketRequest_pending (r : Request) (f : State → State) (s : State) (h : (f s).pending = s.pending) :
    (basketRequest r f s).pending = s.pending := by unfold basketRequest; exact whenFree_pending _ _ _ _ h
@[simp] theorem whenFree_wire (r : Resource) (e : WaitEvent) (f : State → State) (s : State) (h : (f s).wire = s.wire) :
    (whenFree r e f s).wire = s.wire := by unfold whenFree; split <;> simp [h]
@[simp] theorem basketRequest_wire (r : Request) (f : State → State) (s : State) (h : (f s).wire = s.wire) :
    (basketRequest r f s).wire = s.wire := by unfold basketRequest; exact whenFree_wire _ _ _ _ h
@[simp] theorem whenFree_mem (r : Resource) (e : WaitEvent) (f : State → State) (s : State) (h : (f s).mem = s.mem) :
    (whenFree r e f s).mem = s.mem := by unfold whenFree; split <;> simp [h]
@[simp] theorem basketRequest_mem (r : Request) (f : State → State) (s : State) (h : (f s).mem = s.mem) :
    (basketRequest r f s).mem = s.mem := by unfold basketRequest; exact whenFree_mem _ _ _ _ h
@[simp] theorem whenFree_config (r : Resource) (e : WaitEvent) (f : State → State) (s : State) (h : (f s).config = s.config) :
    (whenFree r e f s).config = s.config := by unfold whenFree; split <;> simp [h]
@[simp] theorem basketRequest_config (r : Request) (f : State → State) (s : State) (h : (f s).config = s.config) :
    (basketRequest r f s).config = s.config := by unfold basketRequest; exact whenFree_config _ _ _ _ h
@[simp] theorem whenFree_stats (r : Resource) (e : WaitEvent) (f : State → State) (s : State) (h : (f s).stats = s.stats) :
    (whenFree r e f s).stats = s.stats := by unfold whenFree; split <;> simp [h]
@[simp] theorem basketRequest_stats (r : Request) (f : State → State) (s : State) (h : (f s).stats = s.stats) :
    (basketRequest r f s).stats = s.stats := by unfold basketRequest; exact whenFree_stats _ _ _ _ h
@[simp] theorem whenFree_board (r : Resource) (e : WaitEvent) (f : State → State) (s : State) (h : (f s).board = s.board) :
    (whenFree r e f s).board = s.board := by unfold whenFree; split <;> simp [h]
@[simp] theorem basketRequest_board (r : Request) (f : State → State) (s : State) (h : (f s).board = s.board) :
    (basketRequest r f s).board = s.board := by unfold basketRequest; exact whenFree_board _ _ _ _ h
@[simp] theorem whenFree_showUnit (r : Resource) (e : WaitEvent) (f : State → State) (s : State) (h : (f s).showUnit = s.showUnit) :
    (whenFree r e f s).showUnit = s.showUnit := by unfold whenFree; split <;> simp [h]
@[simp] theorem basketRequest_showUnit (r : Request) (f : State → State) (s : State) (h : (f s).showUnit = s.showUnit) :
    (basketRequest r f s).showUnit = s.showUnit := by unfold basketRequest; exact whenFree_showUnit _ _ _ _ h
@[simp] theorem whenFree_seats (r : Resource) (e : WaitEvent) (f : State → State) (s : State) (h : (f s).seats = s.seats) :
    (whenFree r e f s).seats = s.seats := by unfold whenFree; split <;> simp [h]
@[simp] theorem basketRequest_seats (r : Request) (f : State → State) (s : State) (h : (f s).seats = s.seats) :
    (basketRequest r f s).seats = s.seats := by unfold basketRequest; exact whenFree_seats _ _ _ _ h
@[simp] theorem whenFree_basketUnit (r : Resource) (e : WaitEvent) (f : State → State) (s : State) (h : (f s).basketUnit = s.basketUnit) :
    (whenFree r e f s).basketUnit = s.basketUnit := by unfold whenFree; split <;> simp [h]
@[simp] theorem basketRequest_basketUnit (r : Request) (f : State → State) (s : State) (h : (f s).basketUnit = s.basketUnit) :
    (basketRequest r f s).basketUnit = s.basketUnit := by unfold basketRequest; exact whenFree_basketUnit _ _ _ _ h
@[simp] theorem whenFree_lines (r : Resource) (e : WaitEvent) (f : State → State) (s : State) (h : (f s).lines = s.lines) :
    (whenFree r e f s).lines = s.lines := by unfold whenFree; split <;> simp [h]
@[simp] theorem basketRequest_lines (r : Request) (f : State → State) (s : State) (h : (f s).lines = s.lines) :
    (basketRequest r f s).lines = s.lines := by unfold basketRequest; exact whenFree_lines _ _ _ _ h
@[simp] theorem whenFree_print (r : Resource) (e : WaitEvent) (f : State → State) (s : State) (h : (f s).print = s.print) :
    (whenFree r e f s).print = s.print := by unfold whenFree; split <;> simp [h]
@[simp] theorem basketRequest_print (r : Request) (f : State → State) (s : State) (h : (f s).print = s.print) :
    (basketRequest r f s).print = s.print := by unfold basketRequest; exact whenFree_print _ _ _ _ h
@[simp] theorem whenFree_voucherUnit (r : Resource) (e : WaitEvent) (f : State → State) (s : State) (h : (f s).voucherUnit = s.voucherUnit) :
    (whenFree r e f s).voucherUnit = s.voucherUnit := by unfold whenFree; split <;> simp [h]
@[simp] theorem basketRequest_voucherUnit (r : Request) (f : State → State) (s : State) (h : (f s).voucherUnit = s.voucherUnit) :
    (basketRequest r f s).voucherUnit = s.voucherUnit := by unfold basketRequest; exact whenFree_voucherUnit _ _ _ _ h
@[simp] theorem whenFree_salesUnit (r : Resource) (e : WaitEvent) (f : State → State) (s : State) (h : (f s).salesUnit = s.salesUnit) :
    (whenFree r e f s).salesUnit = s.salesUnit := by unfold whenFree; split <;> simp [h]
@[simp] theorem basketRequest_salesUnit (r : Request) (f : State → State) (s : State) (h : (f s).salesUnit = s.salesUnit) :
    (basketRequest r f s).salesUnit = s.salesUnit := by unfold basketRequest; exact whenFree_salesUnit _ _ _ _ h
@[simp] theorem whenFree_station (r : Resource) (e : WaitEvent) (f : State → State) (s : State) (h : (f s).station = s.station) :
    (whenFree r e f s).station = s.station := by unfold whenFree; split <;> simp [h]
@[simp] theorem basketRequest_station (r : Request) (f : State → State) (s : State) (h : (f s).station = s.station) :
    (basketRequest r f s).station = s.station := by unfold basketRequest; exact whenFree_station _ _ _ _ h
variable (s : State)

@[simp] theorem sendInterrupt_keeps :
    (sendInterrupt s).pending = s.pending ∧ (sendInterrupt s).waiting = s.waiting ∧ (sendInterrupt s).mem = s.mem ∧
    (sendInterrupt s).config = s.config ∧ (sendInterrupt s).stats = s.stats ∧ (sendInterrupt s).board = s.board ∧
    (sendInterrupt s).showUnit = s.showUnit ∧ (sendInterrupt s).seats = s.seats ∧
    (sendInterrupt s).basketUnit = s.basketUnit ∧ (sendInterrupt s).lines = s.lines ∧ (sendInterrupt s).print = s.print ∧
    (sendInterrupt s).voucherUnit = s.voucherUnit ∧ (sendInterrupt s).salesUnit = s.salesUnit ∧
    (sendInterrupt s).station = s.station := by
  simp only [sendInterrupt]; (repeat' split) <;> simp

@[simp] theorem setCompletions_keeps :
    (setCompletions s).pending = s.pending ∧ (setCompletions s).waiting = s.waiting ∧ (setCompletions s).mem = s.mem ∧
    (setCompletions s).config = s.config ∧ (setCompletions s).stats = s.stats ∧ (setCompletions s).showUnit = s.showUnit ∧
    (setCompletions s).seats = s.seats ∧ (setCompletions s).basketUnit = s.basketUnit ∧
    (setCompletions s).lines = s.lines ∧ (setCompletions s).print = s.print ∧
    (setCompletions s).voucherUnit = s.voucherUnit ∧ (setCompletions s).salesUnit = s.salesUnit ∧
    (setCompletions s).station = s.station := by
  simp [setCompletions]

@[simp] theorem serveNotice_keeps :
    (serveNotice s).pending = s.pending ∧ (serveNotice s).waiting = s.waiting ∧ (serveNotice s).mem = s.mem ∧
    (serveNotice s).config = s.config ∧ (serveNotice s).stats = s.stats ∧ (serveNotice s).showUnit = s.showUnit ∧
    (serveNotice s).seats = s.seats ∧ (serveNotice s).basketUnit = s.basketUnit ∧ (serveNotice s).lines = s.lines ∧
    (serveNotice s).print = s.print ∧ (serveNotice s).voucherUnit = s.voucherUnit ∧
    (serveNotice s).salesUnit = s.salesUnit ∧ (serveNotice s).station = s.station := by
  simp only [serveNotice]; (repeat' split) <;> simp

@[simp] theorem attentionBegins_keeps :
    (attentionBegins s).pending = s.pending ∧ (attentionBegins s).waiting = s.waiting ∧ (attentionBegins s).mem = s.mem ∧
    (attentionBegins s).config = s.config ∧ (attentionBegins s).stats = s.stats ∧
    (attentionBegins s).showUnit = s.showUnit ∧ (attentionBegins s).seats = s.seats ∧
    (attentionBegins s).basketUnit = s.basketUnit ∧ (attentionBegins s).lines = s.lines ∧
    (attentionBegins s).print = s.print ∧ (attentionBegins s).voucherUnit = s.voucherUnit ∧
    (attentionBegins s).salesUnit = s.salesUnit ∧ (attentionBegins s).station = s.station := by
  simp only [attentionBegins]; (repeat' split) <;> simp

@[simp] theorem attentionCeases_keeps :
    (attentionCeases s).pending = s.pending ∧ (attentionCeases s).wire = s.wire ∧
    (attentionCeases s).waiting = s.waiting ∧ (attentionCeases s).mem = s.mem ∧ (attentionCeases s).config = s.config ∧
    (attentionCeases s).stats = s.stats ∧ (attentionCeases s).showUnit = s.showUnit ∧
    (attentionCeases s).seats = s.seats ∧ (attentionCeases s).basketUnit = s.basketUnit ∧
    (attentionCeases s).lines = s.lines ∧ (attentionCeases s).print = s.print ∧
    (attentionCeases s).voucherUnit = s.voucherUnit ∧ (attentionCeases s).salesUnit = s.salesUnit ∧
    (attentionCeases s).station = s.station := by
  simp [attentionCeases]

@[simp] theorem reportAttention_keeps (x y : Bool) :
    (reportAttention x y s).pending = s.pending ∧ (reportAttention x y s).waiting = s.waiting ∧
    (reportAttention x y s).mem = s.mem ∧ (reportAttention x y s).config = s.config ∧
    (reportAttention x y s).stats = s.stats ∧ (reportAttention x y s).showUnit = s.showUnit ∧
    (reportAttention x y s).seats = s.seats ∧ (reportAttention x y s).basketUnit = s.basketUnit ∧
    (reportAttention x y s).lines = s.lines ∧ (reportAttention x y s).print = s.print ∧
    (reportAttention x y s).voucherUnit = s.voucherUnit ∧ (reportAttention x y s).salesUnit = s.salesUnit ∧
    (reportAttention x y s).station = s.station := by
  simp only [reportAttention]; (repeat' split) <;> simp

@[simp] theorem setFactors_keeps (c : CellId) (x y : FactorSet) :
    (setFactors c x y s).pending = s.pending ∧ (setFactors c x y s).wire = s.wire ∧
    (setFactors c x y s).waiting = s.waiting ∧ (setFactors c x y s).mem = s.mem ∧ (setFactors c x y s).config = s.config ∧
    (setFactors c x y s).stats = s.stats ∧ (setFactors c x y s).board = s.board ∧
    (setFactors c x y s).showUnit = s.showUnit ∧ (setFactors c x y s).seats = s.seats ∧
    (setFactors c x y s).basketUnit = s.basketUnit ∧ (setFactors c x y s).lines = s.lines ∧
    (setFactors c x y s).print = s.print ∧ (setFactors c x y s).voucherUnit = s.voucherUnit ∧
    (setFactors c x y s).salesUnit = s.salesUnit := by
  simp only [setFactors]; (repeat' split) <;> simp

@[simp] theorem raiseFactor_keeps (c : CellId) (x : FactorSet) :
    (raiseFactor c x s).pending = s.pending ∧ (raiseFactor c x s).waiting = s.waiting ∧ (raiseFactor c x s).mem = s.mem ∧
    (raiseFactor c x s).config = s.config ∧ (raiseFactor c x s).stats = s.stats ∧
    (raiseFactor c x s).showUnit = s.showUnit ∧ (raiseFactor c x s).seats = s.seats ∧
    (raiseFactor c x s).basketUnit = s.basketUnit ∧ (raiseFactor c x s).lines = s.lines ∧
    (raiseFactor c x s).print = s.print ∧ (raiseFactor c x s).voucherUnit = s.voucherUnit ∧
    (raiseFactor c x s).salesUnit = s.salesUnit := by
  simp only [raiseFactor]; (repeat' split) <;> simp

@[simp] theorem writeMask_keeps (c : CellId) (x : FactorSet) :
    (writeMask c x s).pending = s.pending ∧ (writeMask c x s).waiting = s.waiting ∧ (writeMask c x s).mem = s.mem ∧
    (writeMask c x s).config = s.config ∧ (writeMask c x s).stats = s.stats ∧ (writeMask c x s).showUnit = s.showUnit ∧
    (writeMask c x s).seats = s.seats ∧ (writeMask c x s).basketUnit = s.basketUnit ∧ (writeMask c x s).lines = s.lines ∧
    (writeMask c x s).print = s.print ∧ (writeMask c x s).voucherUnit = s.voucherUnit ∧
    (writeMask c x s).salesUnit = s.salesUnit := by
  simp [writeMask]

@[simp] theorem acknowledge_keeps (c : CellId) (x : FactorSet) :
    (acknowledge c x s).pending = s.pending ∧ (acknowledge c x s).waiting = s.waiting ∧ (acknowledge c x s).mem = s.mem ∧
    (acknowledge c x s).config = s.config ∧ (acknowledge c x s).stats = s.stats ∧
    (acknowledge c x s).showUnit = s.showUnit ∧ (acknowledge c x s).seats = s.seats ∧
    (acknowledge c x s).basketUnit = s.basketUnit ∧ (acknowledge c x s).lines = s.lines ∧
    (acknowledge c x s).print = s.print ∧ (acknowledge c x s).voucherUnit = s.voucherUnit ∧
    (acknowledge c x s).salesUnit = s.salesUnit := by
  simp [acknowledge]

@[simp] theorem completeSlot_keeps (n : Nat) (c : ResultCode) (l : List Byte) :
    (completeSlot n c l s).pending = s.pending ∧ (completeSlot n c l s).waiting = s.waiting ∧
    (completeSlot n c l s).config = s.config ∧ (completeSlot n c l s).stats = s.stats ∧
    (completeSlot n c l s).showUnit = s.showUnit ∧ (completeSlot n c l s).seats = s.seats ∧
    (completeSlot n c l s).basketUnit = s.basketUnit ∧ (completeSlot n c l s).lines = s.lines ∧
    (completeSlot n c l s).print = s.print ∧ (completeSlot n c l s).voucherUnit = s.voucherUnit ∧
    (completeSlot n c l s).salesUnit = s.salesUnit ∧ (completeSlot n c l s).station = s.station := by
  simp [completeSlot]

@[simp] theorem finish_keeps (n : Nat) (c : ResultCode) :
    (finish n c s).pending = s.pending ∧ (finish n c s).waiting = s.waiting ∧ (finish n c s).config = s.config ∧
    (finish n c s).stats = s.stats ∧ (finish n c s).showUnit = s.showUnit ∧ (finish n c s).seats = s.seats ∧
    (finish n c s).basketUnit = s.basketUnit ∧ (finish n c s).lines = s.lines ∧ (finish n c s).print = s.print ∧
    (finish n c s).voucherUnit = s.voucherUnit ∧ (finish n c s).salesUnit = s.salesUnit ∧
    (finish n c s).station = s.station := by
  simp [finish]

@[simp] theorem refreshKiosk_keeps (n : Nat) :
    (refreshKiosk n s).pending = s.pending ∧ (refreshKiosk n s).wire = s.wire ∧ (refreshKiosk n s).waiting = s.waiting ∧
    (refreshKiosk n s).mem = s.mem ∧ (refreshKiosk n s).config = s.config ∧ (refreshKiosk n s).stats = s.stats ∧
    (refreshKiosk n s).board = s.board ∧ (refreshKiosk n s).showUnit = s.showUnit ∧ (refreshKiosk n s).seats = s.seats ∧
    (refreshKiosk n s).basketUnit = s.basketUnit ∧ (refreshKiosk n s).lines = s.lines ∧
    (refreshKiosk n s).print = s.print ∧ (refreshKiosk n s).voucherUnit = s.voucherUnit ∧
    (refreshKiosk n s).salesUnit = s.salesUnit := by
  simp [refreshKiosk]

@[simp] theorem refreshKiosks_keeps :
    (refreshKiosks s).pending = s.pending ∧ (refreshKiosks s).wire = s.wire ∧ (refreshKiosks s).waiting = s.waiting ∧
    (refreshKiosks s).mem = s.mem ∧ (refreshKiosks s).config = s.config ∧ (refreshKiosks s).stats = s.stats ∧
    (refreshKiosks s).board = s.board ∧ (refreshKiosks s).showUnit = s.showUnit ∧ (refreshKiosks s).seats = s.seats ∧
    (refreshKiosks s).basketUnit = s.basketUnit ∧ (refreshKiosks s).lines = s.lines ∧ (refreshKiosks s).print = s.print ∧
    (refreshKiosks s).voucherUnit = s.voucherUnit ∧ (refreshKiosks s).salesUnit = s.salesUnit := by
  simp [refreshKiosks]

@[simp] theorem refreshCounter_keeps (n : Nat) :
    (refreshCounter n s).pending = s.pending ∧ (refreshCounter n s).wire = s.wire ∧
    (refreshCounter n s).waiting = s.waiting ∧ (refreshCounter n s).mem = s.mem ∧ (refreshCounter n s).config = s.config ∧
    (refreshCounter n s).stats = s.stats ∧ (refreshCounter n s).board = s.board ∧
    (refreshCounter n s).showUnit = s.showUnit ∧ (refreshCounter n s).seats = s.seats ∧
    (refreshCounter n s).basketUnit = s.basketUnit ∧ (refreshCounter n s).lines = s.lines ∧
    (refreshCounter n s).print = s.print ∧ (refreshCounter n s).voucherUnit = s.voucherUnit ∧
    (refreshCounter n s).salesUnit = s.salesUnit := by
  simp [refreshCounter]

@[simp] theorem setFreeCount_keeps (n : Nat) :
    (setFreeCount n s).pending = s.pending ∧ (setFreeCount n s).waiting = s.waiting ∧ (setFreeCount n s).mem = s.mem ∧
    (setFreeCount n s).config = s.config ∧ (setFreeCount n s).stats = s.stats ∧ (setFreeCount n s).showUnit = s.showUnit ∧
    (setFreeCount n s).seats = s.seats ∧ (setFreeCount n s).basketUnit = s.basketUnit ∧
    (setFreeCount n s).lines = s.lines ∧ (setFreeCount n s).print = s.print ∧
    (setFreeCount n s).voucherUnit = s.voucherUnit ∧ (setFreeCount n s).salesUnit = s.salesUnit := by
  simp only [setFreeCount]; (repeat' split) <;> simp

@[simp] theorem updSense_keeps (k l : Nat) (f : Sense → Sense) :
    (updSense k l f s).pending = s.pending ∧ (updSense k l f s).wire = s.wire ∧ (updSense k l f s).waiting = s.waiting ∧
    (updSense k l f s).mem = s.mem ∧ (updSense k l f s).config = s.config ∧ (updSense k l f s).stats = s.stats ∧
    (updSense k l f s).board = s.board ∧ (updSense k l f s).showUnit = s.showUnit ∧ (updSense k l f s).seats = s.seats ∧
    (updSense k l f s).basketUnit = s.basketUnit ∧ (updSense k l f s).lines = s.lines ∧
    (updSense k l f s).print = s.print ∧ (updSense k l f s).voucherUnit = s.voucherUnit ∧
    (updSense k l f s).salesUnit = s.salesUnit := by
  simp [updSense]

@[simp] theorem acceptEdge_keeps (k l : Nat) :
    (acceptEdge k l s).pending = s.pending ∧ (acceptEdge k l s).waiting = s.waiting ∧ (acceptEdge k l s).mem = s.mem ∧
    (acceptEdge k l s).config = s.config ∧ (acceptEdge k l s).stats = s.stats ∧ (acceptEdge k l s).showUnit = s.showUnit ∧
    (acceptEdge k l s).seats = s.seats ∧ (acceptEdge k l s).lines = s.lines ∧ (acceptEdge k l s).print = s.print ∧
    (acceptEdge k l s).voucherUnit = s.voucherUnit ∧ (acceptEdge k l s).salesUnit = s.salesUnit := by
  simp only [acceptEdge]; (repeat' split) <;> simp

@[simp] theorem senseChange_keeps (k l : Nat) (b : Bool) :
    (senseChange k l b s).pending = s.pending ∧ (senseChange k l b s).waiting = s.waiting ∧
    (senseChange k l b s).mem = s.mem ∧ (senseChange k l b s).config = s.config ∧ (senseChange k l b s).stats = s.stats ∧
    (senseChange k l b s).showUnit = s.showUnit ∧ (senseChange k l b s).seats = s.seats ∧
    (senseChange k l b s).lines = s.lines ∧ (senseChange k l b s).print = s.print ∧
    (senseChange k l b s).voucherUnit = s.voucherUnit ∧ (senseChange k l b s).salesUnit = s.salesUnit := by
  simp only [senseChange]; (repeat' split) <;> simp

@[simp] theorem senseFilterDue_keeps (k l : Nat) :
    (senseFilterDue k l s).pending = s.pending ∧ (senseFilterDue k l s).waiting = s.waiting ∧
    (senseFilterDue k l s).mem = s.mem ∧ (senseFilterDue k l s).config = s.config ∧
    (senseFilterDue k l s).stats = s.stats ∧ (senseFilterDue k l s).showUnit = s.showUnit ∧
    (senseFilterDue k l s).seats = s.seats ∧ (senseFilterDue k l s).lines = s.lines ∧
    (senseFilterDue k l s).print = s.print ∧ (senseFilterDue k l s).voucherUnit = s.voucherUnit ∧
    (senseFilterDue k l s).salesUnit = s.salesUnit := by
  simp only [senseFilterDue]; (repeat' split) <;> simp

@[simp] theorem updLamp_keeps (l : LampId) (f : Lamp → Lamp) :
    (updLamp l f s).pending = s.pending ∧ (updLamp l f s).wire = s.wire ∧ (updLamp l f s).waiting = s.waiting ∧
    (updLamp l f s).mem = s.mem ∧ (updLamp l f s).config = s.config ∧ (updLamp l f s).stats = s.stats ∧
    (updLamp l f s).board = s.board ∧ (updLamp l f s).showUnit = s.showUnit ∧ (updLamp l f s).seats = s.seats ∧
    (updLamp l f s).basketUnit = s.basketUnit ∧ (updLamp l f s).lines = s.lines ∧ (updLamp l f s).print = s.print ∧
    (updLamp l f s).voucherUnit = s.voucherUnit ∧ (updLamp l f s).salesUnit = s.salesUnit := by
  simp only [updLamp]; (repeat' split) <;> simp

@[simp] theorem retakeLamp_keeps (l : LampId) :
    (retakeLamp l s).pending = s.pending ∧ (retakeLamp l s).wire = s.wire ∧ (retakeLamp l s).waiting = s.waiting ∧
    (retakeLamp l s).mem = s.mem ∧ (retakeLamp l s).config = s.config ∧ (retakeLamp l s).stats = s.stats ∧
    (retakeLamp l s).board = s.board ∧ (retakeLamp l s).showUnit = s.showUnit ∧ (retakeLamp l s).seats = s.seats ∧
    (retakeLamp l s).basketUnit = s.basketUnit ∧ (retakeLamp l s).lines = s.lines ∧ (retakeLamp l s).print = s.print ∧
    (retakeLamp l s).voucherUnit = s.voucherUnit ∧ (retakeLamp l s).salesUnit = s.salesUnit := by
  simp [retakeLamp]

@[simp] theorem retakeWhere_keeps (p : State → LampId → Bool) (l : List LampId) :
    (retakeWhere p l s).pending = s.pending ∧ (retakeWhere p l s).wire = s.wire ∧
    (retakeWhere p l s).waiting = s.waiting ∧ (retakeWhere p l s).mem = s.mem ∧ (retakeWhere p l s).config = s.config ∧
    (retakeWhere p l s).stats = s.stats ∧ (retakeWhere p l s).board = s.board ∧
    (retakeWhere p l s).showUnit = s.showUnit ∧ (retakeWhere p l s).seats = s.seats ∧
    (retakeWhere p l s).basketUnit = s.basketUnit ∧ (retakeWhere p l s).lines = s.lines ∧
    (retakeWhere p l s).print = s.print ∧ (retakeWhere p l s).voucherUnit = s.voucherUnit ∧
    (retakeWhere p l s).salesUnit = s.salesUnit := by
  unfold retakeWhere; induction l generalizing s with
  | nil => simp
  | cons x r ih => simp only [List.foldl_cons]; split <;> simp [ih]

@[simp] theorem overrideExpires_keeps (l : LampId) :
    (overrideExpires l s).pending = s.pending ∧ (overrideExpires l s).wire = s.wire ∧
    (overrideExpires l s).waiting = s.waiting ∧ (overrideExpires l s).mem = s.mem ∧
    (overrideExpires l s).config = s.config ∧ (overrideExpires l s).stats = s.stats ∧
    (overrideExpires l s).board = s.board ∧ (overrideExpires l s).showUnit = s.showUnit ∧
    (overrideExpires l s).seats = s.seats ∧ (overrideExpires l s).basketUnit = s.basketUnit ∧
    (overrideExpires l s).lines = s.lines ∧ (overrideExpires l s).print = s.print ∧
    (overrideExpires l s).voucherUnit = s.voucherUnit ∧ (overrideExpires l s).salesUnit = s.salesUnit := by
  simp only [overrideExpires]; (repeat' split) <;> simp

@[simp] theorem patternStepOp_keeps (n : Nat) :
    (patternStepOp n s).pending = s.pending ∧ (patternStepOp n s).wire = s.wire ∧
    (patternStepOp n s).waiting = s.waiting ∧ (patternStepOp n s).mem = s.mem ∧ (patternStepOp n s).config = s.config ∧
    (patternStepOp n s).stats = s.stats ∧ (patternStepOp n s).board = s.board ∧
    (patternStepOp n s).showUnit = s.showUnit ∧ (patternStepOp n s).seats = s.seats ∧
    (patternStepOp n s).basketUnit = s.basketUnit ∧ (patternStepOp n s).lines = s.lines ∧
    (patternStepOp n s).print = s.print ∧ (patternStepOp n s).voucherUnit = s.voucherUnit ∧
    (patternStepOp n s).salesUnit = s.salesUnit := by
  simp only [patternStepOp]; (repeat' split) <;> simp

@[simp] theorem showAnswer_keeps (m : Nat) (a : Showing) :
    (showAnswer m a s).pending = s.pending ∧ (showAnswer m a s).wire = s.wire ∧ (showAnswer m a s).waiting = s.waiting ∧
    (showAnswer m a s).mem = s.mem ∧ (showAnswer m a s).config = s.config ∧ (showAnswer m a s).stats = s.stats ∧
    (showAnswer m a s).board = s.board ∧ (showAnswer m a s).showUnit = s.showUnit ∧ (showAnswer m a s).seats = s.seats ∧
    (showAnswer m a s).basketUnit = s.basketUnit ∧ (showAnswer m a s).lines = s.lines ∧
    (showAnswer m a s).print = s.print ∧ (showAnswer m a s).voucherUnit = s.voucherUnit ∧
    (showAnswer m a s).salesUnit = s.salesUnit := by
  simp [showAnswer]

@[simp] theorem answerExpires_keeps (m : Nat) :
    (answerExpires m s).pending = s.pending ∧ (answerExpires m s).wire = s.wire ∧
    (answerExpires m s).waiting = s.waiting ∧ (answerExpires m s).mem = s.mem ∧ (answerExpires m s).config = s.config ∧
    (answerExpires m s).stats = s.stats ∧ (answerExpires m s).board = s.board ∧
    (answerExpires m s).showUnit = s.showUnit ∧ (answerExpires m s).seats = s.seats ∧
    (answerExpires m s).basketUnit = s.basketUnit ∧ (answerExpires m s).lines = s.lines ∧
    (answerExpires m s).print = s.print ∧ (answerExpires m s).voucherUnit = s.voucherUnit ∧
    (answerExpires m s).salesUnit = s.salesUnit := by
  simp only [answerExpires]; (repeat' split) <;> simp

@[simp] theorem stationShare_keeps (k : Nat) :
    (stationShare k s).pending = s.pending ∧ (stationShare k s).waiting = s.waiting ∧ (stationShare k s).mem = s.mem ∧
    (stationShare k s).config = s.config ∧ (stationShare k s).stats = s.stats ∧ (stationShare k s).showUnit = s.showUnit ∧
    (stationShare k s).seats = s.seats ∧ (stationShare k s).basketUnit = s.basketUnit ∧
    (stationShare k s).lines = s.lines ∧ (stationShare k s).print = s.print ∧
    (stationShare k s).voucherUnit = s.voucherUnit ∧ (stationShare k s).salesUnit = s.salesUnit := by
  simp [stationShare]

@[simp] theorem writeCell_keeps (c : Nat) (st : SeatState) (o : Option Nat) :
    (writeCell c st o s).pending = s.pending ∧ (writeCell c st o s).wire = s.wire ∧
    (writeCell c st o s).waiting = s.waiting ∧ (writeCell c st o s).mem = s.mem ∧ (writeCell c st o s).config = s.config ∧
    (writeCell c st o s).stats = s.stats ∧ (writeCell c st o s).board = s.board ∧
    (writeCell c st o s).showUnit = s.showUnit ∧ (writeCell c st o s).basketUnit = s.basketUnit ∧
    (writeCell c st o s).lines = s.lines ∧ (writeCell c st o s).print = s.print ∧
    (writeCell c st o s).voucherUnit = s.voucherUnit ∧ (writeCell c st o s).salesUnit = s.salesUnit ∧
    (writeCell c st o s).station = s.station := by
  simp [writeCell]

@[simp] theorem writeCells_keeps (c : List Nat) (st : SeatState) (o : Option Nat) :
    (writeCells c st o s).pending = s.pending ∧ (writeCells c st o s).wire = s.wire ∧
    (writeCells c st o s).waiting = s.waiting ∧ (writeCells c st o s).mem = s.mem ∧
    (writeCells c st o s).config = s.config ∧ (writeCells c st o s).stats = s.stats ∧
    (writeCells c st o s).board = s.board ∧ (writeCells c st o s).showUnit = s.showUnit ∧
    (writeCells c st o s).basketUnit = s.basketUnit ∧ (writeCells c st o s).lines = s.lines ∧
    (writeCells c st o s).print = s.print ∧ (writeCells c st o s).voucherUnit = s.voucherUnit ∧
    (writeCells c st o s).salesUnit = s.salesUnit ∧ (writeCells c st o s).station = s.station := by
  simp [writeCells]

@[simp] theorem cellEvent_keeps (n : Nat) (c : List Nat) (st : SeatState) (o : Option Nat) (f : ShowRec → ShowRec) :
    (cellEvent n c st o f s).pending = s.pending ∧ (cellEvent n c st o f s).wire = s.wire ∧
    (cellEvent n c st o f s).waiting = s.waiting ∧ (cellEvent n c st o f s).mem = s.mem ∧
    (cellEvent n c st o f s).config = s.config ∧ (cellEvent n c st o f s).stats = s.stats ∧
    (cellEvent n c st o f s).board = s.board ∧ (cellEvent n c st o f s).basketUnit = s.basketUnit ∧
    (cellEvent n c st o f s).lines = s.lines ∧ (cellEvent n c st o f s).print = s.print ∧
    (cellEvent n c st o f s).voucherUnit = s.voucherUnit ∧ (cellEvent n c st o f s).salesUnit = s.salesUnit ∧
    (cellEvent n c st o f s).station = s.station := by
  simp only [cellEvent]; (repeat' split) <;> simp

@[simp] theorem seatEvent_keeps (n : Nat) (c : List Nat) (st : SeatState) (o : Option Nat) (f : ShowRec → ShowRec) :
    (seatEvent n c st o f s).pending = s.pending ∧ (seatEvent n c st o f s).wire = s.wire ∧
    (seatEvent n c st o f s).waiting = s.waiting ∧ (seatEvent n c st o f s).mem = s.mem ∧
    (seatEvent n c st o f s).config = s.config ∧ (seatEvent n c st o f s).stats = s.stats ∧
    (seatEvent n c st o f s).board = s.board ∧ (seatEvent n c st o f s).basketUnit = s.basketUnit ∧
    (seatEvent n c st o f s).lines = s.lines ∧ (seatEvent n c st o f s).print = s.print ∧
    (seatEvent n c st o f s).voucherUnit = s.voucherUnit ∧ (seatEvent n c st o f s).salesUnit = s.salesUnit ∧
    (seatEvent n c st o f s).station = s.station := by
  simp [seatEvent]

@[simp] theorem holdCells_keeps (n b : Nat) (c : List Nat) :
    (holdCells n b c s).pending = s.pending ∧ (holdCells n b c s).wire = s.wire ∧
    (holdCells n b c s).waiting = s.waiting ∧ (holdCells n b c s).mem = s.mem ∧ (holdCells n b c s).config = s.config ∧
    (holdCells n b c s).stats = s.stats ∧ (holdCells n b c s).board = s.board ∧
    (holdCells n b c s).basketUnit = s.basketUnit ∧ (holdCells n b c s).lines = s.lines ∧
    (holdCells n b c s).print = s.print ∧ (holdCells n b c s).voucherUnit = s.voucherUnit ∧
    (holdCells n b c s).salesUnit = s.salesUnit ∧ (holdCells n b c s).station = s.station := by
  simp [holdCells]

@[simp] theorem releaseCells_keeps (n : Nat) (c : List Nat) :
    (releaseCells n c s).pending = s.pending ∧ (releaseCells n c s).wire = s.wire ∧
    (releaseCells n c s).waiting = s.waiting ∧ (releaseCells n c s).mem = s.mem ∧ (releaseCells n c s).config = s.config ∧
    (releaseCells n c s).stats = s.stats ∧ (releaseCells n c s).board = s.board ∧
    (releaseCells n c s).basketUnit = s.basketUnit ∧ (releaseCells n c s).lines = s.lines ∧
    (releaseCells n c s).print = s.print ∧ (releaseCells n c s).voucherUnit = s.voucherUnit ∧
    (releaseCells n c s).salesUnit = s.salesUnit ∧ (releaseCells n c s).station = s.station := by
  simp [releaseCells]

@[simp] theorem sellCells_keeps (n b : Nat) (c : List Nat) :
    (sellCells n b c s).pending = s.pending ∧ (sellCells n b c s).wire = s.wire ∧
    (sellCells n b c s).waiting = s.waiting ∧ (sellCells n b c s).mem = s.mem ∧ (sellCells n b c s).config = s.config ∧
    (sellCells n b c s).stats = s.stats ∧ (sellCells n b c s).board = s.board ∧
    (sellCells n b c s).basketUnit = s.basketUnit ∧ (sellCells n b c s).lines = s.lines ∧
    (sellCells n b c s).print = s.print ∧ (sellCells n b c s).voucherUnit = s.voucherUnit ∧
    (sellCells n b c s).salesUnit = s.salesUnit ∧ (sellCells n b c s).station = s.station := by
  simp [sellCells]

@[simp] theorem freeSold_keeps (n b : Nat) :
    (freeSold n b s).1.pending = s.pending ∧ (freeSold n b s).1.wire = s.wire ∧ (freeSold n b s).1.waiting = s.waiting ∧
    (freeSold n b s).1.mem = s.mem ∧ (freeSold n b s).1.config = s.config ∧ (freeSold n b s).1.stats = s.stats ∧
    (freeSold n b s).1.board = s.board ∧ (freeSold n b s).1.basketUnit = s.basketUnit ∧
    (freeSold n b s).1.lines = s.lines ∧ (freeSold n b s).1.print = s.print ∧
    (freeSold n b s).1.voucherUnit = s.voucherUnit ∧ (freeSold n b s).1.salesUnit = s.salesUnit ∧
    (freeSold n b s).1.station = s.station := by
  simp [freeSold]

@[simp] theorem clearRange_keeps (n : Nat) :
    (clearRange n s).pending = s.pending ∧ (clearRange n s).wire = s.wire ∧ (clearRange n s).waiting = s.waiting ∧
    (clearRange n s).mem = s.mem ∧ (clearRange n s).config = s.config ∧ (clearRange n s).stats = s.stats ∧
    (clearRange n s).board = s.board ∧ (clearRange n s).basketUnit = s.basketUnit ∧ (clearRange n s).lines = s.lines ∧
    (clearRange n s).print = s.print ∧ (clearRange n s).voucherUnit = s.voucherUnit ∧
    (clearRange n s).salesUnit = s.salesUnit ∧ (clearRange n s).station = s.station := by
  simp [clearRange]

@[simp] theorem loadCells_keeps (n : Nat) (l : List Byte) :
    (loadCells n l s).pending = s.pending ∧ (loadCells n l s).wire = s.wire ∧ (loadCells n l s).waiting = s.waiting ∧
    (loadCells n l s).mem = s.mem ∧ (loadCells n l s).config = s.config ∧ (loadCells n l s).stats = s.stats ∧
    (loadCells n l s).board = s.board ∧ (loadCells n l s).showUnit = s.showUnit ∧
    (loadCells n l s).basketUnit = s.basketUnit ∧ (loadCells n l s).lines = s.lines ∧ (loadCells n l s).print = s.print ∧
    (loadCells n l s).voucherUnit = s.voucherUnit ∧ (loadCells n l s).salesUnit = s.salesUnit ∧
    (loadCells n l s).station = s.station := by
  induction l generalizing n s with
  | nil => simp [loadCells]
  | cons b r ih => simp [loadCells, ih]

@[simp] theorem updVoucher_keeps (i : Nat) (f : Voucher → Voucher) :
    (updVoucher i f s).pending = s.pending ∧ (updVoucher i f s).wire = s.wire ∧ (updVoucher i f s).waiting = s.waiting ∧
    (updVoucher i f s).mem = s.mem ∧ (updVoucher i f s).config = s.config ∧ (updVoucher i f s).stats = s.stats ∧
    (updVoucher i f s).board = s.board ∧ (updVoucher i f s).showUnit = s.showUnit ∧ (updVoucher i f s).seats = s.seats ∧
    (updVoucher i f s).basketUnit = s.basketUnit ∧ (updVoucher i f s).lines = s.lines ∧
    (updVoucher i f s).print = s.print ∧ (updVoucher i f s).salesUnit = s.salesUnit ∧
    (updVoucher i f s).station = s.station := by
  simp [updVoucher]

@[simp] theorem unlinkVoucher_keeps (i : Nat) :
    (unlinkVoucher i s).pending = s.pending ∧ (unlinkVoucher i s).wire = s.wire ∧
    (unlinkVoucher i s).waiting = s.waiting ∧ (unlinkVoucher i s).mem = s.mem ∧ (unlinkVoucher i s).config = s.config ∧
    (unlinkVoucher i s).stats = s.stats ∧ (unlinkVoucher i s).board = s.board ∧
    (unlinkVoucher i s).showUnit = s.showUnit ∧ (unlinkVoucher i s).seats = s.seats ∧
    (unlinkVoucher i s).basketUnit = s.basketUnit ∧ (unlinkVoucher i s).lines = s.lines ∧
    (unlinkVoucher i s).print = s.print ∧ (unlinkVoucher i s).salesUnit = s.salesUnit ∧
    (unlinkVoucher i s).station = s.station := by
  simp only [unlinkVoucher]; (repeat' split) <;> simp

@[simp] theorem removeVouchers_keeps (l : List Nat) :
    (removeVouchers l s).pending = s.pending ∧ (removeVouchers l s).wire = s.wire ∧
    (removeVouchers l s).waiting = s.waiting ∧ (removeVouchers l s).mem = s.mem ∧ (removeVouchers l s).config = s.config ∧
    (removeVouchers l s).stats = s.stats ∧ (removeVouchers l s).board = s.board ∧
    (removeVouchers l s).showUnit = s.showUnit ∧ (removeVouchers l s).seats = s.seats ∧
    (removeVouchers l s).basketUnit = s.basketUnit ∧ (removeVouchers l s).lines = s.lines ∧
    (removeVouchers l s).print = s.print ∧ (removeVouchers l s).salesUnit = s.salesUnit ∧
    (removeVouchers l s).station = s.station := by
  simp only [removeVouchers]; (repeat' split) <;> simp

@[simp] theorem activateVouchers_keeps (i : Nat) (l : List Nat) :
    (activateVouchers i l s).pending = s.pending ∧ (activateVouchers i l s).wire = s.wire ∧
    (activateVouchers i l s).waiting = s.waiting ∧ (activateVouchers i l s).mem = s.mem ∧
    (activateVouchers i l s).config = s.config ∧ (activateVouchers i l s).stats = s.stats ∧
    (activateVouchers i l s).board = s.board ∧ (activateVouchers i l s).showUnit = s.showUnit ∧
    (activateVouchers i l s).seats = s.seats ∧ (activateVouchers i l s).basketUnit = s.basketUnit ∧
    (activateVouchers i l s).lines = s.lines ∧ (activateVouchers i l s).print = s.print ∧
    (activateVouchers i l s).salesUnit = s.salesUnit ∧ (activateVouchers i l s).station = s.station := by
  simp [activateVouchers]

@[simp] theorem takeDay_keeps (d : Nat × Nat) :
    (takeDay d s).pending = s.pending ∧ (takeDay d s).wire = s.wire ∧ (takeDay d s).waiting = s.waiting ∧
    (takeDay d s).mem = s.mem ∧ (takeDay d s).config = s.config ∧ (takeDay d s).stats = s.stats ∧
    (takeDay d s).board = s.board ∧ (takeDay d s).showUnit = s.showUnit ∧ (takeDay d s).seats = s.seats ∧
    (takeDay d s).basketUnit = s.basketUnit ∧ (takeDay d s).lines = s.lines ∧ (takeDay d s).print = s.print ∧
    (takeDay d s).salesUnit = s.salesUnit ∧ (takeDay d s).station = s.station := by
  simp only [takeDay]; (repeat' split) <;> simp

@[simp] theorem dayChangeOp_keeps :
    (dayChangeOp s).pending = s.pending ∧ (dayChangeOp s).wire = s.wire ∧ (dayChangeOp s).waiting = s.waiting ∧
    (dayChangeOp s).mem = s.mem ∧ (dayChangeOp s).config = s.config ∧ (dayChangeOp s).stats = s.stats ∧
    (dayChangeOp s).board = s.board ∧ (dayChangeOp s).seats = s.seats ∧ (dayChangeOp s).basketUnit = s.basketUnit ∧
    (dayChangeOp s).lines = s.lines ∧ (dayChangeOp s).print = s.print ∧ (dayChangeOp s).salesUnit = s.salesUnit ∧
    (dayChangeOp s).station = s.station := by
  simp only [dayChangeOp]; (repeat' split) <;> simp

@[simp] theorem refundVouchers_keeps (i : Nat) :
    (refundVouchers i s).1.pending = s.pending ∧ (refundVouchers i s).1.wire = s.wire ∧
    (refundVouchers i s).1.waiting = s.waiting ∧ (refundVouchers i s).1.mem = s.mem ∧
    (refundVouchers i s).1.config = s.config ∧ (refundVouchers i s).1.stats = s.stats ∧
    (refundVouchers i s).1.board = s.board ∧ (refundVouchers i s).1.showUnit = s.showUnit ∧
    (refundVouchers i s).1.seats = s.seats ∧ (refundVouchers i s).1.basketUnit = s.basketUnit ∧
    (refundVouchers i s).1.lines = s.lines ∧ (refundVouchers i s).1.print = s.print ∧
    (refundVouchers i s).1.salesUnit = s.salesUnit ∧ (refundVouchers i s).1.station = s.station := by
  simp [refundVouchers]

@[simp] theorem issueVoucher_keeps (k b n : Nat) :
    (issueVoucher k b n s).1.pending = s.pending ∧ (issueVoucher k b n s).1.wire = s.wire ∧
    (issueVoucher k b n s).1.waiting = s.waiting ∧ (issueVoucher k b n s).1.mem = s.mem ∧
    (issueVoucher k b n s).1.config = s.config ∧ (issueVoucher k b n s).1.stats = s.stats ∧
    (issueVoucher k b n s).1.board = s.board ∧ (issueVoucher k b n s).1.showUnit = s.showUnit ∧
    (issueVoucher k b n s).1.seats = s.seats ∧ (issueVoucher k b n s).1.basketUnit = s.basketUnit ∧
    (issueVoucher k b n s).1.lines = s.lines ∧ (issueVoucher k b n s).1.print = s.print ∧
    (issueVoucher k b n s).1.salesUnit = s.salesUnit ∧ (issueVoucher k b n s).1.station = s.station := by
  simp only [issueVoucher]; (repeat' split) <;> simp

@[simp] theorem counterAnswer_keeps (m : Nat) (c : List Byte) (a : Showing) (k : Option Nat) (f : Option (Nat × Instant)) :
    (counterAnswer m c a k f s).pending = s.pending ∧ (counterAnswer m c a k f s).waiting = s.waiting ∧
    (counterAnswer m c a k f s).mem = s.mem ∧ (counterAnswer m c a k f s).config = s.config ∧
    (counterAnswer m c a k f s).showUnit = s.showUnit ∧ (counterAnswer m c a k f s).seats = s.seats ∧
    (counterAnswer m c a k f s).basketUnit = s.basketUnit ∧ (counterAnswer m c a k f s).lines = s.lines ∧
    (counterAnswer m c a k f s).print = s.print ∧ (counterAnswer m c a k f s).voucherUnit = s.voucherUnit ∧
    (counterAnswer m c a k f s).salesUnit = s.salesUnit := by
  simp only [counterAnswer]; (repeat' split) <;> simp

@[simp] theorem validateCode_keeps (m : Nat) (c : List Byte) :
    (validateCode m c s).pending = s.pending ∧ (validateCode m c s).waiting = s.waiting ∧
    (validateCode m c s).mem = s.mem ∧ (validateCode m c s).config = s.config ∧
    (validateCode m c s).showUnit = s.showUnit ∧ (validateCode m c s).seats = s.seats ∧
    (validateCode m c s).basketUnit = s.basketUnit ∧ (validateCode m c s).lines = s.lines ∧
    (validateCode m c s).print = s.print ∧ (validateCode m c s).salesUnit = s.salesUnit := by
  simp only [validateCode]; (repeat' split) <;> simp

@[simp] theorem validationOp_keeps (m : Nat) :
    (validationOp m s).pending = s.pending ∧ (validationOp m s).waiting = s.waiting ∧ (validationOp m s).mem = s.mem ∧
    (validationOp m s).config = s.config ∧ (validationOp m s).showUnit = s.showUnit ∧ (validationOp m s).seats = s.seats ∧
    (validationOp m s).basketUnit = s.basketUnit ∧ (validationOp m s).lines = s.lines ∧
    (validationOp m s).print = s.print ∧ (validationOp m s).salesUnit = s.salesUnit := by
  simp only [validationOp]; (repeat' split) <;> simp

@[simp] theorem counterByteOp_keeps (m : Nat) (b : Byte) :
    (counterByteOp m b s).pending = s.pending ∧ (counterByteOp m b s).waiting = s.waiting ∧
    (counterByteOp m b s).mem = s.mem ∧ (counterByteOp m b s).config = s.config ∧
    (counterByteOp m b s).showUnit = s.showUnit ∧ (counterByteOp m b s).seats = s.seats ∧
    (counterByteOp m b s).basketUnit = s.basketUnit ∧ (counterByteOp m b s).lines = s.lines ∧
    (counterByteOp m b s).print = s.print ∧ (counterByteOp m b s).salesUnit = s.salesUnit := by
  simp only [counterByteOp]; (repeat' split) <;> simp

@[simp] theorem counterFaultOp_keeps (m : Nat) (b : ByteFault) :
    (counterFaultOp m b s).pending = s.pending ∧ (counterFaultOp m b s).wire = s.wire ∧
    (counterFaultOp m b s).waiting = s.waiting ∧ (counterFaultOp m b s).mem = s.mem ∧
    (counterFaultOp m b s).config = s.config ∧ (counterFaultOp m b s).board = s.board ∧
    (counterFaultOp m b s).showUnit = s.showUnit ∧ (counterFaultOp m b s).seats = s.seats ∧
    (counterFaultOp m b s).basketUnit = s.basketUnit ∧ (counterFaultOp m b s).lines = s.lines ∧
    (counterFaultOp m b s).print = s.print ∧ (counterFaultOp m b s).salesUnit = s.salesUnit ∧
    (counterFaultOp m b s).station = s.station := by
  simp only [counterFaultOp]; (repeat' split) <;> simp

@[simp] theorem counterGapOp_keeps (m : Nat) :
    (counterGapOp m s).pending = s.pending ∧ (counterGapOp m s).wire = s.wire ∧ (counterGapOp m s).waiting = s.waiting ∧
    (counterGapOp m s).mem = s.mem ∧ (counterGapOp m s).config = s.config ∧ (counterGapOp m s).stats = s.stats ∧
    (counterGapOp m s).board = s.board ∧ (counterGapOp m s).showUnit = s.showUnit ∧ (counterGapOp m s).seats = s.seats ∧
    (counterGapOp m s).basketUnit = s.basketUnit ∧ (counterGapOp m s).lines = s.lines ∧
    (counterGapOp m s).print = s.print ∧ (counterGapOp m s).salesUnit = s.salesUnit ∧
    (counterGapOp m s).station = s.station := by
  simp [counterGapOp]

@[simp] theorem removeSales_keeps (n : Nat) :
    (removeSales n s).1.pending = s.pending ∧ (removeSales n s).1.wire = s.wire ∧
    (removeSales n s).1.waiting = s.waiting ∧ (removeSales n s).1.mem = s.mem ∧ (removeSales n s).1.config = s.config ∧
    (removeSales n s).1.stats = s.stats ∧ (removeSales n s).1.board = s.board ∧
    (removeSales n s).1.showUnit = s.showUnit ∧ (removeSales n s).1.seats = s.seats ∧
    (removeSales n s).1.basketUnit = s.basketUnit ∧ (removeSales n s).1.lines = s.lines ∧
    (removeSales n s).1.print = s.print ∧ (removeSales n s).1.voucherUnit = s.voucherUnit ∧
    (removeSales n s).1.station = s.station := by
  simp [removeSales]

@[simp] theorem updSale_keeps (x : Nat) (f : Sale → Sale) :
    (updSale x f s).pending = s.pending ∧ (updSale x f s).wire = s.wire ∧ (updSale x f s).waiting = s.waiting ∧
    (updSale x f s).mem = s.mem ∧ (updSale x f s).config = s.config ∧ (updSale x f s).stats = s.stats ∧
    (updSale x f s).board = s.board ∧ (updSale x f s).showUnit = s.showUnit ∧ (updSale x f s).seats = s.seats ∧
    (updSale x f s).basketUnit = s.basketUnit ∧ (updSale x f s).lines = s.lines ∧ (updSale x f s).print = s.print ∧
    (updSale x f s).voucherUnit = s.voucherUnit ∧ (updSale x f s).station = s.station := by
  simp only [updSale]; (repeat' split) <;> simp

@[simp] theorem reservePlace_keeps :
    (reservePlace s).pending = s.pending ∧ (reservePlace s).wire = s.wire ∧ (reservePlace s).waiting = s.waiting ∧
    (reservePlace s).mem = s.mem ∧ (reservePlace s).config = s.config ∧ (reservePlace s).stats = s.stats ∧
    (reservePlace s).board = s.board ∧ (reservePlace s).showUnit = s.showUnit ∧ (reservePlace s).seats = s.seats ∧
    (reservePlace s).basketUnit = s.basketUnit ∧ (reservePlace s).lines = s.lines ∧ (reservePlace s).print = s.print ∧
    (reservePlace s).voucherUnit = s.voucherUnit ∧ (reservePlace s).station = s.station := by
  simp [reservePlace]

@[simp] theorem giveBackPlace_keeps :
    (giveBackPlace s).pending = s.pending ∧ (giveBackPlace s).wire = s.wire ∧ (giveBackPlace s).waiting = s.waiting ∧
    (giveBackPlace s).mem = s.mem ∧ (giveBackPlace s).config = s.config ∧ (giveBackPlace s).stats = s.stats ∧
    (giveBackPlace s).board = s.board ∧ (giveBackPlace s).showUnit = s.showUnit ∧ (giveBackPlace s).seats = s.seats ∧
    (giveBackPlace s).basketUnit = s.basketUnit ∧ (giveBackPlace s).lines = s.lines ∧ (giveBackPlace s).print = s.print ∧
    (giveBackPlace s).voucherUnit = s.voucherUnit ∧ (giveBackPlace s).station = s.station := by
  simp [giveBackPlace]

@[simp] theorem createSale_keeps (c : Basket) (m : Method) :
    (createSale c m s).pending = s.pending ∧ (createSale c m s).wire = s.wire ∧ (createSale c m s).waiting = s.waiting ∧
    (createSale c m s).mem = s.mem ∧ (createSale c m s).config = s.config ∧ (createSale c m s).stats = s.stats ∧
    (createSale c m s).board = s.board ∧ (createSale c m s).showUnit = s.showUnit ∧ (createSale c m s).seats = s.seats ∧
    (createSale c m s).basketUnit = s.basketUnit ∧ (createSale c m s).lines = s.lines ∧
    (createSale c m s).print = s.print ∧ (createSale c m s).voucherUnit = s.voucherUnit ∧
    (createSale c m s).station = s.station := by
  simp [createSale]

@[simp] theorem finishSale_keeps (a k n v : Nat) :
    (finishSale a k n v s).pending = s.pending ∧ (finishSale a k n v s).wire = s.wire ∧
    (finishSale a k n v s).waiting = s.waiting ∧ (finishSale a k n v s).mem = s.mem ∧
    (finishSale a k n v s).config = s.config ∧ (finishSale a k n v s).board = s.board ∧
    (finishSale a k n v s).showUnit = s.showUnit ∧ (finishSale a k n v s).seats = s.seats ∧
    (finishSale a k n v s).basketUnit = s.basketUnit ∧ (finishSale a k n v s).lines = s.lines ∧
    (finishSale a k n v s).print = s.print ∧ (finishSale a k n v s).voucherUnit = s.voucherUnit ∧
    (finishSale a k n v s).station = s.station := by
  simp [finishSale]

@[simp] theorem raiseReprints_keeps (a n : Nat) :
    (raiseReprints a n s).pending = s.pending ∧ (raiseReprints a n s).wire = s.wire ∧
    (raiseReprints a n s).waiting = s.waiting ∧ (raiseReprints a n s).mem = s.mem ∧
    (raiseReprints a n s).config = s.config ∧ (raiseReprints a n s).stats = s.stats ∧
    (raiseReprints a n s).board = s.board ∧ (raiseReprints a n s).showUnit = s.showUnit ∧
    (raiseReprints a n s).seats = s.seats ∧ (raiseReprints a n s).basketUnit = s.basketUnit ∧
    (raiseReprints a n s).lines = s.lines ∧ (raiseReprints a n s).print = s.print ∧
    (raiseReprints a n s).voucherUnit = s.voucherUnit ∧ (raiseReprints a n s).station = s.station := by
  simp only [raiseReprints]; (repeat' split) <;> simp

@[simp] theorem updRecord_keeps (n i : Nat) (f : PayRecord → PayRecord) :
    (updRecord n i f s).pending = s.pending ∧ (updRecord n i f s).wire = s.wire ∧
    (updRecord n i f s).waiting = s.waiting ∧ (updRecord n i f s).mem = s.mem ∧ (updRecord n i f s).config = s.config ∧
    (updRecord n i f s).stats = s.stats ∧ (updRecord n i f s).board = s.board ∧
    (updRecord n i f s).showUnit = s.showUnit ∧ (updRecord n i f s).seats = s.seats ∧
    (updRecord n i f s).basketUnit = s.basketUnit ∧ (updRecord n i f s).print = s.print ∧
    (updRecord n i f s).voucherUnit = s.voucherUnit ∧ (updRecord n i f s).salesUnit = s.salesUnit := by
  simp [updRecord]

@[simp] theorem sendFrame_keeps (n : Nat) (f : Frame) :
    (sendFrame n f s).pending = s.pending ∧ (sendFrame n f s).waiting = s.waiting ∧ (sendFrame n f s).mem = s.mem ∧
    (sendFrame n f s).config = s.config ∧ (sendFrame n f s).stats = s.stats ∧ (sendFrame n f s).board = s.board ∧
    (sendFrame n f s).showUnit = s.showUnit ∧ (sendFrame n f s).seats = s.seats ∧
    (sendFrame n f s).basketUnit = s.basketUnit ∧ (sendFrame n f s).print = s.print ∧
    (sendFrame n f s).voucherUnit = s.voucherUnit ∧ (sendFrame n f s).salesUnit = s.salesUnit := by
  simp [sendFrame]

@[simp] theorem sendPing_keeps (n : Nat) :
    (sendPing n s).pending = s.pending ∧ (sendPing n s).waiting = s.waiting ∧ (sendPing n s).mem = s.mem ∧
    (sendPing n s).config = s.config ∧ (sendPing n s).stats = s.stats ∧ (sendPing n s).board = s.board ∧
    (sendPing n s).showUnit = s.showUnit ∧ (sendPing n s).seats = s.seats ∧ (sendPing n s).basketUnit = s.basketUnit ∧
    (sendPing n s).lines = s.lines ∧ (sendPing n s).print = s.print ∧ (sendPing n s).voucherUnit = s.voucherUnit ∧
    (sendPing n s).salesUnit = s.salesUnit ∧ (sendPing n s).station = s.station := by
  simp [sendPing]

@[simp] theorem strayFrame_keeps (n : Nat) :
    (strayFrame n s).pending = s.pending ∧ (strayFrame n s).wire = s.wire ∧ (strayFrame n s).waiting = s.waiting ∧
    (strayFrame n s).mem = s.mem ∧ (strayFrame n s).config = s.config ∧ (strayFrame n s).board = s.board ∧
    (strayFrame n s).showUnit = s.showUnit ∧ (strayFrame n s).seats = s.seats ∧
    (strayFrame n s).basketUnit = s.basketUnit ∧ (strayFrame n s).lines = s.lines ∧ (strayFrame n s).print = s.print ∧
    (strayFrame n s).voucherUnit = s.voucherUnit ∧ (strayFrame n s).salesUnit = s.salesUnit ∧
    (strayFrame n s).station = s.station := by
  simp [strayFrame]

@[simp] theorem countOutcome_keeps (n : Nat) (o : PayOutcome) :
    (countOutcome n o s).pending = s.pending ∧ (countOutcome n o s).wire = s.wire ∧
    (countOutcome n o s).waiting = s.waiting ∧ (countOutcome n o s).mem = s.mem ∧ (countOutcome n o s).config = s.config ∧
    (countOutcome n o s).board = s.board ∧ (countOutcome n o s).showUnit = s.showUnit ∧
    (countOutcome n o s).seats = s.seats ∧ (countOutcome n o s).basketUnit = s.basketUnit ∧
    (countOutcome n o s).lines = s.lines ∧ (countOutcome n o s).print = s.print ∧
    (countOutcome n o s).voucherUnit = s.voucherUnit ∧ (countOutcome n o s).salesUnit = s.salesUnit ∧
    (countOutcome n o s).station = s.station := by
  simp only [countOutcome]; (repeat' split) <;> simp

@[simp] theorem closeRecord_keeps (n i : Nat) (o : PayOutcome) (c : Option (List Byte)) (t : Option Nat) (d : LineState) :
    (closeRecord n i o c t d s).pending = s.pending ∧ (closeRecord n i o c t d s).waiting = s.waiting ∧
    (closeRecord n i o c t d s).config = s.config ∧ (closeRecord n i o c t d s).showUnit = s.showUnit ∧
    (closeRecord n i o c t d s).seats = s.seats ∧ (closeRecord n i o c t d s).print = s.print ∧
    (closeRecord n i o c t d s).voucherUnit = s.voucherUnit ∧ (closeRecord n i o c t d s).salesUnit = s.salesUnit := by
  simp only [closeRecord]; (repeat' split) <;> simp

@[simp] theorem endReverse_keeps (n : Nat) (c : ResultCode) :
    (endReverse n c s).pending = s.pending ∧ (endReverse n c s).waiting = s.waiting ∧
    (endReverse n c s).config = s.config ∧ (endReverse n c s).stats = s.stats ∧ (endReverse n c s).showUnit = s.showUnit ∧
    (endReverse n c s).seats = s.seats ∧ (endReverse n c s).basketUnit = s.basketUnit ∧
    (endReverse n c s).print = s.print ∧ (endReverse n c s).voucherUnit = s.voucherUnit ∧
    (endReverse n c s).salesUnit = s.salesUnit := by
  simp only [endReverse]; (repeat' split) <;> simp

@[simp] theorem enterFault_keeps (n : Nat) (c : ResultCode) :
    (enterFault n c s).pending = s.pending ∧ (enterFault n c s).waiting = s.waiting ∧
    (enterFault n c s).config = s.config ∧ (enterFault n c s).showUnit = s.showUnit ∧ (enterFault n c s).seats = s.seats ∧
    (enterFault n c s).print = s.print ∧ (enterFault n c s).voucherUnit = s.voucherUnit ∧
    (enterFault n c s).salesUnit = s.salesUnit := by
  simp only [enterFault]; (repeat' split) <;> simp

@[simp] theorem resend_keeps (n : Nat) :
    (resend n s).pending = s.pending ∧ (resend n s).waiting = s.waiting ∧ (resend n s).config = s.config ∧
    (resend n s).showUnit = s.showUnit ∧ (resend n s).seats = s.seats ∧ (resend n s).print = s.print ∧
    (resend n s).voucherUnit = s.voucherUnit ∧ (resend n s).salesUnit = s.salesUnit := by
  simp only [resend]; (repeat' split) <;> simp

@[simp] theorem startAbort_keeps (n i : Nat) (c : AbortCause) :
    (startAbort n i c s).pending = s.pending ∧ (startAbort n i c s).waiting = s.waiting ∧
    (startAbort n i c s).mem = s.mem ∧ (startAbort n i c s).config = s.config ∧ (startAbort n i c s).stats = s.stats ∧
    (startAbort n i c s).board = s.board ∧ (startAbort n i c s).showUnit = s.showUnit ∧
    (startAbort n i c s).seats = s.seats ∧ (startAbort n i c s).basketUnit = s.basketUnit ∧
    (startAbort n i c s).print = s.print ∧ (startAbort n i c s).voucherUnit = s.voucherUnit ∧
    (startAbort n i c s).salesUnit = s.salesUnit := by
  simp [startAbort]

@[simp] theorem ackReceived_keeps (n : Nat) :
    (ackReceived n s).pending = s.pending ∧ (ackReceived n s).waiting = s.waiting ∧ (ackReceived n s).mem = s.mem ∧
    (ackReceived n s).config = s.config ∧ (ackReceived n s).stats = s.stats ∧ (ackReceived n s).board = s.board ∧
    (ackReceived n s).showUnit = s.showUnit ∧ (ackReceived n s).seats = s.seats ∧
    (ackReceived n s).basketUnit = s.basketUnit ∧ (ackReceived n s).print = s.print ∧
    (ackReceived n s).voucherUnit = s.voucherUnit ∧ (ackReceived n s).salesUnit = s.salesUnit := by
  simp only [ackReceived]; (repeat' split) <;> simp

@[simp] theorem lateOrStray_keeps (n t : Nat) (v : Option Verdict) :
    (lateOrStray n t v s).pending = s.pending ∧ (lateOrStray n t v s).waiting = s.waiting ∧
    (lateOrStray n t v s).mem = s.mem ∧ (lateOrStray n t v s).config = s.config ∧
    (lateOrStray n t v s).showUnit = s.showUnit ∧ (lateOrStray n t v s).seats = s.seats ∧
    (lateOrStray n t v s).basketUnit = s.basketUnit ∧ (lateOrStray n t v s).print = s.print ∧
    (lateOrStray n t v s).voucherUnit = s.voucherUnit ∧ (lateOrStray n t v s).salesUnit = s.salesUnit := by
  simp only [lateOrStray]; (repeat' split) <;> simp

@[simp] theorem resultFrame_keeps (n t : Nat) (l : List Byte) :
    (resultFrame n t l s).pending = s.pending ∧ (resultFrame n t l s).waiting = s.waiting ∧
    (resultFrame n t l s).config = s.config ∧ (resultFrame n t l s).showUnit = s.showUnit ∧
    (resultFrame n t l s).seats = s.seats ∧ (resultFrame n t l s).print = s.print ∧
    (resultFrame n t l s).voucherUnit = s.voucherUnit ∧ (resultFrame n t l s).salesUnit = s.salesUnit := by
  simp only [resultFrame]; (repeat' split) <;> simp

@[simp] theorem cardFrame_keeps (n t : Nat) (b : Byte) :
    (cardFrame n t b s).pending = s.pending ∧ (cardFrame n t b s).waiting = s.waiting ∧ (cardFrame n t b s).mem = s.mem ∧
    (cardFrame n t b s).config = s.config ∧ (cardFrame n t b s).showUnit = s.showUnit ∧
    (cardFrame n t b s).seats = s.seats ∧ (cardFrame n t b s).basketUnit = s.basketUnit ∧
    (cardFrame n t b s).print = s.print ∧ (cardFrame n t b s).voucherUnit = s.voucherUnit ∧
    (cardFrame n t b s).salesUnit = s.salesUnit := by
  simp only [cardFrame]; (repeat' split) <;> simp

@[simp] theorem abortDoneFrame_keeps (n t : Nat) :
    (abortDoneFrame n t s).pending = s.pending ∧ (abortDoneFrame n t s).waiting = s.waiting ∧
    (abortDoneFrame n t s).config = s.config ∧ (abortDoneFrame n t s).showUnit = s.showUnit ∧
    (abortDoneFrame n t s).seats = s.seats ∧ (abortDoneFrame n t s).print = s.print ∧
    (abortDoneFrame n t s).voucherUnit = s.voucherUnit ∧ (abortDoneFrame n t s).salesUnit = s.salesUnit := by
  simp only [abortDoneFrame]; (repeat' split) <;> simp

@[simp] theorem reverseDoneFrame_keeps (n t : Nat) (b : Byte) :
    (reverseDoneFrame n t b s).pending = s.pending ∧ (reverseDoneFrame n t b s).waiting = s.waiting ∧
    (reverseDoneFrame n t b s).config = s.config ∧ (reverseDoneFrame n t b s).showUnit = s.showUnit ∧
    (reverseDoneFrame n t b s).seats = s.seats ∧ (reverseDoneFrame n t b s).basketUnit = s.basketUnit ∧
    (reverseDoneFrame n t b s).print = s.print ∧ (reverseDoneFrame n t b s).voucherUnit = s.voucherUnit ∧
    (reverseDoneFrame n t b s).salesUnit = s.salesUnit := by
  simp only [reverseDoneFrame]; (repeat' split) <;> simp

@[simp] theorem pongFrame_keeps (n : Nat) :
    (pongFrame n s).pending = s.pending ∧ (pongFrame n s).wire = s.wire ∧ (pongFrame n s).waiting = s.waiting ∧
    (pongFrame n s).mem = s.mem ∧ (pongFrame n s).config = s.config ∧ (pongFrame n s).board = s.board ∧
    (pongFrame n s).showUnit = s.showUnit ∧ (pongFrame n s).seats = s.seats ∧ (pongFrame n s).basketUnit = s.basketUnit ∧
    (pongFrame n s).print = s.print ∧ (pongFrame n s).voucherUnit = s.voucherUnit ∧
    (pongFrame n s).salesUnit = s.salesUnit := by
  simp only [pongFrame]; (repeat' split) <;> simp

@[simp] theorem faultFrame_keeps (n : Nat) (b : Byte) :
    (faultFrame n b s).pending = s.pending ∧ (faultFrame n b s).waiting = s.waiting ∧
    (faultFrame n b s).config = s.config ∧ (faultFrame n b s).showUnit = s.showUnit ∧ (faultFrame n b s).seats = s.seats ∧
    (faultFrame n b s).print = s.print ∧ (faultFrame n b s).voucherUnit = s.voucherUnit ∧
    (faultFrame n b s).salesUnit = s.salesUnit := by
  simp only [faultFrame]; (repeat' split) <;> simp

@[simp] theorem frameTaken_keeps (n : Nat) (f : Frame) :
    (frameTaken n f s).pending = s.pending ∧ (frameTaken n f s).waiting = s.waiting ∧
    (frameTaken n f s).config = s.config ∧ (frameTaken n f s).showUnit = s.showUnit ∧ (frameTaken n f s).seats = s.seats ∧
    (frameTaken n f s).print = s.print ∧ (frameTaken n f s).voucherUnit = s.voucherUnit ∧
    (frameTaken n f s).salesUnit = s.salesUnit := by
  simp only [frameTaken]; (repeat' split) <;> simp

@[simp] theorem goodFrame_keeps (n : Nat) (f : Frame) :
    (goodFrame n f s).pending = s.pending ∧ (goodFrame n f s).waiting = s.waiting ∧ (goodFrame n f s).config = s.config ∧
    (goodFrame n f s).showUnit = s.showUnit ∧ (goodFrame n f s).seats = s.seats ∧ (goodFrame n f s).print = s.print ∧
    (goodFrame n f s).voucherUnit = s.voucherUnit ∧ (goodFrame n f s).salesUnit = s.salesUnit := by
  simp [goodFrame]

@[simp] theorem byteInside_keeps (n : Nat) (l : List Byte) :
    (byteInside n l s).pending = s.pending ∧ (byteInside n l s).waiting = s.waiting ∧
    (byteInside n l s).config = s.config ∧ (byteInside n l s).showUnit = s.showUnit ∧ (byteInside n l s).seats = s.seats ∧
    (byteInside n l s).print = s.print ∧ (byteInside n l s).voucherUnit = s.voucherUnit ∧
    (byteInside n l s).salesUnit = s.salesUnit := by
  simp only [byteInside]; (repeat' split) <;> simp

@[simp] theorem lineByte_keeps (n : Nat) (b : Byte) :
    (lineByte n b s).pending = s.pending ∧ (lineByte n b s).waiting = s.waiting ∧ (lineByte n b s).config = s.config ∧
    (lineByte n b s).showUnit = s.showUnit ∧ (lineByte n b s).seats = s.seats ∧ (lineByte n b s).print = s.print ∧
    (lineByte n b s).voucherUnit = s.voucherUnit ∧ (lineByte n b s).salesUnit = s.salesUnit := by
  simp only [lineByte]; (repeat' split) <;> simp

@[simp] theorem lineBytes_keeps (n : Nat) (l : List Byte) :
    (lineBytes n l s).pending = s.pending ∧ (lineBytes n l s).waiting = s.waiting ∧ (lineBytes n l s).config = s.config ∧
    (lineBytes n l s).showUnit = s.showUnit ∧ (lineBytes n l s).seats = s.seats ∧ (lineBytes n l s).print = s.print ∧
    (lineBytes n l s).voucherUnit = s.voucherUnit ∧ (lineBytes n l s).salesUnit = s.salesUnit := by
  induction l generalizing s with
  | nil => simp [lineBytes]
  | cons b r ih => simp [lineBytes, ih]

@[simp] theorem bytesArrive_keeps (n : Nat) (l : List Byte) :
    (bytesArrive n l s).pending = s.pending ∧ (bytesArrive n l s).waiting = s.waiting ∧
    (bytesArrive n l s).config = s.config ∧ (bytesArrive n l s).showUnit = s.showUnit ∧
    (bytesArrive n l s).seats = s.seats ∧ (bytesArrive n l s).print = s.print ∧
    (bytesArrive n l s).voucherUnit = s.voucherUnit ∧ (bytesArrive n l s).salesUnit = s.salesUnit := by
  simp only [bytesArrive]; (repeat' split) <;> simp

@[simp] theorem frameArrives_keeps (n : Nat) (f : Frame) :
    (frameArrives n f s).pending = s.pending ∧ (frameArrives n f s).waiting = s.waiting ∧
    (frameArrives n f s).config = s.config ∧ (frameArrives n f s).showUnit = s.showUnit ∧
    (frameArrives n f s).seats = s.seats ∧ (frameArrives n f s).print = s.print ∧
    (frameArrives n f s).voucherUnit = s.voucherUnit ∧ (frameArrives n f s).salesUnit = s.salesUnit := by
  simp only [frameArrives]; (repeat' split) <;> simp

@[simp] theorem lineFaultOp_keeps (n : Nat) (f : ByteFault) :
    (lineFaultOp n f s).pending = s.pending ∧ (lineFaultOp n f s).wire = s.wire ∧
    (lineFaultOp n f s).waiting = s.waiting ∧ (lineFaultOp n f s).mem = s.mem ∧ (lineFaultOp n f s).config = s.config ∧
    (lineFaultOp n f s).board = s.board ∧ (lineFaultOp n f s).showUnit = s.showUnit ∧
    (lineFaultOp n f s).seats = s.seats ∧ (lineFaultOp n f s).basketUnit = s.basketUnit ∧
    (lineFaultOp n f s).print = s.print ∧ (lineFaultOp n f s).voucherUnit = s.voucherUnit ∧
    (lineFaultOp n f s).salesUnit = s.salesUnit := by
  simp only [lineFaultOp]; (repeat' split) <;> simp

@[simp] theorem lineGapOp_keeps (n : Nat) :
    (lineGapOp n s).pending = s.pending ∧ (lineGapOp n s).wire = s.wire ∧ (lineGapOp n s).waiting = s.waiting ∧
    (lineGapOp n s).mem = s.mem ∧ (lineGapOp n s).config = s.config ∧ (lineGapOp n s).stats = s.stats ∧
    (lineGapOp n s).board = s.board ∧ (lineGapOp n s).showUnit = s.showUnit ∧ (lineGapOp n s).seats = s.seats ∧
    (lineGapOp n s).basketUnit = s.basketUnit ∧ (lineGapOp n s).print = s.print ∧
    (lineGapOp n s).voucherUnit = s.voucherUnit ∧ (lineGapOp n s).salesUnit = s.salesUnit ∧
    (lineGapOp n s).station = s.station := by
  simp only [lineGapOp]; (repeat' split) <;> simp

@[simp] theorem ackWaitOp_keeps (n : Nat) :
    (ackWaitOp n s).pending = s.pending ∧ (ackWaitOp n s).waiting = s.waiting ∧ (ackWaitOp n s).config = s.config ∧
    (ackWaitOp n s).showUnit = s.showUnit ∧ (ackWaitOp n s).seats = s.seats ∧ (ackWaitOp n s).print = s.print ∧
    (ackWaitOp n s).voucherUnit = s.voucherUnit ∧ (ackWaitOp n s).salesUnit = s.salesUnit := by
  simp only [ackWaitOp]; (repeat' split) <;> simp

@[simp] theorem pingTimerOp_keeps (n : Nat) :
    (pingTimerOp n s).pending = s.pending ∧ (pingTimerOp n s).waiting = s.waiting ∧ (pingTimerOp n s).config = s.config ∧
    (pingTimerOp n s).showUnit = s.showUnit ∧ (pingTimerOp n s).seats = s.seats ∧ (pingTimerOp n s).print = s.print ∧
    (pingTimerOp n s).voucherUnit = s.voucherUnit ∧ (pingTimerOp n s).salesUnit = s.salesUnit := by
  simp only [pingTimerOp]; (repeat' split) <;> simp

@[simp] theorem authTimeoutOp_keeps (n : Nat) :
    (authTimeoutOp n s).pending = s.pending ∧ (authTimeoutOp n s).waiting = s.waiting ∧ (authTimeoutOp n s).mem = s.mem ∧
    (authTimeoutOp n s).config = s.config ∧ (authTimeoutOp n s).stats = s.stats ∧ (authTimeoutOp n s).board = s.board ∧
    (authTimeoutOp n s).showUnit = s.showUnit ∧ (authTimeoutOp n s).seats = s.seats ∧
    (authTimeoutOp n s).basketUnit = s.basketUnit ∧ (authTimeoutOp n s).print = s.print ∧
    (authTimeoutOp n s).voucherUnit = s.voucherUnit ∧ (authTimeoutOp n s).salesUnit = s.salesUnit := by
  simp only [authTimeoutOp]; (repeat' split) <;> simp

@[simp] theorem abortWaitOp_keeps (n : Nat) :
    (abortWaitOp n s).pending = s.pending ∧ (abortWaitOp n s).waiting = s.waiting ∧ (abortWaitOp n s).config = s.config ∧
    (abortWaitOp n s).showUnit = s.showUnit ∧ (abortWaitOp n s).seats = s.seats ∧ (abortWaitOp n s).print = s.print ∧
    (abortWaitOp n s).voucherUnit = s.voucherUnit ∧ (abortWaitOp n s).salesUnit = s.salesUnit := by
  simp only [abortWaitOp]; (repeat' split) <;> simp

@[simp] theorem reverseWaitOp_keeps (n : Nat) :
    (reverseWaitOp n s).pending = s.pending ∧ (reverseWaitOp n s).waiting = s.waiting ∧
    (reverseWaitOp n s).config = s.config ∧ (reverseWaitOp n s).showUnit = s.showUnit ∧
    (reverseWaitOp n s).seats = s.seats ∧ (reverseWaitOp n s).print = s.print ∧
    (reverseWaitOp n s).voucherUnit = s.voucherUnit ∧ (reverseWaitOp n s).salesUnit = s.salesUnit := by
  simp only [reverseWaitOp]; (repeat' split) <;> simp

@[simp] theorem openPayment_keeps (n b a : Nat) :
    (openPayment n b a s).pending = s.pending ∧ (openPayment n b a s).waiting = s.waiting ∧
    (openPayment n b a s).mem = s.mem ∧ (openPayment n b a s).config = s.config ∧ (openPayment n b a s).stats = s.stats ∧
    (openPayment n b a s).board = s.board ∧ (openPayment n b a s).showUnit = s.showUnit ∧
    (openPayment n b a s).seats = s.seats ∧ (openPayment n b a s).basketUnit = s.basketUnit ∧
    (openPayment n b a s).print = s.print ∧ (openPayment n b a s).voucherUnit = s.voucherUnit ∧
    (openPayment n b a s).salesUnit = s.salesUnit := by
  simp [openPayment]

@[simp] theorem lineShare_keeps (k : Nat) :
    (lineShare k s).pending = s.pending ∧ (lineShare k s).waiting = s.waiting ∧ (lineShare k s).config = s.config ∧
    (lineShare k s).stats = s.stats ∧ (lineShare k s).showUnit = s.showUnit ∧ (lineShare k s).seats = s.seats ∧
    (lineShare k s).basketUnit = s.basketUnit ∧ (lineShare k s).print = s.print ∧
    (lineShare k s).voucherUnit = s.voucherUnit ∧ (lineShare k s).salesUnit = s.salesUnit := by
  simp [lineShare]

@[simp] theorem enterFinishing_keeps (n : Nat) :
    (enterFinishing n s).pending = s.pending ∧ (enterFinishing n s).wire = s.wire ∧
    (enterFinishing n s).waiting = s.waiting ∧ (enterFinishing n s).mem = s.mem ∧ (enterFinishing n s).config = s.config ∧
    (enterFinishing n s).stats = s.stats ∧ (enterFinishing n s).board = s.board ∧
    (enterFinishing n s).showUnit = s.showUnit ∧ (enterFinishing n s).seats = s.seats ∧
    (enterFinishing n s).basketUnit = s.basketUnit ∧ (enterFinishing n s).lines = s.lines ∧
    (enterFinishing n s).voucherUnit = s.voucherUnit ∧ (enterFinishing n s).salesUnit = s.salesUnit := by
  simp [enterFinishing]

@[simp] theorem startItem_keeps (n : Nat) :
    (startItem n s).pending = s.pending ∧ (startItem n s).wire = s.wire ∧ (startItem n s).waiting = s.waiting ∧
    (startItem n s).mem = s.mem ∧ (startItem n s).config = s.config ∧ (startItem n s).stats = s.stats ∧
    (startItem n s).board = s.board ∧ (startItem n s).showUnit = s.showUnit ∧ (startItem n s).seats = s.seats ∧
    (startItem n s).basketUnit = s.basketUnit ∧ (startItem n s).lines = s.lines ∧
    (startItem n s).voucherUnit = s.voucherUnit ∧ (startItem n s).salesUnit = s.salesUnit := by
  simp only [startItem]; (repeat' split) <;> simp

@[simp] theorem stallPrinter_keeps (p : Nat) (c : StallCause) :
    (stallPrinter p c s).pending = s.pending ∧ (stallPrinter p c s).waiting = s.waiting ∧
    (stallPrinter p c s).mem = s.mem ∧ (stallPrinter p c s).config = s.config ∧
    (stallPrinter p c s).showUnit = s.showUnit ∧ (stallPrinter p c s).seats = s.seats ∧
    (stallPrinter p c s).basketUnit = s.basketUnit ∧ (stallPrinter p c s).lines = s.lines ∧
    (stallPrinter p c s).voucherUnit = s.voucherUnit ∧ (stallPrinter p c s).salesUnit = s.salesUnit := by
  simp [stallPrinter]

@[simp] theorem losePrinter_keeps (n : Nat) :
    (losePrinter n s).pending = s.pending ∧ (losePrinter n s).waiting = s.waiting ∧ (losePrinter n s).mem = s.mem ∧
    (losePrinter n s).config = s.config ∧ (losePrinter n s).stats = s.stats ∧ (losePrinter n s).showUnit = s.showUnit ∧
    (losePrinter n s).seats = s.seats ∧ (losePrinter n s).basketUnit = s.basketUnit ∧ (losePrinter n s).lines = s.lines ∧
    (losePrinter n s).voucherUnit = s.voucherUnit ∧ (losePrinter n s).salesUnit = s.salesUnit := by
  simp [losePrinter]

@[simp] theorem reportPrinted_keeps (x : Item) :
    (reportPrinted x s).pending = s.pending ∧ (reportPrinted x s).wire = s.wire ∧
    (reportPrinted x s).waiting = s.waiting ∧ (reportPrinted x s).mem = s.mem ∧ (reportPrinted x s).config = s.config ∧
    (reportPrinted x s).stats = s.stats ∧ (reportPrinted x s).board = s.board ∧
    (reportPrinted x s).showUnit = s.showUnit ∧ (reportPrinted x s).seats = s.seats ∧
    (reportPrinted x s).lines = s.lines ∧ (reportPrinted x s).print = s.print ∧
    (reportPrinted x s).voucherUnit = s.voucherUnit ∧ (reportPrinted x s).station = s.station := by
  simp only [reportPrinted]; (repeat' split) <;> simp

@[simp] theorem countPrinted_keeps (p : Nat) (x : Item) :
    (countPrinted p x s).pending = s.pending ∧ (countPrinted p x s).wire = s.wire ∧
    (countPrinted p x s).waiting = s.waiting ∧ (countPrinted p x s).mem = s.mem ∧ (countPrinted p x s).config = s.config ∧
    (countPrinted p x s).board = s.board ∧ (countPrinted p x s).showUnit = s.showUnit ∧
    (countPrinted p x s).seats = s.seats ∧ (countPrinted p x s).basketUnit = s.basketUnit ∧
    (countPrinted p x s).lines = s.lines ∧ (countPrinted p x s).print = s.print ∧
    (countPrinted p x s).voucherUnit = s.voucherUnit ∧ (countPrinted p x s).salesUnit = s.salesUnit ∧
    (countPrinted p x s).station = s.station := by
  simp only [countPrinted]; (repeat' split) <;> simp

@[simp] theorem pullNow_keeps (n : Nat) :
    (pullNow n s).pending = s.pending ∧ (pullNow n s).wire = s.wire ∧ (pullNow n s).waiting = s.waiting ∧
    (pullNow n s).mem = s.mem ∧ (pullNow n s).config = s.config ∧ (pullNow n s).stats = s.stats ∧
    (pullNow n s).board = s.board ∧ (pullNow n s).showUnit = s.showUnit ∧ (pullNow n s).seats = s.seats ∧
    (pullNow n s).lines = s.lines ∧ (pullNow n s).voucherUnit = s.voucherUnit ∧ (pullNow n s).salesUnit = s.salesUnit ∧
    (pullNow n s).station = s.station := by
  simp only [pullNow]; (repeat' split) <;> simp

@[simp] theorem removeHead_keeps (n : Nat) :
    (removeHead n s).pending = s.pending ∧ (removeHead n s).wire = s.wire ∧ (removeHead n s).waiting = s.waiting ∧
    (removeHead n s).mem = s.mem ∧ (removeHead n s).config = s.config ∧ (removeHead n s).board = s.board ∧
    (removeHead n s).showUnit = s.showUnit ∧ (removeHead n s).seats = s.seats ∧ (removeHead n s).lines = s.lines ∧
    (removeHead n s).voucherUnit = s.voucherUnit := by
  simp only [removeHead]; (repeat' split) <;> simp

@[simp] theorem completeItem_keeps (n : Nat) :
    (completeItem n s).pending = s.pending ∧ (completeItem n s).wire = s.wire ∧ (completeItem n s).waiting = s.waiting ∧
    (completeItem n s).mem = s.mem ∧ (completeItem n s).config = s.config ∧ (completeItem n s).board = s.board ∧
    (completeItem n s).showUnit = s.showUnit ∧ (completeItem n s).seats = s.seats ∧ (completeItem n s).lines = s.lines ∧
    (completeItem n s).voucherUnit = s.voucherUnit := by
  simp only [completeItem]; (repeat' split) <;> simp

@[simp] theorem takeReady_keeps (p : Nat) (b : Byte) :
    (takeReady p b s).pending = s.pending ∧ (takeReady p b s).waiting = s.waiting ∧ (takeReady p b s).mem = s.mem ∧
    (takeReady p b s).config = s.config ∧ (takeReady p b s).showUnit = s.showUnit ∧ (takeReady p b s).seats = s.seats ∧
    (takeReady p b s).basketUnit = s.basketUnit ∧ (takeReady p b s).lines = s.lines ∧
    (takeReady p b s).voucherUnit = s.voucherUnit ∧ (takeReady p b s).salesUnit = s.salesUnit := by
  simp only [takeReady]; (repeat' split) <;> simp

@[simp] theorem endAbsence_keeps (p : Nat) (b : Byte) :
    (endAbsence p b s).pending = s.pending ∧ (endAbsence p b s).waiting = s.waiting ∧ (endAbsence p b s).mem = s.mem ∧
    (endAbsence p b s).config = s.config ∧ (endAbsence p b s).showUnit = s.showUnit ∧ (endAbsence p b s).seats = s.seats ∧
    (endAbsence p b s).basketUnit = s.basketUnit ∧ (endAbsence p b s).lines = s.lines ∧
    (endAbsence p b s).voucherUnit = s.voucherUnit ∧ (endAbsence p b s).salesUnit = s.salesUnit := by
  simp only [endAbsence]; (repeat' split) <;> simp

@[simp] theorem streamOn_keeps (n : Nat) :
    (streamOn n s).pending = s.pending ∧ (streamOn n s).wire = s.wire ∧ (streamOn n s).waiting = s.waiting ∧
    (streamOn n s).mem = s.mem ∧ (streamOn n s).config = s.config ∧ (streamOn n s).stats = s.stats ∧
    (streamOn n s).board = s.board ∧ (streamOn n s).showUnit = s.showUnit ∧ (streamOn n s).seats = s.seats ∧
    (streamOn n s).basketUnit = s.basketUnit ∧ (streamOn n s).lines = s.lines ∧
    (streamOn n s).voucherUnit = s.voucherUnit ∧ (streamOn n s).salesUnit = s.salesUnit := by
  simp only [streamOn]; (repeat' split) <;> simp

@[simp] theorem presentStatus_keeps (p : Nat) (b : Byte) :
    (presentStatus p b s).pending = s.pending ∧ (presentStatus p b s).waiting = s.waiting ∧
    (presentStatus p b s).mem = s.mem ∧ (presentStatus p b s).config = s.config ∧
    (presentStatus p b s).showUnit = s.showUnit ∧ (presentStatus p b s).seats = s.seats ∧
    (presentStatus p b s).lines = s.lines ∧ (presentStatus p b s).voucherUnit = s.voucherUnit := by
  simp only [presentStatus]; (repeat' split) <;> simp

@[simp] theorem movePresent_keeps (p : Nat) (b : Byte) :
    (movePresent p b s).pending = s.pending ∧ (movePresent p b s).mem = s.mem ∧ (movePresent p b s).config = s.config ∧
    (movePresent p b s).showUnit = s.showUnit ∧ (movePresent p b s).seats = s.seats ∧ (movePresent p b s).lines = s.lines ∧
    (movePresent p b s).voucherUnit = s.voucherUnit := by
  simp only [movePresent, whenFree]; (repeat' split) <;> simp

@[simp] theorem moveAbsent_keeps (n : Nat) :
    (moveAbsent n s).pending = s.pending ∧ (moveAbsent n s).mem = s.mem ∧ (moveAbsent n s).config = s.config ∧
    (moveAbsent n s).stats = s.stats ∧ (moveAbsent n s).showUnit = s.showUnit ∧ (moveAbsent n s).seats = s.seats ∧
    (moveAbsent n s).basketUnit = s.basketUnit ∧ (moveAbsent n s).lines = s.lines ∧
    (moveAbsent n s).voucherUnit = s.voucherUnit ∧ (moveAbsent n s).salesUnit = s.salesUnit := by
  simp only [moveAbsent, whenFree]; (repeat' split) <;> simp

@[simp] theorem recordStatus_keeps (p : Nat) (b : Byte) :
    (recordStatus p b s).pending = s.pending ∧ (recordStatus p b s).waiting = s.waiting ∧ (recordStatus p b s).mem = s.mem ∧
    (recordStatus p b s).config = s.config ∧ (recordStatus p b s).stats = s.stats ∧
    (recordStatus p b s).showUnit = s.showUnit ∧ (recordStatus p b s).seats = s.seats ∧
    (recordStatus p b s).basketUnit = s.basketUnit ∧ (recordStatus p b s).lines = s.lines ∧
    (recordStatus p b s).voucherUnit = s.voucherUnit ∧ (recordStatus p b s).salesUnit = s.salesUnit := by
  simp only [recordStatus]; (repeat' split) <;> simp

@[simp] theorem takeStatus_keeps (p : Nat) (b : Byte) :
    (takeStatus p b s).pending = s.pending ∧ (takeStatus p b s).mem = s.mem ∧ (takeStatus p b s).config = s.config ∧
    (takeStatus p b s).showUnit = s.showUnit ∧ (takeStatus p b s).seats = s.seats ∧ (takeStatus p b s).lines = s.lines ∧
    (takeStatus p b s).voucherUnit = s.voucherUnit := by
  simp only [takeStatus]; (repeat' split) <;> simp

@[simp] theorem clockOut_keeps (n : Nat) :
    (clockOut n s).pending = s.pending ∧ (clockOut n s).waiting = s.waiting ∧ (clockOut n s).mem = s.mem ∧
    (clockOut n s).config = s.config ∧ (clockOut n s).stats = s.stats ∧ (clockOut n s).board = s.board ∧
    (clockOut n s).showUnit = s.showUnit ∧ (clockOut n s).seats = s.seats ∧ (clockOut n s).basketUnit = s.basketUnit ∧
    (clockOut n s).lines = s.lines ∧ (clockOut n s).voucherUnit = s.voucherUnit ∧ (clockOut n s).salesUnit = s.salesUnit ∧
    (clockOut n s).station = s.station := by
  simp only [clockOut]; (repeat' split) <;> simp

@[simp] theorem statusByteOp_keeps (p : Nat) (b : Byte) :
    (statusByteOp p b s).pending = s.pending ∧ (statusByteOp p b s).mem = s.mem ∧ (statusByteOp p b s).config = s.config ∧
    (statusByteOp p b s).showUnit = s.showUnit ∧ (statusByteOp p b s).seats = s.seats ∧
    (statusByteOp p b s).lines = s.lines ∧ (statusByteOp p b s).voucherUnit = s.voucherUnit := by
  simp only [statusByteOp]; (repeat' split) <;> simp

@[simp] theorem statusMoveOp_keeps (p : Nat) (b : Byte) :
    (statusMoveOp p b s).pending = s.pending ∧ (statusMoveOp p b s).mem = s.mem ∧ (statusMoveOp p b s).config = s.config ∧
    (statusMoveOp p b s).showUnit = s.showUnit ∧ (statusMoveOp p b s).seats = s.seats ∧
    (statusMoveOp p b s).lines = s.lines ∧ (statusMoveOp p b s).voucherUnit = s.voucherUnit := by
  simp only [statusMoveOp, whenFree]; (repeat' split) <;> simp

@[simp] theorem returnOp_keeps (p : Nat) (b : Byte) :
    (returnOp p b s).pending = s.pending ∧ (returnOp p b s).mem = s.mem ∧ (returnOp p b s).config = s.config ∧
    (returnOp p b s).showUnit = s.showUnit ∧ (returnOp p b s).seats = s.seats ∧
    (returnOp p b s).lines = s.lines ∧ (returnOp p b s).voucherUnit = s.voucherUnit := by
  simp only [returnOp, whenFree]; (repeat' split) <;> simp

@[simp] theorem absenceOp_keeps (n : Nat) :
    (absenceOp n s).pending = s.pending ∧ (absenceOp n s).mem = s.mem ∧ (absenceOp n s).config = s.config ∧
    (absenceOp n s).stats = s.stats ∧ (absenceOp n s).showUnit = s.showUnit ∧ (absenceOp n s).seats = s.seats ∧
    (absenceOp n s).basketUnit = s.basketUnit ∧ (absenceOp n s).lines = s.lines ∧
    (absenceOp n s).voucherUnit = s.voucherUnit ∧ (absenceOp n s).salesUnit = s.salesUnit := by
  simp only [absenceOp, whenFree]; (repeat' split) <;> simp

@[simp] theorem cutDue_keeps (n : Nat) :
    (cutDue n s).pending = s.pending ∧ (cutDue n s).waiting = s.waiting ∧ (cutDue n s).mem = s.mem ∧
    (cutDue n s).config = s.config ∧ (cutDue n s).showUnit = s.showUnit ∧ (cutDue n s).seats = s.seats ∧
    (cutDue n s).basketUnit = s.basketUnit ∧ (cutDue n s).lines = s.lines ∧ (cutDue n s).voucherUnit = s.voucherUnit ∧
    (cutDue n s).salesUnit = s.salesUnit := by
  simp only [cutDue]; (repeat' split) <;> simp

@[simp] theorem cutDeadlineOp_keeps (n : Nat) :
    (cutDeadlineOp n s).pending = s.pending ∧ (cutDeadlineOp n s).mem = s.mem ∧ (cutDeadlineOp n s).config = s.config ∧
    (cutDeadlineOp n s).showUnit = s.showUnit ∧ (cutDeadlineOp n s).seats = s.seats ∧
    (cutDeadlineOp n s).basketUnit = s.basketUnit ∧ (cutDeadlineOp n s).lines = s.lines ∧
    (cutDeadlineOp n s).voucherUnit = s.voucherUnit ∧ (cutDeadlineOp n s).salesUnit = s.salesUnit := by
  simp only [cutDeadlineOp, whenFree]; (repeat' split) <;> simp

@[simp] theorem pullOp_keeps (n : Nat) :
    (pullOp n s).pending = s.pending ∧ (pullOp n s).wire = s.wire ∧ (pullOp n s).mem = s.mem ∧
    (pullOp n s).config = s.config ∧ (pullOp n s).stats = s.stats ∧ (pullOp n s).board = s.board ∧
    (pullOp n s).showUnit = s.showUnit ∧ (pullOp n s).seats = s.seats ∧ (pullOp n s).lines = s.lines ∧
    (pullOp n s).voucherUnit = s.voucherUnit ∧ (pullOp n s).salesUnit = s.salesUnit ∧ (pullOp n s).station = s.station := by
  simp only [pullOp, whenFree]; (repeat' split) <;> simp

@[simp] theorem checkQueues_keeps :
    (checkQueues s).pending = s.pending ∧ (checkQueues s).wire = s.wire ∧ (checkQueues s).waiting = s.waiting ∧
    (checkQueues s).mem = s.mem ∧ (checkQueues s).config = s.config ∧ (checkQueues s).stats = s.stats ∧
    (checkQueues s).board = s.board ∧ (checkQueues s).showUnit = s.showUnit ∧ (checkQueues s).seats = s.seats ∧
    (checkQueues s).basketUnit = s.basketUnit ∧ (checkQueues s).lines = s.lines ∧
    (checkQueues s).voucherUnit = s.voucherUnit ∧ (checkQueues s).salesUnit = s.salesUnit ∧
    (checkQueues s).station = s.station := by
  exact ⟨forEach_pending _ _ _ (fun _ _ => rfl), forEach_wire _ _ _ (fun _ _ => rfl), forEach_waiting _ _ _ (fun _ _ => rfl), forEach_mem _ _ _ (fun _ _ => rfl),
    forEach_config _ _ _ (fun _ _ => rfl), forEach_stats _ _ _ (fun _ _ => rfl),
    forEach_board _ _ _ (fun _ _ => rfl), forEach_showUnit _ _ _ (fun _ _ => rfl), forEach_seats _ _ _ (fun _ _ => rfl),
    forEach_basketUnit _ _ _ (fun _ _ => rfl), forEach_lines _ _ _ (fun _ _ => rfl),
    forEach_voucherUnit _ _ _ (fun _ _ => rfl), forEach_salesUnit _ _ _ (fun _ _ => rfl), forEach_station _ _ _ (fun _ _ => rfl)⟩

@[simp] theorem assignPrinter_keeps (d b : Nat) :
    (assignPrinter d b s).pending = s.pending ∧ (assignPrinter d b s).wire = s.wire ∧
    (assignPrinter d b s).waiting = s.waiting ∧ (assignPrinter d b s).mem = s.mem ∧
    (assignPrinter d b s).config = s.config ∧ (assignPrinter d b s).stats = s.stats ∧
    (assignPrinter d b s).board = s.board ∧ (assignPrinter d b s).showUnit = s.showUnit ∧
    (assignPrinter d b s).seats = s.seats ∧ (assignPrinter d b s).lines = s.lines ∧
    (assignPrinter d b s).print = s.print ∧ (assignPrinter d b s).voucherUnit = s.voucherUnit ∧
    (assignPrinter d b s).salesUnit = s.salesUnit ∧ (assignPrinter d b s).station = s.station := by
  simp [assignPrinter]

@[simp] theorem refuseReprint_keeps (p n : Nat) (c : ResultCode) :
    (refuseReprint p n c s).pending = s.pending ∧ (refuseReprint p n c s).waiting = s.waiting ∧
    (refuseReprint p n c s).config = s.config ∧ (refuseReprint p n c s).stats = s.stats ∧
    (refuseReprint p n c s).showUnit = s.showUnit ∧ (refuseReprint p n c s).seats = s.seats ∧
    (refuseReprint p n c s).basketUnit = s.basketUnit ∧ (refuseReprint p n c s).lines = s.lines ∧
    (refuseReprint p n c s).voucherUnit = s.voucherUnit ∧ (refuseReprint p n c s).salesUnit = s.salesUnit ∧
    (refuseReprint p n c s).station = s.station := by
  simp [refuseReprint]

@[simp] theorem saleCheckNow_keeps (n : Nat) :
    (saleCheckNow n s).pending = s.pending ∧ (saleCheckNow n s).waiting = s.waiting ∧
    (saleCheckNow n s).config = s.config ∧ (saleCheckNow n s).stats = s.stats ∧ (saleCheckNow n s).showUnit = s.showUnit ∧
    (saleCheckNow n s).seats = s.seats ∧ (saleCheckNow n s).basketUnit = s.basketUnit ∧
    (saleCheckNow n s).lines = s.lines ∧ (saleCheckNow n s).voucherUnit = s.voucherUnit ∧
    (saleCheckNow n s).salesUnit = s.salesUnit ∧ (saleCheckNow n s).station = s.station := by
  simp only [saleCheckNow]; (repeat' split) <;> simp

@[simp] theorem saleCheckOp_keeps (n : Nat) :
    (saleCheckOp n s).pending = s.pending ∧ (saleCheckOp n s).config = s.config ∧ (saleCheckOp n s).stats = s.stats ∧
    (saleCheckOp n s).showUnit = s.showUnit ∧ (saleCheckOp n s).seats = s.seats ∧
    (saleCheckOp n s).basketUnit = s.basketUnit ∧ (saleCheckOp n s).lines = s.lines ∧
    (saleCheckOp n s).voucherUnit = s.voucherUnit ∧ (saleCheckOp n s).salesUnit = s.salesUnit ∧
    (saleCheckOp n s).station = s.station := by
  simp only [saleCheckOp, whenFree]; (repeat' split) <;> simp

@[simp] theorem reprintEnterNow_keeps (n : Nat) :
    (reprintEnterNow n s).pending = s.pending ∧ (reprintEnterNow n s).waiting = s.waiting ∧
    (reprintEnterNow n s).config = s.config ∧ (reprintEnterNow n s).stats = s.stats ∧
    (reprintEnterNow n s).showUnit = s.showUnit ∧ (reprintEnterNow n s).seats = s.seats ∧
    (reprintEnterNow n s).basketUnit = s.basketUnit ∧ (reprintEnterNow n s).lines = s.lines ∧
    (reprintEnterNow n s).voucherUnit = s.voucherUnit ∧ (reprintEnterNow n s).salesUnit = s.salesUnit ∧
    (reprintEnterNow n s).station = s.station := by
  simp only [reprintEnterNow]; (repeat' split) <;> simp

@[simp] theorem restartPrinter_keeps (n : Nat) :
    (restartPrinter n s).pending = s.pending ∧ (restartPrinter n s).waiting = s.waiting ∧
    (restartPrinter n s).mem = s.mem ∧ (restartPrinter n s).config = s.config ∧ (restartPrinter n s).stats = s.stats ∧
    (restartPrinter n s).board = s.board ∧ (restartPrinter n s).showUnit = s.showUnit ∧
    (restartPrinter n s).seats = s.seats ∧ (restartPrinter n s).basketUnit = s.basketUnit ∧
    (restartPrinter n s).lines = s.lines ∧ (restartPrinter n s).voucherUnit = s.voucherUnit ∧
    (restartPrinter n s).salesUnit = s.salesUnit := by
  simp [restartPrinter]

@[simp] theorem printerResetNow_keeps (n : Nat) :
    (printerResetNow n s).pending = s.pending ∧ (printerResetNow n s).waiting = s.waiting ∧
    (printerResetNow n s).mem = s.mem ∧ (printerResetNow n s).config = s.config ∧ (printerResetNow n s).stats = s.stats ∧
    (printerResetNow n s).board = s.board ∧ (printerResetNow n s).showUnit = s.showUnit ∧
    (printerResetNow n s).seats = s.seats ∧ (printerResetNow n s).basketUnit = s.basketUnit ∧
    (printerResetNow n s).lines = s.lines ∧ (printerResetNow n s).voucherUnit = s.voucherUnit ∧
    (printerResetNow n s).salesUnit = s.salesUnit := by
  simp only [printerResetNow]; (repeat' split) <;> simp

@[simp] theorem printerResetOp_keeps (n : Nat) :
    (printerResetOp n s).pending = s.pending ∧ (printerResetOp n s).mem = s.mem ∧ (printerResetOp n s).config = s.config ∧
    (printerResetOp n s).stats = s.stats ∧ (printerResetOp n s).board = s.board ∧
    (printerResetOp n s).showUnit = s.showUnit ∧ (printerResetOp n s).seats = s.seats ∧
    (printerResetOp n s).basketUnit = s.basketUnit ∧ (printerResetOp n s).lines = s.lines ∧
    (printerResetOp n s).voucherUnit = s.voucherUnit ∧ (printerResetOp n s).salesUnit = s.salesUnit := by
  simp only [printerResetOp, whenFree]; (repeat' split) <;> simp

@[simp] theorem writeSupply_keeps :
    (writeSupply s).pending = s.pending ∧ (writeSupply s).waiting = s.waiting ∧ (writeSupply s).mem = s.mem ∧
    (writeSupply s).config = s.config ∧ (writeSupply s).stats = s.stats ∧ (writeSupply s).showUnit = s.showUnit ∧
    (writeSupply s).seats = s.seats ∧ (writeSupply s).basketUnit = s.basketUnit ∧ (writeSupply s).lines = s.lines ∧
    (writeSupply s).print = s.print ∧ (writeSupply s).voucherUnit = s.voucherUnit ∧
    (writeSupply s).salesUnit = s.salesUnit := by
  simp [writeSupply]

@[simp] theorem clearCurrent_keeps (b k : Nat) :
    (clearCurrent b k s).pending = s.pending ∧ (clearCurrent b k s).wire = s.wire ∧
    (clearCurrent b k s).waiting = s.waiting ∧ (clearCurrent b k s).mem = s.mem ∧ (clearCurrent b k s).config = s.config ∧
    (clearCurrent b k s).stats = s.stats ∧ (clearCurrent b k s).board = s.board ∧
    (clearCurrent b k s).showUnit = s.showUnit ∧ (clearCurrent b k s).seats = s.seats ∧
    (clearCurrent b k s).basketUnit = s.basketUnit ∧ (clearCurrent b k s).lines = s.lines ∧
    (clearCurrent b k s).print = s.print ∧ (clearCurrent b k s).voucherUnit = s.voucherUnit ∧
    (clearCurrent b k s).salesUnit = s.salesUnit := by
  simp only [clearCurrent]; (repeat' split) <;> simp

@[simp] theorem openCall_keeps (b : Nat) (c : Call) :
    (openCall b c s).pending = s.pending ∧ (openCall b c s).wire = s.wire ∧ (openCall b c s).waiting = s.waiting ∧
    (openCall b c s).mem = s.mem ∧ (openCall b c s).config = s.config ∧ (openCall b c s).stats = s.stats ∧
    (openCall b c s).board = s.board ∧ (openCall b c s).showUnit = s.showUnit ∧ (openCall b c s).seats = s.seats ∧
    (openCall b c s).lines = s.lines ∧ (openCall b c s).print = s.print ∧ (openCall b c s).voucherUnit = s.voucherUnit ∧
    (openCall b c s).salesUnit = s.salesUnit ∧ (openCall b c s).station = s.station := by
  simp [openCall]

@[simp] theorem closeCall_keeps (b : Nat) (f : Basket → Basket) :
    (closeCall b f s).pending = s.pending ∧ (closeCall b f s).wire = s.wire ∧ (closeCall b f s).waiting = s.waiting ∧
    (closeCall b f s).mem = s.mem ∧ (closeCall b f s).config = s.config ∧ (closeCall b f s).stats = s.stats ∧
    (closeCall b f s).board = s.board ∧ (closeCall b f s).showUnit = s.showUnit ∧ (closeCall b f s).seats = s.seats ∧
    (closeCall b f s).lines = s.lines ∧ (closeCall b f s).print = s.print ∧
    (closeCall b f s).voucherUnit = s.voucherUnit ∧ (closeCall b f s).salesUnit = s.salesUnit ∧
    (closeCall b f s).station = s.station := by
  simp [closeCall]

@[simp] theorem requote_keeps (b : Nat) :
    (requote b s).pending = s.pending ∧ (requote b s).wire = s.wire ∧ (requote b s).waiting = s.waiting ∧
    (requote b s).mem = s.mem ∧ (requote b s).config = s.config ∧ (requote b s).stats = s.stats ∧
    (requote b s).board = s.board ∧ (requote b s).showUnit = s.showUnit ∧ (requote b s).seats = s.seats ∧
    (requote b s).lines = s.lines ∧ (requote b s).print = s.print ∧ (requote b s).voucherUnit = s.voucherUnit ∧
    (requote b s).salesUnit = s.salesUnit ∧ (requote b s).station = s.station := by
  simp [requote]

@[simp] theorem endBasket_keeps (b : Nat) (d : BasketState) :
    (endBasket b d s).pending = s.pending ∧ (endBasket b d s).wire = s.wire ∧ (endBasket b d s).waiting = s.waiting ∧
    (endBasket b d s).mem = s.mem ∧ (endBasket b d s).config = s.config ∧ (endBasket b d s).stats = s.stats ∧
    (endBasket b d s).board = s.board ∧ (endBasket b d s).lines = s.lines ∧ (endBasket b d s).print = s.print ∧
    (endBasket b d s).salesUnit = s.salesUnit := by
  simp [endBasket]

@[simp] theorem expireBasket_keeps (b : Nat) :
    (expireBasket b s).pending = s.pending ∧ (expireBasket b s).waiting = s.waiting ∧ (expireBasket b s).mem = s.mem ∧
    (expireBasket b s).config = s.config ∧ (expireBasket b s).stats = s.stats ∧ (expireBasket b s).lines = s.lines ∧
    (expireBasket b s).print = s.print ∧ (expireBasket b s).salesUnit = s.salesUnit := by
  simp [expireBasket]

@[simp] theorem holdDeadlineOp_keeps (n : Nat) :
    (holdDeadlineOp n s).pending = s.pending ∧ (holdDeadlineOp n s).mem = s.mem ∧ (holdDeadlineOp n s).config = s.config ∧
    (holdDeadlineOp n s).stats = s.stats ∧ (holdDeadlineOp n s).lines = s.lines ∧ (holdDeadlineOp n s).print = s.print ∧
    (holdDeadlineOp n s).salesUnit = s.salesUnit := by
  simp only [holdDeadlineOp, whenFree]; (repeat' split) <;> simp

@[simp] theorem leftSaleNow_keeps (n : Nat) :
    (leftSaleNow n s).pending = s.pending ∧ (leftSaleNow n s).waiting = s.waiting ∧ (leftSaleNow n s).mem = s.mem ∧
    (leftSaleNow n s).config = s.config ∧ (leftSaleNow n s).stats = s.stats ∧ (leftSaleNow n s).lines = s.lines ∧
    (leftSaleNow n s).print = s.print ∧ (leftSaleNow n s).salesUnit = s.salesUnit := by
  simp only [leftSaleNow]; (repeat' split) <;> simp

@[simp] theorem showLeftSaleOp_keeps (n : Nat) :
    (showLeftSaleOp n s).pending = s.pending ∧ (showLeftSaleOp n s).mem = s.mem ∧ (showLeftSaleOp n s).config = s.config ∧
    (showLeftSaleOp n s).stats = s.stats ∧ (showLeftSaleOp n s).lines = s.lines ∧ (showLeftSaleOp n s).print = s.print ∧
    (showLeftSaleOp n s).salesUnit = s.salesUnit := by
  simp only [showLeftSaleOp]; (repeat' split) <;> simp

@[simp] theorem saleMove_keeps (b : Nat) (m : Method) :
    (saleMove b m s).pending = s.pending ∧ (saleMove b m s).wire = s.wire ∧ (saleMove b m s).waiting = s.waiting ∧
    (saleMove b m s).mem = s.mem ∧ (saleMove b m s).config = s.config ∧ (saleMove b m s).board = s.board ∧
    (saleMove b m s).lines = s.lines ∧ (saleMove b m s).print = s.print := by
  simp [saleMove]

@[simp] theorem startPaying_keeps (b : Nat) :
    (startPaying b s).pending = s.pending ∧ (startPaying b s).waiting = s.waiting ∧ (startPaying b s).mem = s.mem ∧
    (startPaying b s).config = s.config ∧ (startPaying b s).stats = s.stats ∧ (startPaying b s).board = s.board ∧
    (startPaying b s).showUnit = s.showUnit ∧ (startPaying b s).seats = s.seats ∧ (startPaying b s).print = s.print ∧
    (startPaying b s).voucherUnit = s.voucherUnit ∧ (startPaying b s).salesUnit = s.salesUnit := by
  simp [startPaying]

@[simp] theorem returnBasket_keeps (b : Nat) :
    (returnBasket b s).pending = s.pending ∧ (returnBasket b s).waiting = s.waiting ∧ (returnBasket b s).mem = s.mem ∧
    (returnBasket b s).config = s.config ∧ (returnBasket b s).stats = s.stats ∧ (returnBasket b s).lines = s.lines ∧
    (returnBasket b s).print = s.print := by
  simp only [returnBasket]; (repeat' split) <;> simp

@[simp] theorem leaveUnresolved_keeps (b : Nat) :
    (leaveUnresolved b s).pending = s.pending ∧ (leaveUnresolved b s).wire = s.wire ∧
    (leaveUnresolved b s).waiting = s.waiting ∧ (leaveUnresolved b s).mem = s.mem ∧
    (leaveUnresolved b s).config = s.config ∧ (leaveUnresolved b s).stats = s.stats ∧
    (leaveUnresolved b s).board = s.board ∧ (leaveUnresolved b s).showUnit = s.showUnit ∧
    (leaveUnresolved b s).seats = s.seats ∧ (leaveUnresolved b s).lines = s.lines ∧
    (leaveUnresolved b s).print = s.print ∧ (leaveUnresolved b s).voucherUnit = s.voucherUnit ∧
    (leaveUnresolved b s).salesUnit = s.salesUnit := by
  simp [leaveUnresolved]

@[simp] theorem finishPay_keeps (b : Nat) (c : ResultCode) (l : List Byte) :
    (finishPay b c l s).pending = s.pending ∧ (finishPay b c l s).waiting = s.waiting ∧
    (finishPay b c l s).config = s.config ∧ (finishPay b c l s).stats = s.stats ∧
    (finishPay b c l s).showUnit = s.showUnit ∧ (finishPay b c l s).seats = s.seats ∧
    (finishPay b c l s).basketUnit = s.basketUnit ∧ (finishPay b c l s).lines = s.lines ∧
    (finishPay b c l s).print = s.print ∧ (finishPay b c l s).voucherUnit = s.voucherUnit ∧
    (finishPay b c l s).salesUnit = s.salesUnit ∧ (finishPay b c l s).station = s.station := by
  simp only [finishPay]; (repeat' split) <;> simp

@[simp] theorem takeOutcome_keeps (o : OutcomeReport) :
    (takeOutcome o s).pending = s.pending ∧ (takeOutcome o s).waiting = s.waiting ∧ (takeOutcome o s).config = s.config ∧
    (takeOutcome o s).lines = s.lines ∧ (takeOutcome o s).print = s.print := by
  simp only [takeOutcome]; (repeat' split) <;> simp

@[simp] theorem paymentOutcomeOp_keeps (b : Nat) :
    (paymentOutcomeOp b s).pending = s.pending ∧ (paymentOutcomeOp b s).waiting = s.waiting ∧
    (paymentOutcomeOp b s).config = s.config ∧ (paymentOutcomeOp b s).lines = s.lines ∧
    (paymentOutcomeOp b s).print = s.print := by
  simp only [paymentOutcomeOp]; (repeat' split) <;> simp

@[simp] theorem moveToCollectOp_keeps (b : Nat) :
    (moveToCollectOp b s).pending = s.pending ∧ (moveToCollectOp b s).wire = s.wire ∧
    (moveToCollectOp b s).waiting = s.waiting ∧ (moveToCollectOp b s).mem = s.mem ∧
    (moveToCollectOp b s).config = s.config ∧ (moveToCollectOp b s).stats = s.stats ∧
    (moveToCollectOp b s).board = s.board ∧ (moveToCollectOp b s).showUnit = s.showUnit ∧
    (moveToCollectOp b s).seats = s.seats ∧ (moveToCollectOp b s).lines = s.lines ∧
    (moveToCollectOp b s).print = s.print ∧ (moveToCollectOp b s).voucherUnit = s.voucherUnit ∧
    (moveToCollectOp b s).salesUnit = s.salesUnit := by
  simp only [moveToCollectOp]; (repeat' split) <;> simp

@[simp] theorem closeBasket_keeps (b : Nat) (u : Bool) :
    (closeBasket b u s).pending = s.pending ∧ (closeBasket b u s).wire = s.wire ∧
    (closeBasket b u s).waiting = s.waiting ∧ (closeBasket b u s).mem = s.mem ∧ (closeBasket b u s).config = s.config ∧
    (closeBasket b u s).stats = s.stats ∧ (closeBasket b u s).board = s.board ∧
    (closeBasket b u s).showUnit = s.showUnit ∧ (closeBasket b u s).seats = s.seats ∧
    (closeBasket b u s).lines = s.lines ∧ (closeBasket b u s).print = s.print ∧
    (closeBasket b u s).voucherUnit = s.voucherUnit ∧ (closeBasket b u s).salesUnit = s.salesUnit := by
  simp [closeBasket]

@[simp] theorem chuteClearedOp_keeps (n : Nat) :
    (chuteClearedOp n s).pending = s.pending ∧ (chuteClearedOp n s).wire = s.wire ∧
    (chuteClearedOp n s).waiting = s.waiting ∧ (chuteClearedOp n s).mem = s.mem ∧ (chuteClearedOp n s).config = s.config ∧
    (chuteClearedOp n s).stats = s.stats ∧ (chuteClearedOp n s).board = s.board ∧
    (chuteClearedOp n s).showUnit = s.showUnit ∧ (chuteClearedOp n s).seats = s.seats ∧
    (chuteClearedOp n s).lines = s.lines ∧ (chuteClearedOp n s).print = s.print ∧
    (chuteClearedOp n s).voucherUnit = s.voucherUnit ∧ (chuteClearedOp n s).salesUnit = s.salesUnit := by
  simp only [chuteClearedOp]; (repeat' split) <;> simp

@[simp] theorem collectDeadlineOp_keeps (b : Nat) :
    (collectDeadlineOp b s).pending = s.pending ∧ (collectDeadlineOp b s).waiting = s.waiting ∧
    (collectDeadlineOp b s).mem = s.mem ∧ (collectDeadlineOp b s).config = s.config ∧
    (collectDeadlineOp b s).stats = s.stats ∧ (collectDeadlineOp b s).showUnit = s.showUnit ∧
    (collectDeadlineOp b s).seats = s.seats ∧ (collectDeadlineOp b s).lines = s.lines ∧
    (collectDeadlineOp b s).print = s.print ∧ (collectDeadlineOp b s).voucherUnit = s.voucherUnit ∧
    (collectDeadlineOp b s).salesUnit = s.salesUnit := by
  simp only [collectDeadlineOp]; (repeat' split) <;> simp

@[simp] theorem enterShow_keeps (n : Nat) (st : ShowState) :
    (enterShow n st s).pending = s.pending ∧ (enterShow n st s).waiting = s.waiting ∧ (enterShow n st s).mem = s.mem ∧
    (enterShow n st s).config = s.config ∧ (enterShow n st s).stats = s.stats ∧ (enterShow n st s).seats = s.seats ∧
    (enterShow n st s).basketUnit = s.basketUnit ∧ (enterShow n st s).lines = s.lines ∧
    (enterShow n st s).print = s.print ∧ (enterShow n st s).voucherUnit = s.voucherUnit ∧
    (enterShow n st s).salesUnit = s.salesUnit := by
  simp only [enterShow]; (repeat' split) <;> simp

@[simp] theorem moveShow_keeps (n : Nat) :
    (moveShow n s).pending = s.pending ∧ (moveShow n s).waiting = s.waiting ∧ (moveShow n s).mem = s.mem ∧
    (moveShow n s).config = s.config ∧ (moveShow n s).stats = s.stats ∧ (moveShow n s).seats = s.seats ∧
    (moveShow n s).basketUnit = s.basketUnit ∧ (moveShow n s).lines = s.lines ∧ (moveShow n s).print = s.print ∧
    (moveShow n s).voucherUnit = s.voucherUnit ∧ (moveShow n s).salesUnit = s.salesUnit := by
  simp [moveShow]

@[simp] theorem moveShows_keeps :
    (moveShows s).pending = s.pending ∧ (moveShows s).waiting = s.waiting ∧ (moveShows s).mem = s.mem ∧
    (moveShows s).config = s.config ∧ (moveShows s).stats = s.stats ∧ (moveShows s).seats = s.seats ∧
    (moveShows s).basketUnit = s.basketUnit ∧ (moveShows s).lines = s.lines ∧ (moveShows s).print = s.print ∧
    (moveShows s).voucherUnit = s.voucherUnit ∧ (moveShows s).salesUnit = s.salesUnit := by
  simp [moveShows]

@[simp] theorem reportDay_keeps (i : Instant) :
    (reportDay i s).pending = s.pending ∧ (reportDay i s).wire = s.wire ∧ (reportDay i s).waiting = s.waiting ∧
    (reportDay i s).mem = s.mem ∧ (reportDay i s).config = s.config ∧ (reportDay i s).stats = s.stats ∧
    (reportDay i s).board = s.board ∧ (reportDay i s).seats = s.seats ∧ (reportDay i s).basketUnit = s.basketUnit ∧
    (reportDay i s).lines = s.lines ∧ (reportDay i s).print = s.print ∧ (reportDay i s).voucherUnit = s.voucherUnit ∧
    (reportDay i s).salesUnit = s.salesUnit ∧ (reportDay i s).station = s.station := by
  simp only [reportDay]; (repeat' split) <;> simp

@[simp] theorem secondAdvance_keeps :
    (secondAdvance s).pending = s.pending ∧ (secondAdvance s).waiting = s.waiting ∧ (secondAdvance s).mem = s.mem ∧
    (secondAdvance s).config = s.config ∧ (secondAdvance s).stats = s.stats ∧ (secondAdvance s).seats = s.seats ∧
    (secondAdvance s).basketUnit = s.basketUnit ∧ (secondAdvance s).lines = s.lines ∧ (secondAdvance s).print = s.print ∧
    (secondAdvance s).voucherUnit = s.voucherUnit ∧ (secondAdvance s).salesUnit = s.salesUnit := by
  simp [secondAdvance]

@[simp] theorem clockAdvance_keeps :
    (clockAdvance s).pending = s.pending ∧ (clockAdvance s).waiting = s.waiting ∧ (clockAdvance s).mem = s.mem ∧
    (clockAdvance s).config = s.config ∧ (clockAdvance s).stats = s.stats ∧ (clockAdvance s).seats = s.seats ∧
    (clockAdvance s).basketUnit = s.basketUnit ∧ (clockAdvance s).lines = s.lines ∧ (clockAdvance s).print = s.print ∧
    (clockAdvance s).voucherUnit = s.voucherUnit ∧ (clockAdvance s).salesUnit = s.salesUnit := by
  simp only [clockAdvance]; (repeat' split) <;> simp

@[simp] theorem runTimeOp_keeps :
    (runTimeOp s).pending = s.pending ∧ (runTimeOp s).waiting = s.waiting ∧ (runTimeOp s).mem = s.mem ∧
    (runTimeOp s).config = s.config ∧ (runTimeOp s).stats = s.stats ∧ (runTimeOp s).seats = s.seats ∧
    (runTimeOp s).basketUnit = s.basketUnit ∧ (runTimeOp s).lines = s.lines ∧ (runTimeOp s).print = s.print ∧
    (runTimeOp s).voucherUnit = s.voucherUnit ∧ (runTimeOp s).salesUnit = s.salesUnit := by
  simp [runTimeOp]

@[simp] theorem clockSecondOp_keeps :
    (clockSecondOp s).pending = s.pending ∧ (clockSecondOp s).waiting = s.waiting ∧ (clockSecondOp s).mem = s.mem ∧
    (clockSecondOp s).config = s.config ∧ (clockSecondOp s).stats = s.stats ∧ (clockSecondOp s).seats = s.seats ∧
    (clockSecondOp s).basketUnit = s.basketUnit ∧ (clockSecondOp s).lines = s.lines ∧ (clockSecondOp s).print = s.print ∧
    (clockSecondOp s).voucherUnit = s.voucherUnit ∧ (clockSecondOp s).salesUnit = s.salesUnit := by
  simp only [clockSecondOp]; (repeat' split) <;> simp

@[simp] theorem loadingCompleteOp_keeps (n : Nat) :
    (loadingCompleteOp n s).pending = s.pending ∧ (loadingCompleteOp n s).waiting = s.waiting ∧
    (loadingCompleteOp n s).config = s.config ∧ (loadingCompleteOp n s).stats = s.stats ∧
    (loadingCompleteOp n s).basketUnit = s.basketUnit ∧ (loadingCompleteOp n s).lines = s.lines ∧
    (loadingCompleteOp n s).print = s.print ∧ (loadingCompleteOp n s).voucherUnit = s.voucherUnit ∧
    (loadingCompleteOp n s).salesUnit = s.salesUnit := by
  simp only [loadingCompleteOp]; (repeat' split) <;> simp

@[simp] theorem stepShow_keeps (n : Nat) :
    (stepShow n s).pending = s.pending ∧ (stepShow n s).wire = s.wire ∧ (stepShow n s).waiting = s.waiting ∧
    (stepShow n s).mem = s.mem ∧ (stepShow n s).config = s.config ∧ (stepShow n s).stats = s.stats ∧
    (stepShow n s).board = s.board ∧ (stepShow n s).seats = s.seats ∧ (stepShow n s).basketUnit = s.basketUnit ∧
    (stepShow n s).lines = s.lines ∧ (stepShow n s).print = s.print ∧ (stepShow n s).voucherUnit = s.voucherUnit ∧
    (stepShow n s).salesUnit = s.salesUnit ∧ (stepShow n s).station = s.station := by
  simp [stepShow]

@[simp] theorem voucherShowRemovalOp_keeps (n : Nat) :
    (voucherShowRemovalOp n s).pending = s.pending ∧ (voucherShowRemovalOp n s).wire = s.wire ∧
    (voucherShowRemovalOp n s).waiting = s.waiting ∧ (voucherShowRemovalOp n s).mem = s.mem ∧
    (voucherShowRemovalOp n s).config = s.config ∧ (voucherShowRemovalOp n s).stats = s.stats ∧
    (voucherShowRemovalOp n s).board = s.board ∧ (voucherShowRemovalOp n s).seats = s.seats ∧
    (voucherShowRemovalOp n s).basketUnit = s.basketUnit ∧ (voucherShowRemovalOp n s).lines = s.lines ∧
    (voucherShowRemovalOp n s).print = s.print ∧ (voucherShowRemovalOp n s).salesUnit = s.salesUnit ∧
    (voucherShowRemovalOp n s).station = s.station := by
  simp only [voucherShowRemovalOp]; (repeat' split) <;> simp

@[simp] theorem seatRangeClearOp_keeps (n : Nat) :
    (seatRangeClearOp n s).pending = s.pending ∧ (seatRangeClearOp n s).wire = s.wire ∧
    (seatRangeClearOp n s).waiting = s.waiting ∧ (seatRangeClearOp n s).mem = s.mem ∧
    (seatRangeClearOp n s).config = s.config ∧ (seatRangeClearOp n s).stats = s.stats ∧
    (seatRangeClearOp n s).board = s.board ∧ (seatRangeClearOp n s).basketUnit = s.basketUnit ∧
    (seatRangeClearOp n s).lines = s.lines ∧ (seatRangeClearOp n s).print = s.print ∧
    (seatRangeClearOp n s).voucherUnit = s.voucherUnit ∧ (seatRangeClearOp n s).salesUnit = s.salesUnit ∧
    (seatRangeClearOp n s).station = s.station := by
  simp only [seatRangeClearOp]; (repeat' split) <;> simp

@[simp] theorem dropCompleteOp_keeps (n : Nat) :
    (dropCompleteOp n s).pending = s.pending ∧ (dropCompleteOp n s).waiting = s.waiting ∧
    (dropCompleteOp n s).config = s.config ∧ (dropCompleteOp n s).stats = s.stats ∧ (dropCompleteOp n s).seats = s.seats ∧
    (dropCompleteOp n s).basketUnit = s.basketUnit ∧ (dropCompleteOp n s).lines = s.lines ∧
    (dropCompleteOp n s).print = s.print ∧ (dropCompleteOp n s).voucherUnit = s.voucherUnit ∧
    (dropCompleteOp n s).salesUnit = s.salesUnit ∧ (dropCompleteOp n s).station = s.station := by
  simp only [dropCompleteOp]; (repeat' split) <;> simp

@[simp] theorem runtimeLow_keeps :
    (runtimeLow s).pending = s.pending ∧ (runtimeLow s).waiting = s.waiting ∧ (runtimeLow s).mem = s.mem ∧
    (runtimeLow s).config = s.config ∧ (runtimeLow s).stats = s.stats ∧ (runtimeLow s).showUnit = s.showUnit ∧
    (runtimeLow s).seats = s.seats ∧ (runtimeLow s).basketUnit = s.basketUnit ∧ (runtimeLow s).lines = s.lines ∧
    (runtimeLow s).print = s.print ∧ (runtimeLow s).voucherUnit = s.voucherUnit ∧ (runtimeLow s).salesUnit = s.salesUnit ∧
    (runtimeLow s).station = s.station := by
  simp [runtimeLow]

@[simp] theorem runtimeHigh_keeps :
    (runtimeHigh s).pending = s.pending ∧ (runtimeHigh s).waiting = s.waiting ∧ (runtimeHigh s).mem = s.mem ∧
    (runtimeHigh s).config = s.config ∧ (runtimeHigh s).stats = s.stats ∧ (runtimeHigh s).showUnit = s.showUnit ∧
    (runtimeHigh s).seats = s.seats ∧ (runtimeHigh s).basketUnit = s.basketUnit ∧ (runtimeHigh s).lines = s.lines ∧
    (runtimeHigh s).print = s.print ∧ (runtimeHigh s).voucherUnit = s.voucherUnit ∧
    (runtimeHigh s).salesUnit = s.salesUnit ∧ (runtimeHigh s).station = s.station := by
  simp [runtimeHigh]

@[simp] theorem noticeWrite_keeps :
    (noticeWrite s).pending = s.pending ∧ (noticeWrite s).wire = s.wire ∧ (noticeWrite s).waiting = s.waiting ∧
    (noticeWrite s).mem = s.mem ∧ (noticeWrite s).config = s.config ∧ (noticeWrite s).stats = s.stats ∧
    (noticeWrite s).showUnit = s.showUnit ∧ (noticeWrite s).seats = s.seats ∧ (noticeWrite s).basketUnit = s.basketUnit ∧
    (noticeWrite s).lines = s.lines ∧ (noticeWrite s).print = s.print ∧ (noticeWrite s).voucherUnit = s.voucherUnit ∧
    (noticeWrite s).salesUnit = s.salesUnit ∧ (noticeWrite s).station = s.station := by
  simp [noticeWrite]

@[simp] theorem boardFault_keeps (n v : Nat) :
    (boardFault n v s).pending = s.pending ∧ (boardFault n v s).waiting = s.waiting ∧ (boardFault n v s).mem = s.mem ∧
    (boardFault n v s).config = s.config ∧ (boardFault n v s).showUnit = s.showUnit ∧ (boardFault n v s).seats = s.seats ∧
    (boardFault n v s).basketUnit = s.basketUnit ∧ (boardFault n v s).lines = s.lines ∧
    (boardFault n v s).print = s.print ∧ (boardFault n v s).voucherUnit = s.voucherUnit ∧
    (boardFault n v s).salesUnit = s.salesUnit := by
  simp [boardFault]

@[simp] theorem echoTag_keeps (n : Nat) :
    (echoTag n s).pending = s.pending ∧ (echoTag n s).wire = s.wire ∧ (echoTag n s).waiting = s.waiting ∧
    (echoTag n s).config = s.config ∧ (echoTag n s).stats = s.stats ∧ (echoTag n s).board = s.board ∧
    (echoTag n s).showUnit = s.showUnit ∧ (echoTag n s).seats = s.seats ∧ (echoTag n s).basketUnit = s.basketUnit ∧
    (echoTag n s).lines = s.lines ∧ (echoTag n s).print = s.print ∧ (echoTag n s).voucherUnit = s.voucherUnit ∧
    (echoTag n s).salesUnit = s.salesUnit ∧ (echoTag n s).station = s.station := by
  simp [echoTag]

@[simp] theorem stateWordWrite_keeps (n v : Nat) :
    (stateWordWrite n v s).pending = s.pending ∧ (stateWordWrite n v s).waiting = s.waiting ∧
    (stateWordWrite n v s).config = s.config ∧ (stateWordWrite n v s).showUnit = s.showUnit ∧
    (stateWordWrite n v s).seats = s.seats ∧ (stateWordWrite n v s).basketUnit = s.basketUnit ∧
    (stateWordWrite n v s).lines = s.lines ∧ (stateWordWrite n v s).print = s.print ∧
    (stateWordWrite n v s).voucherUnit = s.voucherUnit ∧ (stateWordWrite n v s).salesUnit = s.salesUnit := by
  simp only [stateWordWrite]; (repeat' split) <;> simp

@[simp] theorem storeBytes_keeps (l : List (Nat × Byte)) :
    (storeBytes l s).pending = s.pending ∧ (storeBytes l s).wire = s.wire ∧ (storeBytes l s).waiting = s.waiting ∧
    (storeBytes l s).config = s.config ∧ (storeBytes l s).stats = s.stats ∧ (storeBytes l s).board = s.board ∧
    (storeBytes l s).showUnit = s.showUnit ∧ (storeBytes l s).seats = s.seats ∧
    (storeBytes l s).basketUnit = s.basketUnit ∧ (storeBytes l s).lines = s.lines ∧ (storeBytes l s).print = s.print ∧
    (storeBytes l s).voucherUnit = s.voucherUnit ∧ (storeBytes l s).salesUnit = s.salesUnit ∧
    (storeBytes l s).station = s.station := by
  simp [storeBytes]

@[simp] theorem countStray_keeps (o : Nat) (l : List (Nat × Byte)) :
    (countStray o l s).pending = s.pending ∧ (countStray o l s).wire = s.wire ∧ (countStray o l s).waiting = s.waiting ∧
    (countStray o l s).mem = s.mem ∧ (countStray o l s).config = s.config ∧ (countStray o l s).showUnit = s.showUnit ∧
    (countStray o l s).seats = s.seats ∧ (countStray o l s).basketUnit = s.basketUnit ∧
    (countStray o l s).lines = s.lines ∧ (countStray o l s).print = s.print ∧
    (countStray o l s).voucherUnit = s.voucherUnit ∧ (countStray o l s).salesUnit = s.salesUnit ∧
    (countStray o l s).station = s.station := by
  simp only [countStray]; (repeat' split) <;> simp

@[simp] theorem stateWordUnit_keeps (a : List (Option Byte)) (l : List (Nat × Byte)) :
    (stateWordUnit a l s).pending = s.pending ∧ (stateWordUnit a l s).waiting = s.waiting ∧
    (stateWordUnit a l s).config = s.config ∧ (stateWordUnit a l s).showUnit = s.showUnit ∧
    (stateWordUnit a l s).seats = s.seats ∧ (stateWordUnit a l s).basketUnit = s.basketUnit ∧
    (stateWordUnit a l s).lines = s.lines ∧ (stateWordUnit a l s).print = s.print ∧
    (stateWordUnit a l s).voucherUnit = s.voucherUnit ∧ (stateWordUnit a l s).salesUnit = s.salesUnit := by
  simp only [stateWordUnit]; (repeat' split) <;> simp

@[simp] theorem stationUnitWrite_keeps (l : List (Nat × Byte)) :
    (stationUnitWrite l s).pending = s.pending ∧ (stationUnitWrite l s).waiting = s.waiting ∧
    (stationUnitWrite l s).mem = s.mem ∧ (stationUnitWrite l s).config = s.config ∧
    (stationUnitWrite l s).stats = s.stats ∧ (stationUnitWrite l s).showUnit = s.showUnit ∧
    (stationUnitWrite l s).seats = s.seats ∧ (stationUnitWrite l s).basketUnit = s.basketUnit ∧
    (stationUnitWrite l s).lines = s.lines ∧ (stationUnitWrite l s).print = s.print ∧
    (stationUnitWrite l s).voucherUnit = s.voucherUnit ∧ (stationUnitWrite l s).salesUnit = s.salesUnit := by
  simp only [stationUnitWrite]; (repeat' split) <;> simp

@[simp] theorem hostUnit_keeps (o : Nat) (a : List (Option Byte)) :
    (hostUnit o a s).pending = s.pending ∧ (hostUnit o a s).waiting = s.waiting ∧ (hostUnit o a s).config = s.config ∧
    (hostUnit o a s).showUnit = s.showUnit ∧ (hostUnit o a s).seats = s.seats ∧
    (hostUnit o a s).basketUnit = s.basketUnit ∧ (hostUnit o a s).lines = s.lines ∧ (hostUnit o a s).print = s.print ∧
    (hostUnit o a s).voucherUnit = s.voucherUnit ∧ (hostUnit o a s).salesUnit = s.salesUnit := by
  simp [hostUnit]

@[simp] theorem decoderTakeOp_keeps :
    (decoderTakeOp s).pending = s.pending ∧ (decoderTakeOp s).waiting = s.waiting ∧ (decoderTakeOp s).config = s.config ∧
    (decoderTakeOp s).stats = s.stats ∧ (decoderTakeOp s).showUnit = s.showUnit ∧ (decoderTakeOp s).seats = s.seats ∧
    (decoderTakeOp s).basketUnit = s.basketUnit ∧ (decoderTakeOp s).lines = s.lines ∧ (decoderTakeOp s).print = s.print ∧
    (decoderTakeOp s).voucherUnit = s.voucherUnit ∧ (decoderTakeOp s).salesUnit = s.salesUnit ∧
    (decoderTakeOp s).station = s.station := by
  simp only [decoderTakeOp]; (repeat' split) <;> simp

@[simp] theorem coalescingOp_keeps :
    (coalescingOp s).pending = s.pending ∧ (coalescingOp s).waiting = s.waiting ∧ (coalescingOp s).mem = s.mem ∧
    (coalescingOp s).config = s.config ∧ (coalescingOp s).stats = s.stats ∧ (coalescingOp s).showUnit = s.showUnit ∧
    (coalescingOp s).seats = s.seats ∧ (coalescingOp s).basketUnit = s.basketUnit ∧ (coalescingOp s).lines = s.lines ∧
    (coalescingOp s).print = s.print ∧ (coalescingOp s).voucherUnit = s.voucherUnit ∧
    (coalescingOp s).salesUnit = s.salesUnit ∧ (coalescingOp s).station = s.station := by
  simp only [coalescingOp]; (repeat' split) <;> simp

@[simp] theorem restartLine_keeps (n : Nat) :
    (restartLine n s).pending = s.pending ∧ (restartLine n s).waiting = s.waiting ∧ (restartLine n s).config = s.config ∧
    (restartLine n s).stats = s.stats ∧ (restartLine n s).showUnit = s.showUnit ∧ (restartLine n s).seats = s.seats ∧
    (restartLine n s).basketUnit = s.basketUnit ∧ (restartLine n s).print = s.print ∧
    (restartLine n s).voucherUnit = s.voucherUnit ∧ (restartLine n s).salesUnit = s.salesUnit := by
  simp [restartLine]

@[simp] theorem restartReceiver_keeps (n : Nat) :
    (restartReceiver n s).pending = s.pending ∧ (restartReceiver n s).wire = s.wire ∧
    (restartReceiver n s).waiting = s.waiting ∧ (restartReceiver n s).mem = s.mem ∧
    (restartReceiver n s).config = s.config ∧ (restartReceiver n s).stats = s.stats ∧
    (restartReceiver n s).board = s.board ∧ (restartReceiver n s).showUnit = s.showUnit ∧
    (restartReceiver n s).seats = s.seats ∧ (restartReceiver n s).basketUnit = s.basketUnit ∧
    (restartReceiver n s).lines = s.lines ∧ (restartReceiver n s).print = s.print ∧
    (restartReceiver n s).salesUnit = s.salesUnit ∧ (restartReceiver n s).station = s.station := by
  simp [restartReceiver]

@[simp] theorem writeEnabled_keeps (c : Configuration) (n : Nat) :
    (writeEnabled c n s).pending = s.pending ∧ (writeEnabled c n s).wire = s.wire ∧
    (writeEnabled c n s).waiting = s.waiting ∧ (writeEnabled c n s).mem = s.mem ∧ (writeEnabled c n s).config = s.config ∧
    (writeEnabled c n s).stats = s.stats ∧ (writeEnabled c n s).board = s.board ∧
    (writeEnabled c n s).showUnit = s.showUnit ∧ (writeEnabled c n s).seats = s.seats ∧
    (writeEnabled c n s).basketUnit = s.basketUnit ∧ (writeEnabled c n s).lines = s.lines ∧
    (writeEnabled c n s).print = s.print ∧ (writeEnabled c n s).salesUnit = s.salesUnit := by
  simp only [writeEnabled]; (repeat' split) <;> simp

@[simp] theorem takeShares_keeps (o : Option Configuration) (c : Configuration) (l : List VoucherKind) :
    (takeShares o c l s).pending = s.pending ∧ (takeShares o c l s).waiting = s.waiting ∧
    (takeShares o c l s).config = s.config ∧ (takeShares o c l s).stats = s.stats ∧ (takeShares o c l s).seats = s.seats ∧
    (takeShares o c l s).basketUnit = s.basketUnit ∧ (takeShares o c l s).salesUnit = s.salesUnit := by
  simp [takeShares]

@[simp] theorem stationCellResetOp_keeps (k : Nat) :
    (stationCellResetOp k s).pending = s.pending ∧ (stationCellResetOp k s).waiting = s.waiting ∧
    (stationCellResetOp k s).config = s.config ∧ (stationCellResetOp k s).stats = s.stats ∧
    (stationCellResetOp k s).showUnit = s.showUnit ∧ (stationCellResetOp k s).seats = s.seats ∧
    (stationCellResetOp k s).basketUnit = s.basketUnit ∧ (stationCellResetOp k s).lines = s.lines ∧
    (stationCellResetOp k s).print = s.print ∧ (stationCellResetOp k s).voucherUnit = s.voucherUnit ∧
    (stationCellResetOp k s).salesUnit = s.salesUnit := by
  simp only [stationCellResetOp]; (repeat' split) <;> simp

@[simp] theorem refundWrite_keeps (n : Nat) :
    (refundWrite n s).pending = s.pending ∧ (refundWrite n s).waiting = s.waiting ∧ (refundWrite n s).config = s.config ∧
    (refundWrite n s).stats = s.stats ∧ (refundWrite n s).showUnit = s.showUnit ∧ (refundWrite n s).seats = s.seats ∧
    (refundWrite n s).basketUnit = s.basketUnit ∧ (refundWrite n s).lines = s.lines ∧ (refundWrite n s).print = s.print ∧
    (refundWrite n s).voucherUnit = s.voucherUnit ∧ (refundWrite n s).station = s.station := by
  simp only [refundWrite]; (repeat' split) <;> simp

@[simp] theorem refundFreeingOp_keeps (n : Nat) :
    (refundFreeingOp n s).pending = s.pending ∧ (refundFreeingOp n s).wire = s.wire ∧
    (refundFreeingOp n s).waiting = s.waiting ∧ (refundFreeingOp n s).mem = s.mem ∧
    (refundFreeingOp n s).config = s.config ∧ (refundFreeingOp n s).stats = s.stats ∧
    (refundFreeingOp n s).board = s.board ∧ (refundFreeingOp n s).basketUnit = s.basketUnit ∧
    (refundFreeingOp n s).lines = s.lines ∧ (refundFreeingOp n s).print = s.print ∧
    (refundFreeingOp n s).voucherUnit = s.voucherUnit ∧ (refundFreeingOp n s).station = s.station := by
  simp only [refundFreeingOp]; (repeat' split) <;> simp

@[simp] theorem refundVoucherOp_keeps (n : Nat) :
    (refundVoucherOp n s).pending = s.pending ∧ (refundVoucherOp n s).wire = s.wire ∧
    (refundVoucherOp n s).waiting = s.waiting ∧ (refundVoucherOp n s).mem = s.mem ∧
    (refundVoucherOp n s).config = s.config ∧ (refundVoucherOp n s).stats = s.stats ∧
    (refundVoucherOp n s).board = s.board ∧ (refundVoucherOp n s).showUnit = s.showUnit ∧
    (refundVoucherOp n s).seats = s.seats ∧ (refundVoucherOp n s).basketUnit = s.basketUnit ∧
    (refundVoucherOp n s).lines = s.lines ∧ (refundVoucherOp n s).print = s.print ∧
    (refundVoucherOp n s).station = s.station := by
  simp only [refundVoucherOp]; (repeat' split) <;> simp

@[simp] theorem holdEventNow_keeps (b n : Nat) (l : List Nat) :
    (holdEventNow b n l s).pending = s.pending ∧ (holdEventNow b n l s).waiting = s.waiting ∧
    (holdEventNow b n l s).config = s.config ∧ (holdEventNow b n l s).stats = s.stats ∧
    (holdEventNow b n l s).lines = s.lines ∧ (holdEventNow b n l s).print = s.print ∧
    (holdEventNow b n l s).voucherUnit = s.voucherUnit ∧ (holdEventNow b n l s).salesUnit = s.salesUnit ∧
    (holdEventNow b n l s).station = s.station := by
  simp only [holdEventNow]; (repeat' split) <;> simp

@[simp] theorem releaseEventNow_keeps (b n : Nat) (l : List Nat) :
    (releaseEventNow b n l s).pending = s.pending ∧ (releaseEventNow b n l s).waiting = s.waiting ∧
    (releaseEventNow b n l s).config = s.config ∧ (releaseEventNow b n l s).stats = s.stats ∧
    (releaseEventNow b n l s).lines = s.lines ∧ (releaseEventNow b n l s).print = s.print ∧
    (releaseEventNow b n l s).voucherUnit = s.voucherUnit ∧ (releaseEventNow b n l s).salesUnit = s.salesUnit ∧
    (releaseEventNow b n l s).station = s.station := by
  simp [releaseEventNow]

@[simp] theorem issueEventNow_keeps (b n k : Nat) :
    (issueEventNow b n k s).pending = s.pending ∧ (issueEventNow b n k s).waiting = s.waiting ∧
    (issueEventNow b n k s).config = s.config ∧ (issueEventNow b n k s).stats = s.stats ∧
    (issueEventNow b n k s).showUnit = s.showUnit ∧ (issueEventNow b n k s).seats = s.seats ∧
    (issueEventNow b n k s).lines = s.lines ∧ (issueEventNow b n k s).print = s.print ∧
    (issueEventNow b n k s).salesUnit = s.salesUnit ∧ (issueEventNow b n k s).station = s.station := by
  unfold issueEventNow; have h := issueVoucher_keeps s k b (basketAt s b).sh; split <;> rename_i e <;> rw [e] at h <;> dsimp only at h <;> simp [h]

@[simp] theorem removalEventNow_keeps (b n k : Nat) :
    (removalEventNow b n k s).pending = s.pending ∧ (removalEventNow b n k s).waiting = s.waiting ∧
    (removalEventNow b n k s).config = s.config ∧ (removalEventNow b n k s).stats = s.stats ∧
    (removalEventNow b n k s).showUnit = s.showUnit ∧ (removalEventNow b n k s).seats = s.seats ∧
    (removalEventNow b n k s).lines = s.lines ∧ (removalEventNow b n k s).print = s.print ∧
    (removalEventNow b n k s).salesUnit = s.salesUnit ∧ (removalEventNow b n k s).station = s.station := by
  simp [removalEventNow]

@[simp] theorem voucherIssueOp_keeps (n : Nat) :
    (voucherIssueOp n s).pending = s.pending ∧ (voucherIssueOp n s).waiting = s.waiting ∧
    (voucherIssueOp n s).config = s.config ∧ (voucherIssueOp n s).stats = s.stats ∧
    (voucherIssueOp n s).showUnit = s.showUnit ∧ (voucherIssueOp n s).seats = s.seats ∧
    (voucherIssueOp n s).lines = s.lines ∧ (voucherIssueOp n s).print = s.print ∧
    (voucherIssueOp n s).salesUnit = s.salesUnit ∧ (voucherIssueOp n s).station = s.station := by
  simp only [voucherIssueOp]; (repeat' split) <;> simp

@[simp] theorem voucherRemovalOp_keeps (n : Nat) :
    (voucherRemovalOp n s).pending = s.pending ∧ (voucherRemovalOp n s).waiting = s.waiting ∧
    (voucherRemovalOp n s).config = s.config ∧ (voucherRemovalOp n s).stats = s.stats ∧
    (voucherRemovalOp n s).showUnit = s.showUnit ∧ (voucherRemovalOp n s).seats = s.seats ∧
    (voucherRemovalOp n s).lines = s.lines ∧ (voucherRemovalOp n s).print = s.print ∧
    (voucherRemovalOp n s).salesUnit = s.salesUnit ∧ (voucherRemovalOp n s).station = s.station := by
  simp only [voucherRemovalOp]; (repeat' split) <;> simp

@[simp] theorem holdEventOp_keeps (n : Nat) :
    (holdEventOp n s).pending = s.pending ∧ (holdEventOp n s).waiting = s.waiting ∧ (holdEventOp n s).config = s.config ∧
    (holdEventOp n s).stats = s.stats ∧ (holdEventOp n s).lines = s.lines ∧ (holdEventOp n s).print = s.print ∧
    (holdEventOp n s).voucherUnit = s.voucherUnit ∧ (holdEventOp n s).salesUnit = s.salesUnit ∧
    (holdEventOp n s).station = s.station := by
  simp only [holdEventOp]; (repeat' split) <;> simp

@[simp] theorem releaseEventOp_keeps (n : Nat) :
    (releaseEventOp n s).pending = s.pending ∧ (releaseEventOp n s).waiting = s.waiting ∧
    (releaseEventOp n s).config = s.config ∧ (releaseEventOp n s).stats = s.stats ∧ (releaseEventOp n s).lines = s.lines ∧
    (releaseEventOp n s).print = s.print ∧ (releaseEventOp n s).voucherUnit = s.voucherUnit ∧
    (releaseEventOp n s).salesUnit = s.salesUnit ∧ (releaseEventOp n s).station = s.station := by
  simp only [releaseEventOp]; (repeat' split) <;> simp

@[simp] theorem setSenseOp_keeps (r : Request) :
    (setSenseOp r s).pending = s.pending ∧ (setSenseOp r s).waiting = s.waiting ∧ (setSenseOp r s).config = s.config ∧
    (setSenseOp r s).stats = s.stats ∧ (setSenseOp r s).showUnit = s.showUnit ∧ (setSenseOp r s).seats = s.seats ∧
    (setSenseOp r s).lines = s.lines ∧ (setSenseOp r s).print = s.print ∧ (setSenseOp r s).voucherUnit = s.voucherUnit ∧
    (setSenseOp r s).salesUnit = s.salesUnit := by
  simp only [setSenseOp]; (repeat' split) <;> simp

@[simp] theorem setBindingOp_keeps (r : Request) :
    (setBindingOp r s).pending = s.pending ∧ (setBindingOp r s).waiting = s.waiting ∧
    (setBindingOp r s).config = s.config ∧ (setBindingOp r s).stats = s.stats ∧ (setBindingOp r s).showUnit = s.showUnit ∧
    (setBindingOp r s).seats = s.seats ∧ (setBindingOp r s).basketUnit = s.basketUnit ∧
    (setBindingOp r s).lines = s.lines ∧ (setBindingOp r s).print = s.print ∧
    (setBindingOp r s).voucherUnit = s.voucherUnit ∧ (setBindingOp r s).salesUnit = s.salesUnit := by
  simp only [setBindingOp]; (repeat' split) <;> simp

@[simp] theorem setLampOp_keeps (r : Request) :
    (setLampOp r s).pending = s.pending ∧ (setLampOp r s).waiting = s.waiting ∧ (setLampOp r s).config = s.config ∧
    (setLampOp r s).stats = s.stats ∧ (setLampOp r s).showUnit = s.showUnit ∧ (setLampOp r s).seats = s.seats ∧
    (setLampOp r s).basketUnit = s.basketUnit ∧ (setLampOp r s).lines = s.lines ∧ (setLampOp r s).print = s.print ∧
    (setLampOp r s).voucherUnit = s.voucherUnit ∧ (setLampOp r s).salesUnit = s.salesUnit := by
  simp only [setLampOp]; (repeat' split) <;> simp

@[simp] theorem setPatternOp_keeps (r : Request) :
    (setPatternOp r s).pending = s.pending ∧ (setPatternOp r s).waiting = s.waiting ∧
    (setPatternOp r s).config = s.config ∧ (setPatternOp r s).stats = s.stats ∧ (setPatternOp r s).showUnit = s.showUnit ∧
    (setPatternOp r s).seats = s.seats ∧ (setPatternOp r s).basketUnit = s.basketUnit ∧
    (setPatternOp r s).lines = s.lines ∧ (setPatternOp r s).print = s.print ∧
    (setPatternOp r s).voucherUnit = s.voucherUnit ∧ (setPatternOp r s).salesUnit = s.salesUnit := by
  simp only [setPatternOp]; (repeat' split) <;> simp

@[simp] theorem blockSeatsOp_keeps (r : Request) :
    (blockSeatsOp r s).pending = s.pending ∧ (blockSeatsOp r s).waiting = s.waiting ∧
    (blockSeatsOp r s).config = s.config ∧ (blockSeatsOp r s).stats = s.stats ∧
    (blockSeatsOp r s).basketUnit = s.basketUnit ∧ (blockSeatsOp r s).lines = s.lines ∧
    (blockSeatsOp r s).print = s.print ∧ (blockSeatsOp r s).voucherUnit = s.voucherUnit ∧
    (blockSeatsOp r s).salesUnit = s.salesUnit ∧ (blockSeatsOp r s).station = s.station := by
  simp only [blockSeatsOp]; (repeat' split) <;> simp

@[simp] theorem unblockSeatsOp_keeps (r : Request) :
    (unblockSeatsOp r s).pending = s.pending ∧ (unblockSeatsOp r s).waiting = s.waiting ∧
    (unblockSeatsOp r s).config = s.config ∧ (unblockSeatsOp r s).stats = s.stats ∧
    (unblockSeatsOp r s).basketUnit = s.basketUnit ∧ (unblockSeatsOp r s).lines = s.lines ∧
    (unblockSeatsOp r s).print = s.print ∧ (unblockSeatsOp r s).voucherUnit = s.voucherUnit ∧
    (unblockSeatsOp r s).salesUnit = s.salesUnit ∧ (unblockSeatsOp r s).station = s.station := by
  simp only [unblockSeatsOp]; (repeat' split) <;> simp

@[simp] theorem voidVoucherOp_keeps (r : Request) :
    (voidVoucherOp r s).pending = s.pending ∧ (voidVoucherOp r s).waiting = s.waiting ∧
    (voidVoucherOp r s).config = s.config ∧ (voidVoucherOp r s).stats = s.stats ∧
    (voidVoucherOp r s).showUnit = s.showUnit ∧ (voidVoucherOp r s).seats = s.seats ∧
    (voidVoucherOp r s).basketUnit = s.basketUnit ∧ (voidVoucherOp r s).lines = s.lines ∧
    (voidVoucherOp r s).print = s.print ∧ (voidVoucherOp r s).salesUnit = s.salesUnit ∧
    (voidVoucherOp r s).station = s.station := by
  simp only [voidVoucherOp]; (repeat' split) <;> simp

@[simp] theorem refundOp_keeps (r : Request) :
    (refundOp r s).pending = s.pending ∧ (refundOp r s).waiting = s.waiting ∧ (refundOp r s).config = s.config ∧
    (refundOp r s).stats = s.stats ∧ (refundOp r s).showUnit = s.showUnit ∧ (refundOp r s).seats = s.seats ∧
    (refundOp r s).basketUnit = s.basketUnit ∧ (refundOp r s).lines = s.lines ∧ (refundOp r s).print = s.print ∧
    (refundOp r s).voucherUnit = s.voucherUnit ∧ (refundOp r s).station = s.station := by
  simp only [refundOp]; (repeat' split) <;> simp

@[simp] theorem refundTake_keeps (r : Request) :
    (refundTake r s).pending = s.pending ∧ (refundTake r s).config = s.config ∧ (refundTake r s).stats = s.stats ∧
    (refundTake r s).showUnit = s.showUnit ∧ (refundTake r s).seats = s.seats ∧
    (refundTake r s).basketUnit = s.basketUnit ∧ (refundTake r s).lines = s.lines ∧ (refundTake r s).print = s.print ∧
    (refundTake r s).voucherUnit = s.voucherUnit ∧ (refundTake r s).station = s.station := by
  simp only [refundTake, whenFree]; (repeat' split) <;> simp

@[simp] theorem cancelPayOp_keeps (r : Request) :
    (cancelPayOp r s).pending = s.pending ∧ (cancelPayOp r s).waiting = s.waiting ∧ (cancelPayOp r s).config = s.config ∧
    (cancelPayOp r s).stats = s.stats ∧ (cancelPayOp r s).showUnit = s.showUnit ∧ (cancelPayOp r s).seats = s.seats ∧
    (cancelPayOp r s).basketUnit = s.basketUnit ∧ (cancelPayOp r s).print = s.print ∧
    (cancelPayOp r s).voucherUnit = s.voucherUnit ∧ (cancelPayOp r s).salesUnit = s.salesUnit := by
  simp only [cancelPayOp]; (repeat' split) <;> simp

@[simp] theorem reverseOp_keeps (r : Request) :
    (reverseOp r s).pending = s.pending ∧ (reverseOp r s).waiting = s.waiting ∧ (reverseOp r s).config = s.config ∧
    (reverseOp r s).stats = s.stats ∧ (reverseOp r s).showUnit = s.showUnit ∧ (reverseOp r s).seats = s.seats ∧
    (reverseOp r s).basketUnit = s.basketUnit ∧ (reverseOp r s).print = s.print ∧
    (reverseOp r s).voucherUnit = s.voucherUnit ∧ (reverseOp r s).salesUnit = s.salesUnit := by
  simp only [reverseOp]; (repeat' split) <;> simp

@[simp] theorem resetStationOp_keeps (r : Request) :
    (resetStationOp r s).pending = s.pending ∧ (resetStationOp r s).waiting = s.waiting ∧
    (resetStationOp r s).config = s.config ∧ (resetStationOp r s).stats = s.stats ∧
    (resetStationOp r s).showUnit = s.showUnit ∧ (resetStationOp r s).seats = s.seats ∧
    (resetStationOp r s).basketUnit = s.basketUnit ∧ (resetStationOp r s).print = s.print ∧
    (resetStationOp r s).voucherUnit = s.voucherUnit ∧ (resetStationOp r s).salesUnit = s.salesUnit := by
  simp only [resetStationOp]; (repeat' split) <;> simp

@[simp] theorem loadTemplateNow_keeps (r : Request) :
    (loadTemplateNow r s).pending = s.pending ∧ (loadTemplateNow r s).waiting = s.waiting ∧
    (loadTemplateNow r s).config = s.config ∧ (loadTemplateNow r s).stats = s.stats ∧
    (loadTemplateNow r s).showUnit = s.showUnit ∧ (loadTemplateNow r s).seats = s.seats ∧
    (loadTemplateNow r s).basketUnit = s.basketUnit ∧ (loadTemplateNow r s).lines = s.lines ∧
    (loadTemplateNow r s).voucherUnit = s.voucherUnit ∧ (loadTemplateNow r s).salesUnit = s.salesUnit ∧
    (loadTemplateNow r s).station = s.station := by
  simp only [loadTemplateNow]; (repeat' split) <;> simp

@[simp] theorem loadTemplateOp_keeps (r : Request) :
    (loadTemplateOp r s).pending = s.pending ∧ (loadTemplateOp r s).config = s.config ∧
    (loadTemplateOp r s).stats = s.stats ∧ (loadTemplateOp r s).showUnit = s.showUnit ∧
    (loadTemplateOp r s).seats = s.seats ∧ (loadTemplateOp r s).basketUnit = s.basketUnit ∧
    (loadTemplateOp r s).lines = s.lines ∧ (loadTemplateOp r s).voucherUnit = s.voucherUnit ∧
    (loadTemplateOp r s).salesUnit = s.salesUnit ∧ (loadTemplateOp r s).station = s.station := by
  simp only [loadTemplateOp]; (repeat' split) <;> simp

@[simp] theorem resumeNow_keeps (r : Request) :
    (resumeNow r s).pending = s.pending ∧ (resumeNow r s).waiting = s.waiting ∧ (resumeNow r s).config = s.config ∧
    (resumeNow r s).stats = s.stats ∧ (resumeNow r s).showUnit = s.showUnit ∧ (resumeNow r s).seats = s.seats ∧
    (resumeNow r s).basketUnit = s.basketUnit ∧ (resumeNow r s).lines = s.lines ∧
    (resumeNow r s).voucherUnit = s.voucherUnit ∧ (resumeNow r s).salesUnit = s.salesUnit := by
  simp only [resumeNow]; (repeat' split) <;> simp

@[simp] theorem resumeOp_keeps (r : Request) :
    (resumeOp r s).pending = s.pending ∧ (resumeOp r s).config = s.config ∧ (resumeOp r s).stats = s.stats ∧
    (resumeOp r s).showUnit = s.showUnit ∧ (resumeOp r s).seats = s.seats ∧ (resumeOp r s).basketUnit = s.basketUnit ∧
    (resumeOp r s).lines = s.lines ∧ (resumeOp r s).voucherUnit = s.voucherUnit ∧ (resumeOp r s).salesUnit = s.salesUnit := by
  simp only [resumeOp, whenFree]; (repeat' split) <;> simp

@[simp] theorem redirectNow_keeps (r : Request) :
    (redirectNow r s).pending = s.pending ∧ (redirectNow r s).waiting = s.waiting ∧ (redirectNow r s).config = s.config ∧
    (redirectNow r s).stats = s.stats ∧ (redirectNow r s).showUnit = s.showUnit ∧ (redirectNow r s).seats = s.seats ∧
    (redirectNow r s).lines = s.lines ∧ (redirectNow r s).voucherUnit = s.voucherUnit ∧
    (redirectNow r s).salesUnit = s.salesUnit ∧ (redirectNow r s).station = s.station := by
  simp only [redirectNow]; (repeat' split) <;> simp

@[simp] theorem redirectOp_keeps (r : Request) :
    (redirectOp r s).pending = s.pending ∧ (redirectOp r s).config = s.config ∧ (redirectOp r s).stats = s.stats ∧
    (redirectOp r s).showUnit = s.showUnit ∧ (redirectOp r s).seats = s.seats ∧ (redirectOp r s).lines = s.lines ∧
    (redirectOp r s).voucherUnit = s.voucherUnit ∧ (redirectOp r s).salesUnit = s.salesUnit ∧
    (redirectOp r s).station = s.station := by
  simp only [redirectOp, whenFree]; (repeat' split) <;> simp

@[simp] theorem reprintNow_keeps (r : Request) :
    (reprintNow r s).pending = s.pending ∧ (reprintNow r s).waiting = s.waiting ∧ (reprintNow r s).config = s.config ∧
    (reprintNow r s).stats = s.stats ∧ (reprintNow r s).showUnit = s.showUnit ∧ (reprintNow r s).seats = s.seats ∧
    (reprintNow r s).basketUnit = s.basketUnit ∧ (reprintNow r s).lines = s.lines ∧
    (reprintNow r s).voucherUnit = s.voucherUnit ∧ (reprintNow r s).salesUnit = s.salesUnit ∧
    (reprintNow r s).station = s.station := by
  simp only [reprintNow]; (repeat' split) <;> simp

@[simp] theorem reprintOp_keeps (r : Request) :
    (reprintOp r s).pending = s.pending ∧ (reprintOp r s).config = s.config ∧ (reprintOp r s).stats = s.stats ∧
    (reprintOp r s).showUnit = s.showUnit ∧ (reprintOp r s).seats = s.seats ∧ (reprintOp r s).basketUnit = s.basketUnit ∧
    (reprintOp r s).lines = s.lines ∧ (reprintOp r s).voucherUnit = s.voucherUnit ∧
    (reprintOp r s).salesUnit = s.salesUnit ∧ (reprintOp r s).station = s.station := by
  simp only [reprintOp, whenFree]; (repeat' split) <;> simp

@[simp] theorem openBasketOp_keeps (r : Request) :
    (openBasketOp r s).pending = s.pending ∧ (openBasketOp r s).waiting = s.waiting ∧
    (openBasketOp r s).config = s.config ∧ (openBasketOp r s).stats = s.stats ∧ (openBasketOp r s).showUnit = s.showUnit ∧
    (openBasketOp r s).seats = s.seats ∧ (openBasketOp r s).lines = s.lines ∧ (openBasketOp r s).print = s.print ∧
    (openBasketOp r s).voucherUnit = s.voucherUnit ∧ (openBasketOp r s).salesUnit = s.salesUnit := by
  simp only [openBasketOp]; (repeat' split) <;> simp

@[simp] theorem holdSeatsNow_keeps (r : Request) :
    (holdSeatsNow r s).pending = s.pending ∧ (holdSeatsNow r s).waiting = s.waiting ∧
    (holdSeatsNow r s).config = s.config ∧ (holdSeatsNow r s).stats = s.stats ∧ (holdSeatsNow r s).showUnit = s.showUnit ∧
    (holdSeatsNow r s).seats = s.seats ∧ (holdSeatsNow r s).lines = s.lines ∧ (holdSeatsNow r s).print = s.print ∧
    (holdSeatsNow r s).voucherUnit = s.voucherUnit ∧ (holdSeatsNow r s).salesUnit = s.salesUnit ∧
    (holdSeatsNow r s).station = s.station := by
  simp only [holdSeatsNow]; (repeat' split) <;> simp

@[simp] theorem releaseSeatsNow_keeps (r : Request) :
    (releaseSeatsNow r s).pending = s.pending ∧ (releaseSeatsNow r s).waiting = s.waiting ∧
    (releaseSeatsNow r s).config = s.config ∧ (releaseSeatsNow r s).stats = s.stats ∧
    (releaseSeatsNow r s).showUnit = s.showUnit ∧ (releaseSeatsNow r s).seats = s.seats ∧
    (releaseSeatsNow r s).lines = s.lines ∧ (releaseSeatsNow r s).print = s.print ∧
    (releaseSeatsNow r s).voucherUnit = s.voucherUnit ∧ (releaseSeatsNow r s).salesUnit = s.salesUnit ∧
    (releaseSeatsNow r s).station = s.station := by
  simp only [releaseSeatsNow]; (repeat' split) <;> simp

@[simp] theorem addVoucherNow_keeps (r : Request) :
    (addVoucherNow r s).pending = s.pending ∧ (addVoucherNow r s).waiting = s.waiting ∧
    (addVoucherNow r s).config = s.config ∧ (addVoucherNow r s).stats = s.stats ∧
    (addVoucherNow r s).showUnit = s.showUnit ∧ (addVoucherNow r s).seats = s.seats ∧
    (addVoucherNow r s).lines = s.lines ∧ (addVoucherNow r s).print = s.print ∧
    (addVoucherNow r s).voucherUnit = s.voucherUnit ∧ (addVoucherNow r s).salesUnit = s.salesUnit ∧
    (addVoucherNow r s).station = s.station := by
  simp only [addVoucherNow]; (repeat' split) <;> simp

@[simp] theorem dropVoucherNow_keeps (r : Request) :
    (dropVoucherNow r s).pending = s.pending ∧ (dropVoucherNow r s).waiting = s.waiting ∧
    (dropVoucherNow r s).config = s.config ∧ (dropVoucherNow r s).stats = s.stats ∧
    (dropVoucherNow r s).showUnit = s.showUnit ∧ (dropVoucherNow r s).seats = s.seats ∧
    (dropVoucherNow r s).lines = s.lines ∧ (dropVoucherNow r s).print = s.print ∧
    (dropVoucherNow r s).voucherUnit = s.voucherUnit ∧ (dropVoucherNow r s).salesUnit = s.salesUnit ∧
    (dropVoucherNow r s).station = s.station := by
  simp only [dropVoucherNow]; (repeat' split) <;> simp

@[simp] theorem quoteNow_keeps (r : Request) :
    (quoteNow r s).pending = s.pending ∧ (quoteNow r s).waiting = s.waiting ∧ (quoteNow r s).config = s.config ∧
    (quoteNow r s).stats = s.stats ∧ (quoteNow r s).showUnit = s.showUnit ∧ (quoteNow r s).seats = s.seats ∧
    (quoteNow r s).lines = s.lines ∧ (quoteNow r s).print = s.print ∧ (quoteNow r s).voucherUnit = s.voucherUnit ∧
    (quoteNow r s).salesUnit = s.salesUnit ∧ (quoteNow r s).station = s.station := by
  simp only [quoteNow]; (repeat' split) <;> simp

@[simp] theorem abandonNow_keeps (r : Request) :
    (abandonNow r s).pending = s.pending ∧ (abandonNow r s).waiting = s.waiting ∧ (abandonNow r s).config = s.config ∧
    (abandonNow r s).stats = s.stats ∧ (abandonNow r s).lines = s.lines ∧ (abandonNow r s).print = s.print ∧
    (abandonNow r s).salesUnit = s.salesUnit := by
  simp only [abandonNow]; (repeat' split) <;> simp

@[simp] theorem payNow_keeps (r : Request) :
    (payNow r s).pending = s.pending ∧ (payNow r s).waiting = s.waiting ∧ (payNow r s).config = s.config ∧
    (payNow r s).print = s.print := by
  simp only [payNow]; (repeat' split) <;> simp

@[simp] theorem settleNow_keeps (r : Request) :
    (settleNow r s).pending = s.pending ∧ (settleNow r s).waiting = s.waiting ∧ (settleNow r s).config = s.config ∧
    (settleNow r s).lines = s.lines ∧ (settleNow r s).print = s.print := by
  simp only [settleNow]; (repeat' split) <;> simp

@[simp] theorem retireNow_keeps (r : Request) :
    (retireNow r s).pending = s.pending ∧ (retireNow r s).waiting = s.waiting ∧ (retireNow r s).config = s.config ∧
    (retireNow r s).stats = s.stats ∧ (retireNow r s).showUnit = s.showUnit ∧ (retireNow r s).seats = s.seats ∧
    (retireNow r s).lines = s.lines ∧ (retireNow r s).print = s.print ∧ (retireNow r s).voucherUnit = s.voucherUnit ∧
    (retireNow r s).salesUnit = s.salesUnit := by
  simp only [retireNow]; (repeat' split) <;> simp

@[simp] theorem setClockOp_keeps (r : Request) :
    (setClockOp r s).pending = s.pending ∧ (setClockOp r s).waiting = s.waiting ∧ (setClockOp r s).config = s.config ∧
    (setClockOp r s).stats = s.stats ∧ (setClockOp r s).seats = s.seats ∧ (setClockOp r s).basketUnit = s.basketUnit ∧
    (setClockOp r s).lines = s.lines ∧ (setClockOp r s).print = s.print ∧ (setClockOp r s).voucherUnit = s.voucherUnit ∧
    (setClockOp r s).salesUnit = s.salesUnit := by
  simp only [setClockOp]; (repeat' split) <;> simp

@[simp] theorem loadShowOp_keeps (r : Request) :
    (loadShowOp r s).pending = s.pending ∧ (loadShowOp r s).waiting = s.waiting ∧ (loadShowOp r s).config = s.config ∧
    (loadShowOp r s).stats = s.stats ∧ (loadShowOp r s).seats = s.seats ∧ (loadShowOp r s).basketUnit = s.basketUnit ∧
    (loadShowOp r s).lines = s.lines ∧ (loadShowOp r s).print = s.print ∧ (loadShowOp r s).voucherUnit = s.voucherUnit ∧
    (loadShowOp r s).salesUnit = s.salesUnit ∧ (loadShowOp r s).station = s.station := by
  simp only [loadShowOp]; (repeat' split) <;> simp

@[simp] theorem setPricesOp_keeps (r : Request) :
    (setPricesOp r s).pending = s.pending ∧ (setPricesOp r s).waiting = s.waiting ∧ (setPricesOp r s).config = s.config ∧
    (setPricesOp r s).stats = s.stats ∧ (setPricesOp r s).seats = s.seats ∧ (setPricesOp r s).basketUnit = s.basketUnit ∧
    (setPricesOp r s).lines = s.lines ∧ (setPricesOp r s).print = s.print ∧
    (setPricesOp r s).voucherUnit = s.voucherUnit ∧ (setPricesOp r s).salesUnit = s.salesUnit ∧
    (setPricesOp r s).station = s.station := by
  simp only [setPricesOp]; (repeat' split) <;> simp

@[simp] theorem closeSaleOp_keeps (r : Request) :
    (closeSaleOp r s).pending = s.pending ∧ (closeSaleOp r s).waiting = s.waiting ∧ (closeSaleOp r s).config = s.config ∧
    (closeSaleOp r s).stats = s.stats ∧ (closeSaleOp r s).seats = s.seats ∧ (closeSaleOp r s).basketUnit = s.basketUnit ∧
    (closeSaleOp r s).lines = s.lines ∧ (closeSaleOp r s).print = s.print ∧
    (closeSaleOp r s).voucherUnit = s.voucherUnit ∧ (closeSaleOp r s).salesUnit = s.salesUnit := by
  simp only [closeSaleOp]; (repeat' split) <;> simp

@[simp] theorem dropShowOp_keeps (r : Request) :
    (dropShowOp r s).pending = s.pending ∧ (dropShowOp r s).waiting = s.waiting ∧ (dropShowOp r s).config = s.config ∧
    (dropShowOp r s).stats = s.stats ∧ (dropShowOp r s).seats = s.seats ∧ (dropShowOp r s).basketUnit = s.basketUnit ∧
    (dropShowOp r s).lines = s.lines ∧ (dropShowOp r s).print = s.print ∧ (dropShowOp r s).voucherUnit = s.voucherUnit ∧
    (dropShowOp r s).salesUnit = s.salesUnit ∧ (dropShowOp r s).station = s.station := by
  simp only [dropShowOp]; (repeat' split) <;> simp

@[simp] theorem configureOp_keeps (r : Request) :
    (configureOp r s).pending = s.pending ∧ (configureOp r s).waiting = s.waiting ∧ (configureOp r s).stats = s.stats ∧
    (configureOp r s).seats = s.seats ∧ (configureOp r s).basketUnit = s.basketUnit ∧
    (configureOp r s).salesUnit = s.salesUnit := by
  unfold configureOp; dsimp only; split <;> simp only [completeSlot_keeps, takeShares_keeps, and_self]

@[simp] theorem clearCountsOp_keeps (r : Request) :
    (clearCountsOp r s).pending = s.pending ∧ (clearCountsOp r s).waiting = s.waiting ∧
    (clearCountsOp r s).config = s.config ∧ (clearCountsOp r s).showUnit = s.showUnit ∧
    (clearCountsOp r s).seats = s.seats ∧ (clearCountsOp r s).basketUnit = s.basketUnit ∧
    (clearCountsOp r s).lines = s.lines ∧ (clearCountsOp r s).print = s.print ∧
    (clearCountsOp r s).voucherUnit = s.voucherUnit ∧ (clearCountsOp r s).salesUnit = s.salesUnit ∧
    (clearCountsOp r s).station = s.station := by
  simp [clearCountsOp]

end Sys2Proof.Machine
end

