-- ==== Sys2Proof/Laws/Store.lean ====
section
/-! SUPPORT. The laws of tables and sparse stores: what a read finds after a write, and that every write keeps the canonical
form. -/

namespace Sys2Proof.Machine

/-! ### Tables -/

@[simp] theorem updAt_length {α : Type} (l : List α) (i : Nat) (f : α → α) : (updAt l i f).length = l.length := by
  unfold updAt; split <;> simp

theorem updAt_getElem? {α : Type} (l : List α) (i j : Nat) (f : α → α) :
    (updAt l i f)[j]? = if i = j then l[j]?.map f else l[j]? := by
  unfold updAt
  split
  · rename_i x h
    rw [List.getElem?_set]
    by_cases e : i = j
    · subst e
      have hl : i < l.length := by
        rcases Nat.lt_or_ge i l.length with h' | h'
        · exact h'
        · simp [List.getElem?_eq_none h'] at h
      have hx : l[i] = x := by simpa [hl] using h
      simp [hl, hx]
    · simp [e]
  · rename_i h
    by_cases e : i = j
    · subst e; simp [h]
    · simp [e]

theorem updAt_getD_self {α : Type} (l : List α) (i : Nat) (f : α → α) (d : α) (h : i < l.length) :
    (updAt l i f).getD i d = f (l.getD i d) := by
  rw [List.getD_eq_getElem?_getD, updAt_getElem?, List.getD_eq_getElem?_getD]
  simp [List.getElem?_eq_getElem h]

theorem updAt_getD_other {α : Type} (l : List α) (i j : Nat) (f : α → α) (d : α) (h : i ≠ j) :
    (updAt l i f).getD j d = l.getD j d := by
  rw [List.getD_eq_getElem?_getD, updAt_getElem?, List.getD_eq_getElem?_getD, if_neg h]

theorem mem_updAt {α : Type} {l : List α} {i : Nat} {f : α → α} {x : α} (h : x ∈ updAt l i f) :
    x ∈ l ∨ ∃ y ∈ l, x = f y := by
  unfold updAt at h
  split at h
  · rename_i y hy
    rcases List.mem_or_eq_of_mem_set h with h | h
    · exact .inl h
    · exact .inr ⟨y, List.mem_of_getElem? hy, h⟩
  · exact .inl h

/-! ### Sparse stores -/

/-- Writing to the same key and reading gives the value written. -/
theorem sparseGet_put_self {α : Type} [DecidableEq α] (d : α) (l : List (Nat × α)) (a : Nat) (v : α)
    (h : sparseWf d l) : sparseGet d (sparsePut d l a v) a = v := by
  induction l with
  | nil => unfold sparsePut; split <;> simp_all [sparseGet]
  | cons p r ih =>
    obtain ⟨k, w⟩ := p
    have hr : sparseWf d r := ⟨(List.pairwise_cons.mp h.1).2, fun q hq => h.2 q (List.mem_cons_of_mem _ hq)⟩
    have hk : ∀ q ∈ r, k < q.1 := (List.pairwise_cons.mp h.1).1
    have low : ∀ (t : List (Nat × α)), (∀ q ∈ t, a < q.1) → sparseGet d t a = d := by
      intro t ht
      induction t with
      | nil => rfl
      | cons q t iht =>
        have := ht q List.mem_cons_self
        simp only [sparseGet]
        rw [if_neg (by omega)]
        exact iht (fun q' hq' => ht q' (List.mem_cons_of_mem _ hq'))
    simp only [sparsePut]
    split
    · rename_i hlt
      split
      · rename_i hv
        subst hv
        exact low _ (by
          intro q hq
          rcases List.mem_cons.mp hq with rfl | hq
          · exact hlt
          · exact Nat.lt_trans hlt (hk q hq))
      · simp [sparseGet]
    · split
      · rename_i _ he
        subst he
        split
        · rename_i hv; subst hv; exact low _ hk
        · simp [sparseGet]
      · rename_i h1 h2
        simp only [sparseGet]
        rw [if_neg (by omega)]
        exact ih hr

/-- A write leaves every other key as it was. -/
theorem sparseGet_put_other {α : Type} [DecidableEq α] (d : α) (l : List (Nat × α)) (a b : Nat) (v : α) (h : a ≠ b)
    (hw : sparseWf d l) : sparseGet d (sparsePut d l a v) b = sparseGet d l b := by
  induction l with
  | nil => unfold sparsePut; split <;> simp_all [sparseGet]
  | cons p r ih =>
    obtain ⟨k, w⟩ := p
    have hr : sparseWf d r := ⟨(List.pairwise_cons.mp hw.1).2, fun q hq => hw.2 q (List.mem_cons_of_mem _ hq)⟩
    simp only [sparsePut]
    split
    · split
      · rfl
      · simp [sparseGet, h]
    · split
      · rename_i _ he
        subst he
        split
        · simp [sparseGet, h]
        · simp [sparseGet, h]
      · simp only [sparseGet]
        split
        · rfl
        · exact ih hr

/-- A key written is the only new key. -/
theorem sparsePut_keys {α : Type} [DecidableEq α] (d : α) (l : List (Nat × α)) (a : Nat) (v : α) :
    ∀ q ∈ sparsePut d l a v, q.1 = a ∨ q ∈ l := by
  induction l with
  | nil => unfold sparsePut; split <;> simp_all
  | cons p r ih =>
    obtain ⟨k, w⟩ := p
    intro q hq
    simp only [sparsePut] at hq
    split at hq
    · split at hq
      · exact .inr hq
      · rcases List.mem_cons.mp hq with rfl | hq
        · exact .inl rfl
        · exact .inr hq
    · split at hq
      · split at hq
        · exact .inr (List.mem_cons_of_mem _ hq)
        · rcases List.mem_cons.mp hq with rfl | hq
          · exact .inl rfl
          · exact .inr (List.mem_cons_of_mem _ hq)
      · rcases List.mem_cons.mp hq with rfl | hq
        · exact .inr List.mem_cons_self
        · rcases ih q hq with h | h
          · exact .inl h
          · exact .inr (List.mem_cons_of_mem _ h)

/-- A write lists no default. -/
theorem sparsePut_listed {α : Type} [DecidableEq α] (d : α) (l : List (Nat × α)) (a : Nat) (v : α)
    (h : ∀ p ∈ l, p.2 ≠ d) : ∀ q ∈ sparsePut d l a v, q.2 ≠ d := by
  induction l with
  | nil => unfold sparsePut; split <;> simp_all
  | cons p r ih =>
    obtain ⟨k, w⟩ := p
    have hr := ih (fun q hq => h q (List.mem_cons_of_mem _ hq))
    have hp := h (k, w) List.mem_cons_self
    have ht : ∀ q ∈ r, q.2 ≠ d := fun q hq => h q (List.mem_cons_of_mem _ hq)
    intro q hq
    simp only [sparsePut] at hq
    split at hq
    · split at hq
      · exact h q hq
      · rename_i hv
        rcases List.mem_cons.mp hq with rfl | hq
        · exact hv
        · exact h q hq
    · split at hq
      · split at hq
        · exact ht q hq
        · rename_i hv
          rcases List.mem_cons.mp hq with rfl | hq
          · exact hv
          · exact ht q hq
      · rcases List.mem_cons.mp hq with rfl | hq
        · exact hp
        · exact hr q hq

/-- Every write keeps the canonical form. -/
theorem sparsePut_wf {α : Type} [DecidableEq α] (d : α) (l : List (Nat × α)) (a : Nat) (v : α) (h : sparseWf d l) :
    sparseWf d (sparsePut d l a v) := by
  refine ⟨?_, sparsePut_listed d l a v h.2⟩
  induction l with
  | nil => unfold sparsePut; split <;> simp
  | cons p r ih =>
    obtain ⟨k, w⟩ := p
    have hr : sparseWf d r := ⟨(List.pairwise_cons.mp h.1).2, fun q hq => h.2 q (List.mem_cons_of_mem _ hq)⟩
    have hk : ∀ q ∈ r, k < q.1 := (List.pairwise_cons.mp h.1).1
    simp only [sparsePut]
    split
    · rename_i hlt
      split
      · exact h.1
      · refine List.pairwise_cons.mpr ⟨?_, h.1⟩
        intro q hq
        rcases List.mem_cons.mp hq with rfl | hq
        · exact hlt
        · exact Nat.lt_trans hlt (hk q hq)
    · split
      · rename_i _ he
        subst he
        split
        · exact hr.1
        · exact List.pairwise_cons.mpr ⟨hk, hr.1⟩
      · rename_i h1 h2
        refine List.pairwise_cons.mpr ⟨?_, ih hr⟩
        intro q hq
        rcases sparsePut_keys d r a v q hq with e | hq
        · have : k < a := by omega
          rw [e]; exact this
        · exact hk q hq

/-- Dropping entries keeps the canonical form. -/
theorem sparse_filter_wf {α : Type} [DecidableEq α] (d : α) (l : List (Nat × α)) (p : Nat × α → Bool) (h : sparseWf d l) :
    sparseWf d (l.filter p) :=
  ⟨h.1.sublist List.filter_sublist, fun q hq => h.2 q (List.mem_filter.mp hq).1⟩

/-- An empty store is canonical. -/
theorem sparse_nil_wf {α : Type} [DecidableEq α] (d : α) : sparseWf d ([] : List (Nat × α)) :=
  ⟨List.Pairwise.nil, fun _ h => absurd h List.not_mem_nil⟩

/-! ### Foyer memory -/

theorem memWrite_wf (m : List Host.Cell) (a : Nat) (b : Byte) (h : Memory.wf m) : Memory.wf (memWrite m a b) :=
  sparsePut_wf _ _ _ _ h

theorem memWriteAll_wf (l : List Byte) (m : List Host.Cell) (a : Nat) (h : Memory.wf m) : Memory.wf (memWriteAll m a l) := by
  induction l generalizing m a with
  | nil => exact h
  | cons b r ih => exact ih _ _ (memWrite_wf m a b h)

theorem memRead_write_self (m : List Host.Cell) (a : Nat) (b : Byte) (h : Memory.wf m) : memRead (memWrite m a b) a = b :=
  sparseGet_put_self _ _ _ _ h

theorem memRead_write_other (m : List Host.Cell) (a c : Nat) (b : Byte) (h : Memory.wf m) (hne : a ≠ c) :
    memRead (memWrite m a b) c = memRead m c := sparseGet_put_other _ _ _ _ _ hne h

/-- Outside the bytes written, memory reads as before. -/
theorem memRead_writeAll_outside (l : List Byte) (m : List Host.Cell) (a c : Nat) (h : Memory.wf m)
    (hc : c < a ∨ a + l.length ≤ c) : memRead (memWriteAll m a l) c = memRead m c := by
  induction l generalizing m a with
  | nil => rfl
  | cons b r ih =>
    simp only [List.length_cons] at hc
    simp only [memWriteAll]
    rw [ih _ _ (memWrite_wf m a b h) (by omega), memRead_write_other _ _ _ _ h (by omega)]

/-- Within the bytes written, memory reads what was written. -/
theorem memRead_writeAll_inside (l : List Byte) (m : List Host.Cell) (a i : Nat) (h : Memory.wf m) (hi : i < l.length) :
    memRead (memWriteAll m a l) (a + i) = l.getD i 0 := by
  induction l generalizing m a i with
  | nil => simp at hi
  | cons b r ih =>
    simp only [memWriteAll]
    cases i with
    | zero =>
      rw [memRead_writeAll_outside _ _ _ _ (memWrite_wf m a b h) (by omega)]
      simpa using memRead_write_self m a b h
    | succ i =>
      have := ih (memWrite m a b) (a + 1) i (memWrite_wf m a b h) (by simpa using hi)
      simpa [Nat.add_assoc, Nat.add_comm 1 i] using this

end Sys2Proof.Machine
end

