-- ==== Sys2Proof/Laws/Ops.lean ====
section
/-! SUPPORT. What each shared operation can do, said once: records read after their update, requests taken, events that wait,
factors, the notice and the completion. -/

namespace Sys2Proof.Machine

variable (s : State)

/-! ### Records read after an update -/

theorem basketAt_setBasket_self (b : Nat) (f : Basket → Basket) (h : b < s.basketUnit.baskets.length) :
    basketAt (setBasket b f s) b = f (basketAt s b) := updAt_getD_self _ _ _ _ h

theorem basketAt_setBasket_other (b c : Nat) (f : Basket → Basket) (h : b ≠ c) :
    basketAt (setBasket b f s) c = basketAt s c := updAt_getD_other _ _ _ _ _ h

theorem basketAt_updBasket_self (b : Nat) (f : Basket → Basket) (h : b < s.basketUnit.baskets.length) :
    basketAt (updBasket b f s) b = { f (basketAt s b) with changes := bump (basketAt s b).changes } :=
  updAt_getD_self _ _ _ _ h

theorem basketAt_updBasket_other (b c : Nat) (f : Basket → Basket) (h : b ≠ c) :
    basketAt (updBasket b f s) c = basketAt s c := updAt_getD_other _ _ _ _ _ h

theorem showAt_setShow_self (n : Nat) (f : ShowRec → ShowRec) (h : n < s.showUnit.shows.length) :
    showAt (setShow n f s) n = f (showAt s n) := updAt_getD_self _ _ _ _ h

theorem showAt_setShow_other (n m : Nat) (f : ShowRec → ShowRec) (h : n ≠ m) :
    showAt (setShow n f s) m = showAt s m := updAt_getD_other _ _ _ _ _ h

theorem showAt_updShow_self (n : Nat) (f : ShowRec → ShowRec) (h : n < s.showUnit.shows.length) :
    showAt (updShow n f s) n = { f (showAt s n) with changes := bump (showAt s n).changes } :=
  updAt_getD_self _ _ _ _ h

theorem showAt_updShow_other (n m : Nat) (f : ShowRec → ShowRec) (h : n ≠ m) :
    showAt (updShow n f s) m = showAt s m := updAt_getD_other _ _ _ _ _ h

theorem kioskAt_updKiosk_self (k : Nat) (f : Kiosk → Kiosk) (h : k < s.station.kiosks.length) :
    kioskAt (updKiosk k f s) k = { f (kioskAt s k) with changes := bump (kioskAt s k).changes } :=
  updAt_getD_self _ _ _ _ h

theorem kioskAt_updKiosk_other (k j : Nat) (f : Kiosk → Kiosk) (h : k ≠ j) :
    kioskAt (updKiosk k f s) j = kioskAt s j := updAt_getD_other _ _ _ _ _ h

theorem counterAt_updCounter_self (m : Nat) (f : Counter → Counter) (h : m < s.station.counters.length) :
    counterAt (updCounter m f s) m = { f (counterAt s m) with changes := bump (counterAt s m).changes } :=
  updAt_getD_self _ _ _ _ h

theorem counterAt_updCounter_other (m j : Nat) (f : Counter → Counter) (h : m ≠ j) :
    counterAt (updCounter m f s) j = counterAt s j := updAt_getD_other _ _ _ _ _ h

theorem lineAt_updLine_self (n : Nat) (f : Line → Line) (h : n < s.lines.length) :
    lineAt (updLine n f s) n = f (lineAt s n) := updAt_getD_self _ _ _ _ h

theorem lineAt_updLine_other (n m : Nat) (f : Line → Line) (h : n ≠ m) :
    lineAt (updLine n f s) m = lineAt s m := updAt_getD_other _ _ _ _ _ h

theorem printerAt_setPrinter_self (p : Nat) (f : Printer → Printer) (h : p < s.print.printers.length) :
    printerAt (setPrinter p f s) p = f (printerAt s p) := updAt_getD_self _ _ _ _ h

theorem printerAt_setPrinter_other (p q : Nat) (f : Printer → Printer) (h : p ≠ q) :
    printerAt (setPrinter p f s) q = printerAt s q := updAt_getD_other _ _ _ _ _ h

theorem printerAt_updPrinter_self (p : Nat) (f : Printer → Printer) (h : p < s.print.printers.length) :
    printerAt (updPrinter p f s) p = f (printerAt s p) := updAt_getD_self _ _ _ _ h

theorem printerAt_updPrinter_other (p q : Nat) (f : Printer → Printer) (h : p ≠ q) :
    printerAt (updPrinter p f s) q = printerAt s q := updAt_getD_other _ _ _ _ _ h

theorem printerAt_updQueue_self (p : Nat) (f : Printer → Printer) (h : p < s.print.printers.length) :
    printerAt (updQueue p f s) p = { f (printerAt s p) with queueChanges := bump (printerAt s p).queueChanges } :=
  updAt_getD_self (d := Printer.initial) _ _ (fun q => { f q with queueChanges := bump q.queueChanges }) h

theorem printerAt_updQueue_other (p q : Nat) (f : Printer → Printer) (h : p ≠ q) :
    printerAt (updQueue p f s) q = printerAt s q := updAt_getD_other _ _ _ _ _ h

theorem receiverAt_setReceiver_self (m : Nat) (f : Receiver → Receiver) (h : m < s.voucherUnit.receivers.length) :
    receiverAt (setReceiver m f s) m = f (receiverAt s m) := updAt_getD_self _ _ _ _ h

theorem receiverAt_setReceiver_other (m j : Nat) (f : Receiver → Receiver) (h : m ≠ j) :
    receiverAt (setReceiver m f s) j = receiverAt s j := updAt_getD_other _ _ _ _ _ h

theorem seatAt_setSeat_self (cell : Nat) (v : Seat) (h : sparseWf Seat.spare s.seats) :
    seatAt (setSeat cell v s) cell = v := sparseGet_put_self _ _ _ _ h

theorem seatAt_setSeat_other (cell c : Nat) (v : Seat) (h : sparseWf Seat.spare s.seats) (hc : cell ≠ c) :
    seatAt (setSeat cell v s) c = seatAt s c := sparseGet_put_other _ _ _ _ _ hc h

theorem voucherAt_setVoucher_self (i : Nat) (v : Voucher) (h : sparseWf Voucher.empty s.voucherUnit.entries) :
    voucherAt (setVoucher i v s) i = v := sparseGet_put_self _ _ _ _ h

theorem voucherAt_setVoucher_other (i j : Nat) (v : Voucher)
    (h : sparseWf Voucher.empty s.voucherUnit.entries) (hc : i ≠ j) :
    voucherAt (setVoucher i v s) j = voucherAt s j := sparseGet_put_other _ _ _ _ _ hc h

theorem saleAt_setSale_self (p : Nat) (v : Sale) (h : sparseWf Sale.empty s.salesUnit.sales) :
    saleAt (setSale p v s) p = v := sparseGet_put_self _ _ _ _ h

theorem saleAt_setSale_other (p q : Nat) (v : Sale) (h : sparseWf Sale.empty s.salesUnit.sales) (hc : p ≠ q) :
    saleAt (setSale p v s) q = saleAt s q := sparseGet_put_other _ _ _ _ _ hc h

theorem statAt_addStat_self (off n : Nat) (h : sparseWf (0 : Nat) s.stats) :
    statAt (addStat off n s) off = min (statAt s off + n) 4294967295 := sparseGet_put_self _ _ _ _ h

theorem statAt_addStat_other (off o n : Nat) (h : sparseWf (0 : Nat) s.stats) (hc : off ≠ o) :
    statAt (addStat off n s) o = statAt s o := sparseGet_put_other _ _ _ _ _ hc h

/-! ### Requests and waits -/

theorem withRequest_handed {k : RequestKind} {r : Request} {s : State} (h : Handed k r s) (f : Request → State → State) :
    withRequest k f s = f r (taken r s) := by
  simp [withRequest, h.1, h.2, taken]

theorem withRequest_none {k : RequestKind} {s : State} (h : ∀ r, ¬ Handed k r s) (f : Request → State → State) :
    withRequest k f s = s := by
  unfold withRequest
  split
  · split
    · exact absurd ⟨‹_›, ‹_›⟩ (h _)
    · rfl
  · rfl

theorem whenFree_free {s : State} {r : Resource} (h : busy s r = false) (e : WaitEvent) (f : State → State) :
    whenFree r e f s = f s := by simp [whenFree, h]

theorem whenFree_busy {s : State} {r : Resource} (h : busy s r = true) (e : WaitEvent) (f : State → State) :
    whenFree r e f s = waitFor r e s := by simp [whenFree, h]

theorem busy_taken (r : Request) (x : Resource) : busy (taken r s) x = busy s x := by cases x <;> rfl

theorem nextWaiting_none {r : Resource} {l : List (Resource × WaitEvent)} (h : ∀ e ∈ l, e.1 ≠ r) : nextWaiting r l = none := by
  induction l with
  | nil => rfl
  | cons e rest ih =>
    obtain ⟨q, e⟩ := e
    have hq : q ≠ r := h (q, e) (by simp)
    simp [nextWaiting, hq, ih (fun x hx => h x (by simp [hx]))]

theorem drainFor_quiet {s : State} {r : Resource} (h : NoneWaits r s) (n : Nat) : drainFor r n s = s := by
  cases n with
  | zero => rfl
  | succ n => simp [drainFor, nextWaiting_none h]

theorem drain_quiet {s : State} {r : Resource} (h : NoneWaits r s) : drain r s = s := drainFor_quiet h _

theorem busy_iff {s : State} {r : Resource} : busy s r = true ↔ Busy s r := by
  cases r <;> simp [busy, Busy, Option.isSome_iff_ne_none]

/-- What `nextWaiting` finds is the first event that waits for the resource, and the others in their order. -/
theorem nextWaiting_first {r : Resource} {l rest : List (Resource × WaitEvent)} {e : WaitEvent} (h : nextWaiting r l = some (e, rest)) :
    ∃ before after, l = before ++ (r, e) :: after ∧ (∀ x ∈ before, x.1 ≠ r) ∧ rest = before ++ after := by
  induction l generalizing rest with
  | nil => cases h
  | cons x l ih =>
    obtain ⟨q, x⟩ := x
    by_cases hq : q = r
    · subst hq
      simp only [nextWaiting, if_true, Option.some.injEq, Prod.mk.injEq] at h
      obtain ⟨rfl, rfl⟩ := h
      exact ⟨[], l, rfl, by simp, rfl⟩
    · simp only [nextWaiting, hq, if_false] at h
      split at h
      · next y others hy =>
        simp only [Option.some.injEq, Prod.mk.injEq] at h
        obtain ⟨rfl, rfl⟩ := h
        obtain ⟨before, after, rfl, none, rfl⟩ := ih hy
        refine ⟨(q, x) :: before, after, rfl, ?_, rfl⟩
        intro z hz
        rcases List.mem_cons.mp hz with rfl | hz
        exacts [hq, none z hz]
      · cases h

/-- An event that waited leaves the list as it is, or waits again, for a resource that is busy, and does nothing else. -/
theorem takeWaiting_waits (e : WaitEvent) :
    (takeWaiting e s).waiting = s.waiting ∨ ∃ r x, busy s r = true ∧ takeWaiting e s = waitFor r x s := by
  have free : ∀ (r : Resource) (x : WaitEvent) (f : State → State), ((f s).waiting = s.waiting) →
      (whenFree r x f s).waiting = s.waiting ∨ ∃ q y, busy s q = true ∧ whenFree r x f s = waitFor q y s := by
    intro r x f hf
    by_cases h : busy s r = true
    · exact .inr ⟨r, x, h, whenFree_busy h x f⟩
    · exact .inl (by rw [whenFree_free (Bool.eq_false_iff.mpr h)]; exact hf)
  cases e with
  | request r =>
    show (takeRequest r s).waiting = _ ∨ ∃ q x, _ ∧ takeRequest r s = _
    unfold takeRequest basketRequest
    cases r.kind
    case loadTemplate =>
      simp only [loadTemplateOp]
      split
      · next p hp => exact .inr ⟨.printer p, .request r, by simpa using List.find?_some hp, rfl⟩
      · left; simp
    case redirect =>
      simp only [redirectOp]
      by_cases h : busy s (.printer (param1 r 0)) = true
      · exact .inr ⟨_, _, h, whenFree_busy h _ _⟩
      · rw [whenFree_free (Bool.eq_false_iff.mpr h)]; exact free _ _ _ (by simp)
    case holdSeats | releaseSeats | addVoucher | dropVoucher | quote | pay | settle | abandon | retire =>
      exact free _ _ _ (by simp)
    case reprint => exact free (.printer (param1 r 5)) _ (reprintNow r) (by simp)
    case resumePrinter => exact free (.printer (param1 r 0)) _ (resumeNow r) (by simp)
    case refund => exact free (.sale (param3 r 0)) _ (refundOp r) (by simp)
    all_goals (left; simp)
  | holdDeadline b =>
    show (holdDeadlineOp b s).waiting = _ ∨ ∃ q x, _ ∧ holdDeadlineOp b s = _
    unfold holdDeadlineOp
    split
    · exact free _ _ _ (by simp)
    · exact .inl rfl
  | leftSale b => exact free _ _ _ (by simp)
  | status p byte => exact free (.printer p) _ (fun t => refreshKiosk p (presentStatus p byte t)) (by simp)
  | returned p byte => exact free (.printer p) _ (fun t => refreshKiosk p (presentStatus p byte (endAbsence p byte t))) (by simp)
  | absence p =>
    show (absenceOp p s).waiting = _ ∨ ∃ q x, _ ∧ absenceOp p s = _
    unfold absenceOp
    split
    · exact .inl rfl
    · exact free _ _ _ (by simp)
  | cutDeadline p =>
    show (cutDeadlineOp p s).waiting = _ ∨ ∃ q x, _ ∧ cutDeadlineOp p s = _
    unfold cutDeadlineOp
    split
    · exact free _ _ _ (by simp)
    · exact .inl rfl
  | pull p =>
    show (pullOp p s).waiting = _ ∨ ∃ q x, _ ∧ pullOp p s = _
    unfold pullOp
    split
    · exact free _ _ _ (by simp)
    · exact .inl rfl
  | printerReset k =>
    show (printerResetOp k s).waiting = _ ∨ ∃ q x, _ ∧ printerResetOp k s = _
    unfold printerResetOp
    split
    · exact free _ _ _ (by simp)
    · exact .inl rfl
  | saleCheck p =>
    show (saleCheckOp p s).waiting = _ ∨ ∃ q x, _ ∧ saleCheckOp p s = _
    unfold saleCheckOp
    split
    · exact .inl rfl
    · split
      · exact .inl rfl
      · exact free _ _ _ (by simp)
  | salesRemoval sh =>
    show (salesRemovalOp sh s).waiting = _ ∨ ∃ q x, _ ∧ salesRemovalOp sh s = _
    unfold salesRemovalOp
    split
    · next serial hx hs =>
      refine .inr ⟨_, _, ?_, rfl⟩
      simp only [refundOfShow, Option.map_eq_some_iff] at hs
      obtain ⟨f, hf, rfl⟩ := hs
      simp only [busy, List.any_eq_true]
      exact ⟨f, List.mem_of_find?_eq_some hf, by simp⟩
    · left; unfold salesRemovalNow; split <;> [rfl; (split <;> simp)]

/-! ### Lists of numbers handled in turn -/

@[simp] theorem forEach_nil (f : Nat → State → State) : forEach [] f s = s := rfl

@[simp] theorem forEach_cons (n : Nat) (l : List Nat) (f : Nat → State → State) :
    forEach (n :: l) f s = forEach l f (f n s) := rfl

theorem forEach_induct {p : State → Prop} {f : Nat → State → State} (hf : ∀ n t, p t → p (f n t)) (l : List Nat) {s : State}
    (h : p s) : p (forEach l f s) := by
  induction l generalizing s with
  | nil => exact h
  | cons n r ih => exact ih (hf n s h)

end Sys2Proof.Machine
end

