-- ==== Sys2Proof/Laws/Events.lean ====
section
/-! SUPPORT. What the shared events can do, said once: seat events, removals and activations of vouchers, a condition derived
anew, the supply of contexts, and stores read after a filter. -/

namespace Sys2Proof.Machine

/-! ### Stores -/

/-- A canonical store read after a filter. -/
theorem sparseGet_filter {α} [DecidableEq α] (d : α) (l : List (Nat × α)) (hl : sparseWf d l) (p : Nat × α → Bool) (a : Nat) : 
   sparseGet d (l.filter p) a = if p (a, sparseGet d l a) = true then sparseGet d l a else d := by
  induction l with
  | nil => show d = _; split <;> rfl
  | cons e r ih =>
    obtain ⟨k, v⟩ := e
    have hr : sparseWf d r := ⟨(List.pairwise_cons.mp hl.1).2, fun p hp => hl.2 p (by simp [hp])⟩
    have hk : ∀ q ∈ r, k < q.1 := (List.pairwise_cons.mp hl.1).1
    have hnone : ∀ (r' : List (Nat × α)), (∀ q ∈ r', k < q.1) → sparseGet d r' k = d := by
      intro r' hr'
      induction r' with
      | nil => rfl
      | cons e' r' ih' =>
        obtain ⟨k', v'⟩ := e'
        have := hr' (k', v') (by simp)
        simp only [sparseGet]; rw [if_neg (by simp at this; omega)]
        exact ih' (fun q hq => hr' q (by simp [hq]))
    simp only [List.filter_cons]
    by_cases hp : p (k, v) = true
    · simp only [hp, if_true, sparseGet]
      by_cases e : k = a
      · subst e; simp [hp]
      · simp [e, ih hr]
    · simp only [hp, if_false, sparseGet, Bool.false_eq_true]
      by_cases e : k = a
      · subst e; simp [hp]
        exact hnone _ (fun q hq => hk q (List.mem_filter.mp hq).1)
      · simp [e, ih hr]

/-- What a canonical store lists is what it reads as, where that is not the default. -/
theorem sparse_mem_iff {α} [DecidableEq α] (d : α) (l : List (Nat × α)) (hl : sparseWf d l) (a : Nat) (v : α) : (a, v) ∈ l ↔ (sparseGet d l a = v ∧ v ≠ d) := by
  induction l with
  | nil => simp [sparseGet]; intro h; simp [h]
  | cons e r ih =>
    obtain ⟨k, w⟩ := e
    have hr : sparseWf d r := ⟨(List.pairwise_cons.mp hl.1).2, fun p hp => hl.2 p (by simp [hp])⟩
    have hk : ∀ q ∈ r, k < q.1 := (List.pairwise_cons.mp hl.1).1
    simp only [sparseGet, List.mem_cons]
    by_cases e : k = a
    · subst e
      simp only [if_true, Prod.mk.injEq, true_and]
      constructor
      · rintro (rfl | h)
        · exact ⟨rfl, hl.2 (k, v) (by simp)⟩
        · have := hk _ h; simp at this
      · rintro ⟨rfl, _⟩; left; rfl
    · simp only [e, if_false]
      rw [← ih hr]
      constructor
      · rintro (h | h)
        · cases h; exact absurd rfl e
        · exact h
      · exact Or.inr

/-- The lowest free key of a canonical store is the lowest that reads as the default. -/
theorem lowestFree_spec {α : Type} [DecidableEq α] (d : α) (l : List (Nat × α)) (n k : Nat) (hl : sparseWf d l) (hn : n ≤ k)
    (hk : sparseGet d l k = d) (hall : ∀ j, n ≤ j → j < k → sparseGet d l j ≠ d) (hlow : ∀ q ∈ l, n ≤ q.1) :
    lowestFree n l = k := by
  induction l generalizing n with
  | nil =>
    simp only [lowestFree]
    rcases Nat.lt_or_ge n k with h | h
    · exact absurd rfl (hall n (Nat.le_refl _) h)
    · omega
  | cons e r ih =>
    obtain ⟨a, v⟩ := e
    have hr : sparseWf d r := ⟨(List.pairwise_cons.mp hl.1).2, fun p hp => hl.2 p (by simp [hp])⟩
    have ha : ∀ q ∈ r, a < q.1 := (List.pairwise_cons.mp hl.1).1
    have hv : v ≠ d := hl.2 (a, v) (by simp)
    have hna : n ≤ a := hlow (a, v) (by simp)
    simp only [lowestFree]
    by_cases e : a = n
    · subst e
      have hak : a ≠ k := by
        intro e; subst e; simp [sparseGet] at hk; exact hv hk
      rw [if_pos rfl]
      apply ih (a + 1) hr (by omega)
      · simpa [sparseGet, hak] using hk
      · intro j h1 h2
        have := hall j (by omega) h2
        simpa [sparseGet, show a ≠ j by omega] using this
      · exact fun q hq => ha q hq
    · rw [if_neg e, if_neg (by omega)]
      rcases Nat.lt_or_ge n k with h | h
      · exfalso
        apply hall n (Nat.le_refl _) h
        have none' : ∀ (r' : List (Nat × α)), (∀ q ∈ r', n < q.1) → sparseGet d r' n = d := by
          intro r' hr'
          induction r' with
          | nil => rfl
          | cons e' r' ih' =>
            obtain ⟨k', v'⟩ := e'
            have := hr' (k', v') (by simp)
            simp only [sparseGet]; rw [if_neg (by simp at this; omega)]
            exact ih' (fun q hq => hr' q (by simp [hq]))
        apply none'
        intro q hq
        rcases List.mem_cons.mp hq with rfl | hq
        · show n < a; omega
        · have := ha q hq; omega
      · omega

/-! ### Seats -/

theorem writeCells_spec (cells : List Nat) (st ow) (s : State) (h : sparseWf Seat.spare s.seats) : let t := writeCells cells st ow s
   sparseWf Seat.spare t.seats ∧ t = { s with seats := t.seats } ∧ (∀ c ∈ cells, seatAt t c = ⟨st, (seatAt s c).tier, ow⟩) ∧ (∀ c, c ∉ cells → seatAt t c = seatAt s c) := by
  induction cells generalizing s with
  | nil => exact ⟨h, rfl, by simp, fun _ _ => rfl⟩
  | cons n l ih =>
    have hw : sparseWf Seat.spare (writeCell n st ow s).seats := sparsePut_wf _ _ _ _ h
    obtain ⟨i1, i2, i3, i4⟩ := ih (writeCell n st ow s) hw
    have self : seatAt (writeCell n st ow s) n = ⟨st, (seatAt s n).tier, ow⟩ := seatAt_setSeat_self _ _ _ h
    have other : ∀ c, c ≠ n → seatAt (writeCell n st ow s) c = seatAt s c := fun c hc => seatAt_setSeat_other _ _ _ _ h (Ne.symm hc)
    have e : writeCells (n :: l) st ow s = writeCells l st ow (writeCell n st ow s) := rfl
    simp only [e]
    refine ⟨i1, by rw [i2]; rfl, ?_, ?_⟩
    · intro c hc
      by_cases hl : c ∈ l
      · rw [i3 c hl]
        by_cases e : c = n
        · subst e; rw [self]
        · rw [other c e]
      · rcases List.mem_cons.mp hc with rfl | hc
        · rw [i4 _ hl, self]
        · exact absurd hc hl
    · intro c hc
      simp only [List.mem_cons, not_or] at hc
      rw [i4 c hc.2, other c hc.1]

theorem seatEvent_spec (sh : Nat) (list : List Nat) (st ow) (counts : ShowRec → ShowRec) (s : State) (h : sparseWf Seat.spare s.seats) (hs : sh < s.showUnit.shows.length) :
    let t := seatEvent sh list st ow counts s
    CellsMoved sh list st ow s t ∧ showAt t sh = (if list = [] then showAt s sh else { counts (showAt s sh) with changes := bump (showAt s sh).changes }) ∧ 
    (∀ n, n ≠ sh → showAt t n = showAt s n) ∧ t = { s with seats := t.seats, showUnit := { s.showUnit with shows := t.showUnit.shows } } := by
  cases list with
  | nil => exact ⟨⟨by simp, fun _ _ => rfl⟩, rfl, fun _ _ => rfl, rfl⟩
  | cons a l =>
    obtain ⟨w1, w2, w3, w4⟩ := writeCells_spec ((a :: l).map (poolIndex (showAt s sh))) st ow s h
    have e : seatEvent sh (a :: l) st ow counts s = updShow sh counts (writeCells ((a :: l).map (poolIndex (showAt s sh))) st ow s) := rfl
    simp only [e]
    generalize writeCells ((a :: l).map (poolIndex (showAt s sh))) st ow s = u at *
    have us : u.showUnit = s.showUnit := by rw [w2]
    have ush : ∀ n, showAt u n = showAt s n := by intro n; simp only [showAt, us]
    have useat : ∀ c, seatAt (updShow sh counts u) c = seatAt u c := fun _ => rfl
    refine ⟨⟨?_, ?_⟩, ?_, ?_, ?_⟩
    · intro i hi; rw [useat]; exact w3 _ (List.mem_map.mpr ⟨i, hi, rfl⟩)
    · intro c hc; rw [useat]; apply w4
      intro hm; obtain ⟨i, hi, rfl⟩ := List.mem_map.mp hm; exact hc i hi rfl
    · rw [showAt_updShow_self _ _ _ (by rw [us]; exact hs), ush]; simp
    · intro n hn; rw [showAt_updShow_other _ _ _ _ (Ne.symm hn), ush]
    · simp only [updShow, setShow]; rw [w2]

/-! ### Vouchers -/

theorem unlinkVoucher_spec (i : Nat) (s : State) (hw : sparseWf Voucher.empty s.voucherUnit.entries) : let t := unlinkVoucher i s
   sparseWf Voucher.empty t.voucherUnit.entries ∧ 
   t = { s with voucherUnit := { s.voucherUnit with entries := t.voucherUnit.entries, heads := t.voucherUnit.heads } } ∧ voucherAt t i = Voucher.empty ∧
   (∀ j, j ≠ i → voucherAt t j = { voucherAt s j with link := (voucherAt t j).link, changes := (voucherAt t j).changes } ∧ (voucherAt s j = .empty → voucherAt t j = .empty)) := by
  have P : ∀ u : State, (u.voucherUnit.entries = s.voucherUnit.entries) → u = { s with voucherUnit := { s.voucherUnit with entries := u.voucherUnit.entries, heads := u.voucherUnit.heads } } →
     let t := setVoucher i .empty u
     sparseWf Voucher.empty t.voucherUnit.entries ∧ 
   t = { s with voucherUnit := { s.voucherUnit with entries := t.voucherUnit.entries, heads := t.voucherUnit.heads } } ∧ voucherAt t i = Voucher.empty ∧
   (∀ j, j ≠ i → voucherAt t j = { voucherAt s j with link := (voucherAt t j).link, changes := (voucherAt t j).changes } ∧ (voucherAt s j = .empty → voucherAt t j = .empty)) := by
    intro u hu hf
    have hwu : sparseWf Voucher.empty u.voucherUnit.entries := by rw [hu]; exact hw
    refine ⟨sparsePut_wf _ _ _ _ hwu, ?_, voucherAt_setVoucher_self _ _ _ hwu, ?_⟩
    · simp only [setVoucher]; rw [hf]
    · intro j hj
      have : voucherAt (setVoucher i .empty u) j = voucherAt s j := by
        rw [voucherAt_setVoucher_other _ _ _ _ hwu (Ne.symm hj)]; simp only [voucherAt, hu]
      rw [this]; exact ⟨rfl, id⟩
  simp only [unlinkVoucher]
  split
  · exact P _ rfl rfl
  · split
    · rename_i j hj
      have htest : ((voucherAt s j).link == some i) = true := by
        have W : ∀ n o, walkChain s (fun j => (voucherAt s j).link == some i) n o = some j → ((voucherAt s j).link == some i) = true := by
          intro n
          induction n with
          | zero => intro o h; simp [walkChain] at h
          | succ n ih =>
            intro o h
            cases o with
            | none => simp [walkChain] at h
            | some k =>
              simp only [walkChain] at h
              split at h
              · rename_i hh; cases h; exact hh
              · exact ih _ h
        exact W _ _ hj
      have hwj : sparseWf Voucher.empty (updVoucher j (fun v => { v with link := (voucherAt s i).link }) s).voucherUnit.entries := sparsePut_wf _ _ _ _ hw
      refine ⟨sparsePut_wf _ _ _ _ hwj, rfl, voucherAt_setVoucher_self _ _ _ hwj, ?_⟩
      intro k hk
      rw [voucherAt_setVoucher_other _ _ _ _ hwj (Ne.symm hk)]
      by_cases e : j = k
      · subst e
        rw [updVoucher, voucherAt_setVoucher_self _ _ _ hw]
        refine ⟨rfl, ?_⟩
        intro he; rw [he] at htest; simp [Voucher.empty] at htest
      · rw [updVoucher, voucherAt_setVoucher_other _ _ _ _ hw e]; exact ⟨rfl, id⟩
    · exact P _ rfl rfl

theorem forEach_unlinkVoucher (l : List Nat) (s : State) (hw : sparseWf Voucher.empty s.voucherUnit.entries) : let t := forEach l unlinkVoucher s
   sparseWf Voucher.empty t.voucherUnit.entries ∧
   t = { s with voucherUnit := { s.voucherUnit with entries := t.voucherUnit.entries, heads := t.voucherUnit.heads } } ∧
   (∀ i, (i ∈ l → voucherAt t i = .empty) ∧ (i ∉ l → voucherAt t i = { voucherAt s i with link := (voucherAt t i).link, changes := (voucherAt t i).changes }) ∧ (voucherAt s i = .empty → voucherAt t i = .empty)) := by
  induction l generalizing s with
  | nil => exact ⟨hw, rfl, fun i => ⟨by simp, fun _ => rfl, id⟩⟩
  | cons n l ih =>
    obtain ⟨u1, u2, u3, u4⟩ := unlinkVoucher_spec n s hw
    obtain ⟨i0, i1, i2⟩ := ih (unlinkVoucher n s) u1
    simp only [forEach_cons]
    refine ⟨i0, ?_, ?_⟩
    · rw [i1]; rw [u2]
    · intro i
      refine ⟨?_, ?_, ?_⟩
      · intro h
        rcases List.mem_cons.mp h with rfl | h
        · exact (i2 i).2.2 u3
        · exact (i2 i).1 h
      · intro h
        simp only [List.mem_cons, not_or] at h
        rw [(i2 i).2.1 h.2, (u4 i h.1).1]
      · intro h
        by_cases e : i = n
        · subst e; exact (i2 i).2.2 u3
        · exact (i2 i).2.2 ((u4 i e).2 h)

theorem removeVouchers_spec (l : List Nat) (s : State) (hw : sparseWf Voucher.empty s.voucherUnit.entries) : let t := removeVouchers l s
    sparseWf Voucher.empty t.voucherUnit.entries ∧ EntriesRemoved l s t ∧
    t = { s with voucherUnit := { s.voucherUnit with entries := t.voucherUnit.entries, heads := t.voucherUnit.heads, chainChanges := t.voucherUnit.chainChanges } } := by
  cases l with
  | nil => exact ⟨hw, ⟨by simp, fun _ _ => rfl⟩, rfl⟩
  | cons n l =>
    obtain ⟨u0, u1, u2⟩ := forEach_unlinkVoucher (n :: l) s hw
    simp only [removeVouchers]
    refine ⟨u0, ⟨fun i hi => (u2 i).1 hi, fun i hi => (u2 i).2.1 hi⟩, ?_⟩
    simp only [bumpChain]; rw [u1]

/-- An activation turns each listed entry once (R135). -/
theorem activateVouchers_spec (serial : Nat) (l : List Nat) (s : State) (hw : sparseWf Voucher.empty s.voucherUnit.entries)
    (hd : l.Nodup) : let t := activateVouchers serial l s
    sparseWf Voucher.empty t.voucherUnit.entries ∧
    (∀ i, voucherAt t i = if i ∈ l then
      { (voucherAt s i) with state := some .active, owner := some serial, changes := bump (voucherAt s i).changes } else voucherAt s i) ∧
    t = { s with voucherUnit := { s.voucherUnit with entries := t.voucherUnit.entries } } := by
  induction l generalizing s with
  | nil => exact ⟨hw, by simp [activateVouchers], rfl⟩
  | cons n l ih =>
    have hn := List.nodup_cons.mp hd
    have hw' : sparseWf Voucher.empty (updVoucher n (fun v => { v with state := some .active, owner := some serial }) s).voucherUnit.entries :=
      sparsePut_wf _ _ _ _ hw
    obtain ⟨i0, i1, i2⟩ := ih _ hw' hn.2
    refine ⟨i0, ?_, ?_⟩
    · intro i
      have e : voucherAt (activateVouchers serial (n :: l) s) i =
        voucherAt (activateVouchers serial l (updVoucher n (fun v => { v with state := some .active, owner := some serial }) s)) i := rfl
      rw [e, i1 i]
      by_cases e : i = n
      · subst e
        rw [if_neg hn.1, if_pos (by simp), updVoucher, voucherAt_setVoucher_self _ _ _ hw]
      · rw [updVoucher, voucherAt_setVoucher_other _ _ _ _ hw (Ne.symm e)]
        simp [e]
    · have e : activateVouchers serial (n :: l) s =
        activateVouchers serial l (updVoucher n (fun v => { v with state := some .active, owner := some serial }) s) := rfl
      rw [e, i2]; rfl

/-! ### Kiosk cells -/

theorem lampLike_refl (a : Lamp) : lampLike a a := rfl

theorem lampLike_trans {a b c : Lamp} (h : lampLike a b) (g : lampLike b c) : lampLike a c := by
  unfold lampLike at *; rw [h, g]

theorem kioskLike_refl (a : Kiosk) : kioskLike a a := ⟨rfl, rfl, rfl⟩

theorem kioskLike_trans {a b c : Kiosk} (h : kioskLike a b) (g : kioskLike b c) : kioskLike a c := by
  refine ⟨?_, lampLike_trans h.2.1 g.2.1, lampLike_trans h.2.2 g.2.2⟩
  rw [h.1, g.1]

/-- The current-basket reference may be replaced on both sides. -/
theorem kioskLike_current {a b : Kiosk} (cur : Option Nat) (h : kioskLike a b) :
    kioskLike { a with current := cur } { b with current := cur } := by
  refine ⟨?_, h.2.1, h.2.2⟩
  rw [h.1]

/-- A cell updated under its change count stays like what the update makes of it. -/
theorem updKiosk_like (k j : Nat) (f : Kiosk → Kiosk) (hf : ∀ c, kioskLike (f c) c) (s : State) :
    kioskLike (kioskAt (updKiosk k f s) j) (kioskAt s j) := by
  by_cases h : k = j
  · subst h
    rcases Nat.lt_or_ge k s.station.kiosks.length with hk | hk
    · rw [kioskAt_updKiosk_self _ _ _ hk]
      refine kioskLike_trans ?_ (hf _)
      exact ⟨rfl, rfl, rfl⟩
    · have : updKiosk k f s = s := by
        simp only [updKiosk, updAt]
        rw [List.getElem?_eq_none_iff.mpr hk]
      rw [this]; exact kioskLike_refl _
  · rw [kioskAt_updKiosk_other _ _ _ _ h]; exact kioskLike_refl _

theorem refreshKiosk_like (k j : Nat) (s : State) : kioskLike (kioskAt (refreshKiosk k s) j) (kioskAt s j) :=
  updKiosk_like k j (fun c => { c with
    condition := conditionOf s k
    green := refreshLamp ((kioskBinding s (conditionOf s k)).map Binding.green) c.green
    red := refreshLamp ((kioskBinding s (conditionOf s k)).map Binding.red) c.red }) (fun _ => ⟨rfl, rfl, rfl⟩) s

theorem refreshKiosk_frame (k : Nat) (s : State) :
    refreshKiosk k s = { s with station := { s.station with kiosks := (refreshKiosk k s).station.kiosks } } := rfl

theorem refreshKiosk_length (k : Nat) (s : State) : (refreshKiosk k s).station.kiosks.length = s.station.kiosks.length :=
  updAt_length _ _ _

theorem refreshKiosks_spec (s : State) : let t := refreshKiosks s
    (∀ j, kioskLike (kioskAt t j) (kioskAt s j)) ∧ t.station.kiosks.length = s.station.kiosks.length ∧
    t = { s with station := { s.station with kiosks := t.station.kiosks } } := by
  suffices H : ∀ l : List Nat, let t := forEach l refreshKiosk s
      (∀ j, kioskLike (kioskAt t j) (kioskAt s j)) ∧ t.station.kiosks.length = s.station.kiosks.length ∧
      t = { s with station := { s.station with kiosks := t.station.kiosks } } from H _
  intro l
  induction l generalizing s with
  | nil => exact ⟨fun _ => kioskLike_refl _, rfl, rfl⟩
  | cons n l ih =>
    obtain ⟨i1, i2, i3⟩ := ih (refreshKiosk n s)
    refine ⟨fun j => kioskLike_trans (i1 j) (refreshKiosk_like n j s), ?_, ?_⟩
    · exact i2.trans (refreshKiosk_length n s)
    · show forEach l refreshKiosk (refreshKiosk n s) = _
      rw [i3, refreshKiosk_frame]; rfl

/-- A factor raised in the foyer cell, read field by field. -/
theorem raiseFoyer_spec (f : FactorSet) (s : State) : let t := raiseFactor .foyer f s
    t.station.foyer = { s.station.foyer with factors := s.station.foyer.factors ||| f, changes := bump s.station.foyer.changes } ∧
    t = { s with board := { s.board with attention := t.board.attention }, wire := t.wire
                 station := { s.station with foyer := t.station.foyer } } := by
  simp only [raiseFactor]
  split
  · exact ⟨rfl, rfl⟩
  · split
    · simp only [sendInterrupt]; split <;> exact ⟨rfl, rfl⟩
    · simp only [sendInterrupt]; split <;> exact ⟨rfl, rfl⟩

/-- R49: the count of FREE contexts written. -/
theorem setFreeCount_spec (n : Nat) (s : State) : let t := setFreeCount n s
    (t.station.foyer.freeCount = n ∧ t.station.foyer.low = decide (n ≤ (cfgOf s).lowWater) ∧
      t.station.foyer.factors = (if (cfgOf s).lowWater < s.station.foyer.freeCount ∧ n ≤ (cfgOf s).lowWater
        then s.station.foyer.factors ||| ffContextLow else s.station.foyer.factors) ∧
      t.station.foyer.mask = s.station.foyer.mask) ∧
    (∀ j, kioskLike (kioskAt t j) (kioskAt s j)) ∧
    t = { s with board := { s.board with attention := t.board.attention }, wire := t.wire
                 station := { s.station with kiosks := t.station.kiosks, foyer := t.station.foyer } } := by
  have H : ∀ u : State, u.station.foyer.freeCount = n → u.station.foyer.low = decide (n ≤ (cfgOf s).lowWater) →
      u.station.foyer.factors = (if (cfgOf s).lowWater < s.station.foyer.freeCount ∧ n ≤ (cfgOf s).lowWater
        then s.station.foyer.factors ||| ffContextLow else s.station.foyer.factors) →
      u.station.foyer.mask = s.station.foyer.mask →
      u = { s with board := { s.board with attention := u.board.attention }, wire := u.wire
                   station := { s.station with foyer := u.station.foyer } } →
      let t := if decide (n ≤ (cfgOf s).lowWater) = s.station.foyer.low then u else refreshKiosks u
      (t.station.foyer.freeCount = n ∧ t.station.foyer.low = decide (n ≤ (cfgOf s).lowWater) ∧
        t.station.foyer.factors = (if (cfgOf s).lowWater < s.station.foyer.freeCount ∧ n ≤ (cfgOf s).lowWater
          then s.station.foyer.factors ||| ffContextLow else s.station.foyer.factors) ∧
        t.station.foyer.mask = s.station.foyer.mask) ∧
      (∀ j, kioskLike (kioskAt t j) (kioskAt s j)) ∧
      t = { s with board := { s.board with attention := t.board.attention }, wire := t.wire
                   station := { s.station with kiosks := t.station.kiosks, foyer := t.station.foyer } } := by
    intro u h1 h2 h3 h4 h5
    have hk : ∀ j, kioskAt u j = kioskAt s j := by intro j; rw [h5]; rfl
    intro t
    by_cases hl : decide (n ≤ (cfgOf s).lowWater) = s.station.foyer.low
    · have ht : t = u := if_pos hl
      rw [ht]
      refine ⟨⟨h1, h2, h3, h4⟩, fun j => by rw [hk]; exact kioskLike_refl _, ?_⟩
      have hkk : u.station.kiosks = s.station.kiosks := by rw [h5]
      rw [hkk]; exact h5
    · have ht : t = refreshKiosks u := if_neg hl
      obtain ⟨r1, -, r2⟩ := refreshKiosks_spec u
      have hf : t.station.foyer = u.station.foyer := by rw [ht, r2]
      refine ⟨by rw [hf]; exact ⟨h1, h2, h3, h4⟩, ?_, ?_⟩
      · intro j; rw [ht]; have := r1 j; rwa [hk] at this
      · rw [hf, ht]
        generalize refreshKiosks u = v at r2 ⊢
        rw [r2, h5]
  simp only [setFreeCount]
  by_cases hc : (cfgOf s).lowWater < s.station.foyer.freeCount ∧ n ≤ (cfgOf s).lowWater
  · rw [if_pos hc]
    obtain ⟨f1, f2⟩ := raiseFoyer_spec ffContextLow (updFoyer (fun f => { f with freeCount := n, low := decide (n ≤ (cfgOf s).lowWater) }) s)
    apply H
    · rw [f1]; rfl
    · rw [f1]; rfl
    · rw [f1, if_pos hc]; rfl
    · rw [f1]; rfl
    · exact f2
  · rw [if_neg hc]
    apply H
    · rfl
    · rfl
    · rw [if_neg hc]; rfl
    · rfl
    · rfl

/-- A cell's factor set and mask written: those of the cell, and of no other. -/
theorem setFactors_spec (s : State) (cell : CellId) (a m : FactorSet) (hk : s.station.kiosks.length = 12) (hc : s.station.counters.length = 4) :
    factorsOf (setFactors cell a m s) cell = a ∧ maskOf (setFactors cell a m s) cell = m ∧ 
    (∀ c, c ≠ cell → factorsOf (setFactors cell a m s) c = factorsOf s c ∧ maskOf (setFactors cell a m s) c = maskOf s c) := by
  rcases cell with k | m' | _
  · refine ⟨?_, ?_, ?_⟩
    · simp only [factorsOf, setFactors]; rw [kioskAt_updKiosk_self _ _ _ (by omega)]
    · simp only [maskOf, setFactors]; rw [kioskAt_updKiosk_self _ _ _ (by omega)]
    · rintro (j | j | _) h
      · simp only [factorsOf, maskOf, setFactors]; rw [kioskAt_updKiosk_other _ _ _ _ (by intro e; exact h (by rw [Fin.ext e]))]; simp
      · exact ⟨rfl, rfl⟩
      · exact ⟨rfl, rfl⟩
  · refine ⟨?_, ?_, ?_⟩
    · simp only [factorsOf, setFactors]; rw [counterAt_updCounter_self _ _ _ (by omega)]
    · simp only [maskOf, setFactors]; rw [counterAt_updCounter_self _ _ _ (by omega)]
    · rintro (j | j | _) h
      · exact ⟨rfl, rfl⟩
      · simp only [factorsOf, maskOf, setFactors]; rw [counterAt_updCounter_other _ _ _ _ (by intro e; exact h (by rw [Fin.ext e]))]; simp
      · exact ⟨rfl, rfl⟩
  · refine ⟨rfl, rfl, ?_⟩
    rintro (j | j | _) h
    · exact ⟨rfl, rfl⟩
    · exact ⟨rfl, rfl⟩
    · exact absurd rfl h

theorem setFactors_frame (s : State) (cell : CellId) (a m : FactorSet) : setFactors cell a m s = { s with station := (setFactors cell a m s).station } := by
  rcases cell <;> rfl

end Sys2Proof.Machine
end

