-- ==== Sys2Proof/Tests/Slice0.lean ====
section
/-! SUPPORT. Tests on small states. The first part holds the smoke test of the well-formedness checks and the manual's worked
cases, each named by its section; the second part shows, for every statement with hypotheses, a state and operands that meet
them. -/

set_option Elab.async false

namespace Sys2Proof.Tests
open Sys2Proof Sys2Proof.Machine

/-! ### Well-formedness: each check refuses an ill-formed term -/

theorem test_unit_formed : wellFormed (.hostWriteUnit 0x8000 [some 1, none, none, some 2]) = true ∧
    wellFormed (.hostWriteUnit 0x8002 [some 1, none, none, none]) = false ∧
    wellFormed (.hostWriteUnit 0x8000 [some 1]) = false ∧
    wellFormed (.hostWriteUnit 0x40000 [none, none, none, none]) = false := by decide

theorem test_result_formed : wellFormed (.result 3 17 1 [1, 2, 3, 4, 5, 6] [1, 2, 3, 4]) = true ∧
    wellFormed (.result 3 17 1 [1, 2, 3, 4, 5] [1, 2, 3, 4]) = false ∧
    wellFormed (.result 3 17 1 [1, 2, 3, 4, 5, 6] [1, 2, 3]) = false := by decide

theorem test_bad_frame_formed : wellFormed (.badFrame 0 [0xA5, 2]) = true ∧
    wellFormed (.badFrame 0 [0xA5, 3, 4, 0, 4, 0x0B, 4]) = true ∧
    wellFormed (.badFrame 0 [0xA5, 3, 4, 0, 4, 0x0B, 3]) = false ∧ wellFormed (.badFrame 0 [0xA4, 2]) = false ∧
    wellFormed (.badFrame 0 []) = false := by decide +kernel

theorem test_unknown_formed : wellFormed (.frameOfUnknownKind 0 0x87 0 [1]) = true ∧
    wellFormed (.frameOfUnknownKind 0 0x85 0 [1, 2]) = true ∧ wellFormed (.frameOfUnknownKind 0 0x85 0 [1]) = false ∧
    wellFormed (.frameOfUnknownKind 0 0x87 0 []) = false := by decide +kernel

theorem test_serial_formed : wellFormed (.refundFreeing 16777215) = true ∧ wellFormed (.refundVoucherStep 0) = false ∧
    wellFormed (.refundComplete 16777216) = false := by decide

/-! ### The manual's worked cases -/

/-- Section 1.4.1: the ranges left by the drop of show 1 give bases 400 and 1,412. -/
theorem test_first_fit : firstFit [(0, 400), (900, 512)] 312 = some 400 ∧
    firstFit [(0, 400), (900, 512), (400, 312)] 200 = some 1412 := by decide +kernel

/-- Section 2.2.1: seat labels, and the rows' first seats past Z. -/
theorem test_labels : seatLabel [10, 12, 12, 14, 14, 14] 68 = [0x46, 0x37] ∧ seatLabel [10, 12, 12, 14, 14, 14] 9 = [0x41, 0x31, 0x30] ∧
    seatLabel [10, 12, 12, 14, 14, 14] 10 = [0x42, 0x31] ∧ seatLabel (List.replicate 32 1) 27 = [0x41, 0x42, 0x31] := by decide +kernel

/-- Section 4.2.1: the quote of three seats and three vouchers. -/
theorem test_quote : quoteOf { unconfiguredTerms with ceiling := 50000, taxRate := 200, comboSeats := 2, comboVouchers := 2, comboPercent := 15 }
    { PriceList.initial with prices := [890, 0, 1090, 0, 0, 0, 0, 0], factor := 115, fee := 75 } [2, 2, 0] [650, 650, 420] =
    { seatSubtotal := 3757, voucherSubtotal := 1720, discount := 258, gross := 5219, tax := 870, overCeiling := false } := by decide +kernel

/-- Section 4.2.2: seat prices at the edges. -/
theorem test_seat_price_edges : [(0, 250), (1, 50), (1, 51), (3, 50), (99, 50), (60000, 50), (60000, 250)].map (fun x => seatPrice x.1 x.2) =
    [0, 1, 1, 2, 50, 30000, 150000] := by decide +kernel

/-- Section 4.6.1: refund amounts. -/
theorem test_refund_amount : refundAmountOf 5219 1300 = 3919 ∧ refundAmountOf 3000 4000 = 0 := by decide

/-- R82: amounts as text. -/
theorem test_amount_text : [1329, 5, 0, 1640000].map amountText =
    [[0x31, 0x33, 0x2E, 0x32, 0x39], [0x30, 0x2E, 0x30, 0x35], [0x30, 0x2E, 0x30, 0x30], [0x31, 0x36, 0x34, 0x30, 0x30, 0x2E, 0x30, 0x30]] := by
  decide +kernel

/-- Section 7.3.1: codes, checks and buckets. -/
theorem test_voucher_codes : [(214, 37), (214, 38), (214, 293), (215, 6)].map (fun x => composeCode x.1 x.2 7) =
    [214000370796, 214000380706, 214002930788, 215000060781] ∧
    [214000370796, 214000380706, 214002930788, 215000060781].map bucketOf = [15, 16, 15, 15] := by decide +kernel

/-- R86, R89: PING to line 4 as it travels. -/
theorem test_ping_bytes : frameBytes (pingFrame 4) = [0xA5, 3, 4, 0, 4, 0x0B, 3] := by decide +kernel

/-- R118: the 60th day of a leap year. -/
theorem test_date_text : dateText ⟨2032, 60, 0⟩ = [0x32, 0x39, 0x2E, 0x30, 0x32, 0x2E, 0x32, 0x30, 0x33, 0x32] := by decide +kernel

/-! ### A small foyer -/

/-- A configuration as the worked sequences use it: hold time 240 s, retry grace 120 s, auth timeout 75 s. -/
def config : Configuration :=
  { site := 7, holdTime := 240, retryGrace := 120, authTimeout := 75, collectTimeout := 60, voucherGrace := 30, ceiling := 50000
    taxRate := 200, comboSeats := 2, comboVouchers := 2, comboPercent := 15, receipts := true, lowWater := 3, threshold := 4
    delay := 10, answerTime := 2, lines := List.replicate 12 ⟨0, 0, 1⟩, links := List.replicate 12 ⟨2, 0⟩
    counters := List.replicate 4 (⟨0, 0, 1⟩, true) }

/-- Show 3 on sale, its cells from pool index 100, closing 30 minutes after the instant at which the clock stands. -/
def aShow : ShowRec :=
  { state := .onSale, title := [0x46], auditorium := 1, saleOpen := ⟨2031, 214, 61200⟩, start := ⟨2031, 214, 66300⟩
    finish := ⟨2031, 214, 78600⟩, lateWindow := 15, priceList := 4, gapRule := true, seatBase := 100, seatCount := 20
    rowLengths := [10, 10], free := 20, held := 0, sold := 0, blocked := 0, changes := 0 }

/-- The part configured, its clock at day 214 of 2031, 18:10:00, run time 1,000,000, show 3 on sale. -/
def hall : State :=
  { State.reset with
    config := some config
    showUnit := { ShowUnit.initial with
      runTime := 1000000, clock := ⟨true, ⟨2031, 214, 65400⟩, 0, 0⟩, shows := ShowUnit.initial.shows.set 3 aShow
      prices := ShowUnit.initial.prices.set 4
        { PriceList.initial with prices := [890, 0, 1090, 0, 0, 0, 0, 0], factor := 115, fee := 75 }
      kinds := ShowUnit.initial.kinds.set 3 { name := [0x50], price := 650, template := 4 } } }

/-- A request in slot 5 of a kind, its parameters padded to 88 bytes. -/
def ask (k : RequestKind) (params : List Byte) : Request := { slot := 5, kind := k, params := padTo 88 params }

/-- The request taken by the decoder and handed to its owner. -/
def asked (k : RequestKind) (params : List Byte) (s : State) : State :=
  { s with board := { s.board with slots := s.board.slots.set 5 .taken, handed := [ask k params] } }

/-- A show, a basket, a line, a printer, a kiosk or a counter put in its place. -/
def withShow (n : Nat) (w : ShowRec) (s : State) : State := setShow n (fun _ => w) s
def withBasket (b : Nat) (c : Basket) (s : State) : State := setBasket b (fun _ => c) s
def withLine (n : Nat) (x : Line) (s : State) : State := { s with lines := s.lines.set n x }
def withPrinter (p : Nat) (q : Printer) (s : State) : State := setPrinter p (fun _ => q) s
def withFoyer (f : Foyer) (s : State) : State := { s with station := { s.station with foyer := f } }
def withSenses (k : Nat) (l : List Sense) (s : State) : State :=
  { s with station := { s.station with kiosks := updAt s.station.kiosks k (fun c => { c with senses := l }) } }

/-- Basket 6 of kiosk 5 on show 3, SELECTING with two seats held, opened now. -/
def aBasket : Basket :=
  { Basket.free with
    state := .selecting, kiosk := 5, sh := 3, seats := [4, 5], deadline := some ⟨1240000, 1000000⟩, openedAt := 1000000, printer := 5 }

/-- The foyer with that basket and its seats. -/
def selling : State :=
  withShow 3 { aShow with free := 18, held := 2 }
    (withBasket 6 aBasket { hall with seats := [(104, ⟨.held, 0, some 6⟩), (105, ⟨.held, 0, some 6⟩)] })

/-- What a test reads from an outcome. -/
def after {α : Type} (f : State → α) : Host.Outcome State Fault Refusal → Option α
  | .next t => some (f t)
  | .fault _ => none
  | .refused _ => none

/-- Result code and first result bytes of slot 5. -/
def answered (n : Nat) (s : State) : SlotState × Byte × List Byte :=
  (slotAt s 5, memRead s.mem (128 * 5 + 0x78), memReadAll s.mem (128 * 5 + 0x60) n)

theorem canonical_of {s : State} (h : Memory.wf s.mem ∧ sparseWf Seat.spare s.seats ∧ sparseWf Voucher.empty s.voucherUnit.entries ∧
    sparseWf (none : Option Nat) s.voucherUnit.heads ∧ sparseWf Sale.empty s.salesUnit.sales ∧ sparseWf (0 : Nat) s.stats) :
    Canonical s :=
  ⟨h.1, h.2.1, h.2.2.1, h.2.2.2.1, h.2.2.2.2.1, h.2.2.2.2.2⟩

/-- A row of ten seats of show 3, the given positions SOLD or BLOCKED (section 2.5.1). -/
def row (l : List (Nat × SeatState)) : State := { hall with seats := l.map (fun x => (99 + x.1, ⟨x.2, 0, none⟩)) }

/-- Section 2.5.1, cases a to h, by seat index. -/
theorem test_gap_cases :
    firstGap (row [(1, .sold), (2, .sold), (3, .sold)]) 3 [4] = some 3 ∧ firstGap (row [(1, .sold), (2, .sold), (3, .sold)]) 3 [3, 4] = none ∧
    firstGap (row []) 3 [0] = none ∧ firstGap (row []) 3 [1] = none ∧ firstGap (row [(1, .sold), (3, .sold)]) 3 [4] = some 3 ∧
    firstGap (row [(1, .sold), (3, .sold)]) 3 [3] = none ∧ firstGap (row [(1, .sold), (5, .blocked)]) 3 [1, 3] = some 2 ∧
    firstGap (row [(1, .sold), (3, .sold)]) 3 [1] = none := by decide +kernel

/-- A number of seconds later, on run time and on the clock. -/
def later (n : Nat) (s : State) : State :=
  { s with showUnit := { s.showUnit with
      runTime := s.showUnit.runTime + 1000 * n, clock := { s.showUnit.clock with now := ⟨2031, 214, 65400 + n⟩ } } }

/-- The basket with a call open for a hold. -/
def holding (list : List Nat) (c : Basket) (s : State) : State :=
  withBasket 6 { c with call := some (.hold 5 list), changes := stepCount c.changes } s

/-- Section 3.5.1, steps (1), (2), (6) and (7): the deadline at the opening, after a hold, after a decline, and after the hold that
leaves it. -/
theorem test_deadlines :
    after (fun t => (basketAt t 0).deadline.map Deadline.value) (exec .openBasket (asked .openBasket [5, 3] hall)) = some (some 1240000) ∧
    after (fun t => ((basketAt t 6).deadline.map Deadline.value, (basketAt t 6).seats, seatAt t 109))
      (exec (.holdEvent 6) (holding [8, 9] aBasket (later 150 selling))) = some (some 1390000, [4, 5, 8, 9], ⟨.held, 0, some 6⟩) ∧
    after (fun t => (basketAt t 6).deadline.map Deadline.value) (exec (.paymentOutcome 6)
      (let s := later 620 (withBasket 6 { aBasket with state := .paying, deadline := none } selling)
       { s with basketUnit := { s.basketUnit with outcomes := [⟨6, .declined, [], none⟩] } })) = some (some 1740000) ∧
    after (fun t => (basketAt t 6).deadline.map Deadline.value)
      (exec (.holdEvent 6) (holding [9] { aBasket with deadline := some ⟨1740000, 1620000⟩ } (later 700 selling))) = some (some 1740000) := by
  decide +kernel

/-- Section 2.6: of two holds that share a seat the second is refused, naming it. -/
theorem test_seat_taken : after (fun t => (answered 2 t, (basketAt t 6).seats, (basketAt t 6).call))
    (exec (.holdEvent 6) (holding [8, 7, 6] aBasket { selling with seats := selling.seats ++ [(107, ⟨.held, 0, some 2⟩)] })) =
    some ((.done, 0x0B, [7, 0]), [4, 5], none) := by decide +kernel

/-- Section 1.8: shows 3 and 4 before the forward set. -/
def evening : State :=
  withShow 4 { aShow with
    state := .loaded, saleOpen := ⟨2031, 214, 72000⟩, start := ⟨2031, 214, 79200⟩, lateWindow := 30, finish := ⟨2031, 215, 2100⟩ }
    (withShow 3 { aShow with start := ⟨2031, 214, 70200⟩ } hall)

/-- Section 1.8, steps (1) and (5): the forward set makes two transitions, the backward set none. -/
theorem test_set_clock :
    after (fun t => ((showAt t 3).state, (showAt t 4).state)) (exec .setClock (asked .setClock [31, 214, 0, 0x6C, 0x1A, 0x01] evening)) =
      some (.closed, .onSale) ∧
    after (answered 7) (exec .setClock (asked .setClock [31, 214, 0, 0x6C, 0x1A, 0x01] evening)) =
      some (.done, 0x00, [31, 214, 0, 0x78, 0xFF, 0x00, 2]) ∧
    after (fun t => (t.showUnit.leftSale, t.showUnit.dayChanges)) (exec .setClock (asked .setClock [31, 214, 0, 0x6C, 0x1A, 0x01] evening)) =
      some ([3], []) ∧
    after (fun t => ((showAt t 3).state, answered 7 t))
      (exec .setClock (asked .setClock [31, 214, 0, 0x30, 0x0B, 0x01] (withShow 3 { aShow with state := .ended } hall))) =
      some (.ended, .done, 0x00, [31, 214, 0, 0x78, 0xFF, 0x00, 0]) := by decide +kernel

/-- Section 5.12: the record of a timed-out payment, and its late approval. -/
def lateLine : Line :=
  { Line.initial with
    state := .aborting, nextTag := 39, lastClosed := some 37, abortDue := some ⟨1085000, 1000000⟩, closes := 1
    records := [{ PayRecord.empty with tag := 38, basket := 6, amount := 3140, phase := .aborting, cause := some .timeout }, .empty, .empty, .empty] }

theorem test_late_approval :
    after (fun t => ((lineAt t 4).state, (lineAt t 4).lastClosed, (recordAt t 4 0).outcome, statAt t (24 * 4 + 16), t.basketUnit.outcomes))
      (exec (.abortDone 4 38 0) (withLine 4 lateLine hall)) =
      some (.idle, some 38, some .timedOut, 1, [⟨6, .timedOut, [], none⟩]) ∧
    after (fun t => ((lineAt t 4).late, factorsOf t (.kiosk 4)))
      (exec (.result 4 38 1 [0x51, 0x34, 0x30, 0x32, 0x31, 0x37] [0x38, 0x38, 0x34, 0x31]) (withLine 4 { lateLine with
        state := .idle, lastClosed := some 38, records := [{ PayRecord.empty with tag := 38, amount := 3140, outcome := some .timedOut }, .empty, .empty, .empty] } hall)) =
      some ([⟨38, 3140, [0x51, 0x34, 0x30, 0x32, 0x31, 0x37], some 8841⟩], 0x0010) := by decide +kernel

/-- Section 7.8: entries 412 and 413 of sale 5,031. -/
def redeeming : State :=
  { hall with
    station := { hall.station with counters := hall.station.counters.map (fun c => { c with enabled := true }) }
    voucherUnit := { VoucherUnit.initial with
      entries := [(412, { Voucher.empty with state := some .active, code := 214000370796, kind := 3, sh := 3, owner := some 5031 }),
        (413, { Voucher.empty with state := some .active, code := 214000380706, kind := 3, sh := 3, owner := some 5031 })]
      heads := [(15, some 412), (16, some 413)]
      receivers := VoucherUnit.initial.receivers.set 1 { Receiver.initial with
        scanned := [[0x32, 0x31, 0x34, 0x30, 0x30, 0x30, 0x33, 0x37, 0x30, 0x37, 0x39, 0x36]] } } }

/-- Section 7.8, step (1): a redemption at counter 1. -/
theorem test_redemption : after (fun t => ((voucherAt t 412).state, (voucherAt t 412).redeemedAt, (counterAt t 1).showing))
      (exec (.validation 1) redeeming) = some (some .redeemed, some (⟨2031, 214, 65400⟩, 1), .redeemed) ∧
    after (fun t => ((counterAt t 1).factors, statAt t (0x1B0 + 20), (counterAt t 1).green.function)) (exec (.validation 1) redeeming) =
      some (0x0001, 1, .on) := by decide +kernel

/-- Section 7.8, step (3): the refund voucher step voids 413 and prices 412. -/
theorem test_refund_voucher_step : after (fun t => ((voucherAt t 412).state, (voucherAt t 413).state, t.salesUnit.refunds))
    (exec (.refundVoucherStep 5031) { redeeming with
      voucherUnit := { redeeming.voucherUnit with entries := redeeming.voucherUnit.entries.map (fun e =>
        if e.1 = 412 then (e.1, { e.2 with state := some .redeemed }) else e) }
      salesUnit := { SalesUnit.initial with refunds := [⟨5, 5031, none, none⟩] } }) =
    some (some .redeemed, some .voided, [⟨5, 5031, none, some ⟨1, 1, 650⟩⟩]) := by decide +kernel

/-- Kiosk 3 with its printer READY. -/
def atRest : State := withPrinter 3 { Printer.initial with state := .ready } hall

/-- Section 9.8, step (2): S0 accepted 8 ms after it is asserted makes an idle kiosk greet. -/
theorem test_greet :
    (after (fun t => senseAt t 3 0) (exec (.senseInputChange 3 0 true) atRest) = some ⟨true, false, .ms8, .none, some ⟨1000008, 1000000⟩⟩) ∧
    after (fun t => ((kioskAt t 3).condition, (kioskAt t 3).green.function, (kioskAt t 3).red.function, (kioskAt t 3).factors))
      (exec (.senseFilterDeadline 3 0) (withSenses 3 [⟨true, false, .ms8, .none, some ⟨1000008, 1000000⟩⟩, .atLevel false, .atLevel false, .atLevel false]
        (later 1 atRest))) = some (.greet, .pattern 7, .off, 0) := by decide +kernel

/-- Section 6.11, step (3): paper out stalls a streaming printer and leaves its item INCOMPLETE. -/
theorem test_paper_out : after (fun t => ((printerAt t 7).state, (printerAt t 7).stallCause, (printerAt t 7).queue.map Item.state,
      factorsOf t (.kiosk 7), (kioskAt t 7).condition))
    (exec (.statusByte 7 0x89) (withPrinter 7 { Printer.initial with
      state := .streaming, lastStatus := some 0x81, toSend := [1, 2, 3]
      queue := [⟨.ticket, 0, 5210, 1, false, 0, .printing, .basket 6, 0⟩, ⟨.ticket, 0, 5210, 2, false, 0, .queued, .basket 6, 1⟩] } hall)) =
    some (.stalled, some .paperOut, [.incomplete, .queued], 0x0080, .stalled) := by decide +kernel

/-- The bytes of a configuration record with a hold time of 20 s, an auth timeout of 200 s and an answer time of 0 s. -/
def clampedRecord : List Byte :=
  [7] ++ leBytes 2 20 ++ leBytes 2 120 ++ [200] ++ leBytes 2 60 ++ [30] ++ leBytes 3 50000 ++ leBytes 2 200 ++ [2, 2, 15, 1, 3, 4, 10, 0]
    ++ (List.replicate 12 [0, 0, 1]).flatten ++ (List.replicate 12 [2, 0]).flatten ++ (List.replicate 4 [0, 0, 1, 1]).flatten

/-- Section 11.2.1: three clamped fields, clamp mark 85h. -/
theorem test_clamp_mark : after (fun t => (answered 2 t, (cfgOf t).holdTime, (cfgOf t).authTimeout, (cfgOf t).answerTime))
    (exec .configure (asked .configure [] { State.reset with mem := memWriteAll [] 0x8000 clampedRecord })) =
    some ((.done, 0x00, [3, 0x85]), 30, 180, 1) := by decide +kernel

/-! ### Witnesses: states and operands that meet the statements' hypotheses, clause by clause -/

/-- The part after reset, with S1 of kiosk 3 unfiltered and about to be asserted. -/
def keyTurned : State :=
  { withSenses 3 [.atLevel false, { Sense.atLevel false with width := .off }, .atLevel false, .atLevel false] State.reset with
    pending := [.senseInputChange 3 1 true] }

theorem stationLaw_keyTurned : StationLaw keyTurned where
  currents k hk b h := by
    have none : ∀ k < 12, (kioskAt keyTurned k).current = none := by decide +kernel
    simp [none k hk] at h
  conditions := by decide +kernel
  lamps l := by
    have kiosks : ∀ k : Fin 12, (kioskAt keyTurned k).condition = .stalled ∧
        (kioskAt keyTurned k).green = ⟨none, none, .off, .binding⟩ ∧
        (kioskAt keyTurned k).red = ⟨none, none, .pattern 2, .binding⟩ := by decide +kernel
    have counters : ∀ m : Fin 4, (counterAt keyTurned m).showing = .idle ∧
        (counterAt keyTurned m).green = ⟨none, none, .off, .binding⟩ ∧
        (counterAt keyTurned m).red = ⟨none, none, .off, .binding⟩ := by decide +kernel
    have stalled : keyTurned.station.kioskBindings[1]? = some ⟨.off, .pattern 2⟩ := by decide +kernel
    have idle : keyTurned.station.counterBindings[0]? = some ⟨.off, .off⟩ := by decide +kernel
    cases l with
    | kiosk k c => cases c <;> simp [lampAt, kiosks k, conditionNum, stalled]
    | counter m c => cases c <;> simp [lampAt, counters m, showingNum, idle]

/-- A key turned at a kiosk: the step after which its condition and red lamp have moved. -/
theorem witness_EveryStepKeepsConditionsAndLamps :
    Shaped keyTurned ∧ StationLaw keyTurned ∧ ∃ t, step keyTurned = .next t ∧ (kioskAt t 3).condition = .service ∧
      (lampAt t (.kiosk 3 .red)).function = .pattern 4 :=
  ⟨by constructor <;> decide +kernel, stationLaw_keyTurned, _, rfl, by decide +kernel, by decide +kernel⟩

/-- The basket with a release open, for which a QUOTE and then a RETIRE wait; a pull waits for another queue between them. -/
def waitedFor : State :=
  { withBasket 6 { aBasket with call := some (.release 5 [5]) } selling with
    waiting := [(.basket 6, .request (ask .quote [6])), (.printer 3, .pull 3), (.basket 6, .request { ask .retire [6] with slot := 9 })] }

/-- Both requests are taken once the release event has closed the call, the QUOTE first; the pull still waits. -/
theorem witness_WaitingEventsAreTakenOldestFirst :
    (∃ u, exec (.releaseEvent 6) { waitedFor with waiting := [] } = .next u ∧ u.waiting = []) ∧
    after (fun t => (t.waiting, (basketAt t 6).call, slotAt t 5, slotAt t 9, memRead t.mem (128 * 9 + 0x78)))
      (exec (.releaseEvent 6) waitedFor) = some ([(.printer 3, .pull 3)], none, .done, .done, 0x06) ∧
    (∃ u, exec (.saleCheck 11) { waitedFor with waiting := [] } = .next u) ∧
    (∃ u, exec (.refundComplete 1) { waitedFor with waiting := [] } = .next u) :=
  ⟨⟨_, rfl, by decide +kernel⟩, by decide +kernel, ⟨_, rfl⟩, _, rfl⟩

/-- A posted slot 63, a done slot 2, a taken slot 5, and FACTORS clear. -/
def board : State :=
  { selling with board := { selling.board with
      slots := ((selling.board.slots.set 63 .posted).set 2 .done).set 5 .taken
      posting := [63], doneMark := selling.board.doneMark.set 2 true } }

theorem witness_StepRunsTheFrontCommandAndIdlesByChoice : State.reset.pending = [] := rfl

theorem witness_EveryStepKeepsTheStoresCanonical :
    Canonical { selling with pending := [.quote] } ∧ ∃ t, step { selling with pending := [.quote] } = .next t :=
  ⟨canonical_of (by decide +kernel), _, rfl⟩

theorem witness_EveryStepKeepsTheTablesShaped :
    Shaped { selling with pending := [.postingWrite 0] } ∧ ∃ t, step { selling with pending := [.postingWrite 0] } = .next t :=
  ⟨by constructor <;> decide +kernel, _, rfl⟩

theorem witness_EveryStepKeepsTheBoardLaw :
    BoardLaw { board with pending := [.freeWrite 2] } ∧ ∃ t, step { board with pending := [.freeWrite 2] } = .next t :=
  ⟨by constructor <;> decide +kernel, _, rfl⟩

/-- Printer 11 with sixteen items, the first PRINTING. -/
def fullPrinter : Printer :=
  { Printer.initial with
    state := .streaming, lastStatus := some 0x81, toSend := [0x41], nextArrival := 16
    queue := (List.range 16).map (fun n => ⟨.ticket, 0, 1, n, false, 0, if n = 0 then .printing else .queued, .basket 6, n⟩) }

theorem witness_EveryStepKeepsTheQueueLaw :
    (∀ q ∈ (withPrinter 11 fullPrinter { hall with pending := [.pull 11] }).print.printers, QueueLaw q) ∧
      ∃ t, step (withPrinter 11 fullPrinter { hall with pending := [.pull 11] }) = .next t :=
  ⟨by decide +kernel, _, rfl⟩

theorem witness_EveryStepKeepsTheAttentionCount :
    Shaped { hall with pending := [.maskWrite .foyer 0] } ∧ AttentionLaw { hall with pending := [.maskWrite .foyer 0] } ∧
      ∃ t, step { hall with pending := [.maskWrite .foyer 0] } = .next t :=
  ⟨by constructor <;> decide +kernel, by decide +kernel, _, rfl⟩

theorem cells_of_selling (c : Nat) :
    seatAt selling c = if 104 = c then ⟨.held, 0, some 6⟩ else if 105 = c then ⟨.held, 0, some 6⟩ else Seat.spare := rfl

theorem houseLaw_selling : HouseLaw selling where
  shows := by decide +kernel
  baskets := by decide +kernel
  canonical := canonical_of (by decide +kernel)
  owned c := by rw [cells_of_selling]; split <;> [simp; (split <;> simp [Seat.spare])]
  pool := by decide +kernel
  apart n hn m hm hnm an am := by
    have only : ∀ n < 48, Allocated selling n → n = 3 := by decide +kernel
    exact absurd ((only n hn an).trans (only m hm am).symm) hnm
  unallocated := by decide +kernel
  loadings := by decide +kernel
  loadingOnce := by decide +kernel
  removals := by decide +kernel
  removalOnce := by decide +kernel
  counts := by decide +kernel
  listed := by decide +kernel
  held c h := by
    rw [cells_of_selling] at h ⊢
    refine ⟨6, by decide, by decide +kernel, ?_, c - 100, ?_, ?_⟩ <;> revert h <;> split <;> rename_i h1
    · simp
    · split <;> simp [Seat.spare]
    · subst h1; intro _; decide +kernel
    · split <;> rename_i h2
      · subst h2; intro _; decide +kernel
      · simp [Seat.spare]
    · subst h1; intro _; decide +kernel
    · split <;> rename_i h2
      · subst h2; intro _; decide +kernel
      · simp [Seat.spare]
  calls := by decide +kernel
  releases b hb slot list h := by
    have none' : ∀ b < 24, (basketAt selling b).call = none := by decide +kernel
    simp [none' b hb] at h
  vouchers := by decide +kernel
  pendings i h := nomatch h
  table _ _ := rfl
  chains b _ := ⟨[], List.nodup_nil, rfl, nofun, fun i => ⟨nofun, fun h => absurd rfl h.1⟩⟩
  codes i _ h := absurd rfl h
  sold c _ h := by
    rw [cells_of_selling] at h
    split at h <;> [simp at h; (split at h <;> simp [Seat.spare] at h)]
  sales := nofun
  refunds := nofun
  refundOnce := by decide +kernel
  actives i h := nomatch h
  voided := nofun

/-- A basket that sells, with a command waiting. -/
theorem witness_EveryStepKeepsTheLawsOfTheUnits :
    (HouseLaw { selling with pending := [.quote] } ∧ BasketLaw { selling with pending := [.quote] } ∧
      SalesLaw { selling with pending := [.quote] } ∧ PaymentLaw { selling with pending := [.quote] }) ∧
    ∃ t, step { selling with pending := [.quote] } = .next t := by
  have idle : ∀ b < 24, (basketAt selling b).call = none := by decide +kernel
  have only : ∀ b < 24, b ≠ 6 → (basketAt selling b).state = .free := by decide +kernel
  have lists : ∀ b < 24, let c := basketAt selling b
      c.seats.length ≤ 10 ∧ c.seats.Nodup ∧ c.vouchers.length ≤ 6 ∧ c.plan.length ≤ 17 ∧ c.cursor ≤ c.plan.length := by decide +kernel
  have records : ∀ n < 12, ∀ i < 4, ((lineAt selling n).records.getD i .empty).tag = 0 := by decide +kernel
  refine ⟨⟨?_, ?_, ?_, ?_⟩, _, rfl⟩
  · exact { houseLaw_selling with
      canonical := canonical_of (by decide +kernel)
      chains := fun b _ => ⟨[], List.nodup_nil, rfl, nofun, fun i => ⟨nofun, fun h => absurd rfl h.1⟩⟩ }
  · refine ⟨by decide +kernel, fun b hb => ?_, fun a ha b hb h1 h2 _ => ?_⟩
    · obtain ⟨h1, h2, h3, h4, h5⟩ := lists b hb
      exact ⟨h1, h2, h3, h4, h5, fun hn => absurd (idle b hb) hn, fun _ _ hs => nomatch (idle b hb).symm.trans hs⟩
    · have six : ∀ c < 24, Selling (basketAt selling c) → c = 6 := fun c hc h => Decidable.byContradiction (fun hn => by
        simp [Selling, only c hc hn] at h)
      exact (six a ha h1).trans (six b hb h2).symm
  · constructor <;> decide +kernel
  · exact ⟨by decide +kernel, by decide +kernel, by decide +kernel, fun n hn i hi h => absurd (records n hn i hi) h.1,
      nofun, List.nodup_nil, fun b hb h => absurd (idle b hb) h, nofun⟩

theorem witness_OnlyItsAdvanceAndTheResetsMoveRunTime :
    (∀ value : Word32, Instr.noticeEnableWrite 0xFFFFFEFF = .noticeEnableWrite value → value.getLsbD 8 = false) ∧
      ∃ t, exec (.noticeEnableWrite 0xFFFFFEFF) hall = .next t :=
  ⟨by intro v h; cases h; decide, _, rfl⟩

/-- The hypotheses at the last slot with a full field list, and the five cases of the notice. -/
theorem witness_CompletionWritesTheSlotAndServesTheNotice :
    (63 < 64 ∧ hall.board.slots.length = 64 ∧ hall.board.doneMark.length = 64 ∧ Memory.wf hall.mem ∧
      (List.replicate 24 (1 : Byte)).length ≤ 24) ∧
    ({ hall with board := { hall.board with completions := true } } : State).board.completions = true ∧
    (cfgOf hall).threshold ≤ min 65535 (3 + 1) ∧ ¬ (cfgOf hall).threshold ≤ min 65535 (0 + 1) ∧ (cfgOf hall).delay ≠ 0 ∧
    ({ config with delay := 0 } : Configuration).delay = 0 := by decide +kernel

/-- Kiosk 0 drawing attention, or about to. -/
def drawing (factors mask : FactorSet) : State :=
  { hall with station := { hall.station with kiosks := updAt hall.station.kiosks 0 (fun c => { c with factors := factors, mask := mask }) } }

/-- A cell that begins to draw attention, ceases to, and does neither; a factor raised masked and unmasked. -/
theorem witness_FactorsMasksAndAcknowledgesWriteOneCell :
    (draws kfPaperLow (maskOf hall (.kiosk 11)) = false ∧ draws kfPaperLow 0x1EFF = true) ∧
    ((drawing 1 0).station.kiosks.length = 12 ∧ (drawing 1 0).station.counters.length = 4) ∧
    (draws (factorsOf (drawing 1 0) (.kiosk 0)) (maskOf (drawing 1 0) (.kiosk 0)) = true ∧
      draws (factorsOf (drawing 1 0) (.kiosk 0)) (0xFFFF &&& namedFactors (.kiosk 0)) = false ∧
      draws (factorsOf (drawing 1 0) (.kiosk 0) &&& ~~~0x0001) (maskOf (drawing 1 0) (.kiosk 0)) = false) ∧
    (draws (factorsOf (drawing 1 1) (.kiosk 0)) (maskOf (drawing 1 1) (.kiosk 0)) = false ∧
      draws (factorsOf (drawing 1 1) (.kiosk 0)) (0 &&& namedFactors (.kiosk 0)) = true) ∧
    draws (factorsOf (drawing 3 1) (.kiosk 0)) (maskOf (drawing 3 1) (.kiosk 0)) =
      draws (factorsOf (drawing 3 1) (.kiosk 0) &&& ~~~0x0001) (maskOf (drawing 3 1) (.kiosk 0)) := by decide +kernel

theorem witness_StateWordWritesMoveTheSlotOrAreBoardFaults :
    (board.board.slots.length = 64 ∧ board.board.doneMark.length = 64 ∧ sparseWf (0 : Nat) board.stats) ∧
    slotAt board (0 : Fin 64) = .free ∧ slotAt board (2 : Fin 64) = .done ∧ slotAt board (63 : Fin 64) ≠ .free ∧
    slotAt board (63 : Fin 64) ≠ .done ∧ (slotAt board (0 : Fin 64) = .free ∨ slotAt board (0 : Fin 64) = .done) ∧
    ((∃ x ∈ ([some 1, none, none, none] : List (Option Byte)), x = none) ∧ ∃ x ∈ ([some 1, none, none, none] : List (Option Byte)), x ≠ none) ∧
    ((0 : Byte).toNat + 256 * ((1 : Byte).toNat + 256 * ((0 : Byte).toNat + 256 * (0 : Byte).toNat)) = 256 ∧
      ¬ ((1 : Byte) = 0 ∧ (0 : Byte) = 0 ∧ (0 : Byte) = 0 ∧ ((0 : Byte) = 0 ∨ (0 : Byte) = 1 ∨ (0 : Byte) = 4))) := by decide +kernel

theorem witness_WithdrawalMeetsThePostedOrTheTakenSlot :
    board.board.slots.length = 64 ∧ board.board.doneMark.length = 64 ∧ Memory.wf board.mem ∧ slotAt board (63 : Fin 64) = .posted ∧
      slotAt board (5 : Fin 64) = .taken := by decide +kernel

/-- Slot 63 posted with a kind and a first parameter byte. -/
def posted (kind b : Byte) (s : State) : State :=
  { s with board := { s.board with posting := [63] }, mem := memWriteAll [] (128 * 63) (b :: List.replicate 89 0 ++ [kind]) }

theorem witness_DecoderHandsOnOrRefusesTheOldestPostedRequest :
    (board.board.slots.length = 64 ∧ board.board.inflight.length = 24 ∧ Memory.wf (posted 0x0E 23 board).mem ∧
      (posted 0x0E 23 board).board.posting = 63 :: [] ∧
      kindOfCode (memRead (posted 0x0E 23 board).mem (128 * 63 + 0x5A)).toNat = some .pay ∧ (posted 0x0E 23 board).config ≠ none ∧
      (posted 0x0E 23 board).board.inflight.getD (memRead (posted 0x0E 23 board).mem (128 * 63)).toNat none = none) ∧
    kindOfCode (memRead (posted 0x20 0 State.reset).mem (128 * 63 + 0x5A)).toNat = some .clearCounts ∧
    kindOfCode (memRead (posted 0x21 0 board).mem (128 * 63 + 0x5A)).toNat = none ∧
    kindOfCode (memRead (posted 0x00 0 board).mem (128 * 63 + 0x5A)).toNat = none ∧
    (kindOfCode (memRead (posted 0x01 0 State.reset).mem (128 * 63 + 0x5A)).toNat = some .setClock ∧
      kindOfCode (memRead (posted 0x02 0 State.reset).mem (128 * 63 + 0x5A)).toNat = some .loadShow ∧ State.reset.config = none) ∧
    (kindOfCode (memRead (posted 0x0D 6 board).mem (128 * 63 + 0x5A)).toNat = some .quote ∧ namesBasket .quote = true ∧
      ((List.replicate 24 none).set 6 (some 9)).getD (memRead (posted 0x0D 6 board).mem (128 * 63)).toNat none = some 9) := by
  decide +kernel

theorem witness_RegistersReadAndWriteAsTheTableSays :
    ({ hall with board := { hall.board with coalescing := some ⟨1000000, 999990⟩ } } : State).board.coalescing = some ⟨1000000, 999990⟩ ∧
    1000000 ≤ hall.showUnit.runTime ∧ 999990 < hall.showUnit.runTime ∧ (0x00000002 : Word32).getLsbD 8 = false ∧
    (0x00000100 : Word32).getLsbD 8 = true ∧ hall.board.unnoticed < 65536 ∧ hall.showUnit.runTime < 2 ^ 48 ∧
    ({ hall with showUnit := { hall.showUnit with runTime := 2 ^ 48 - 1 } } : State).showUnit.runTime < 2 ^ 64 ∧
    hall.board.runtimeLatch = none := by decide +kernel

/-- Staging's last unit, the parameters' and tag's unit of a slot; the slot count of IDENT's neighbourhood at both ends of the part's
own places. -/
theorem witness_HostWriteStoresOrIsCountedAsStray :
    (0x9FFC < 0x40000 ∧ 0x9FFC % 4 = 0 ∧ (∀ i < 4, storedPlace (0x9FFC + i)) ∧ (∀ i < 4, storedPlace (0x1FD4 + i)) ∧
      storedPlace (0x1FD8 + 2) ∧ ¬ storedPlace (0x1FD8 + 3) ∧ partPlace (0x1FD8 + 3)) ∧
    Canonical hall ∧
    ((∀ i < 4, partPlace (0x2000 + i)) ∧ (∀ i < 4, partPlace (0x3FFFC + i) ∧ ¬ guardedPlace (0x3FFFC + i)) ∧
      (∃ i < 4, ([none, none, none, some 0] : List (Option Byte)).getD i none ≠ none) ∧
      (0x2804 + 256 * (11 : Fin 12).val = 0x3304 ∧ partPlace 0x3305 ∧ maskPlace 0x3306 ∧ maskPlace 0x3307 ∧ ackPlace 0x3308 ∧ ackPlace 0x3309 ∧
        partPlace 0x330A) ∧
      (0x3408 + 128 * (3 : Fin 4).val = 0x3588 ∧ partPlace 0x3588 ∧ maskPlace 0x3589 ∧ ackPlace 0x358A ∧ partPlace 0x358B) ∧
      (maskPlace 0x3603 ∧ ackPlace 0x3604 ∧ partPlace 0x3605)) ∧
    (0x40000 ≤ 0x40000 ∧ 0x3FFFD < 0x40000 ∧ 0x3FFFD % 4 ≠ 0 ∧ ([] : List (Option Byte)).length ≠ 4) :=
  ⟨by decide +kernel, canonical_of (by decide +kernel),
    ⟨fun i hi => by simp only [partPlace, storedPlace, guardedPlace, maskPlace, ackPlace]; omega,
      fun i hi => by simp only [partPlace, storedPlace, guardedPlace, maskPlace, ackPlace]; omega,
      ⟨3, by decide, by decide⟩, by simp [partPlace, storedPlace, guardedPlace, maskPlace, ackPlace],
      by simp [partPlace, storedPlace, guardedPlace, maskPlace, ackPlace], by decide +kernel⟩, by decide +kernel⟩

theorem witness_ResetsLeaveTheResetState : Memory.wf (posted 0x0E 23 board).mem := by decide +kernel

/-- A clamped record at the last place it fits, and each refusal. -/
theorem witness_ConfigurePutsTheClampedRecordInForce :
    (Handed .configure (ask .configure (leBytes 2 7582)) (asked .configure (leBytes 2 7582)
        { State.reset with mem := memWriteAll [] (0x8000 + 7582) clampedRecord }) ∧
      param2 (ask .configure (leBytes 2 7582)) 0 + 610 ≤ 8192 ∧ State.reset.config = none ∧
      firstFault (memReadAll (memWriteAll [] (0x8000 + 7582) clampedRecord) (0x8000 + 7582) 610) = none ∧
      State.reset.station.counters.length = 4) ∧
    ((∀ c ∈ hall.basketUnit.baskets, c.state = .free) ∧ (∀ p ∈ hall.print.printers, p.queue = []) ∧ ∀ x ∈ hall.lines, x.reversing = none) ∧
    8192 < param2 (ask .configure (leBytes 2 7583)) 0 + 610 ∧
    (hall.lines.length = 12 ∧ hall.print.printers.length = 12 ∧ hall.voucherUnit.receivers.length = 4) ∧
    (selling.config ≠ none ∧ ∃ c ∈ selling.basketUnit.baskets, c.state ≠ .free) ∧
    firstFault (memReadAll [] 0x8000 610) ≠ none := by decide +kernel

/-- The hall with a REVERSE in flight on lines 0 and 11, its record in force differing from `clampedRecord` in those lines alone. -/
def reversingHall : State :=
  { hall with
    lines := hall.lines.mapIdx (fun i l => if i = 0 ∨ i = 11 then { l with reversing := some (9 + i, 77) } else l)
    config := hall.config.map (fun c => { c with lines := c.lines.mapIdx (fun i l => if i = 0 ∨ i = 11 then { l with rate := 99 } else l) }) }

/-- CONFIGURE completes the REVERSE in flight on each line it restarts: both slots hold TERMINAL_FAULT, 14h (R93, 10.5). -/
theorem test_configure_ends_reverses :
    (match exec .configure (asked .configure (leBytes 2 100)
        { reversingHall with mem := memWriteAll [] (0x8000 + 100) clampedRecord }) with
     | .next t => (lineAt t 0).reversing == none && (lineAt t 11).reversing == none &&
         memReadAll t.mem (slotBase 9 + 0x78) 1 == [0x14] && memReadAll t.mem (slotBase 20 + 0x78) 1 == [0x14]
     | _ => false) = true := by decide +kernel

theorem witness_ClearCountsZeroesTheStatistics :
    Handed .clearCounts (ask .clearCounts []) (asked .clearCounts [] hall) := by decide +kernel

/-- A clock at a second, a phase and a day. -/
def clockAt (year day second phase : Nat) : State :=
  { hall with showUnit := { hall.showUnit with clock := ⟨true, ⟨year, day, second⟩, phase, 0⟩ } }

/-- R2: the first and the last instant of the range, a day end and the end of a leap year are valid, and compare so. -/
theorem witness_InstantsCompare :
    (instantBefore ⟨2000, 1, 0⟩ ⟨2099, 365, 86399⟩ = true ∧ instantBefore ⟨2032, 365, 86399⟩ ⟨2032, 366, 0⟩ = true ∧
      instantBefore ⟨2032, 366, 86399⟩ ⟨2033, 1, 0⟩ = true ∧ instantBefore ⟨2033, 1, 0⟩ ⟨2033, 1, 0⟩ = false) ∧
    (instantSeconds ⟨2000, 2, 0⟩ = 86400 ∧ instantSeconds ⟨2001, 1, 0⟩ = 366 * 86400 ∧
      instantSeconds ⟨2033, 1, 0⟩ = instantSeconds ⟨2032, 366, 86399⟩ + 1) := by decide +kernel

theorem witness_RunTimeAdvanceMovesTheClock :
    State.reset.showUnit.clock.isSet = false ∧ clockStopped (clockAt 2099 365 86399 5).showUnit.clock.now = true ∧
    (clockStopped (clockAt 2031 214 65400 998).showUnit.clock.now = false ∧ (clockAt 2031 214 65400 998).showUnit.clock.phase < 999) ∧
    (clockStopped (clockAt 2032 366 86399 999).showUnit.clock.now = false ∧ (clockAt 2032 366 86399 999).showUnit.clock.phase = 999 ∧
      (clockAt 2032 366 86399 999).showUnit.shows.length = 48) ∧
    (∃ n < 48, ShowState.closed ∈ dueMoves ⟨2032, 1, 0⟩ (showAt hall n)) ∧ (∃ n < 48, ShowState.ended ∈ dueMoves ⟨2032, 1, 0⟩ (showAt hall n)) := by
  decide +kernel

/-- The last instant of the range, and one past each end. -/
theorem witness_SetClockSetsAndMakesTheTransitionsDue :
    (Handed .setClock (ask .setClock [99, 0x6D, 1, 0x7F, 0x51, 1]) (asked .setClock [99, 0x6D, 1, 0x7F, 0x51, 1] hall) ∧
      hall.showUnit.shows.length = 48) ∧
    (2000 + param1 (ask .setClock [99, 0x6D, 1, 0x7F, 0x51, 1]) 0 = 2099 ∧ param2 (ask .setClock [99, 0x6D, 1, 0x7F, 0x51, 1]) 1 = 365 ∧
      param3 (ask .setClock [99, 0x6D, 1, 0x7F, 0x51, 1]) 3 = 86399) ∧
    (param2 (ask .setClock [32, 0x6E, 1]) 1 = 366 ∧ 2032 % 4 = 0) ∧ 2099 < 2000 + param1 (ask .setClock [100]) 0 ∧
    param2 (ask .setClock [31, 0, 0]) 1 = 0 ∧ 86399 < param3 (ask .setClock [31, 1, 0, 0x80, 0x51, 1]) 3 := by decide +kernel

/-- A show description of one row of 40 seats (10.6). -/
def description : List Byte :=
  [1, 0x46, 1, 31, 214, 0, 0, 0, 0, 31, 214, 0, 0x10, 0x27, 0, 31, 214, 0, 0x20, 0x4E, 0, 15, 4, 0, 1, 40] ++ List.replicate 39 2 ++ [0x83]

/-- The description in staging at an offset. -/
def staged (off : Nat) (b : List Byte) (s : State) : State := { s with mem := memWriteAll [] (0x8000 + off) b }

theorem witness_LoadShowReservesTheRangeAndFillsTheRecord :
    (Handed .loadShow (ask .loadShow (47 :: leBytes 2 8126)) (asked .loadShow (47 :: leBytes 2 8126) (staged 8126 description hall)) ∧
      hall.showUnit.shows.length = 48 ∧ hall.showUnit.clock.isSet = true ∧ param1 (ask .loadShow (47 :: leBytes 2 8126)) 0 < 48 ∧
      (showAt hall 47).state = .empty ∧ (∀ l ∈ hall.showUnit.loadings, l.sh ≠ 47) ∧
      param2 (ask .loadShow (47 :: leBytes 2 8126)) 1 + (descriptionAt (staged 8126 description hall) 8126).size ≤ 8192 ∧
      descriptionSound (descriptionAt (staged 8126 description hall) 8126) = true ∧
      firstFit (allocatedRanges hall) (descriptionAt (staged 8126 description hall) 8126).rowLengths.sum = some 0) ∧
    State.reset.showUnit.clock.isSet = false ∧ 48 ≤ param1 (ask .loadShow [48]) 0 ∧ (showAt hall 3).state ≠ .empty ∧
    8192 < param2 (ask .loadShow (47 :: leBytes 2 8127)) 1 + (descriptionAt (staged 8127 description hall) 8127).size ∧
    descriptionSound (descriptionAt hall 0) = false ∧
    firstFit (allocatedRanges (withShow 4 { aShow with seatBase := 120, seatCount := 16264 } (withShow 3 { aShow with seatBase := 0, seatCount := 100 } hall))) 40 = none := by
  decide +kernel

theorem witness_LoadingCompleteWritesTheSeats :
    let s : State := { hall with showUnit := { hall.showUnit with loadings := [⟨5, 47, [2, 0x83]⟩] } }
    s.showUnit.loadings.find? (fun x => x.sh == (47 : Fin 48).val) = some ⟨5, 47, [2, 0x83]⟩ ∧ Canonical s ∧ s.showUnit.shows.length = 48 :=
  ⟨by decide +kernel, canonical_of (by decide +kernel), by decide +kernel⟩

/-- A price list record with every field at its upper bound, at the last place it fits. -/
def priceRecord (p f b : Nat) : List Byte :=
  (List.replicate 8 (leBytes 2 p ++ [0x54] ++ List.replicate 11 0)).flatten ++ leBytes 1 f ++ leBytes 2 b

theorem witness_SetPricesAndCloseSaleActOnTheirRecord :
    (Handed .setPrices (ask .setPrices (15 :: leBytes 2 8064)) (asked .setPrices (15 :: leBytes 2 8064) (staged 8064 (priceRecord 60000 250 2000) hall)) ∧
      hall.showUnit.prices.length = 16 ∧ 8064 + 128 ≤ 8192 ∧
      (∀ tier < 8, leValue (memReadAll (staged 8064 (priceRecord 60000 250 2000) hall).mem (0x8000 + 8064 + 14 * tier) 2) ≤ 60000 ∧
        textOf (memReadAll (staged 8064 (priceRecord 60000 250 2000) hall).mem (0x8000 + 8064 + 14 * tier + 2) 12) ≠ []) ∧
      leValue (memReadAll (staged 8064 (priceRecord 60000 250 2000) hall).mem (0x8000 + 8064 + 112) 1) = 250 ∧
      leValue (memReadAll (staged 8064 (priceRecord 60000 250 2000) hall).mem (0x8000 + 8064 + 113) 2) = 2000) ∧
    (250 < leValue (memReadAll (staged 0 (priceRecord 60000 251 2000) hall).mem (0x8000 + 112) 1) ∧
      ∃ tier < 8, 60000 < leValue (memReadAll (staged 0 (priceRecord 60001 250 2000) hall).mem (0x8000 + 14 * tier) 2)) ∧
    (Handed .closeSale (ask .closeSale [3]) (asked .closeSale [3] hall) ∧ (showAt hall 3).state = .onSale) ∧
    48 ≤ param1 (ask .closeSale [48]) 0 ∧ (showAt hall 47).state = .empty ∧
    ((showAt (withShow 47 { aShow with state := .closed } hall) 47).state ≠ .empty ∧
      (showAt (withShow 47 { aShow with state := .closed } hall) 47).state ≠ .onSale) := by decide +kernel

/-- A show ENDED, and a removal of it at a step. -/
def removing (st : RemovalStep) : State :=
  let s := withShow 3 { aShow with state := .ended } hall
  { s with showUnit := { s.showUnit with removals := [⟨5, 3, st, 0, 0⟩] } }

theorem witness_DropShowRemovesAllThatBelongsToTheShow :
    (Handed .dropShow (ask .dropShow [3]) (asked .dropShow [3] (withShow 3 { aShow with state := .ended } hall)) ∧
      (showAt (withShow 3 { aShow with state := .ended } hall) 3).state = .ended ∧ hall.showUnit.shows.length = 48 ∧
      ∀ c ∈ hall.basketUnit.baskets, c.state = .free ∨ c.sh ≠ 3) ∧
    (∀ st ∈ [RemovalStep.sales, .vouchers, .seats, .finish], Canonical (removing st) ∧ (removing st).showUnit.shows.length = 48 ∧
      (⟨5, 3, st, 0, 0⟩ : Removal) ∈ (removing st).showUnit.removals ∧
      (∀ y ∈ (removing st).showUnit.removals, y.sh = (3 : Fin 48).val → y = ⟨5, 3, st, 0, 0⟩) ∧ (removing st).showUnit.removals.Nodup) ∧
    refundOfShow (removing .sales) 3 = none ∧ showQueued (removing .sales) 3 = false := by
  refine ⟨by decide +kernel, ?_, by decide +kernel, by decide +kernel⟩
  intro st hst
  refine ⟨canonical_of ?_, ?_⟩ <;> revert st <;> decide +kernel

/-- Each refusal of DROP_SHOW, and a sales removal that waits or ends with BASKET_BUSY. -/
theorem witness_DropShowRefusals :
    (48 ≤ param1 (ask .dropShow [48]) 0 ∧ (showAt hall 47).state = .empty ∧ (showAt hall 3).state = .onSale ∧
      (∃ x ∈ (removing .sales).showUnit.removals, x.sh = 3) ∧
      (∃ c ∈ (withShow 3 { aShow with state := .ended } selling).basketUnit.baskets, c.state ≠ .free ∧ c.sh = 3)) ∧
    ((removing .sales).showUnit.removals.find? (fun y => y.sh == (3 : Fin 48).val && y.step == .sales) = some ⟨5, 3, .sales, 0, 0⟩ ∧
      (removing .sales).showUnit.shows.length = 48) ∧
    (let sale : State := { (removing .sales) with salesUnit := { SalesUnit.initial with sales := [(0, { Sale.empty with serial := 1, sh := 3 })] } }
     refundOfShow { sale with salesUnit := { sale.salesUnit with refunds := [⟨6, 1, none, none⟩] } } 3 = some 1 ∧ refundOfShow sale 3 = none ∧
      showQueued (withPrinter 11 fullPrinter sale) 3 = true) := by decide +kernel

/-! Seats, prices, vouchers and baskets. -/

theorem witness_NeighboursStandBesideASeatInItsRow :
    seatPlace [10, 10] 10 = some (1, 1, 10) ∧ seatPlace [10, 10] 9 = some (0, 10, 10) ∧ seatPlace [10, 10] 19 = some (1, 10, 10) ∧
      seatPlace [1] 0 = some (0, 1, 1) ∧
      ([10, 10][1]? = some 10 ∧ ([10, 10].take 1).sum ≤ 19 ∧ 19 < ([10, 10].take 1).sum + 10) ∧
      ([10, 10].sum ≤ 20 ∧ seatPlace [10, 10] 20 = none) := by decide +kernel

/-- A finding and none: cases a and b of section 2.5.1. -/
theorem witness_GapCheckFindsASeatLeftAlone :
    firstGap (row [(1, .sold), (2, .sold), (3, .sold)]) 3 [4] = some 3 ∧ firstGap (row [(1, .sold), (2, .sold), (3, .sold)]) 3 [3, 4] = none := by
  decide +kernel

/-- Forty seats of one show: the longest list. -/
def bigHall : State := withShow 47 { aShow with seatBase := 200, seatCount := 80, rowLengths := [40, 40], free := 80 } hall

def seatList (n m : Nat) : List Byte := [47, BitVec.ofNat 8 m] ++ ((List.range m).map (fun i => leBytes 2 (n + i))).flatten

theorem witness_BlockAndUnblockMoveTheListedSeats :
    (paramSeats (ask .blockSeats (seatList 40 40)) 1 = some ((List.range 40).map (fun i => 40 + i)) ∧ Canonical bigHall ∧
      bigHall.showUnit.shows.length = 48 ∧ param1 (ask .blockSeats (seatList 40 40)) 0 < 48 ∧ (showAt bigHall 47).state ≠ .empty ∧
      (showAt bigHall 47).state ≠ .ended ∧ ((List.range 40).map (fun i => 40 + i)).Nodup ∧
      (∀ i ∈ (List.range 40).map (fun i => 40 + i), i < (showAt bigHall 47).seatCount)) ∧
    (Handed .blockSeats (ask .blockSeats (seatList 40 40)) (asked .blockSeats (seatList 40 40) bigHall) ∧
      ∀ i ∈ (List.range 40).map (fun i => 40 + i), (seatOf bigHall 47 i).state = .free) ∧
    (Handed .unblockSeats (ask .unblockSeats (seatList 79 1)) (asked .unblockSeats (seatList 79 1) bigHall) ∧
      (seatOf { bigHall with seats := [(279, ⟨.blocked, 0, none⟩)] } 47 79).state = .blocked) ∧
    [79].find? (fun i => (seatOf { bigHall with seats := [(279, ⟨.sold, 0, some 1⟩)] } 47 i).state != .free) = some 79 ∧
    [79].find? (fun i => (seatOf bigHall 47 i).state != .blocked) = some 79 ∧
    (48 ≤ param1 (ask .blockSeats [48, 1]) 0 ∧ param1 (ask .blockSeats [47, 0]) 1 = 0 ∧ 40 < param1 (ask .blockSeats [47, 41]) 1 ∧
      (showAt hall 47).state = .empty ∧ (showAt (withShow 47 { aShow with state := .ended } hall) 47).state = .ended ∧
      paramSeats (ask .blockSeats (seatList 79 2)) 1 = some ([79] ++ 80 :: []) ∧ (showAt bigHall 47).seatCount ≤ 80 ∧ [79].Nodup) :=
  ⟨⟨by decide +kernel, canonical_of (by decide +kernel), by decide +kernel⟩, by decide +kernel, by decide +kernel, by decide +kernel,
    by decide +kernel, by decide +kernel⟩

/-- The basket with a number of vouchers listed. -/
def basketOf (seats vouchers : List Nat) : Basket := { aBasket with seats := seats, vouchers := vouchers }

theorem witness_BasketRequestsOpenACallOrWait :
    (selling.basketUnit.baskets.length = 24 ∧ (basketAt selling 6).state = .selecting ∧ (basketAt selling 6).call = none ∧
      (basketAt (holding [9] aBasket selling) 6).call ≠ none ∧ (basketAt (withBasket 23 aBasket selling) 23).state = .selecting) ∧
    (Handed .holdSeats (ask .holdSeats ([6, 10] ++ List.replicate 20 0)) (asked .holdSeats ([6, 10] ++ List.replicate 20 0) selling) ∧
      paramSeats (ask .holdSeats ([6, 10] ++ List.replicate 20 0)) 1 = some (List.replicate 10 0)) ∧
    (Handed .releaseSeats (ask .releaseSeats [6, 2, 5, 0, 4, 0]) (asked .releaseSeats [6, 2, 5, 0, 4, 0] selling) ∧
      paramSeats (ask .releaseSeats [6, 2, 5, 0, 4, 0]) 1 = some [5, 4] ∧ [5, 4].Nodup ∧ ∀ i ∈ [5, 4], i ∈ (basketAt selling 6).seats) ∧
    (Handed .addVoucher (ask .addVoucher [6, 15]) (asked .addVoucher [6, 15] selling) ∧ param1 (ask .addVoucher [6, 15]) 1 < 16 ∧
      selling.showUnit.clock.isSet = true ∧ (showAt selling (basketAt selling 6).sh).state = .onSale ∧
      (basketAt (withBasket 6 (basketOf [] [0, 1, 2, 3, 4]) selling) 6).vouchers.length < 6) ∧
    (Handed .dropVoucher (ask .dropVoucher [6, 5]) (asked .dropVoucher [6, 5] selling) ∧ param1 (ask .dropVoucher [6, 5]) 1 ≤ 5 ∧
      param1 (ask .dropVoucher [6, 5]) 1 < (basketAt (withBasket 6 (basketOf [] [0, 1, 2, 3, 4, 5]) selling) 6).vouchers.length) := by
  decide +kernel

/-- Each refusal of the four requests. -/
theorem witness_BasketRequestRefusals :
    (Handed .holdSeats (ask .holdSeats [6, 11]) (asked .holdSeats [6, 11] selling) ∧ 10 < param1 (ask .holdSeats [6, 11]) 1 ∧
      24 ≤ param1 (ask .holdSeats [24, 1]) 0 ∧ param1 (ask .holdSeats [6, 0]) 1 = 0 ∧ (basketAt selling 7).state ≠ .selecting ∧
      (basketAt selling 7).call = none) ∧
    (let list := fun l => (List.range (param1 (ask .releaseSeats l) 1)).map (fun i => param2 (ask .releaseSeats l) (2 + 2 * i))
     Handed .releaseSeats (ask .releaseSeats [6, 2, 4, 0, 4, 0]) (asked .releaseSeats [6, 2, 4, 0, 4, 0] selling) ∧
      ¬ (list [6, 2, 4, 0, 4, 0]).Nodup ∧ (list [6, 2, 4, 0, 9, 0]).Nodup ∧
      (list [6, 2, 4, 0, 9, 0]).find? (fun j => decide (j ∉ (basketAt selling 6).seats)) = some 9) ∧
    (Handed .addVoucher (ask .addVoucher [6, 16]) (asked .addVoucher [6, 16] selling) ∧ State.reset.showUnit.clock.isSet = false ∧
      16 ≤ param1 (ask .addVoucher [6, 16]) 1 ∧ (showAt (withShow 3 { aShow with state := .closed } selling) 3).state ≠ .onSale ∧
      6 ≤ (basketOf [] [0, 1, 2, 3, 4, 5]).vouchers.length) ∧
    (Handed .dropVoucher (ask .dropVoucher [6, 6]) (asked .dropVoucher [6, 6] selling) ∧ 5 < param1 (ask .dropVoucher [6, 6]) 1 ∧
      (basketOf [] [0, 1, 2, 3, 4]).vouchers.length ≤ 5) := by decide +kernel

/-- A hold of eight seats that makes ten, and each refusal. -/
theorem witness_HoldEventTakesAllListedSeatsOrNone :
    (Canonical (holding [10, 11, 12, 13, 14, 15, 16, 17] aBasket selling) ∧
      (basketAt (holding [10, 11, 12, 13, 14, 15, 16, 17] aBasket selling) (6 : Fin 24)).call = some (.hold 5 [10, 11, 12, 13, 14, 15, 16, 17]) ∧
      selling.basketUnit.baskets.length = 24 ∧ selling.showUnit.shows.length = 48 ∧ NoneWaits (.basket 6) selling ∧
      (showAt selling 3).state = .onSale ∧ aBasket.seats.length + [10, 11, 12, 13, 14, 15, 16, 17].length ≤ 10 ∧
      [10, 11, 12, 13, 14, 15, 16, 17].Nodup ∧ aBasket.deadline = some ⟨1240000, 1000000⟩ ∧
      (∀ i ∈ [10, 11, 12, 13, 14, 15, 16, 17], i < (showAt selling 3).seatCount ∧ i ∉ aBasket.seats ∧ (seatOf selling 3 i).state = .free) ∧
      firstGap (holding [10, 11, 12, 13, 14, 15, 16, 17] aBasket selling) 3 [10, 11, 12, 13, 14, 15, 16, 17] = none) ∧
    (showAt (withShow 3 { aShow with state := .closed } selling) 3).state ≠ .onSale ∧
    10 < aBasket.seats.length + (List.range 9).length ∧
    (∃ before i after, [7, 20] = before ++ i :: after ∧ (showAt selling 3).seatCount ≤ i ∧ before = [7] ∧ after = []) ∧
    [7, 8].find? (fun j => (seatOf { selling with seats := selling.seats ++ [(108, ⟨.blocked, 0, none⟩)] } 3 j).state != .free) = some 8 ∧
    firstGap (holding [7] aBasket selling) 3 [7] = some 6 :=
  ⟨⟨canonical_of (by decide +kernel), by decide +kernel⟩, by decide +kernel, by decide +kernel, ⟨[7], 20, [], rfl, by decide +kernel, rfl, rfl⟩,
    by decide +kernel, by decide +kernel⟩

/-- Entry 0 PENDING for basket 6, alone in its chain. -/
def pendingEntry : State :=
  { selling with voucherUnit := { VoucherUnit.initial with
      entries := [(0, { Voucher.empty with state := some .pending, code := 214000370796, kind := 3, sh := 3, owner := some 6 })]
      heads := [(15, some 0)] } }

/-- Basket 6 with voucher 0 listed, PENDING and alone in the chain of bucket 15. -/
def withVoucher : State := withBasket 6 { aBasket with vouchers := [0] } pendingEntry

theorem entries_of_withVoucher (i : Nat) : voucherAt withVoucher i =
    if 0 = i then { Voucher.empty with state := some .pending, code := 214000370796, kind := 3, sh := 3, owner := some 6 } else Voucher.empty := rfl

/-- The voucher table's laws hold with an entry in it, so a lookup is by them (R130). -/
theorem witness_LookupFollowsTheTableLaws : HouseLaw withVoucher := { houseLaw_selling with
  baskets := by decide +kernel
  canonical := canonical_of (by decide +kernel)
  removals := by decide +kernel
  listed := by decide +kernel
  held := fun c h => by
    obtain ⟨b, hb, hs, ho, i, hi, hc⟩ := houseLaw_selling.held c h
    have only : ∀ b < 24, Selling (basketAt selling b) → b = 6 := by decide +kernel
    have := only b hb hs
    subst this
    exact ⟨6, hb, by decide +kernel, ho, i, hi, hc⟩
  calls := by decide +kernel
  releases := fun b hb slot list h => by
    have none' : ∀ b < 24, (basketAt withVoucher b).call = none := by decide +kernel
    simp [none' b hb] at h
  vouchers := by decide +kernel
  pendings := fun i h => by
    rw [entries_of_withVoucher] at h ⊢
    split at h
    · next h0 => subst h0; exact ⟨6, by decide, by decide +kernel, by simp, by decide +kernel⟩
    · exact nomatch h
  table := fun i hi => by rw [entries_of_withVoucher, if_neg (by omega)]
  chains := fun b _ => by
    by_cases hb : 15 = b
    · subst hb
      refine ⟨[0], by simp, by decide +kernel, fun j i h => ?_, fun i => ?_⟩
      · cases j <;> simp at h; subst h; rfl
      · rw [entries_of_withVoucher]
        constructor
        · intro h; simp at h; subst h; decide +kernel
        · rintro ⟨h, -⟩; split at h
          · next h0 => simp [h0.symm]
          · exact absurd rfl h
    · refine ⟨[], List.nodup_nil, ?_, nofun, fun i => ⟨nofun, ?_⟩⟩
      · show (if 15 = b then some 0 else none) = none
        exact if_neg hb
      · rintro ⟨h, h2⟩; rw [entries_of_withVoucher] at h h2; split at h
        · next h0 => rw [if_pos h0] at h2; exact absurd (h2.symm.trans (by decide +kernel)).symm hb
        · exact absurd rfl h
  codes := fun i j hi hj _ => by
    rw [entries_of_withVoucher] at hi hj
    split at hi <;> split at hj
    · next h1 h2 => exact h1.symm.trans h2
    · exact absurd rfl hj
    · exact absurd rfl hi
    · exact absurd rfl hi
  actives := fun i h => by rw [entries_of_withVoucher] at h; split at h <;> exact nomatch h
  voided := nofun }

/-- R130: the code is found in its chain, another is not. -/
theorem test_lookup_finds_the_code :
    lookupCode withVoucher 214000370796 = some 0 ∧ lookupCode withVoucher 214000370797 = none := by decide +kernel

theorem witness_ReleaseAndRemovalShortenTheBasket :
    (Canonical (withBasket 6 { aBasket with call := some (.release 5 [5]) } selling) ∧
      (basketAt (withBasket 6 { aBasket with call := some (.release 5 [5]) } selling) (6 : Fin 24)).call = some (.release 5 [5]) ∧
      NoneWaits (.basket 6) selling ∧ aBasket.sh < 48 ∧ [5] ≠ [] ∧ [5].Nodup) ∧
    (Canonical pendingEntry ∧
      (basketAt (withBasket 6 { basketOf [] [0] with call := some (.removal 5 0) } pendingEntry) (6 : Fin 24)).call = some (.removal 5 0) ∧
      (basketOf [] [0]).vouchers[0]? = some 0) :=
  ⟨⟨canonical_of (by decide +kernel), by decide +kernel⟩, canonical_of (by decide +kernel), by decide +kernel⟩

theorem witness_SeatPriceIsRoundedHalfUp : [0, 1, 1].Perm [1, 0, 1] ∧ 60000 ≤ 60000 ∧ 250 ≤ 250 := by decide

/-- Every figure at its upper bound. -/
theorem witness_QuoteAmountsStayInTheirRanges :
    (∀ t ∈ List.replicate 10 0, ({ PriceList.initial with prices := [60000], factor := 250, fee := 2000 } : PriceList).prices.getD t 0 = 60000) ∧
    (quoteOf { config with comboPercent := 0 } { PriceList.initial with prices := [60000], factor := 250, fee := 2000 } (List.replicate 10 0)
      (List.replicate 6 20000)).discount = 0 ∧
    (List.replicate 10 0).length ≤ 10 ∧ (List.replicate 6 20000).length ≤ 6 ∧ (∀ p ∈ List.replicate 6 20000, p ≤ 20000) ∧
    (let c : Configuration := { config with comboPercent := 50, comboSeats := 1, taxRate := 300 }
     c.comboPercent ≤ 50 ∧ 1 ≤ c.comboSeats ∧ c.taxRate ≤ 300) := by
  refine ⟨by decide +kernel, by decide +kernel, by decide, by decide, by decide +kernel, ?_⟩
  decide +kernel

theorem witness_VoucherCodeCarriesItsCheck :
    checkRight 214000370796 = true ∧ 214000370796 < 10 ^ 12 ∧ 214000370791 < 10 ^ 12 ∧
      (∀ n < 12, n ≠ 11 → (digitsOf 12 214000370791).getD n 0 = (digitsOf 12 214000370796).getD n 0) := by decide +kernel

/-- The last entry of a full table but one is not needed: an empty table, and one whose next code is taken already. -/
theorem witness_VoucherIssueFillsTheLowestEmptyEntry :
    (∃ d rest, ({ hall with showUnit := { hall.showUnit with dayChanges := [(2031, 215)] } } : State).showUnit.dayChanges = d :: rest) ∧
    (let s := withBasket 6 { basketOf [] [0] with call := some (.issue 5 3) } { pendingEntry with
        voucherUnit := { pendingEntry.voucherUnit with seqDay := some (2031, 214), nextSeq := 37 } }
     Canonical s ∧ s.basketUnit.baskets.length = 24 ∧ (basketAt s (6 : Fin 24)).call = some (.issue 5 3) ∧
      (basketAt s 6).deadline = some ⟨1240000, 1000000⟩ ∧ NoneWaits (.basket 6) s ∧ (kindAt s 3).name ≠ [] ∧
      voucherAt s 1 = Voucher.empty ∧ (∀ i < 1, voucherAt s i ≠ Voucher.empty) ∧ s.voucherUnit.seqDay = some (2031, 214) ∧
      s.voucherUnit.nextSeq ≤ 38 ∧ (∀ n < 38, 37 ≤ n → lookupCode s (composeCode 214 n 7) ≠ none) ∧ lookupCode s (composeCode 214 38 7) = none) :=
  ⟨⟨_, _, rfl⟩, canonical_of (by decide +kernel), by decide +kernel⟩

/-- A table with every entry the same. -/
theorem sparseGet_filled {α : Type} (d v : α) (n a i : Nat) (h1 : a ≤ i) (h2 : i < a + n) :
    sparseGet d ((List.range' a n).map (fun j => (j, v))) i = v := by
  induction n generalizing a with
  | zero => omega
  | succ n ih =>
    rw [List.range'_succ, List.map_cons, sparseGet]
    split
    · rfl
    · exact ih (a + 1) (by omega) (by omega)

/-- A kind without a name, a full table, and a sequence spent. -/
theorem witness_VoucherIssueRefusals :
    (let s := withBasket 6 { basketOf [] [] with call := some (.issue 5 2) } selling
     Canonical s ∧ s.basketUnit.baskets.length = 24 ∧ (basketAt s (6 : Fin 24)).call = some (.issue 5 2) ∧ NoneWaits (.basket 6) s ∧
      (kindAt s 2).name = [] ∧ (kindAt s 3).name ≠ [] ∧ (∃ i < 1024, voucherAt s i = Voucher.empty)) ∧
    (let full : State := { hall with voucherUnit := { VoucherUnit.initial with
        entries := (List.range' 0 1024).map (fun i => (i, { Voucher.empty with state := some .active })) } }
     ∀ i < 1024, voucherAt full i ≠ Voucher.empty) ∧
    (let spent : State := { hall with voucherUnit := { VoucherUnit.initial with seqDay := some (2031, 214), nextSeq := 100000 } }
     spent.voucherUnit.nextSeq = 100000 ∧ ∀ n, 100000 ≤ n → n < 100000 → lookupCode spent (composeCode 214 n 7) ≠ none) :=
  ⟨⟨canonical_of (by decide +kernel), by decide +kernel, by decide +kernel, by decide +kernel, by decide +kernel, by decide +kernel,
      0, by decide, by decide +kernel⟩,
    fun i hi h => absurd ((sparseGet_filled Voucher.empty _ 1024 0 i (Nat.zero_le i) (by omega)).symm.trans h) (by decide), rfl, fun n h1 h2 => absurd h2 (by omega)⟩

theorem witness_OpenBasketTakesTheLowestFreeContext :
    (Handed .openBasket (ask .openBasket [11, 3]) (asked .openBasket [11, 3] selling) ∧ selling.basketUnit.baskets.length = 24 ∧
      selling.station.kiosks.length = 12 ∧ selling.showUnit.clock.isSet = true ∧ (kioskAt selling 11).service = false ∧
      (∀ c ∈ selling.basketUnit.baskets, c.kiosk = 11 → c.state = .free) ∧ (showAt selling 3).state = .onSale ∧
      (basketAt selling 0).state = .free) ∧
    (State.reset.showUnit.clock.isSet = false ∧ 12 ≤ param1 (ask .openBasket [12, 3]) 0 ∧ 48 ≤ param1 (ask .openBasket [11, 48]) 1) ∧
    (∃ c ∈ selling.basketUnit.baskets, c.kiosk = 5 ∧ c.state = .selecting) ∧ (showAt selling 47).state = .empty ∧
    (showAt (withShow 3 { aShow with state := .loaded } hall) 3).state ≠ .onSale ∧
    (∀ c ∈ ({ hall.basketUnit with baskets := List.replicate 24 { Basket.free with state := .closed } } : BasketUnit).baskets, c.state ≠ .free) := by
  decide +kernel

/-- A line at rest with its last record place the one a PAY takes. -/
def idleLine : Line :=
  { Line.initial with
    state := .idle, nextTag := 255, pingDue := some ⟨1005000, 1000000⟩, closes := 3
    records := [{ PayRecord.empty with tag := 252, closedOrder := 0 }, { PayRecord.empty with tag := 253, closedOrder := 1 },
      { PayRecord.empty with tag := 254, closedOrder := 2 }, .empty] }

theorem witness_QuoteAndPayTakeTheSnapshot :
    (selling.basketUnit.baskets.length = 24 ∧ (withLine 5 idleLine selling).lines.length = 12 ∧ (basketAt selling 6).call = none ∧
      (basketAt selling 6).state = .selecting ∧ (basketAt selling 6).seats ≠ [] ∧ (showAt selling 3).state = .onSale) ∧
    (Handed .quote (ask .quote [6]) (asked .quote [6] selling) ∧ 24 ≤ param1 (ask .quote [24]) 0 ∧ (basketAt selling 7).state ≠ .selecting) ∧
    (Handed .pay (ask .pay [6]) (asked .pay [6] (withLine 5 idleLine selling)) ∧ State.reset.showUnit.clock.isSet = false ∧
      (basketAt (withBasket 6 (basketOf [] []) selling) 6).seats = [] ∧ (showAt (withShow 3 { aShow with state := .closed } hall) 3).state ≠ .onSale) ∧
    (basketQuote { selling with config := some { config with ceiling := 1 } } aBasket).overCeiling = true ∧
    ((basketQuote selling aBasket).overCeiling = false ∧ (basketQuote selling aBasket).gross ≠ 0) ∧
    ((lineAt selling 5).state = .down ∧ (lineAt (withLine 5 lateLine selling) 5).state = .aborting ∧ (lineAt (withLine 5 idleLine selling) 5).state = .idle) ∧
    2048 ≤ ({ selling.salesUnit with inUse := 2047, reserved := 1 } : SalesUnit).inUse + 1 ∧
    ((recordAt (withLine 5 idleLine selling) 5 3).tag = 0 ∧ (∀ j < 3, (recordAt (withLine 5 idleLine selling) 5 j).tag ≠ 0)) ∧
    (∀ j < 4, j ≠ 3 → (recordAt (withLine 5 { idleLine with records := idleLine.records.map (fun r => { r with tag := 9, closedOrder := r.closedOrder + (if r.tag = 0 then 0 else 1) }) } selling) 5 3).closedOrder <
      (recordAt (withLine 5 { idleLine with records := idleLine.records.map (fun r => { r with tag := 9, closedOrder := r.closedOrder + (if r.tag = 0 then 0 else 1) }) } selling) 5 j).closedOrder) := by
  decide +kernel

/-- SETTLE approved refused: a basket number, a code with an unprintable character, a basket not UNRESOLVED. -/
theorem witness_SettleRefusals :
    Handed .settle (ask .settle [6, 1, 0x1F, 0x34, 0x30, 0x32, 0x31, 0x7E]) (asked .settle [6, 1, 0x1F, 0x34, 0x30, 0x32, 0x31, 0x7E] selling) ∧
    (basketAt selling 6).call = none ∧ 24 ≤ param1 (ask .settle [24, 1]) 0 ∧ (basketAt selling 6).state ≠ .unresolved ∧
    (¬ ∀ x ∈ paramBytes (ask .settle [6, 1, 0x1F, 0x34, 0x30, 0x32, 0x31, 0x7E]) 2 6, 0x20 ≤ x.toNat ∧ x.toNat ≤ 0x7E) := by decide +kernel

theorem witness_ApprovalsAndZeroPayMakeTheSale :
    (Canonical selling ∧ selling.basketUnit.baskets.length = 24 ∧ selling.showUnit.shows.length = 48 ∧ aBasket.sh < 48 ∧ aBasket.vouchers.Nodup ∧
      1 ≤ selling.salesUnit.nextSerial ∧ ∀ p, (saleAt selling p).serial < selling.salesUnit.nextSerial) ∧
    (let s := { selling with showUnit := { selling.showUnit with prices := ShowUnit.initial.prices } }
     Handed .pay (ask .pay [6]) (asked .pay [6] s) ∧ (basketQuote s aBasket).gross = 0 ∧ (basketQuote s aBasket).overCeiling = false ∧
      s.salesUnit.inUse + s.salesUnit.reserved < 2048 ∧ s.salesUnit.reserved < 16777216 - s.salesUnit.nextSerial) ∧
    (([⟨6, .approved, [0x51, 0x34, 0x30, 0x32, 0x31, 0x37], some 8841⟩] : List OutcomeReport).find? (fun x => x.basket == 6) =
        some ⟨6, .approved, [0x51, 0x34, 0x30, 0x32, 0x31, 0x37], some 8841⟩ ∧ ((List.replicate 24 none).set 6 (some 5)).getD 6 none = some 5) ∧
    (Handed .settle (ask .settle [6, 1, 0x51, 0x34, 0x30, 0x32, 0x31, 0x7E]) (asked .settle [6, 1, 0x51, 0x34, 0x30, 0x32, 0x31, 0x7E]
        (withBasket 6 { aBasket with state := .unresolved, deadline := none } selling)) ∧
      (paramBytes (ask .settle [6, 1, 0x51, 0x34, 0x30, 0x32, 0x31, 0x7E]) 2 6).length = 6 ∧
      ∀ x ∈ paramBytes (ask .settle [6, 1, 0x51, 0x34, 0x30, 0x32, 0x31, 0x7E]) 2 6, isPrintable x = true) := by
  refine ⟨⟨canonical_of (by decide +kernel), by decide +kernel, by decide +kernel, by decide, by decide, by decide, fun p => ?_⟩, ?_, by decide +kernel,
    by decide +kernel⟩
  · show 0 < 1
    decide
  · decide +kernel

/-- Basket 6 in a payment's state, with an outcome handed over. -/
def outcomeFor (st : BasketState) (o : PayOutcome) : State :=
  let s := withBasket 6 { aBasket with state := st, deadline := none } selling
  { s with
    basketUnit := { s.basketUnit with outcomes := [⟨6, o, [], none⟩] }
    board := { s.board with inflight := s.board.inflight.set 6 (some 5) } }

theorem witness_OtherOutcomesReturnExpireOrSuspendTheBasket :
    (Canonical (outcomeFor .paying .declined) ∧ (outcomeFor .paying .declined).basketUnit.baskets.length = 24 ∧
      (outcomeFor .paying .declined).showUnit.shows.length = 48 ∧ aBasket.sh < 48) ∧
    (∀ o ∈ [PayOutcome.declined, .cancelled, .timedOut, .unresolved],
      (outcomeFor .paying o).basketUnit.outcomes.find? (fun x => x.basket == (6 : Fin 24).val) = some ⟨6, o, [], none⟩ ∧
      (basketAt (outcomeFor .paying o) 6).state = .paying ∧ (outcomeFor .paying o).board.inflight.getD (6 : Fin 24) none = some 5) ∧
    (showAt (outcomeFor .paying .declined) 3).state = .onSale ∧
    (showAt (withShow 3 { aShow with state := .closed } (outcomeFor .paying .declined)) 3).state ≠ .onSale ∧
    (basketAt (outcomeFor .selecting .declined) 6).state ≠ .paying ∧
    (Handed .settle (ask .settle [6, 2]) (asked .settle [6, 2] (outcomeFor .unresolved .declined)) ∧ param1 (ask .settle [6, 2]) 1 = 2 ∧
      param1 (ask .settle [6, 3]) 1 ≠ 2 ∧ param1 (ask .settle [6, 0]) 1 ≠ 1) :=
  ⟨⟨canonical_of (by decide +kernel), by decide +kernel⟩, by decide +kernel⟩

/-- Basket 6 with a hold call open and a request for it handed over. -/
def meetsCall (k : RequestKind) (params : List Byte) : State := asked k params (holding [9] aBasket selling)

/-- While a call is open on the basket, each kind of request that reaches it can stand next to be taken (R29, R47, R78). -/
theorem witness_RequestsMeetAnOpenCall :
    (∀ k ∈ ([.holdSeats, .releaseSeats, .addVoucher, .dropVoucher, .quote, .pay, .settle, .abandon, .retire] : List RequestKind),
      Handed k (ask k [6]) (meetsCall k [6]) ∧ (basketAt (meetsCall k [6]) (param1 (ask k [6]) 0)).call ≠ none) ∧
    ((meetsCall .quote [6]).basketUnit.baskets.length = 24 ∧ (meetsCall .quote [6]).lines.length = 12 ∧
      (meetsCall .abandon [6]).showUnit.shows.length = 48) ∧ Canonical (meetsCall .abandon [6]) :=
  ⟨by decide +kernel, by decide +kernel, canonical_of (by decide +kernel)⟩

/-- R78: a QUOTE that reaches the basket during an open call waits for it. -/
theorem test_quote_waits_for_the_call :
    after (fun t => (t.waiting.map Prod.fst, (basketAt t 6).quote == (basketAt (meetsCall .quote [6]) 6).quote, t.board.handed))
      (exec .quote (meetsCall .quote [6])) = some ([.basket 6], true, []) := by decide +kernel

theorem witness_BasketsEndWithoutASale :
    (Handed .abandon (ask .abandon [6]) (asked .abandon [6] selling) ∧ Canonical selling ∧ (basketAt selling 6).state = .selecting ∧
      (basketAt selling 6).call = none) ∧
    ((basketAt (outcomeFor .collect .declined) 6).state = .collect ∧ (basketAt (outcomeFor .abandoned .declined) 6).state = .abandoned ∧
      24 ≤ param1 (ask .abandon [24]) 0) ∧
    (aBasket.deadline = some ⟨1240000, 1000000⟩ ∧ 1240000 ≤ (later 240 selling).showUnit.runTime ∧ 1000000 < (later 240 selling).showUnit.runTime) ∧
    (basketAt (holding [9] aBasket selling) 6).call ≠ none ∧
    ((3 : Fin 48).val ∈ [3] ∧ ∀ n < 24, (basketAt selling n).state = .selecting → (basketAt selling n).sh = (3 : Fin 48).val → n = (6 : Fin 24).val) :=
  ⟨⟨by decide +kernel, canonical_of (by decide +kernel), by decide +kernel⟩, by decide +kernel, by decide +kernel, by decide +kernel,
    by decide +kernel⟩

/-- Basket 23 of kiosk 5 after its sale. -/
def sold (st : BasketState) : Basket :=
  { aBasket with
    state := st, serial := some 1, plan := [⟨.ticket, 0⟩, ⟨.ticket, 1⟩], cursor := 2, printed := 2
    deadline := if st = .collect then some ⟨1060000, 1000000⟩ else none }

theorem witness_CollectedBasketsCloseAndRetire :
    (selling.basketUnit.baskets.length = 24 ∧ selling.station.kiosks.length = 12) ∧
    ((basketAt (withBasket 23 (sold .printing) selling) (23 : Fin 24)).state = .printing ∧ (sold .printing).printed = (sold .printing).plan.length) ∧
    ((5 : Fin 12).val ∈ [5] ∧ (basketAt (withBasket 23 (sold .collect) selling) 23).state = .collect ∧ (sold .collect).printer = (5 : Fin 12).val) ∧
    ((sold .collect).deadline = some ⟨1060000, 1000000⟩ ∧ 1060000 ≤ (later 60 selling).showUnit.runTime) ∧
    (Handed .retire (ask .retire [23]) (asked .retire [23] (withBasket 23 (sold .closed) selling)) ∧
      (basketAt (withBasket 23 (sold .closed) selling) 23).state = .closed ∧ (basketAt selling 6).state ≠ .closed ∧ 24 ≤ param1 (ask .retire [24]) 0) := by
  decide +kernel

/-! Terminal lines and payment. -/

/-- Payloads of 1 and of 38 bytes, the ends of their range. -/
theorem witness_FramesAreReadBackFromTheirBytes :
    (1 ≤ ([0] : List Byte).length ∧ (List.replicate 38 (0 : Byte)).length ≤ 38) ∧ hall.lines.length = 12 ∧
    ([0x51, 0x34, 0x30, 0x32, 0x31, 0x37] : List Byte).length = 6 ∧ ([0x20, 0x20, 0x20, 0x20] : List Byte).length = 4 ∧
    (42 < 38 + 5 ∧ (frameBytes ⟨0x87, 1, List.replicate 38 0⟩).tail[42]? ≠ some 0xFF) := by decide +kernel

/-- Line 4 in a state with one record, in a phase with a cause, and a frame awaited. -/
def lineIn (st : LineState) (ph : PayPhase) (cause : Option AbortCause) (sendings : Nat) : State :=
  withLine 4 { lateLine with
    state := st, authDue := some ⟨1000000, 925000⟩, abortDue := some ⟨1000000, 990000⟩, reverseDue := some ⟨1000000, 970000⟩
    pingDue := some ⟨1000000, 995000⟩, gapDue := none
    awaiting := some { frame := abortOf 38 .timeout, sendings := sendings, due := ⟨1000000, 999700⟩ }
    records := [{ PayRecord.empty with tag := 38, basket := 6, amount := 3140, phase := ph, cause := cause }, .empty, .empty, .empty] } hall

theorem canonical_lineIn (st : LineState) (ph : PayPhase) (cause : Option AbortCause) (n : Nat) : Canonical (lineIn st ph cause n) :=
  canonical_of (s := hall) (by decide +kernel) |> fun h => ⟨h.mem, h.seats, h.entries, h.heads, h.sales, h.stats⟩

theorem witness_ReceiverCountsDiscardsAndAnswers :
    (hall.lines.length = 12 ∧ sparseWf (0 : Nat) hall.stats ∧ hall.config ≠ none ∧ Outside (4 : Fin 12) hall) ∧
    badFrameFormed [0xA5, 41] = true ∧ unknownFormed 0x85 [1, 2] = true ∧
    ((lineAt (withLine 4 { Line.initial with rx := some [3], gapDue := some ⟨1000000, 999899⟩ } hall) (4 : Fin 12)).gapDue =
        some ⟨1000000, 999899⟩ ∧ 1000000 ≤ hall.showUnit.runTime ∧ 999899 < hall.showUnit.runTime) ∧ State.reset.config = none ∧
    ((config.lines[(4 : Fin 12).val]?).map LineParams.parity = some 0 ∧
      (({ config with lines := List.replicate 12 ⟨0, 1, 1⟩ } : Configuration).lines[(4 : Fin 12).val]?).map LineParams.parity = some 1) := by
  decide +kernel

theorem witness_FramesAreDeliveredOrResent :
    (hall.lines.length = 12 ∧ hall.station.kiosks.length = 12 ∧ hall.station.counters.length = 4 ∧ Canonical (lineIn .aborting .aborting none 1) ∧
      hall.config ≠ none ∧ Outside (4 : Fin 12) (lineIn .aborting .aborting none 1)) ∧
    (lineAt hall (4 : Fin 12)).awaiting = none ∧
    (∃ a, (lineAt (lineIn .aborting .aborting none 2) (4 : Fin 12)).awaiting = some a ∧ a.sendings < 3 ∧ a.due.value ≤ hall.showUnit.runTime ∧
      a.due.setAt < hall.showUnit.runTime) ∧
    (openRecord (lineIn .aborting .aborting none 1) (4 : Fin 12) = some 0 ∧ (recordAt (lineIn .aborting .aborting none 1) (4 : Fin 12) 0).phase ≠ .awaitAck) ∧
    (openRecord (lineIn .authorizing .awaitAck none 1) (4 : Fin 12) = some 0 ∧
      (recordAt (lineIn .authorizing .awaitAck none 1) (4 : Fin 12) 0).phase = .awaitAck ∧
      (recordAt (lineIn .authorizing .awaitAck none 1) (4 : Fin 12) 0).cause = none) ∧
    (recordAt (lineIn .authorizing .awaitAck (some .customer) 1) (4 : Fin 12) 0).cause = some .customer ∧
    ((lineAt (lineIn .aborting .aborting none 3) (4 : Fin 12)).awaiting.map Awaiting.sendings = some 3) ∧
    (openRecord (withLine 4 { Line.initial with state := .reversing, reversing := some (5, 38) } hall) (4 : Fin 12) = none) :=
  ⟨⟨by decide +kernel, by decide +kernel, by decide +kernel, canonical_lineIn _ _ _ _, by decide +kernel, by decide +kernel⟩, by decide +kernel,
    ⟨_, rfl, by decide +kernel, by decide +kernel, by decide +kernel⟩, by decide +kernel⟩

/-- Line 4 at rest after record 38 timed out, its late list of a length. -/
def lateState (n : Nat) : State :=
  withLine 4 { lateLine with
    state := .idle, lastClosed := some 38, abortDue := none, late := (List.range n).map (fun i => ⟨i + 1, 100, [0x41], none⟩)
    records := [{ PayRecord.empty with tag := 38, amount := 3140, outcome := some .timedOut }, .empty, .empty, .empty] } hall

theorem witness_CardAndResultMeetTheOpenRecordOrTheLateList :
    (Canonical (lineIn .authorizing .authorizing none 1) ∧ hall.lines.length = 12 ∧ hall.station.kiosks.length = 12 ∧
      hall.station.counters.length = 4 ∧ hall.config ≠ none ∧ Outside (4 : Fin 12) (lineIn .authorizing .authorizing none 1)) ∧
    (openRecord (lineIn .authorizing .authorizing none 1) (4 : Fin 12) = some 0 ∧
      (recordAt (lineIn .authorizing .authorizing none 1) (4 : Fin 12) 0).tag = (38 : Byte).toNat) ∧
    ((∀ b ∈ ([0x20, 0x7E, 0x30, 0x32, 0x31, 0x37] : List Byte), 0x20 ≤ b.toNat ∧ b.toNat ≤ 0x7E) ∧
      ∃ d < 10000, ([0x30, 0x30, 0x30, 0x30] : List Byte) = (digitsOf 4 d).map digitChar) ∧
    (openRecord (lateState 3) (4 : Fin 12) = none ∧ recordWithTag (lateState 3) (4 : Fin 12) (38 : Byte).toNat = some 0 ∧
      (lineAt (lateState 3) (4 : Fin 12)).lastClosed = some (38 : Byte).toNat ∧ (recordAt (lateState 3) (4 : Fin 12) 0).phase = .closed ∧
      (recordAt (lateState 3) (4 : Fin 12) 0).outcome ≠ some .approved ∧ (∀ e ∈ (lineAt (lateState 3) (4 : Fin 12)).late, e.tag ≠ (38 : Byte).toNat) ∧
      (lineAt (lateState 3) (4 : Fin 12)).late.length < 4 ∧ 4 ≤ (lineAt (lateState 4) (4 : Fin 12)).late.length) ∧
    (recordWithTag (lateState 3) (4 : Fin 12) (39 : Byte).toNat = none ∧ ∃ e ∈ (lineAt (lateState 4) (4 : Fin 12)).late, e.tag = (1 : Byte).toNat) :=
  ⟨⟨canonical_lineIn _ _ _ _, by decide +kernel⟩, by decide +kernel, ⟨by decide +kernel, 0, by decide, by decide +kernel⟩, by decide +kernel,
    by decide +kernel⟩

/-- Basket 23's payment on line 4. -/
def paying (ph : PayPhase) : State :=
  withBasket 23 { aBasket with state := .paying, payRef := some (4, 38) } (lineIn .authorizing ph none 1)

theorem witness_AbortsEndTheRecordOneWay :
    (Handed .cancelPay (ask .cancelPay [23]) (asked .cancelPay [23] (paying .authorizing)) ∧ (paying .authorizing).lines.length = 12 ∧
      (paying .authorizing).basketUnit.baskets.length = 24 ∧ 24 ≤ param1 (ask .cancelPay [24]) 0 ∧ (basketAt hall 23).payRef = none ∧
      (basketAt (paying .authorizing) 23).payRef = some (4, 38)) ∧
    (∀ ph ∈ [PayPhase.awaitAck, .authorizing, .aborting, .closed],
      recordWithTag (paying ph) 4 38 = some 0 ∧ (recordAt (paying ph) 4 0).phase = ph) ∧ recordWithTag hall 4 38 = none ∧
    (hall.lines.length = 12 ∧ hall.station.kiosks.length = 12 ∧ hall.station.counters.length = 4 ∧ Canonical (lineIn .aborting .aborting (some .timeout) 1) ∧
      openRecord (lineIn .aborting .aborting (some .timeout) 1) (4 : Fin 12) = some 0 ∧
      (lineAt (lineIn .aborting .aborting (some .timeout) 1) (4 : Fin 12)).authDue = some ⟨1000000, 925000⟩ ∧
      (lineAt (lineIn .aborting .aborting (some .timeout) 1) (4 : Fin 12)).abortDue = some ⟨1000000, 990000⟩ ∧
      1000000 ≤ hall.showUnit.runTime ∧ 990000 < hall.showUnit.runTime) ∧
    (hall.config ≠ none ∧ Outside (4 : Fin 12) (lineIn .aborting .aborting (some .timeout) 1) ∧
      (recordAt (lineIn .aborting .aborting (some .timeout) 1) (4 : Fin 12) 0).tag = (38 : Byte).toNat ∧
      (recordAt (lineIn .authorizing .authorizing none 1) (4 : Fin 12) 0).phase ≠ .aborting ∧
      openRecord (lineIn .idle .closed none 1) (4 : Fin 12) = none ∧ Outside (4 : Fin 12) (lineIn .idle .closed none 1)) :=
  ⟨by decide +kernel, by decide +kernel, by decide +kernel,
    ⟨by decide +kernel, by decide +kernel, by decide +kernel, canonical_lineIn _ _ _ _, by decide +kernel⟩, by decide +kernel⟩

/-- A REVERSE of a late entry in flight. -/
def reversing : State :=
  withLine 4 { lateLine with
    state := .reversing, abortDue := none, reverseDue := some ⟨1000000, 970000⟩, reversing := some (5, 4)
    records := [.empty, .empty, .empty, .empty], late := [⟨4, 100, [0x41], none⟩] } hall

theorem witness_ReverseTakesBackALateApproval :
    (Handed .reverse (ask .reverse [4, 3]) (asked .reverse [4, 3] (lateState 4)) ∧ (lateState 4).lines.length = 12 ∧
      (lineAt (lateState 4) 4).late[param1 (ask .reverse [4, 3]) 1]? = some ⟨4, 100, [0x41], none⟩ ∧ (lineAt (lateState 4) 4).state = .idle ∧
      (lineAt (lateState 3) 4).late[3]? = none ∧ 12 ≤ param1 (ask .reverse [12, 0]) 0 ∧ 4 ≤ param1 (ask .reverse [4, 4]) 1 ∧
      (lineAt reversing 4).state ≠ .idle) ∧
    (reversing.lines.length = 12 ∧ sparseWf (0 : Nat) reversing.stats ∧ reversing.config ≠ none ∧
      (lineAt reversing (4 : Fin 12)).reversing = some (5, 4) ∧ Outside (4 : Fin 12) reversing ∧ (lineAt reversing (4 : Fin 12)).state = .reversing ∧
      4 = (4 : Byte).toNat ∧ ((0x02 : Byte) = 0x01 ∨ (0x02 : Byte) = 0x02) ∧ ((0x03 : Byte) ≠ 0x01 ∧ (0x03 : Byte) ≠ 0x02)) ∧
    ((lineAt reversing (4 : Fin 12)).reverseDue = some ⟨1000000, 970000⟩ ∧ openRecord reversing (4 : Fin 12) = none) ∧
    (hall.lines.length = 12 ∧ sparseWf (0 : Nat) hall.stats ∧ hall.config ≠ none ∧ (lineAt hall (11 : Fin 12)).reversing = none ∧
      Outside (11 : Fin 12) hall) := by decide +kernel

theorem witness_LivenessMovesTheLine :
    (hall.lines.length = 12 ∧ hall.station.kiosks.length = 12 ∧ hall.station.counters.length = 4 ∧ Canonical (lineIn .idle .closed none 1) ∧
      hall.config ≠ none ∧ Outside (4 : Fin 12) (lineIn .idle .closed none 1)) ∧
    (∀ st ∈ [LineState.down, .idle, .authorizing, .aborting, .reversing, .fault], (lineAt (lineIn st .closed none 1) (4 : Fin 12)).state = st) ∧
    (openRecord (lineIn .idle .closed none 1) (4 : Fin 12) = none ∧ (lineAt (lineIn .idle .closed none 1) (4 : Fin 12)).reversing = none ∧
      openRecord (lineIn .authorizing .authorizing none 1) (4 : Fin 12) = some 0 ∧ openRecord reversing (4 : Fin 12) = none ∧
      (lineAt reversing (4 : Fin 12)).reversing = some (5, 4)) ∧
    ((lineAt (lineIn .idle .closed none 1) (4 : Fin 12)).pingDue = some ⟨1000000, 995000⟩ ∧ 995000 < hall.showUnit.runTime ∧
      ({ idleLine with pings := 2 } : Line).pings < 3 ∧ 3 ≤ ({ idleLine with pings := 3 } : Line).pings) :=
  ⟨⟨by decide +kernel, by decide +kernel, by decide +kernel, canonical_lineIn _ _ _ _, by decide +kernel⟩, by decide +kernel, by decide +kernel,
    by decide +kernel⟩

/-! Printers. -/

/-- Printer 11 in a state, with a head item in a state. -/
def printing (st : PrinterState) (x : ItemState) : Printer :=
  { fullPrinter with
    state := st, queue := [⟨.ticket, 0, 1, 0, false, 1, x, .basket 6, 0⟩], nextArrival := 65535, absentRun := 9
    cutDue := some ⟨1000000, 995000⟩ }

/-- A printer in a state, with its head item in a state, and a sale check open on its queue. -/
def checked (st : PrinterState) (x : ItemState) : Printer := { printing st x with check := some ⟨5, 1, .all, none⟩ }

theorem witness_PrinterFollowsItsStatusBytes :
    (hall.print.printers.length = 12 ∧ hall.station.kiosks.length = 12 ∧ hall.basketUnit.baskets.length = 24 ∧
      Canonical (withPrinter 11 (printing .streaming .printing) hall) ∧ hall.config ≠ none ∧ State.reset.config = none ∧
      (∀ e ∈ hall.waiting, e.2 ≠ .absence 11 ∧ ∀ c, e.2 ≠ .status 11 c ∧ e.2 ≠ .returned 11 c)) ∧
    (let q : Printer := { printing .streaming .printing with lastStatus := some 0x81, toSend := [0x41] }
     q.polled = false ∧ q.state = .streaming ∧ q.lastStatus.any allowsByte = true ∧ q.toSend ≠ []) ∧
    ((checked .finishing .printing).check ≠ none ∧ (checked .finishing .printing).state = .finishing ∧ stCutDone 0xA0 = true ∧
      OnQueue (checked .finishing .printing) 0xA0 ∧ OnQueue (checked .streaming .printing) 0xC0 ∧
      OnQueue { checked .ready .queued with lastStatus := some 0x81 } 0x81 ∧ ¬ OnQueue (checked .stalled .incomplete) 0xC0 ∧
      ¬ OnQueue { checked .ready .queued with lastStatus := some 0x80 } 0x80) ∧
    (∃ e ∈ ({ withPrinter 11 (checked .streaming .printing) hall with waiting := [(.printer 11, .absence 11)] } : State).waiting,
      e.2 = .absence 11 ∨ ∃ c, e.2 = .returned 11 c) ∧
    ((checked .absent .queued).state = .absent ∧ (∃ x rest, (checked .absent .queued).queue = x :: rest ∧ x.state = .queued)) ∧
    ((printing .finishing .printing).check = none ∧ (printing .finishing .printing).state = .finishing ∧
      (printing .finishing .printing).cutDue = some ⟨1000000, 995000⟩ ∧ 1000000 ≤ hall.showUnit.runTime ∧ 995000 < hall.showUnit.runTime) ∧
    (stPresence 0x7F = false ∧ min 10 ((printing .ready .queued).absentRun + 1) = 10 ∧ min 10 (8 + 1) ≠ 10) ∧
    (stPresence 0x81 = true ∧ shownCause 0x81 = none ∧ allowsByte 0x81 = true ∧ allowsByte 0x83 = false ∧ allowsByte 0x80 = false ∧
      shownCause 0xC0 = some .fault ∧ shownCause 0x90 = some .headOpen ∧ shownCause 0x88 = some .paperOut) ∧
    ((∃ x rest, (printing .absent .incomplete).queue = x :: rest ∧ x.state = .incomplete) ∧
      (∃ x rest, (checked .streaming .printing).queue = x :: rest ∧ x.state = .printing)) ∧
    ((∃ x rest, (printing .finishing .printing).queue = x :: rest ∧ rest = [] ∧ x.source = .basket 6 ∧ 0 < x.reprints)) := by
  refine ⟨⟨by decide +kernel, by decide +kernel, by decide +kernel, canonical_of (by decide +kernel), by decide +kernel,
    by decide +kernel, fun _ h => nomatch h⟩, by decide +kernel, ⟨by decide +kernel, by decide +kernel, by decide +kernel,
    .inl (by decide +kernel), .inr (.inl ⟨by decide +kernel, by decide +kernel, _, _, rfl, rfl⟩),
    .inr (.inr ⟨by decide +kernel, by decide +kernel, by decide +kernel, _, _, rfl, rfl⟩), ?_, ?_⟩,
    ⟨(.printer 11, .absence 11), by decide +kernel, .inl rfl⟩, ⟨by decide +kernel, _, _, rfl, rfl⟩, by decide +kernel, by decide +kernel, by decide +kernel,
    ⟨⟨_, _, rfl, rfl⟩, ⟨_, _, rfl, rfl⟩⟩, _, _, rfl, rfl, rfl, by decide⟩
  · rintro (⟨h, -⟩ | ⟨h, -⟩ | ⟨h, -⟩) <;> exact absurd h (by decide +kernel)
  · rintro (⟨h, -⟩ | ⟨-, h, -⟩ | ⟨-, -, h, -⟩) <;> exact absurd h (by decide +kernel)

/-- Basket 23 printing on printer 5, nothing of its plan placed yet. -/
def planned : State := withBasket 23 { sold .printing with cursor := 1, printed := 0 } selling

theorem witness_QueuesAndTemplatesMoveAsAsked :
    (planned.print.printers.length = 12 ∧ planned.basketUnit.baskets.length = 24 ∧ (printerAt planned (5 : Fin 12)).check = none ∧
      (printerAt planned (5 : Fin 12)).queue.length < 16 ∧ (basketAt planned 23).state = .printing ∧ (basketAt planned 23).printer = (5 : Fin 12).val ∧
      (basketAt planned 23).cursor < (basketAt planned 23).plan.length ∧ (basketAt planned 23).serial = some 1 ∧
      (basketAt planned 23).plan[(basketAt planned 23).cursor]? = some ⟨.ticket, 1⟩ ∧
      (∀ n < 24, n ≠ 23 → (basketAt planned n).state ≠ .printing) ∧
      ∀ y ∈ (printerAt planned (5 : Fin 12)).queue, arrivedBefore (printerAt planned (5 : Fin 12)).nextArrival y.arrival = false) ∧
    (Handed .loadTemplate (ask .loadTemplate ([31] ++ leBytes 2 7168 ++ leBytes 2 1024))
        (asked .loadTemplate ([31] ++ leBytes 2 7168 ++ leBytes 2 1024) hall) ∧ hall.print.templates.length = 32 ∧ Memory.wf hall.mem ∧
      (∀ q ∈ hall.print.printers, q.check = none) ∧ (∀ q ∈ hall.print.printers, ∀ x ∈ q.queue, x.template ≠ 31) ∧ 7168 + 1024 ≤ 8192 ∧
      32 ≤ param1 (ask .loadTemplate [32]) 0 ∧ (∃ q ∈ (withPrinter 11 fullPrinter hall).print.printers, ∃ x ∈ q.queue, x.template = 0)) ∧
    (Handed .resumePrinter (ask .resumePrinter [11]) (asked .resumePrinter [11] (withPrinter 11 (printing .stalled .incomplete) hall)) ∧
      (printing .stalled .incomplete).check = none ∧ (printing .stalled .incomplete).state = .stalled ∧
      (∃ b, (printing .stalled .incomplete).lastStatus = some b ∧ stPresence b = true ∧ stReady b = true ∧ shownCause b = none) ∧
      12 ≤ param1 (ask .resumePrinter [12]) 0 ∧ (printerAt hall 11).state = .absent ∧ fullPrinter.state ≠ .stalled) ∧
    (Handed .redirect (ask .redirect [11, 0]) (asked .redirect [11, 0] (withPrinter 0 { Printer.initial with state := .ready }
        (withPrinter 11 { fullPrinter with state := .stalled } hall))) ∧
      ({ fullPrinter with state := .stalled } : Printer).queue.length = 16 ∧ ({ Printer.initial with state := .ready } : Printer).queue.length ≤ 16 ∧
      16 < ({ Printer.initial with queue := [⟨.ticket, 0, 1, 0, false, 0, .queued, .basket 6, 0⟩] } : Printer).queue.length + fullPrinter.queue.length ∧
      param1 (ask .redirect [11, 11]) 0 = param1 (ask .redirect [11, 11]) 1 ∧ fullPrinter.state ≠ .stalled ∧ fullPrinter.state ≠ .absent ∧
      (printerAt hall 0).state = .absent) ∧
    (let s := withPrinter 5 { printing .ready .queued with check := some ⟨5, 1, .all, none⟩ } planned
     (printerAt s (5 : Fin 12)).check ≠ none ∧ (printerAt s (5 : Fin 12)).queue.length < 16 ∧
      Handed .loadTemplate (ask .loadTemplate [31]) (asked .loadTemplate [31] s) ∧ (∀ j < 5, (printerAt s j).check = none) ∧
      Handed .resumePrinter (ask .resumePrinter [5]) (asked .resumePrinter [5] s) ∧ 5 = param1 (ask .resumePrinter [5]) 0 ∧
      Handed .redirect (ask .redirect [5, 0]) (asked .redirect [5, 0] s) ∧ 5 = param1 (ask .redirect [5, 0]) 0 ∧
      Handed .redirect (ask .redirect [0, 5]) (asked .redirect [0, 5] s) ∧ 5 = param1 (ask .redirect [0, 5]) 1 ∧
      (printerAt s (param1 (ask .redirect [0, 5]) 0)).check = none) := by
  refine ⟨by decide +kernel, by decide +kernel, ⟨by decide +kernel, by decide +kernel, by decide +kernel, ⟨0x81, by decide +kernel⟩, by decide +kernel⟩,
    by decide +kernel, by decide +kernel⟩

/-- Printer 5 about to have its head cut, with room for the next plan item of basket 23. -/
def cutting : State := withPrinter 5 { printing .finishing .printing with nextArrival := 1 } planned

/-- The pull inside a completion (R120), and the order of an arriving item (R112). -/
theorem witness_QueueOrderAndTheLastPull :
    ((printerAt cutting (5 : Fin 12)).check = none ∧ cutting.config ≠ none ∧ (printerAt cutting (5 : Fin 12)).state = .finishing ∧
      stCutDone 0xA0 = true ∧ stPresence 0xA0 = true ∧ shownCause 0xA0 = none ∧ allowsByte 0xA0 = false ∧ allowsByte 0xA1 = true ∧
      stCutDone 0xA1 = true ∧ shownCause 0xE1 = some .fault ∧ stCutDone 0xE1 = true ∧
      (printerAt cutting (5 : Fin 12)).queue.length = 1 ∧ (basketAt cutting 23).plan[(basketAt cutting 23).cursor]? = some ⟨.ticket, 1⟩) ∧
    (let item := fun (u : Bool) (st : ItemState) a => (⟨.ticket, 0, 1, 0, u, 0, st, .reprint, a⟩ : Item)
     (item true .queued 2).state = .queued ∧ (∀ y ∈ [item false .printing 0], y.state ≠ .queued) ∧
      (∀ y ∈ [item true .queued 65535], y.urgent = true ∧ arrivedBefore (item true .queued 2).arrival y.arrival = false) ∧
      (∀ y ∈ [item true .queued 3], arrivedBefore (item true .queued 2).arrival y.arrival = true)) := by decide +kernel

theorem test_last_pull : after (fun t => ((printerAt t 5).queue.map Item.index, (printerAt t 5).state, (basketAt t 23).cursor))
    (exec (.statusByte 5 0xA0) cutting) = some ([1], .ready, 2) ∧
    after (fun t => ((printerAt t 5).queue.map Item.state, (printerAt t 5).stallCause, (basketAt t 23).cursor))
      (exec (.statusByte 5 0xA1) cutting) = some ([.printing], none, 2) ∧
    after (fun t => ((printerAt t 5).queue.map Item.state, (printerAt t 5).stallCause, factorsOf t (.kiosk 5)))
      (exec (.statusByte 5 0xE1) cutting) = some ([.queued], some .fault, kfPrinterStalled) := by decide +kernel

/-- R113, R124: with a sale check open a stall cause on a STALLED printer is taken, a start waits, and so does a loss that stops the
item; once the check has closed the start and the loss are made. -/
theorem test_only_queue_events_wait :
    after (fun t => ((printerAt t 5).lastStatus, t.waiting)) (exec (.statusByte 5 0xC0) (withPrinter 5 (checked .stalled .incomplete) planned))
      = some (some 0xC0, []) ∧
    after (fun t => ((printerAt t 5).lastStatus, (printerAt t 5).state, t.waiting))
      (exec (.statusByte 5 0x81) (withPrinter 5 (checked .ready .queued) planned))
      = some (some 0x81, .ready, [(.printer 5, .status 5 0x81)]) ∧
    after (fun t => ((printerAt t 5).absentRun, (printerAt t 5).state, t.waiting))
      (exec (.statusByte 5 0x00) (withPrinter 5 (checked .streaming .printing) planned))
      = some (10, .streaming, [(.printer 5, .absence 5)]) := by decide +kernel

/-- R124: what waited is taken by the state it finds once the check has closed. -/
theorem test_waiting_status_taken :
    (printerAt (takeWaiting (.status 5 0xA0) (withPrinter 5 { printing .finishing .printing with lastStatus := some 0xA0 } planned)) 5).state = .ready ∧
    (printerAt (takeWaiting (.absence 5) (withPrinter 5 (printing .streaming .printing) planned)) 5).state = .absent := by decide +kernel

/-- R109: a byte that waited ends no absence that began after it came; a byte with presence set behind a waiting loss waits too, and
ends the absence that the loss makes, with the item INCOMPLETE. -/
theorem test_absence_ends_by_a_later_byte :
    (printerAt (takeWaiting (.status 5 0x81) (withPrinter 5 (printing .absent .queued) planned)) 5).state = .absent ∧
    (let lost := { withPrinter 5 (checked .streaming .printing) planned with waiting := [(.printer 5, .absence 5)] }
     after (fun t => ((printerAt t 5).state, t.waiting)) (exec (.statusByte 5 0x81) lost)
       = some (.streaming, [(.printer 5, .absence 5), (.printer 5, .returned 5 0x81)]) ∧
     (let t := drain (.printer 5) { withPrinter 5 (printing .streaming .printing) planned with
        waiting := [(.printer 5, .absence 5), (.printer 5, .returned 5 0x81)] }
      (printerAt t 5).state = .stalled ∧ (printerAt t 5).stallCause = some .absence ∧
        factorsOf t (.kiosk 5) = kfPrinterAbsent ||| kfPrinterStalled ∧ t.waiting = [])) := by decide +kernel

/-- Sale 1 of show 3 with two seats, and printer 11 asking for it. -/
def reprinting (sel : Selector) (a : Option SaleAnswer) : State :=
  withPrinter 11 { printing .ready .queued with check := some ⟨5, 1, sel, a⟩ } { hall with
    salesUnit := { SalesUnit.initial with
      sales := [(2047, { Sale.empty with serial := 1, sh := 3, seatCount := 2, gross := 5219 })], nextSerial := 2, inUse := 1 } }

theorem witness_ReprintAsksTheSaleAndQueuesUrgentItems :
    (Handed .reprint (ask .reprint [1, 0, 0, 0, 9, 11]) (asked .reprint [1, 0, 0, 0, 9, 11] (withPrinter 11 (printing .ready .queued) hall)) ∧
      hall.print.printers.length = 12 ∧ selectorOf (param1 (ask .reprint [1, 0, 0, 0, 9, 11]) 3) (param1 (ask .reprint [1, 0, 0, 0, 9, 11]) 4) = some (.ticket 9) ∧
      selectorOf 0 10 = none ∧ selectorOf 1 5 = some (.slip 5) ∧ selectorOf 1 6 = none ∧ selectorOf 4 0 = none ∧ selectorOf 3 0 = some .all ∧
      (printing .ready .queued).check = none ∧ (printing .ready .queued).state ≠ .absent ∧ (printing .ready .queued).queue.length < 16 ∧
      16 ≤ fullPrinter.queue.length ∧ (printerAt hall 11).state = .absent ∧ 12 ≤ param1 (ask .reprint [1, 0, 0, 0, 9, 12]) 5) ∧
    ((printerAt (reprinting (.ticket 1) none) (11 : Fin 12)).check = some ⟨5, 1, .ticket 1, none⟩ ∧ NoneWaits (.printer 11) (reprinting (.ticket 1) none) ∧
      (∀ f ∈ (reprinting (.ticket 1) none).salesUnit.refunds, f.serial ≠ 1) ∧
      (findSale (reprinting (.ticket 1) none) 1).map (fun x => (x.refunded, x.seatCount, x.voucherCount)) = some (false, 2, 0) ∧
      findSale (reprinting (.ticket 1) none) 2 = none ∧ 1 < 2 ∧ 2 ≤ 2) ∧
    ((printerAt (reprinting .all (some ⟨14, 10, 4⟩)) (11 : Fin 12)).check = some ⟨5, 1, .all, some ⟨14, 10, 4⟩⟩ ∧
      (printing .ready .queued).queue.length + (10 + 4 + 1) = 16 ∧ (printing .ready .queued).nextArrival < 65536 ∧
      16 < (printing .ready .queued).queue.length + (10 + 5 + 1)) := by decide +kernel

/-- A sale check whose record is in refund (R153). -/
def checkedInRefund : State :=
  let s := reprinting (.ticket 1) none
  { s with salesUnit := { s.salesUnit with refunds := [⟨6, 1, none, none⟩] } }

theorem witness_SaleCheckMeetsARefund :
    checkedInRefund.print.printers.length = 12 ∧ (printerAt checkedInRefund (11 : Fin 12)).check = some ⟨5, 1, .ticket 1, none⟩ ∧
    NoneWaits (.printer 11) checkedInRefund ∧ ∃ f ∈ checkedInRefund.salesUnit.refunds, f.serial = 1 := by decide +kernel

/-- R153: that check waits, the REPRINT's slot not completed. -/
theorem test_sale_check_waits_for_the_refund :
    after (fun t => (t.waiting, (printerAt t 11).check == (printerAt checkedInRefund 11).check)) (exec (.saleCheck 11) checkedInRefund)
      = some ([(.sale 1, .saleCheck 11)], true) := by decide +kernel

/-! Vouchers, counters, refunds and stations. -/

def codeChars : List Byte := [0x32, 0x31, 0x34, 0x30, 0x30, 0x30, 0x33, 0x37, 0x30, 0x37, 0x39, 0x36]

/-- Entry 412 in a state. -/
def entryIn (st : VoucherState) : State :=
  { redeeming with voucherUnit := { redeeming.voucherUnit with
      entries := [(412, { Voucher.empty with state := some st, code := 214000370796, kind := 3, sh := 3, owner := some 5031 })]
      heads := [(15, some 412)] } }

theorem witness_VouchersAreVoidedAndAnswered :
    (Handed .voidVoucher (ask .voidVoucher codeChars) (asked .voidVoucher codeChars redeeming) ∧ Canonical redeeming ∧
      paramBytes (ask .voidVoucher codeChars) 0 12 = (digitsOf 12 214000370796).map digitChar ∧ 214000370796 < 10 ^ 12 ∧
      checkRight 214000370796 = true ∧ lookupCode redeeming 214000370796 = some 412 ∧ (voucherAt redeeming 412).state = some .active ∧
      (voucherAt (entryIn .redeemed) 412).state ≠ some .active ∧ checkRight 214000370791 = false ∧ lookupCode hall 214000370796 = none ∧
      ¬ ((paramBytes (ask .voidVoucher [0x32]) 0 12).length = 12 ∧ ∀ b ∈ paramBytes (ask .voidVoucher [0x32]) 0 12, 0x30 ≤ b.toNat ∧ b.toNat ≤ 0x39)) ∧
    (redeeming.voucherUnit.receivers.length = 4 ∧ redeeming.station.counters.length = 4 ∧ (counterAt redeeming (1 : Fin 4)).enabled = true ∧
      (counterAt hall (1 : Fin 4)).enabled = false ∧ (receiverAt redeeming (1 : Fin 4)).scanned = codeChars :: [] ∧ codeChars = (digitsOf 12 214000370796).map digitChar ∧
      (∀ st ∈ [VoucherState.pending, .active, .redeemed, .voided], lookupCode (entryIn st) 214000370796 = some 412 ∧ (voucherAt (entryIn st) 412).state = some st)) ∧
    (instantSeconds (showAt redeeming 3).finish + 60 * (cfgOf redeeming).voucherGrace ≥ instantSeconds redeeming.showUnit.clock.now ∧
      instantSeconds (showAt redeeming 3).finish + 60 * (cfgOf redeeming).voucherGrace < instantSeconds ⟨2031, 214, 80401⟩) ∧
    ((⟨1002000, 1000000⟩ : Deadline).value ≤ (later 2 hall).showUnit.runTime ∧ (⟨1002000, 1000000⟩ : Deadline).setAt < (later 2 hall).showUnit.runTime) :=
  ⟨⟨by decide +kernel, canonical_of (by decide +kernel), by decide +kernel⟩, by decide +kernel, by decide +kernel, by decide +kernel⟩

/-- Counter 3 enabled, its receiver holding a number of digits. -/
def scanning (n : Nat) (bad discard silence : Bool) : State :=
  let r : Receiver := { Receiver.initial with
    chars := List.replicate n 0x31, bad := bad, discard := discard, silence := silence
    gapDue := if n = 0 ∧ discard = false then none else some ⟨1000100, 999999⟩ }
  { hall with
    voucherUnit := { hall.voucherUnit with receivers := hall.voucherUnit.receivers.set 3 r }
    station := { hall.station with counters := updAt hall.station.counters 3 (fun c => { c with enabled := true }) } }

theorem witness_CounterCodesAreGathered :
    (hall.voucherUnit.receivers.length = 4 ∧ hall.station.counters.length = 4 ∧ Canonical (scanning 15 false false false) ∧
      (scanning 15 false false false).config ≠ none ∧ (counterAt (scanning 15 false false false) (3 : Fin 4)).enabled = true ∧
      State.reset.config = none ∧ (counterAt hall (3 : Fin 4)).enabled = false ∧
      (config.counters[(3 : Fin 4).val]?).map (fun e => e.1.parity) = some 0 ∧
      (({ config with counters := List.replicate 4 (⟨0, 2, 1⟩, true) } : Configuration).counters[(3 : Fin 4).val]?).map (fun e => e.1.parity) = some 2) ∧
    ((receiverAt (scanning 15 false false false) (3 : Fin 4)).chars.length < 16 ∧ 16 ≤ (receiverAt (scanning 16 false false false) (3 : Fin 4)).chars.length ∧
      (receiverAt (scanning 16 false true false) (3 : Fin 4)).discard = true ∧ (receiverAt (scanning 0 false true true) (3 : Fin 4)).silence = true ∧
      (receiverAt (scanning 0 false false false) (3 : Fin 4)).chars = [] ∧ (receiverAt (scanning 12 true false false) (3 : Fin 4)).bad = true ∧
      dueNow 1000000 (receiverAt (scanning 12 true false false) (3 : Fin 4)).gapDue = false) ∧
    ((receiverAt (scanning 1 false false false) (3 : Fin 4)).gapDue = some ⟨1000100, 999999⟩ ∧ 1000100 ≤ (later 1 hall).showUnit.runTime ∧
      999999 < (later 1 hall).showUnit.runTime) :=
  ⟨⟨by decide +kernel, by decide +kernel, canonical_of (by decide +kernel), by decide +kernel⟩, by decide +kernel, by decide +kernel⟩

/-- Sale 5,031 of show 3 in place 40, its refund between its steps. -/
def refunding (freed : Option Nat) (v : Option VoucherAnswer) : State :=
  { redeeming with
    seats := [(104, ⟨.sold, 0, some 5031⟩), (105, ⟨.sold, 0, some 5031⟩)]
    salesUnit := { SalesUnit.initial with
      sales := [(40, { Sale.empty with serial := 5031, sh := 3, seatCount := 2, gross := 2924 })]
      refunds := [⟨5, 5031, freed, v⟩] } }

/-- That sale not in refund. -/
def refundable : State := { refunding none none with salesUnit := { (refunding none none).salesUnit with refunds := [] } }

/-- A ticket of a sale, a reprint of its second seat, a slip and a receipt, whose sale is found (R118). -/
theorem witness_RenderingFields :
    (let s : State := { refundable with basketUnit := planned.basketUnit }
     ((findSale s 5031).map Sale.sh = some 3 ∧ (basketAt s 23).seats[1]? = some 5 ∧ seatPlace (showAt s 3).rowLengths 5 = some (0, 6, 10)) ∧
      ((List.range (showAt s 3).seatCount).filter (fun j => (seatAt s ((showAt s 3).seatBase + j)).state == .sold &&
        (seatAt s ((showAt s 3).seatBase + j)).owner == some 5031))[1]? = some 5 ∧ (vouchersOf s 5031)[1]? = some 413) ∧
    (1 ≤ 12 ∧ 1 ≤ 31 ∧ 31 ≤ 31 ∧ 365 = ([31, 28, 31, 30, 31, 30, 31, 31, 30, 31, 30] : List Nat).sum + 31) := by decide +kernel

theorem witness_RefundFreesVoidsAndPaysBack :
    (Handed .refund (ask .refund (leBytes 3 5031)) (asked .refund (leBytes 3 5031) refundable) ∧ Canonical refundable ∧
      (∀ f ∈ refundable.salesUnit.refunds, f.serial ≠ 5031) ∧ refundable.showUnit.clock.isSet = true ∧ saleplace refundable 5031 = some 40 ∧
      (saleAt refundable 40).refunded = false ∧ instantBefore refundable.showUnit.clock.now (showAt refundable 3).start = true ∧
      saleInFlight refundable 5031 = false) ∧
    ((∃ f ∈ (refunding none none).salesUnit.refunds, f.serial = 5031) ∧ State.reset.showUnit.clock.isSet = false ∧ param3 (ask .refund [0, 0, 0]) 0 = 0 ∧
      saleplace refundable 16777215 = none ∧
      instantBefore refundable.showUnit.clock.now (showAt (withShow 3 { aShow with start := ⟨2031, 214, 65400⟩ } hall) 3).start = false ∧
      saleInFlight (withPrinter 11 { fullPrinter with queue := [⟨.ticket, 0, 5031, 0, false, 0, .queued, .reprint, 0⟩] } refundable) 5031 = true) ∧
    (Canonical (refunding none none) ∧ (refunding none none).showUnit.shows.length = 48 ∧
      (refunding none none).salesUnit.refunds.find? (fun x => x.serial == 5031) = some ⟨5, 5031, none, none⟩ ∧
      saleplace (refunding none none) 5031 = some 40 ∧ (saleAt (refunding none none) 40).sh < 48 ∧ (showAt (refunding none none) 3).seatBase ≤ 104 ∧
      (seatAt (refunding none none) 104).owner = some 5031) ∧
    ((refunding (some 2) (some ⟨1, 1, 650⟩)).salesUnit.refunds.find? (fun x => x.serial == 5031) = some ⟨5, 5031, some 2, some ⟨1, 1, 650⟩⟩ ∧
      NoneWaits (.sale 5031) (refunding (some 2) (some ⟨1, 1, 650⟩)) ∧ ∀ k, NoneWaits (.printer k) (refunding (some 2) (some ⟨1, 1, 650⟩))) := by
  refine ⟨⟨by decide +kernel, canonical_of (by decide +kernel), by decide +kernel⟩, by decide +kernel,
    ⟨canonical_of (by decide +kernel), by decide +kernel⟩, by decide +kernel, by decide +kernel, fun k e he => absurd he ?_⟩
  show e ∉ []
  exact List.not_mem_nil

/-- Kiosk 11's last sense line. -/
def sensing (x : Sense) : State := withSenses 11 [.atLevel false, .atLevel false, .atLevel false, x] hall

theorem witness_SenseLinesAreFilteredAndAccepted :
    ((sensing (.atLevel false)).station.kiosks.length = 12 ∧ (kioskAt (sensing (.atLevel false)) (11 : Fin 12)).senses.length = 4 ∧
      (true : Bool) ≠ (senseAt (sensing (.atLevel false)) (11 : Fin 12) (3 : Fin 4)).present ∧
      (true : Bool) ≠ (senseAt (sensing (.atLevel false)) (11 : Fin 12) (3 : Fin 4)).accepted ∧
      (senseAt (sensing (.atLevel false)) (11 : Fin 12) (3 : Fin 4)).width ≠ .off ∧
      (senseAt (sensing ⟨false, false, .off, .both, none⟩) (11 : Fin 12) (3 : Fin 4)).width = .off ∧
      (false : Bool) = (senseAt (sensing ⟨true, false, .ms32, .both, some ⟨1000020, 999988⟩⟩) (11 : Fin 12) (3 : Fin 4)).accepted) ∧
    ((senseAt (sensing ⟨true, false, .ms2, .both, some ⟨1000000, 999998⟩⟩) (11 : Fin 12) (3 : Fin 4)).deadline = some ⟨1000000, 999998⟩ ∧
      1000000 ≤ hall.showUnit.runTime ∧ 999998 < hall.showUnit.runTime) ∧
    (Handed .setSense (ask .setSense [11, 3, 3, 3]) (asked .setSense [11, 3, 3, 3] (sensing (.atLevel false))) ∧
      (param1 (ask .setSense [11, 3, 3, 3]) 2, FilterWidth.ms32) ∈ [(0, FilterWidth.off), (1, .ms2), (2, .ms8), (3, .ms32)] ∧
      (param1 (ask .setSense [11, 3, 3, 3]) 3, EdgeSelect.both) ∈ [(0, EdgeSelect.none), (1, .rising), (2, .falling), (3, .both)] ∧
      12 ≤ param1 (ask .setSense [12, 0, 0, 0]) 0 ∧ 4 ≤ param1 (ask .setSense [0, 4, 0, 0]) 1 ∧ 4 ≤ param1 (ask .setSense [0, 0, 4, 0]) 2 ∧
      4 ≤ param1 (ask .setSense [0, 0, 0, 4]) 3) := by decide +kernel

/-- Kiosk 11's green lamp with a follow line and an override. -/
def lamped (follow : Option Nat) (o : Option (LampFunction × Option Deadline)) : State :=
  updLamp (.kiosk 11 .green) (fun l => { l with follow := follow, override := o }) hall

/-- R164, R168: after reset a kiosk is STALLED: green OFF is dark, red PATTERN 2 shows step 0 of 101010100000, lit. -/
theorem test_lamps_at_reset :
    ∀ k : Fin 12, lampLit State.reset (.kiosk k .green) = false ∧ lampLit State.reset (.kiosk k .red) = true := by decide +kernel

/-- A lamp on each kind of function: a generator that exists, and a line followed. -/
theorem witness_LampLevels :
    (lampAt State.reset (.kiosk 11 .green)).function = .off ∧ (lampAt State.reset (.kiosk 11 .red)).function = .pattern 2 ∧
    (∃ g, State.reset.station.generators[2]? = some g) ∧
    (refreshLamp none (lampAt (lamped (some 3) none) (.kiosk 11 .green))).function = .follow 3 ∧
    (refreshLamp none (lampAt (lamped none (some (.on, none))) (.kiosk 11 .green))).function = .on :=
  ⟨by decide +kernel, by decide +kernel, ⟨_, rfl⟩, by decide +kernel, by decide +kernel⟩

theorem witness_LampsTakeTheirFunctionsInForce :
    ((lampAt (lamped (some 3) none) (.kiosk 11 .green)).follow = some 3 ∧ (lampAt (lamped none (some (.on, none))) (.kiosk 11 .green)).override = some (.on, none)) ∧
    (hall.station.kiosks.length = 12 ∧ hall.station.counters.length = 4 ∧ hall.station.kioskBindings.length = 9 ∧
      hall.station.counterBindings.length = 8 ∧ hall.station.generators.length = 8) ∧
    (Handed .setBinding (ask .setBinding [0, 8, 1, 0x17]) (asked .setBinding [0, 8, 1, 0x17] hall) ∧ colourOf (param1 (ask .setBinding [0, 8, 1, 0x17]) 2) = some .red ∧
      functionOf (param1 (ask .setBinding [0, 8, 1, 0x17]) 3) = some (.pattern 7) ∧ param1 (ask .setBinding [0, 8, 1, 0x17]) 1 < 9 ∧
      param1 (ask .setBinding [1, 7, 0, 0x10]) 1 < 8 ∧ functionOf 0x10 = some (.pattern 0) ∧
      param1 (ask .setBinding [2, 11, 0, 3]) 1 = (11 : Fin 12).val ∧ param1 (ask .setBinding [2, 11, 0, 3]) 3 < 4 ∧ param1 (ask .setBinding [2, 11, 0, 255]) 3 = 255 ∧
      functionOf 0x18 = none ∧ functionOf 2 = none ∧ functionOf 0x0F = none ∧ colourOf 2 = none ∧ 3 ≤ param1 (ask .setBinding [3]) 0) ∧
    (Handed .setLamp (ask .setLamp [0x13, 1, 0x30]) (asked .setLamp [0x13, 1, 0x30] hall) ∧
      (colourOf (param1 (ask .setLamp [0x13, 1, 0x30]) 1)).bind (stationLamp (param1 (ask .setLamp [0x13, 1, 0x30]) 0)) = some (.counter 3 .red) ∧
      functionOf (param1 (ask .setLamp [11, 0, 1, 60]) 2) = some .on ∧ param1 (ask .setLamp [11, 0, 1, 60]) 3 ≤ 60 ∧ 60 < param1 (ask .setLamp [11, 0, 1, 61]) 3 ∧
      (colourOf 0).bind (stationLamp 12) = none ∧ (colourOf 0).bind (stationLamp 0x14) = none) ∧
    ((lampAt (lamped none (some (.on, some ⟨1000000, 999000⟩))) (.kiosk 11 .green)).override = some (.on, some ⟨1000000, 999000⟩) ∧
      1000000 ≤ hall.showUnit.runTime ∧ 999000 < hall.showUnit.runTime) ∧
    (Handed .setPattern (ask .setPattern [7, 0xFF, 0x0F, 12, 0x90, 0x01]) (asked .setPattern [7, 0xFF, 0x0F, 12, 0x90, 0x01] hall) ∧
      param1 (ask .setPattern [7, 0xFF, 0x0F, 12, 0x90, 0x01]) 0 < 8 ∧ param1 (ask .setPattern [7, 0xFF, 0x0F, 12, 0x90, 0x01]) 3 ∈ [8, 9, 10, 12] ∧
      param2 (ask .setPattern [7, 0xFF, 0x0F, 12, 0x90, 0x01]) 4 ∈ [50, 100, 200, 400] ∧ ¬ (11 : Nat) ∈ [8, 9, 10, 12]) ∧
    (∃ g, hall.station.generators[(7 : Fin 8).val]? = some g ∧ g.stepDue.value ≤ hall.showUnit.runTime ∧ g.stepDue.setAt < hall.showUnit.runTime) := by
  refine ⟨by decide +kernel, by decide +kernel, by decide +kernel, by decide +kernel, by decide +kernel, by decide +kernel, _, rfl, by decide +kernel,
    by decide +kernel⟩

/-- A RESET_STATION of kiosk 11 between its shares. -/
def resetting (printerDone : Bool) : State :=
  let s := withPrinter 11 (printing .stalled .incomplete) hall
  { s with station := { s.station with resets := [⟨5, 11, printerDone⟩] } }

/-- The print share due at a queue whose sale check is open. -/
def resettingChecked : State :=
  let s := reprinting .all none
  { s with station := { s.station with resets := [⟨5, 11, false⟩] } }

theorem witness_StationResetIsMadeInThreeShares :
    (Handed .resetStation (ask .resetStation [11]) (asked .resetStation [11] hall) ∧ hall.lines.length = 12 ∧
      (¬ ∃ c ∈ hall.basketUnit.baskets, c.kiosk = 11 ∧ (c.state = .paying ∨ c.state = .unresolved)) ∧ (lineAt hall 11).reversing = none ∧
      12 ≤ param1 (ask .resetStation [12]) 0 ∧ (∃ c ∈ (paying .authorizing).basketUnit.baskets, c.kiosk = 5 ∧ c.state = .paying) ∧
      (lineAt reversing 4).reversing = some (5, 4)) ∧
    ((resetting false).print.printers.length = 12 ∧ (resetting false).station.kiosks.length = 12 ∧
      (resetting false).station.resets.find? (fun y => y.kiosk == (11 : Fin 12).val && !y.printerDone) = some ⟨5, 11, false⟩ ∧
      (printerAt (resetting false) (11 : Fin 12)).check = none ∧
      (resetting true).station.resets.find? (fun y => y.kiosk == (11 : Fin 12).val && y.printerDone) = some ⟨5, 11, true⟩) ∧
    ((∃ y rest, (printing .stalled .incomplete).queue = y :: rest ∧ y.state ≠ .queued) ∧ (printerAt hall 11).queue = []) ∧
    (resettingChecked.print.printers.length = 12 ∧ resettingChecked.station.kiosks.length = 12 ∧
      resettingChecked.station.resets.find? (fun y => y.kiosk == (11 : Fin 12).val && !y.printerDone) = some ⟨5, 11, false⟩ ∧
      (printerAt resettingChecked (11 : Fin 12)).check ≠ none) := by
  refine ⟨by decide +kernel, by decide +kernel, ⟨⟨_, _, rfl, by decide⟩, by decide +kernel⟩, by decide +kernel⟩

/-- R113, R124: that print share waits for the sale check. -/
theorem test_print_share_waits_for_the_sale_check :
    after (fun t => (t.waiting, (printerAt t 11).state, t.wire.length == resettingChecked.wire.length)) (exec (.printerReset 11) resettingChecked)
      = some ([(.printer 11, .printerReset 11)], .ready, true) := by decide +kernel

end Sys2Proof.Tests
end

section
/-! The seat map (Chapter 2): where a seat index stands and what stands beside it (R24, R26), the seat left alone that the gap
check finds (R31), and BLOCK_SEATS and UNBLOCK_SEATS (R40, R41). -/

namespace Sys2Proof.Machine

/-! ### Places and neighbours (R24, R26) -/

/-- Seat index `i` stands at position `p` of row `k`, whose length is `len`: it lies in the run of indices that begins after the
seats of the rows in front. -/
def StandsAt (lengths : List Nat) (i k p len : Nat) : Prop :=
  lengths[k]? = some len ∧ (lengths.take k).sum ≤ i ∧ i < (lengths.take k).sum + len ∧ p = i - (lengths.take k).sum + 1

theorem standsAt_frontRow {l i p len : Nat} {rest : List Nat} :
    StandsAt (l :: rest) i 0 p len ↔ i < l ∧ p = i + 1 ∧ len = l := by
  simp only [StandsAt, List.getElem?_cons_zero, List.take_zero, List.sum_nil, Option.some.injEq]
  omega

theorem standsAt_rowBehind {l i k p len : Nat} {rest : List Nat} :
    StandsAt (l :: rest) i (k + 1) p len ↔ l ≤ i ∧ StandsAt rest (i - l) k p len := by
  simp only [StandsAt, List.getElem?_cons_succ, List.take_succ_cons, List.sum_cons]
  constructor
  · rintro ⟨row, lower, upper, place⟩
    exact ⟨by omega, row, by omega, by omega, by omega⟩
  · rintro ⟨behind, row, lower, upper, place⟩
    exact ⟨row, by omega, by omega, by omega⟩

/-- `placeOf` counts the rows from the number it is given. -/
theorem placeOf_eq_some_iff (lengths : List Nat) (first i k p len : Nat) :
    placeOf first lengths i = some (k, p, len) ↔ ∃ m, k = first + m ∧ StandsAt lengths i m p len := by
  induction lengths generalizing first i with
  | nil => simp [placeOf, StandsAt]
  | cons l rest ih =>
    by_cases inFront : i < l
    · rw [placeOf, if_pos inFront]
      constructor
      · rintro ⟨⟩
        exact ⟨0, rfl, standsAt_frontRow.mpr ⟨inFront, rfl, rfl⟩⟩
      · rintro ⟨_ | m, rfl, stands⟩
        · obtain ⟨-, rfl, rfl⟩ := standsAt_frontRow.mp stands
          rfl
        · have := (standsAt_rowBehind.mp stands).1
          omega
    · rw [placeOf, if_neg inFront, ih]
      constructor
      · rintro ⟨m, rfl, stands⟩
        exact ⟨m + 1, by omega, standsAt_rowBehind.mpr ⟨by omega, stands⟩⟩
      · rintro ⟨_ | m, rfl, stands⟩
        · exact absurd (standsAt_frontRow.mp stands).1 inFront
        · exact ⟨m, by omega, (standsAt_rowBehind.mp stands).2⟩

theorem placeOf_eq_none_iff (lengths : List Nat) (first i : Nat) : placeOf first lengths i = none ↔ lengths.sum ≤ i := by
  induction lengths generalizing first i with
  | nil => simp [placeOf]
  | cons l rest ih =>
    by_cases inFront : i < l
    · rw [placeOf, if_pos inFront, List.sum_cons]
      simp only [reduceCtorEq, false_iff]
      omega
    · rw [placeOf, if_neg inFront, ih, List.sum_cons]
      omega

theorem seatPlace_eq_some_iff {lengths : List Nat} {i k p len : Nat} :
    seatPlace lengths i = some (k, p, len) ↔ StandsAt lengths i k p len := by
  simp [seatPlace, placeOf_eq_some_iff]

theorem seatPlace_eq_none_iff {lengths : List Nat} {i : Nat} : seatPlace lengths i = none ↔ lengths.sum ≤ i :=
  placeOf_eq_none_iff lengths 0 i

section
variable {lengths : List Nat} {i j k p len : Nat}

theorem leftNeighbour_of_place (place : seatPlace lengths i = some (k, p, len)) :
    leftNeighbour lengths i = if 1 < p then some (i - 1) else none := by
  simp [leftNeighbour, place]

theorem rightNeighbour_of_place (place : seatPlace lengths i = some (k, p, len)) :
    rightNeighbour lengths i = if p < len then some (i + 1) else none := by
  simp [rightNeighbour, place]

theorem seatPlace_leftNeighbour (place : seatPlace lengths i = some (k, p, len)) (left : leftNeighbour lengths i = some j) :
    seatPlace lengths j = some (k, p - 1, len) := by
  rw [leftNeighbour_of_place place, Option.ite_none_right_eq_some, Option.some.injEq] at left
  obtain ⟨notFirst, rfl⟩ := left
  obtain ⟨row, lower, upper, rfl⟩ := seatPlace_eq_some_iff.mp place
  exact seatPlace_eq_some_iff.mpr ⟨row, by omega, by omega, by omega⟩

theorem seatPlace_rightNeighbour (place : seatPlace lengths i = some (k, p, len)) (right : rightNeighbour lengths i = some j) :
    seatPlace lengths j = some (k, p + 1, len) := by
  rw [rightNeighbour_of_place place, Option.ite_none_right_eq_some, Option.some.injEq] at right
  obtain ⟨notLast, rfl⟩ := right
  obtain ⟨row, lower, upper, rfl⟩ := seatPlace_eq_some_iff.mp place
  exact seatPlace_eq_some_iff.mpr ⟨row, by omega, by omega, by omega⟩

end

/-- Settles O29: the places are `StandsAt`, by induction on the rows; a neighbour's place is read off the seat's own. -/
theorem neighboursStandBesideASeatInItsRow : Obligations.NeighboursStandBesideASeatInItsRow := by
  refine ⟨fun _ _ => ⟨fun _ _ _ => seatPlace_eq_some_iff, seatPlace_eq_none_iff⟩, ?_⟩
  intro lengths i k p len place
  have left := leftNeighbour_of_place place
  have right := rightNeighbour_of_place place
  refine ⟨fun notFirst => ?_, fun first => ?_, fun notLast => ?_, fun last => ?_, fun j k' p' len' other apart => ⟨?_, ?_⟩⟩
  · rw [if_pos notFirst] at left
    exact ⟨i - 1, left, seatPlace_leftNeighbour place left⟩
  · rw [left, if_neg (by omega)]
  · rw [if_pos notLast] at right
    exact ⟨i + 1, right, seatPlace_rightNeighbour place right⟩
  · rw [right, if_neg (by omega)]
  · intro beside
    rw [seatPlace_leftNeighbour place beside] at other
    cases other
    exact apart rfl
  · intro beside
    rw [seatPlace_rightNeighbour place beside] at other
    cases other
    exact apart rfl

/-! ### The seat left alone (R31) -/

/-- R31: seat `c` would be left FREE alone by a hold of the listed seats. -/
def LeftAlone (s : State) (sh : Nat) (list : List Nat) (c : Nat) : Prop :=
  (seatOf s sh c).state = .free ∧ c ∉ list ∧
    ∃ l r, leftNeighbour (showAt s sh).rowLengths c = some l ∧ rightNeighbour (showAt s sh).rowLengths c = some r ∧
      (l ∈ list ∨ (seatOf s sh l).state ≠ .free) ∧ (r ∈ list ∨ (seatOf s sh r).state ≠ .free)

theorem isGap_iff_leftAlone {s : State} {sh : Nat} {list : List Nat} {c : Nat} :
    isGap s sh list c = true ↔ LeftAlone s sh list c := by
  cases left : leftNeighbour (showAt s sh).rowLengths c with
  | none => simp [isGap, LeftAlone, left]
  | some l =>
    cases right : rightNeighbour (showAt s sh).rowLengths c with
    | none => simp [isGap, LeftAlone, left, right]
    | some r => simp [isGap, LeftAlone, left, right, and_assoc]

/-- The neighbours of a seat in the order the gap check looks at them: the left one, then the right one. -/
def neighbours (lengths : List Nat) (i : Nat) : List Nat :=
  (leftNeighbour lengths i).toList ++ (rightNeighbour lengths i).toList

theorem mem_neighbours {lengths : List Nat} {i n : Nat} :
    n ∈ neighbours lengths i ↔ leftNeighbour lengths i = some n ∨ rightNeighbour lengths i = some n := by
  simp [neighbours]

/-- A search of a seat's neighbours takes the right one only when it passes over the left one. -/
theorem find?_neighbours {lengths : List Nat} {i c : Nat} {p : Nat → Bool} (found : (neighbours lengths i).find? p = some c) :
    leftNeighbour lengths i = some c ∨
      rightNeighbour lengths i = some c ∧ ∀ n, leftNeighbour lengths i = some n → ¬ p n = true := by
  rw [neighbours, List.find?_append, Option.or_eq_some_iff] at found
  rcases found with inLeft | ⟨noLeft, inRight⟩
  · exact .inl (by simpa using List.mem_of_find?_eq_some inLeft)
  · refine .inr ⟨by simpa using List.mem_of_find?_eq_some inRight, fun n left => ?_⟩
    exact List.find?_eq_none.mp noLeft n (by simp [left])

theorem firstGap_eq_findSome? (s : State) (sh : Nat) (list : List Nat) :
    firstGap s sh list = list.findSome? (fun i => (neighbours (showAt s sh).rowLengths i).find? (isGap s sh list)) :=
  List.find?_flatMap

theorem no_gap_beside_iff {s : State} {sh : Nat} {list : List Nat} {i : Nat} :
    (neighbours (showAt s sh).rowLengths i).find? (isGap s sh list) = none ↔
      ∀ n, (leftNeighbour (showAt s sh).rowLengths i = some n ∨ rightNeighbour (showAt s sh).rowLengths i = some n) →
        ¬ LeftAlone s sh list n := by
  simp only [List.find?_eq_none, mem_neighbours, isGap_iff_leftAlone]

/-- Settles O30: the gap check searches the listed seats in order, and each one's neighbours left before right. -/
theorem gapCheckFindsASeatLeftAlone : Obligations.GapCheckFindsASeatLeftAlone := by
  intro s sh list lengths alone
  rw [firstGap_eq_findSome?]
  refine ⟨fun c found => ?_, ?_⟩
  · obtain ⟨before, i, after, rfl, here, passed⟩ := List.findSome?_eq_some_iff.mp found
    refine ⟨isGap_iff_leftAlone.mp (List.find?_some here), before, i, after, rfl, ?_, ?_⟩
    · exact fun j hj => no_gap_beside_iff.mp (passed j hj)
    · refine (find?_neighbours here).imp_right (And.imp_right fun skipped n left gap => ?_)
      exact skipped n left (isGap_iff_leftAlone.mpr gap)
  · exact List.findSome?_eq_none_iff.trans (forall₂_congr fun _ _ => no_gap_beside_iff)

/-! ### BLOCK_SEATS and UNBLOCK_SEATS (R40, R41) -/

/-! The list of a request. -/

@[simp] theorem numbersOf_length (n : Nat) (b : List Byte) : (numbersOf n b).length = n := by
  induction n generalizing b with
  | zero => rfl
  | succ n ih => simp [numbersOf, ih]

theorem paramSeats_length {r : Request} {off : Nat} {list : List Nat} (h : paramSeats r off = some list) :
    list.length = param1 r off := by
  simp only [paramSeats, Option.ite_none_right_eq_some, Option.some.injEq] at h
  obtain ⟨-, rfl⟩ := h
  exact numbersOf_length _ _

theorem paramSeats_eq_some_of_fits {r : Request} (h : param1 r 1 ≤ 40) : ∃ list, paramSeats r 1 = some list :=
  ⟨_, if_pos (by omega)⟩

/-! `firstFailing`: the entry it finds is the first that fails, and every one before it passes. -/

theorem firstFailing_append {fails : List Nat → Nat → Bool} {before passed rest : List Nat}
    (pass : ∀ front x back, passed = front ++ x :: back → fails (before ++ front) x = false) :
    firstFailing fails before (passed ++ rest) = firstFailing fails (before ++ passed) rest := by
  induction passed generalizing before with
  | nil => simp
  | cons x passed ih =>
    have headPasses : fails before x = false := by simpa using pass [] x passed rfl
    rw [List.cons_append, firstFailing, if_neg (by simp [headPasses]), ih, List.append_assoc]
    · rfl
    · rintro front y back rfl
      simpa using pass (x :: front) y back rfl

/-- Check (4): an entry past the show's seats, or one that stands before it in the list. -/
def badEntry (count : Nat) (before : List Nat) (x : Nat) : Bool := decide (count ≤ x) || before.contains x

theorem badEntry_eq_false {count : Nat} {before : List Nat} {x : Nat} : badEntry count before x = false ↔ x < count ∧ x ∉ before := by
  simp [badEntry]

theorem firstFailing_badEntry_append {count : Nat} {passed : List Nat} (rest : List Nat) (once : passed.Nodup)
    (inside : ∀ i ∈ passed, i < count) :
    firstFailing (badEntry count) [] (passed ++ rest) = firstFailing (badEntry count) passed rest := by
  refine firstFailing_append fun front x back e => badEntry_eq_false.mpr ⟨inside x (by simp [e]), ?_⟩
  subst e
  exact fun inFront => (List.nodup_append.mp once).2.2 x inFront x (by simp) rfl

/-! The checks both requests share: one lemma a refusal, and the list that passes. -/

section
variable {s : State} {sh : Nat} {list : List Nat}

theorem blockRefusal_badLength {l : Option (List Nat)} (h : ∀ x, l = some x → 48 ≤ sh ∨ x.length = 0 ∨ 40 < x.length) :
    blockRefusal s sh l = some (.badParameter, none) := by
  cases l with
  | none => rfl
  | some x => exact if_pos (by have := h x rfl; omega)

section
variable (bound : sh < 48) (low : 1 ≤ list.length) (high : list.length ≤ 40)
include bound low high

theorem blockRefusal_inRange :
    blockRefusal s sh (some list) =
      if (showAt s sh).state = .empty then some (.noShow, none)
      else if (showAt s sh).state = .ended then some (.wrongState, none)
      else (firstFailing (badEntry (showAt s sh).seatCount) [] list).map (fun x => (.badParameter, some x)) :=
  if_neg (by omega)

theorem blockRefusal_badEntry {before after : List Nat} {i : Nat} (shown : (showAt s sh).state ≠ .empty)
    (going : (showAt s sh).state ≠ .ended) (split : list = before ++ i :: after) (once : before.Nodup)
    (inside : ∀ j ∈ before, j < (showAt s sh).seatCount) (bad : (showAt s sh).seatCount ≤ i ∨ i ∈ before) :
    blockRefusal s sh (some list) = some (.badParameter, some i) := by
  have stops : badEntry (showAt s sh).seatCount before i = true := by simpa [badEntry] using bad
  rw [blockRefusal_inRange bound low high, if_neg shown, if_neg going, split, firstFailing_badEntry_append _ once inside,
    firstFailing, if_pos stops]
  rfl

theorem blockRefusal_pass (shown : (showAt s sh).state ≠ .empty) (going : (showAt s sh).state ≠ .ended) (once : list.Nodup)
    (inside : ∀ i ∈ list, i < (showAt s sh).seatCount) : blockRefusal s sh (some list) = none := by
  have clean := firstFailing_badEntry_append [] once inside
  rw [List.append_nil] at clean
  rw [blockRefusal_inRange bound low high, if_neg shown, if_neg going, clean]
  rfl

end
end

/-! The two requests, after their common checks: both take the listed seats from one state to another, and name the first seat
that is not in the state they take seats from. -/

theorem exec_blockSeats {r : Request} {s : State} (h : Handed .blockSeats r s) :
    exec .blockSeats s = .next (blockSeatsOp r (taken r s)) := by
  show Host.Outcome.next (withRequest .blockSeats (fun r => blockSeatsOp r) s) = _
  rw [withRequest_handed h]

theorem exec_unblockSeats {r : Request} {s : State} (h : Handed .unblockSeats r s) :
    exec .unblockSeats s = .next (unblockSeatsOp r (taken r s)) := by
  show Host.Outcome.next (withRequest .unblockSeats (fun r => unblockSeatsOp r) s) = _
  rw [withRequest_handed h]

/-! The refusals by the common checks are the same of both requests. -/

section
variable {r : Request} {s : State} {c : Instr}
  (asked : Handed .blockSeats r s ∧ c = .blockSeats ∨ Handed .unblockSeats r s ∧ c = .unblockSeats)
include asked

theorem exec_blockOrUnblock_of_refusal {code : ResultCode} {seat : Option Nat}
    (refusal : blockRefusal s (param1 r 0) (paramSeats r 1) = some (code, seat)) :
    exec c s = .next (completeSlot r.slot code (namedSeat seat) (taken r s)) := by
  have refusal' : blockRefusal (taken r s) (param1 r 0) (paramSeats r 1) = some (code, seat) := refusal
  rcases asked with ⟨handed, rfl⟩ | ⟨handed, rfl⟩
  · rw [exec_blockSeats handed, blockSeatsOp]
    simp only [refusal']
  · rw [exec_unblockSeats handed, unblockSeatsOp]
    simp only [refusal']

theorem exec_blockOrUnblock_badLength (bad : 48 ≤ param1 r 0 ∨ param1 r 1 = 0 ∨ 40 < param1 r 1) :
    exec c s = .next (completeSlot r.slot .badParameter [] (taken r s)) := by
  refine exec_blockOrUnblock_of_refusal asked (seat := none) (blockRefusal_badLength fun list listed => ?_)
  rwa [paramSeats_length listed]

variable (bound : param1 r 0 < 48) (low : 1 ≤ param1 r 1) (high : param1 r 1 ≤ 40)
include bound low high

theorem exec_blockOrUnblock_noShow (empty : (showAt s (param1 r 0)).state = .empty) :
    exec c s = .next (completeSlot r.slot .noShow [] (taken r s)) := by
  obtain ⟨list, listed⟩ := paramSeats_eq_some_of_fits high
  have length := paramSeats_length listed
  refine exec_blockOrUnblock_of_refusal asked (seat := none) ?_
  rw [listed, blockRefusal_inRange bound (length ▸ low) (length ▸ high), if_pos empty]

theorem exec_blockOrUnblock_ended (ended : (showAt s (param1 r 0)).state = .ended) :
    exec c s = .next (completeSlot r.slot .wrongState [] (taken r s)) := by
  obtain ⟨list, listed⟩ := paramSeats_eq_some_of_fits high
  have length := paramSeats_length listed
  have shown : (showAt s (param1 r 0)).state ≠ .empty := by rw [ended]; decide
  refine exec_blockOrUnblock_of_refusal asked (seat := none) ?_
  rw [listed, blockRefusal_inRange bound (length ▸ low) (length ▸ high), if_neg shown, if_pos ended]

theorem exec_blockOrUnblock_badEntry {before after : List Nat} {i : Nat} (shown : (showAt s (param1 r 0)).state ≠ .empty)
    (going : (showAt s (param1 r 0)).state ≠ .ended) (listed : paramSeats r 1 = some (before ++ i :: after))
    (once : before.Nodup) (inside : ∀ j ∈ before, j < (showAt s (param1 r 0)).seatCount)
    (bad : (showAt s (param1 r 0)).seatCount ≤ i ∨ i ∈ before) :
    exec c s = .next (completeSlot r.slot .badParameter (leBytes 2 i) (taken r s)) := by
  have length := paramSeats_length listed
  refine exec_blockOrUnblock_of_refusal asked (seat := some i) ?_
  rw [listed]
  exact blockRefusal_badEntry bound (length ▸ low) (length ▸ high) shown going rfl once inside bad

end

/-- What both requests do once their common checks are passed. -/
def moveListed (r : Request) (sh : Nat) (list : List Nat) (source dest : SeatState) (code : SeatState → ResultCode)
    (counts : ShowRec → ShowRec) (s : State) : State :=
  match list.find? (fun x => (seatOf s sh x).state != source) with
  | some x => completeSlot r.slot (code (seatOf s sh x).state) (leBytes 2 x) s
  | none =>
    let t := seatEvent sh list dest none counts s
    completeSlot r.slot .ok (countBytes (showAt t sh)) t

/-- R40: the counts of a block event. -/
def blockCounts (n : Nat) (w : ShowRec) : ShowRec := { w with free := w.free - n, blocked := w.blocked + n }

/-- R41: the counts of an unblock event. -/
def unblockCounts (n : Nat) (w : ShowRec) : ShowRec := { w with blocked := w.blocked - n, free := w.free + n }

/-- R41: the refusal of a listed seat that is not BLOCKED. -/
def notBlockedCode (st : SeatState) : ResultCode := if st = .free then .wrongState else .seatTaken

section
variable {r : Request} {s : State} {list : List Nat} (listed : paramSeats r 1 = some list)
  (pass : blockRefusal s (param1 r 0) (some list) = none)
include listed pass

theorem exec_blockSeats_pass (h : Handed .blockSeats r s) :
    exec .blockSeats s =
      .next (moveListed r (param1 r 0) list .free .blocked notFreeCode (blockCounts list.length) (taken r s)) := by
  have pass' : blockRefusal (taken r s) (param1 r 0) (some list) = none := pass
  rw [exec_blockSeats h, blockSeatsOp]
  simp only [listed, pass']
  rfl

theorem exec_unblockSeats_pass (h : Handed .unblockSeats r s) :
    exec .unblockSeats s =
      .next (moveListed r (param1 r 0) list .blocked .free notBlockedCode (unblockCounts list.length) (taken r s)) := by
  have pass' : blockRefusal (taken r s) (param1 r 0) (some list) = none := pass
  rw [exec_unblockSeats h, unblockSeatsOp]
  simp only [listed, pass']
  rfl

end

section
variable {r : Request} {s : State} {c : Instr} {sh : Nat} {list : List Nat} {source dest : SeatState}
  {code : SeatState → ResultCode} {counts : ShowRec → ShowRec}
  (runs : exec c s = .next (moveListed r sh list source dest code counts (taken r s)))
include runs

theorem exec_moveListed_refused {x : Nat} (found : list.find? (fun i => (seatOf s sh i).state != source) = some x) :
    exec c s = .next (completeSlot r.slot (code (seatOf s sh x).state) (leBytes 2 x) (taken r s)) := by
  have found' : list.find? (fun i => (seatOf (taken r s) sh i).state != source) = some x := found
  rw [runs]
  simp only [moveListed, found']
  rfl

/-- The move of the whole list is one seat event: the cells, and the counts of the one show. -/
theorem exec_moveListed_moves (canonical : Canonical s) (bound : sh < s.showUnit.shows.length) (nonempty : list ≠ [])
    (all : ∀ i ∈ list, (seatOf s sh i).state = source) :
    ∃ u, exec c s = .next (completeSlot r.slot .ok (countBytes (counts (showAt s sh))) u) ∧
      CellsMoved sh list dest none s u ∧
      showAt u sh = { counts (showAt s sh) with changes := bump (showAt s sh).changes } ∧
      (∀ n, n ≠ sh → showAt u n = showAt s n) ∧
      u = { taken r s with seats := u.seats, showUnit := { s.showUnit with shows := u.showUnit.shows } } := by
  have none_fails : list.find? (fun i => (seatOf (taken r s) sh i).state != source) = none :=
    List.find?_eq_none.mpr fun i hi => by
      have here : (seatOf (taken r s) sh i).state = source := all i hi
      simp [here]
  obtain ⟨cells, record, others, frame⟩ := seatEvent_spec sh list dest none counts (taken r s) canonical.seats bound
  rw [if_neg nonempty] at record
  refine ⟨seatEvent sh list dest none counts (taken r s), ?_, cells, record, others, frame⟩
  rw [runs]
  simp only [moveListed, none_fails, record]
  rfl

end

/-- Settles O31: the common checks refuse alike, and past them each request is one `moveListed`. -/
theorem blockAndUnblockMoveTheListedSeats : Obligations.BlockAndUnblockMoveTheListedSeats := by
  refine ⟨fun s r c asked => ⟨exec_blockOrUnblock_badLength asked, fun bound low high => ⟨?_, ?_, ?_⟩⟩, ?_⟩
  · exact exec_blockOrUnblock_noShow asked bound low high
  · exact exec_blockOrUnblock_ended asked bound low high
  · exact fun _ _ _ shown going listed bad once inside =>
      exec_blockOrUnblock_badEntry asked bound low high shown going listed once inside bad
  · intro s r list listed canonical shows sh w bound low high shown going once inside
    have pass : blockRefusal s sh (some list) = none := blockRefusal_pass bound low high shown going once inside
    have inTable : sh < s.showUnit.shows.length := shows ▸ bound
    have nonempty : list ≠ [] := List.ne_nil_of_length_pos low
    refine ⟨fun handed => ?_, fun handed => ?_⟩
    · have runs := exec_blockSeats_pass listed pass handed
      have moves := exec_moveListed_moves runs canonical inTable nonempty
      have refuses := fun x => exec_moveListed_refused runs (x := x)
      exact ⟨moves, refuses⟩
    · have runs := exec_unblockSeats_pass listed pass handed
      have moves := exec_moveListed_moves runs canonical inTable nonempty
      have refuses := fun x => exec_moveListed_refused runs (x := x)
      exact ⟨moves, refuses⟩

end Sys2Proof.Machine
end

section
/-! The pricing engine (Chapter 4): each stage of a quote and its range (R72 to R76), and the quote put together. -/

namespace Sys2Proof.Machine

/-! ### Stage 1: the seat price (R72) -/

theorem seatPrice_nearest (p f : Nat) : 100 * seatPrice p f ≤ p * f + 50 ∧ p * f + 50 < 100 * seatPrice p f + 100 := by
  unfold seatPrice
  omega

theorem seatPrice_mono {p p' f f' : Nat} (price : p ≤ p') (factor : f ≤ f') : seatPrice p f ≤ seatPrice p' f' :=
  Nat.div_le_div_right (Nat.add_le_add_right (Nat.mul_le_mul price factor) 50)

@[simp] theorem seatPrice_zero (f : Nat) : seatPrice 0 f = 0 := by simp [seatPrice]

theorem seatPrice_greatest : seatPrice 60000 250 = 150000 := rfl

theorem seatPrice_le {p f : Nat} (price : p ≤ 60000) (factor : f ≤ 250) : seatPrice p f ≤ 150000 :=
  (seatPrice_mono price factor).trans_eq seatPrice_greatest

theorem tierPrice_congr {l l' : PriceList} (prices : l.prices = l'.prices) (factor : l.factor = l'.factor) :
    tierPrice l = tierPrice l' := by
  funext tier
  rw [tierPrice, tierPrice, prices, factor]

/-! ### Stages 2 and 3: the subtotals (R73) -/

@[simp] theorem seatSubtotalOf_nil (l : PriceList) : seatSubtotalOf l [] = 0 := by simp [seatSubtotalOf]

theorem seatSubtotalOf_congr {l l' : PriceList} {tiers tiers' : List Nat} (perm : tiers.Perm tiers')
    (prices : l.prices = l'.prices) (factor : l.factor = l'.factor) (fee : l.fee = l'.fee) :
    seatSubtotalOf l tiers = seatSubtotalOf l' tiers' := by
  rw [seatSubtotalOf, seatSubtotalOf, tierPrice_congr prices factor, (perm.map _).sum_eq, perm.length_eq, fee]

theorem seatSubtotalOf_le {l : PriceList} {tiers : List Nat} (prices : ∀ t ∈ tiers, l.prices.getD t 0 ≤ 60000)
    (factor : l.factor ≤ 250) (fee : l.fee ≤ 2000) (seats : tiers.length ≤ 10) : seatSubtotalOf l tiers ≤ 1520000 := by
  have seatPrices : (tiers.map (tierPrice l)).sum ≤ tiers.length * 150000 := by
    simpa using (tiers.map (tierPrice l)).sum_le_card_nsmul 150000
      (List.forall_mem_map.mpr fun t listed => seatPrice_le (prices t listed) factor)
  have fees : tiers.length * l.fee ≤ tiers.length * 2000 := Nat.mul_le_mul_left _ fee
  unfold seatSubtotalOf
  omega

/-- Ten seats with every figure at its bound. -/
theorem seatSubtotalOf_greatest {l : PriceList} {tiers : List Nat} (prices : ∀ t ∈ tiers, l.prices.getD t 0 = 60000)
    (factor : l.factor = 250) (fee : l.fee = 2000) (seats : tiers.length = 10) : seatSubtotalOf l tiers = 1520000 := by
  have seatPrices : (tiers.map (tierPrice l)).sum = tiers.length * 150000 := by
    simpa using (tiers.map (tierPrice l)).sum_eq_card_nsmul 150000
      (List.forall_mem_map.mpr fun t listed => by rw [tierPrice, prices t listed, factor, seatPrice_greatest])
  rw [seatSubtotalOf, seatPrices, seats, fee]

theorem voucherSubtotal_le {prices : List Nat} (range : ∀ p ∈ prices, p ≤ 20000) (vouchers : prices.length ≤ 6) :
    prices.sum ≤ 120000 :=
  calc prices.sum ≤ prices.length * 20000 := by simpa using prices.sum_le_card_nsmul 20000 range
    _ ≤ 6 * 20000 := Nat.mul_le_mul_right _ vouchers

theorem voucherSubtotal_greatest {prices : List Nat} (top : ∀ p ∈ prices, p = 20000) (vouchers : prices.length = 6) :
    prices.sum = 120000 := by
  rw [prices.sum_eq_card_nsmul 20000 top, vouchers]
  rfl

/-! ### Stage 4: the combo discount (R74) -/

theorem discountOf_le_half {c : Configuration} {n m v : Nat} (percent : c.comboPercent ≤ 50) : discountOf c n m v ≤ v / 2 := by
  unfold discountOf
  split
  · have : v * c.comboPercent ≤ v * 50 := Nat.mul_le_mul_left v percent
    omega
  · exact Nat.zero_le _

theorem discountOf_noSeats {c : Configuration} {m v : Nat} (seats : 1 ≤ c.comboSeats) : discountOf c 0 m v = 0 :=
  if_neg fun ⟨counted, _⟩ => Nat.not_lt.mpr counted seats

/-! ### Stage 7: the tax contained in the gross (R76) -/

@[simp] theorem taxOf_rate_zero (gross : Nat) : taxOf gross 0 = 0 := by simp [taxOf]

theorem taxOf_le_gross (gross t : Nat) : taxOf gross t ≤ gross := by
  have portion : gross * t ≤ gross * (1000 + t) := Nat.mul_le_mul_left gross (Nat.le_add_left t 1000)
  refine Nat.le_of_lt_succ (Nat.div_lt_of_lt_mul ?_)
  calc 2 * gross * t + (1000 + t) = 2 * (gross * t) + (1000 + t) := by rw [Nat.mul_assoc]
    _ < 2 * (gross * (1000 + t)) + 2 * (1000 + t) := by omega
    _ = 2 * (1000 + t) * (gross + 1) := by ring

theorem taxOf_greatest : taxOf 1640000 300 = 378462 := rfl

theorem taxOf_le {gross t : Nat} (range : gross ≤ 1640000) (rate : t ≤ 300) : taxOf gross t ≤ 378462 := by
  have top : 2 * gross * t ≤ 2 * 1640000 * t := Nat.mul_le_mul_right t (Nat.mul_le_mul_left 2 range)
  exact Nat.le_of_lt_succ (Nat.div_lt_of_lt_mul (by omega))

/-! ### The quote (R72 to R76) -/

section
variable (c : Configuration) (l : PriceList) (tiers prices : List Nat)

@[simp] theorem quoteOf_seatSubtotal : (quoteOf c l tiers prices).seatSubtotal = seatSubtotalOf l tiers := rfl

@[simp] theorem quoteOf_voucherSubtotal : (quoteOf c l tiers prices).voucherSubtotal = prices.sum := rfl

theorem quoteOf_discount :
    (quoteOf c l tiers prices).discount = discountOf c tiers.length prices.length (quoteOf c l tiers prices).voucherSubtotal := rfl

theorem quoteOf_tax : (quoteOf c l tiers prices).tax = taxOf (quoteOf c l tiers prices).gross c.taxRate := rfl

theorem quoteOf_overCeiling : (quoteOf c l tiers prices).overCeiling = true ↔ c.ceiling < (quoteOf c l tiers prices).gross :=
  decide_eq_true_iff

variable {c}

theorem quoteOf_discount_le_half (percent : c.comboPercent ≤ 50) :
    (quoteOf c l tiers prices).discount ≤ (quoteOf c l tiers prices).voucherSubtotal / 2 :=
  discountOf_le_half percent

/-- R75: no discount is cut off at 0, so the gross and the discount together are the two subtotals. -/
theorem quoteOf_gross_add_discount (percent : c.comboPercent ≤ 50) :
    (quoteOf c l tiers prices).gross + (quoteOf c l tiers prices).discount =
      (quoteOf c l tiers prices).seatSubtotal + (quoteOf c l tiers prices).voucherSubtotal := by
  have half := quoteOf_discount_le_half l tiers prices percent
  exact Nat.sub_add_cancel (half.trans ((Nat.div_le_self _ 2).trans (Nat.le_add_left _ _)))

end

/-- The quote reads the seats through the seat subtotal and their number alone. -/
theorem quoteOf_congr {c : Configuration} {l l' : PriceList} {tiers tiers' : List Nat} (prices : List Nat)
    (subtotal : seatSubtotalOf l tiers = seatSubtotalOf l' tiers') (seats : tiers.length = tiers'.length) :
    quoteOf c l tiers prices = quoteOf c l' tiers' prices := by
  simp only [quoteOf, subtotal, seats]

/-- Settles O35: the rounding is the remainder of the division by 100, and a permutation leaves the sum of the seat prices. -/
theorem seatPriceIsRoundedHalfUp : Obligations.SeatPriceIsRoundedHalfUp := by
  refine ⟨fun p f => ⟨rfl, seatPrice_nearest p f⟩, fun _ _ => seatPrice_le, seatPrice_zero, seatPrice_greatest,
    quoteOf_seatSubtotal, ?_⟩
  intro _ l l' tiers tiers' prices perm samePrices sameFactor sameFee
  exact quoteOf_congr prices (seatSubtotalOf_congr perm samePrices sameFactor sameFee) perm.length_eq

/-- Settles O36: the discount is at most half the voucher subtotal, from which the gross and then the tax have their ranges. -/
theorem quoteAmountsStayInTheirRanges : Obligations.QuoteAmountsStayInTheirRanges := by
  intro c l tiers prices tierRange factor fee seats vouchers kindRange percent comboSeats rate q
  have seatRange : q.seatSubtotal ≤ 1520000 := seatSubtotalOf_le tierRange factor fee seats
  have voucherRange : q.voucherSubtotal ≤ 120000 := voucherSubtotal_le kindRange vouchers
  have half : q.discount ≤ q.voucherSubtotal / 2 := quoteOf_discount_le_half l tiers prices percent
  have total : q.gross + q.discount = q.seatSubtotal + q.voucherSubtotal := quoteOf_gross_add_discount l tiers prices percent
  have grossRange : q.gross ≤ 1640000 := by omega
  have taxLe : q.tax ≤ q.gross := taxOf_le_gross q.gross c.taxRate
  refine ⟨quoteOf_seatSubtotal c l tiers prices, ?noSeats, seatRange, quoteOf_voucherSubtotal c l tiers prices, voucherRange,
    quoteOf_discount c l tiers prices, by omega, half, by omega, ?noDiscount, total, grossRange, by omega,
    quoteOf_overCeiling c l tiers prices, quoteOf_tax c l tiers prices, taxLe, taxOf_le grossRange rate, ?noRate, by omega, ?greatest⟩
  case noSeats =>
    rintro rfl
    exact seatSubtotalOf_nil l
  case noDiscount =>
    rintro rfl
    exact discountOf_noSeats comboSeats
  case noRate =>
    intro zero
    exact (congrArg (taxOf q.gross) zero).trans (taxOf_rate_zero q.gross)
  case greatest =>
    intro tenSeats sixVouchers topTiers topFactor topFee topKinds undiscounted
    have seatTop : q.seatSubtotal = 1520000 := seatSubtotalOf_greatest topTiers topFactor topFee tenSeats
    have voucherTop : q.voucherSubtotal = 120000 := voucherSubtotal_greatest topKinds sixVouchers
    have grossTop : q.gross = 1640000 := by omega
    refine ⟨grossTop, fun topRate => ?_⟩
    calc q.tax = taxOf q.gross c.taxRate := quoteOf_tax c l tiers prices
      _ = 378462 := by rw [grossTop, topRate, taxOf_greatest]

end Sys2Proof.Machine
end

section
/-! Voucher codes (Chapter 7): the digits of a number, the weighted sum behind a code's check (R131), and the single wrong digit that
the check catches (section 7.3.1). -/

namespace Sys2Proof.Machine

/-! ### Decimal digits -/

@[simp] theorem digitsOf_length (n v : Nat) : (digitsOf n v).length = n := by
  induction n generalizing v with
  | zero => rfl
  | succ n ih => simp [digitsOf, ih]

/-- Digit `i` of `n`, from the left. -/
theorem digitsOf_eq_map (n v : Nat) : digitsOf n v = (List.range n).map (fun i => v / 10 ^ (n - 1 - i) % 10) := by
  induction n generalizing v with
  | zero => rfl
  | succ n ih =>
    rw [digitsOf, ih, List.range_succ, List.map_append, List.map_singleton]
    have front : ∀ i ∈ List.range n, v / 10 / 10 ^ (n - 1 - i) % 10 = v / 10 ^ (n + 1 - 1 - i) % 10 := by
      intro i hi
      have := List.mem_range.mp hi
      rw [Nat.div_div_eq_div_mul, ← Nat.pow_succ']
      congr 3
      omega
    rw [List.map_congr_left front]
    simp

theorem digitsOf_getD {n i : Nat} (v : Nat) (inside : i < n) : (digitsOf n v).getD i 0 = v / 10 ^ (n - 1 - i) % 10 := by
  simp [digitsOf_eq_map, inside]

/-- The digits but the last `m` are those of the number without them. -/
theorem digitsOf_div (n m v : Nat) : digitsOf n (v / 10 ^ m) = (List.range n).map (fun i => (digitsOf (n + m) v).getD i 0) := by
  rw [digitsOf_eq_map]
  refine List.map_congr_left fun i hi => ?_
  have inside := List.mem_range.mp hi
  rw [digitsOf_getD v (by omega), Nat.div_div_eq_div_mul, ← Nat.pow_add]
  congr 3
  omega

theorem lt_ten_of_mem_digitsOf {n v d : Nat} (listed : d ∈ digitsOf n v) : d < 10 := by
  induction n generalizing v with
  | zero => simp [digitsOf] at listed
  | succ n ih =>
    rcases List.mem_append.mp listed with front | last
    · exact ih front
    · have : d = v % 10 := List.mem_singleton.mp last
      omega

theorem digitsValue_concat (l : List Nat) (d : Nat) : digitsValue (l ++ [d]) = 10 * digitsValue l + d := by
  simp [digitsValue]

theorem digitsValue_digitsOf (n v : Nat) : digitsValue (digitsOf n v) = v % 10 ^ n := by
  induction n generalizing v with
  | zero => simp [digitsOf, digitsValue, Nat.mod_one]
  | succ n ih => rw [digitsOf, digitsValue_concat, ih, Nat.pow_succ', Nat.mod_mul, Nat.add_comm]

/-- A number is no more than its digits. -/
theorem eq_of_digits_eq {n v w : Nat} (v_lt : v < 10 ^ n) (w_lt : w < 10 ^ n)
    (same : ∀ i < n, (digitsOf n w).getD i 0 = (digitsOf n v).getD i 0) : w = v := by
  have lists : digitsOf n w = digitsOf n v := by
    rw [digitsOf_eq_map, digitsOf_eq_map]
    refine List.map_congr_left fun i hi => ?_
    have inside := List.mem_range.mp hi
    rw [← digitsOf_getD w inside, ← digitsOf_getD v inside, same i inside]
  calc w = digitsValue (digitsOf n w) := by rw [digitsValue_digitsOf, Nat.mod_eq_of_lt w_lt]
    _ = v := by rw [lists, digitsValue_digitsOf, Nat.mod_eq_of_lt v_lt]

/-! ### The check of a code (R131) -/

/-- Digit `n` of the twelve digits of a code, from the left. -/
def codeDigit (code n : Nat) : Nat := (digitsOf 12 code).getD n 0

theorem codeDigit_eq {code n : Nat} (inside : n < 12) : codeDigit code n = code / 10 ^ (11 - n) % 10 := digitsOf_getD code inside

theorem codeDigit_lt_ten {code n : Nat} (inside : n < 12) : codeDigit code n < 10 := by
  rw [codeDigit_eq inside]
  exact Nat.mod_lt _ (by decide)

/-- The last two digits are the number they spell. -/
theorem mod_hundred_eq_iff {code wrong : Nat} :
    wrong % 100 = code % 100 ↔ codeDigit wrong 10 = codeDigit code 10 ∧ codeDigit wrong 11 = codeDigit code 11 := by
  simp only [codeDigit_eq (show 10 < 12 by decide), codeDigit_eq (show 11 < 12 by decide)]
  omega

/-- R131: the weights 3, 7, 1 repeated. -/
def codeWeight (n : Nat) : Nat := [3, 7, 1].getD (n % 3) 0

theorem codeWeight_cases (n : Nat) : codeWeight n = 3 ∨ codeWeight n = 7 ∨ codeWeight n = 1 := by
  have : n % 3 = 0 ∨ n % 3 = 1 ∨ n % 3 = 2 := by omega
  rcases this with h | h | h <;> simp [codeWeight, h]

/-- The weighted sum of a code's first ten digits. -/
def weightedSum (code : Nat) : Nat := ∑ n ∈ Finset.range 10, codeWeight n * codeDigit code n

theorem weightedSum_eq (code : Nat) : weightedSum code =
    3 * codeDigit code 0 + 7 * codeDigit code 1 + codeDigit code 2 + 3 * codeDigit code 3 + 7 * codeDigit code 4 + codeDigit code 5
      + 3 * codeDigit code 6 + 7 * codeDigit code 7 + codeDigit code 8 + 3 * codeDigit code 9 := by
  simp [weightedSum, Finset.sum_range_succ, codeWeight]

theorem checkOf_eq_weightedSum (code : Nat) : checkOf (code / 100) = weightedSum code % 97 := by
  have digits : digitsOf 10 (code / 100) = (List.range 10).map (codeDigit code) := digitsOf_div 10 2 code
  have sum : (((List.range 10).map (codeDigit code)).zipWith (· * ·) [3, 7, 1, 3, 7, 1, 3, 7, 1, 3]).sum = weightedSum code := by
    simp [weightedSum_eq, List.range_succ, Nat.mul_comm, Nat.add_assoc]
  rw [checkOf, digits, sum]

theorem checkOf_le (first10 : Nat) : checkOf first10 ≤ 96 := Nat.le_of_lt_succ (Nat.mod_lt _ (by decide))

theorem checkRight_iff {code : Nat} : checkRight code = true ↔ code % 100 = checkOf (code / 100) := beq_iff_eq

theorem checkRight_iff_weightedSum {code : Nat} : checkRight code = true ↔ code % 100 = weightedSum code % 97 := by
  rw [checkRight_iff, checkOf_eq_weightedSum]

/-! ### The composed code (R131) -/

/-- The fields of a composed code: its day, its sequence, its site number, and the check of the ten digits before it. -/
theorem composeCode_fields {day seq site : Nat} (seq_le : seq ≤ 99999) (site_le : site ≤ 99) :
    let code := composeCode day seq site
    code / 10 ^ 9 = day ∧ code / 10 ^ 4 % 10 ^ 5 = seq ∧ code / 10 ^ 2 % 10 ^ 2 = site ∧ code % 100 = checkOf (code / 100) := by
  have check_le := checkOf_le (10000000 * day + 100 * seq + site)
  have first10 : composeCode day seq site / 100 = 10000000 * day + 100 * seq + site := by
    simp only [composeCode]
    omega
  intro code
  rw [first10]
  have summands : code = 100 * (10000000 * day + 100 * seq + site) + checkOf (10000000 * day + 100 * seq + site) := rfl
  omega

/-! ### A single wrong digit (section 7.3.1) -/

section
variable {code wrong k : Nat} (others : ∀ n < 12, n ≠ k → codeDigit wrong n = codeDigit code n)
include others

/-- A wrong digit among the last two leaves the weighted sum. -/
theorem weightedSum_eq_of_wrong_check (last : 10 ≤ k) : weightedSum wrong = weightedSum code :=
  Finset.sum_congr rfl fun n hn => by
    have := Finset.mem_range.mp hn
    rw [others n (by omega) (by omega)]

/-- A wrong digit among the first ten changes one term of the weighted sum. -/
theorem weightedSum_of_wrong_digit (front : k < 10) :
    weightedSum wrong + codeWeight k * codeDigit code k = weightedSum code + codeWeight k * codeDigit wrong k := by
  have place : k ∈ Finset.range 10 := Finset.mem_range.mpr front
  have rest : ∑ n ∈ (Finset.range 10).erase k, codeWeight n * codeDigit wrong n =
      ∑ n ∈ (Finset.range 10).erase k, codeWeight n * codeDigit code n :=
    Finset.sum_congr rfl fun n hn => by
      obtain ⟨apart, inside⟩ := Finset.mem_erase.mp hn
      have := Finset.mem_range.mp inside
      rw [others n (by omega) apart]
  rw [weightedSum, weightedSum, ← Finset.add_sum_erase _ _ place, ← Finset.add_sum_erase _ _ place, rest]
  omega

/-- A weight times a difference of two digits is less than 97, so the sum moves modulo 97 with the digit. -/
theorem codeDigit_eq_of_weightedSum_eq (front : k < 10) (sums : weightedSum wrong % 97 = weightedSum code % 97) :
    codeDigit wrong k = codeDigit code k := by
  have moved := weightedSum_of_wrong_digit others front
  have right_lt : codeDigit code k < 10 := codeDigit_lt_ten (by omega)
  have wrong_lt : codeDigit wrong k < 10 := codeDigit_lt_ten (by omega)
  rcases codeWeight_cases k with weight | weight | weight <;> rw [weight] at moved <;> omega

/-- Two codes with right checks that agree in all digits but one agree in that one too. -/
theorem codeDigit_eq_of_checkRight (inside : k < 12) (right : checkRight code = true) (right' : checkRight wrong = true) :
    codeDigit wrong k = codeDigit code k := by
  rw [checkRight_iff_weightedSum] at right right'
  rcases Nat.lt_or_ge k 10 with front | last
  · have lastTwo : wrong % 100 = code % 100 :=
      mod_hundred_eq_iff.mpr ⟨others 10 (by decide) (by omega), others 11 (by decide) (by omega)⟩
    exact codeDigit_eq_of_weightedSum_eq others front (by omega)
  · have sums := weightedSum_eq_of_wrong_check others last
    obtain ⟨tenth, eleventh⟩ := mod_hundred_eq_iff.mp (show wrong % 100 = code % 100 by rw [right, right', sums])
    obtain rfl | rfl : k = 10 ∨ k = 11 := by omega
    · exact tenth
    · exact eleventh

theorem checkRight_eq_false_of_wrong_digit (code_lt : code < 10 ^ 12) (wrong_lt : wrong < 10 ^ 12) (inside : k < 12)
    (right : checkRight code = true) (differs : wrong ≠ code) : checkRight wrong = false := by
  refine Bool.eq_false_iff.mpr fun right' => differs (eq_of_digits_eq code_lt wrong_lt fun n hn => ?_)
  by_cases here : n = k
  · subst here
    exact codeDigit_eq_of_checkRight others inside right right'
  · exact others n hn here

end

/-- Settles O37: a composed code's fields are read off its four summands; two codes with right checks cannot differ in one digit. -/
theorem voucherCodeCarriesItsCheck : Obligations.VoucherCodeCarriesItsCheck := by
  refine ⟨fun n v => ⟨digitsOf_length n v, fun i => digitsOf_getD v⟩, ?composed, ?range, ?wrongDigit⟩
  case composed =>
    intro day seq site _ day_le seq_le site_le code d digit
    obtain ⟨dayField, seqField, siteField, check⟩ := composeCode_fields (day := day) seq_le site_le
    have check_le : code % 100 ≤ 96 := check ▸ checkOf_le (code / 100)
    refine ⟨by omega, digitsOf_length 12 code, dayField, seqField, siteField, ?_, check_le, checkRight_iff.mpr check, ?_⟩
    · calc code % 100 = weightedSum code % 97 := check.trans (checkOf_eq_weightedSum code)
        _ = _ := by rw [weightedSum_eq]; rfl
    · calc bucketOf code = (code / 10 ^ 4 % 10 ^ 5 + 31 * (code / 10 ^ 9)) % 256 := rfl
        _ = (seq + 31 * day) % 256 := by rw [dayField, seqField]
  case range =>
    intro code right
    exact checkRight_iff.mp right ▸ checkOf_le (code / 100)
  case wrongDigit =>
    intro code wrong k code_lt wrong_lt inside right others differs
    exact checkRight_eq_false_of_wrong_digit others code_lt wrong_lt inside right differs

end Sys2Proof.Machine
end

section
/-! Vouchers voided and answered (Chapter 7): the number that code characters spell, what a lookup reads, VOID_VOUCHER (R136), the rows
of a validation (R141), and an answer shown at a counter and taken down again (R142, R167). -/

namespace Sys2Proof.Machine

/-! ### Code characters (R131) -/

theorem isDigit_iff {b : Byte} : isDigit b = true ↔ 0x30 ≤ b.toNat ∧ b.toNat ≤ 0x39 := by simp [isDigit]

theorem codeOfChars_eq_none {chars : List Byte}
    (bad : ¬ (chars.length = 12 ∧ ∀ b ∈ chars, 0x30 ≤ b.toNat ∧ b.toNat ≤ 0x39)) : codeOfChars chars = none :=
  if_neg (by simpa only [List.all_eq_true, isDigit_iff] using bad)

theorem digitChar_toNat {d : Nat} (digit : d < 10) : (digitChar d).toNat = 0x30 + d := by
  rw [digitChar, BitVec.toNat_ofNat]
  omega

theorem isDigit_digitChar {d : Nat} (digit : d < 10) : isDigit (digitChar d) = true := by
  rw [isDigit_iff, digitChar_toNat digit]
  omega

theorem charDigits_map_digitChar {l : List Nat} (digits : ∀ d ∈ l, d < 10) : charDigits (l.map digitChar) = l := by
  have back : ∀ d ∈ l, (digitChar d).toNat - 0x30 = id d := fun d listed => by
    rw [digitChar_toNat (digits d listed), Nat.add_sub_cancel_left, id]
  rw [charDigits, List.map_map]
  exact (List.map_congr_left back).trans (List.map_id l)

/-- The characters of a code's twelve digits spell the code. -/
theorem codeOfChars_digits {code : Nat} (code_lt : code < 10 ^ 12) : codeOfChars ((digitsOf 12 code).map digitChar) = some code := by
  have digits : ∀ d ∈ digitsOf 12 code, d < 10 := fun d => lt_ten_of_mem_digitsOf
  have characters : ((digitsOf 12 code).map digitChar).all isDigit = true := by
    rw [List.all_eq_true, List.forall_mem_map]
    exact fun d listed => isDigit_digitChar (digits d listed)
  rw [codeOfChars, if_pos ⟨by rw [List.length_map, digitsOf_length], characters⟩, charDigits_map_digitChar digits,
    digitsValue_digitsOf, Nat.mod_eq_of_lt code_lt]

/-! ### What a lookup and an update read (R127, R130) -/

theorem walkChain_congr {s t : State} (entries : t.voucherUnit.entries = s.voucherUnit.entries) (test : Nat → Bool) (n : Nat)
    (i : Option Nat) : walkChain t test n i = walkChain s test n i := by
  have same : ∀ i, voucherAt t i = voucherAt s i := fun i => by rw [voucherAt, entries, voucherAt]
  induction n generalizing i with
  | zero => rfl
  | succ n ih =>
    cases i with
    | none => rfl
    | some i => rw [walkChain, walkChain, same, ih]

/-- A lookup reads the entries and the bucket heads alone. -/
theorem lookupCode_congr {s t : State} (entries : t.voucherUnit.entries = s.voucherUnit.entries)
    (heads : t.voucherUnit.heads = s.voucherUnit.heads) (code : Nat) : lookupCode t code = lookupCode s code := by
  rw [lookupCode, lookupCode, walkChain_congr entries, headAt, headAt, heads]
  simp only [voucherAt, entries]

section
variable {s : State} (canonical : sparseWf Voucher.empty s.voucherUnit.entries) (i : Nat) (f : Voucher → Voucher)
include canonical

theorem voucherAt_updVoucher_self :
    voucherAt (updVoucher i f s) i = { f (voucherAt s i) with changes := bump (voucherAt s i).changes } :=
  voucherAt_setVoucher_self _ _ _ canonical

theorem voucherAt_updVoucher_other {j : Nat} (apart : j ≠ i) : voucherAt (updVoucher i f s) j = voucherAt s j :=
  voucherAt_setVoucher_other _ _ _ _ canonical apart.symm

end

theorem pastGrace_eq_true_iff {s : State} {sh : Nat} : pastGrace s sh = true ↔
    instantSeconds (showAt s sh).finish + 60 * (cfgOf s).voucherGrace < instantSeconds s.showUnit.clock.now := decide_eq_true_iff

theorem optBytes_three (o : Option Nat) : optBytes 3 o = o.elim [0xFF, 0xFF, 0xFF] (leBytes 3) := by
  cases o <;> rfl

@[simp] theorem lookupCode_taken (r : Request) (s : State) (code : Nat) : lookupCode (taken r s) code = lookupCode s code :=
  lookupCode_congr (s := s) (t := taken r s) rfl rfl code

@[simp] theorem voucherAt_taken (r : Request) (s : State) (i : Nat) : voucherAt (taken r s) i = voucherAt s i := rfl

/-! ### VOID_VOUCHER (R136) -/

section
variable {r : Request} {s : State} (handed : Handed .voidVoucher r s)
include handed

theorem exec_voidVoucher : exec .voidVoucher s = .next (voidVoucherOp r (taken r s)) := by
  show Host.Outcome.next (withRequest .voidVoucher (fun r => voidVoucherOp r) s) = _
  rw [withRequest_handed handed]

theorem exec_voidVoucher_notDigits (noCode : codeOfChars (paramBytes r 0 12) = none) :
    exec .voidVoucher s = .next (completeSlot r.slot .badParameter [] (taken r s)) := by
  rw [exec_voidVoucher handed]
  simp [voidVoucherOp, noCode, finish]

variable {code : Nat} (spelt : codeOfChars (paramBytes r 0 12) = some code)
include spelt

theorem exec_voidVoucher_noVoucher (unknown : checkRight code = false ∨ lookupCode s code = none) :
    exec .voidVoucher s = .next (completeSlot r.slot .badParameter [] (taken r s)) := by
  rw [exec_voidVoucher handed]
  rcases Bool.eq_false_or_eq_true (checkRight code) with right | wrong
  · have absent := unknown.resolve_left (by simp [right])
    simp [voidVoucherOp, spelt, right, absent, finish]
  · simp [voidVoucherOp, spelt, wrong, finish]

variable {i : Nat} (right : checkRight code = true) (found : lookupCode s code = some i)
include right found

theorem exec_voidVoucher_notActive (other : (voucherAt s i).state ≠ some .active) :
    exec .voidVoucher s = .next (completeSlot r.slot .wrongState [] (taken r s)) := by
  rw [exec_voidVoucher handed]
  simp [voidVoucherOp, spelt, right, found, other, finish]

theorem exec_voidVoucher_active (active : (voucherAt s i).state = some .active) :
    exec .voidVoucher s = .next (completeSlot r.slot .ok
        (leBytes 2 i ++ leBytes 1 (voucherAt s i).kind ++ ((voucherAt s i).owner.elim [0xFF, 0xFF, 0xFF] (leBytes 3)))
        (updVoucher i (fun v => { v with state := some .voided }) (taken r s))) := by
  rw [exec_voidVoucher handed]
  simp [voidVoucherOp, spelt, right, found, active, optBytes_three]

end

/-! ### The rows of a validation (R141), the first that applies -/

section
variable {m : Nat} {chars : List Byte} {s : State}

theorem validateCode_notDigits (noCode : codeOfChars chars = none) :
    validateCode m chars s = counterAnswer m chars .badCode none none s := by
  simp [validateCode, noCode]

variable {code : Nat} (spelt : codeOfChars chars = some code)
include spelt

theorem validateCode_wrongCheck (wrong : checkRight code = false) :
    validateCode m chars s = counterAnswer m chars .badCode none none s := by
  simp [validateCode, spelt, wrong]

variable (right : checkRight code = true)
include right

theorem validateCode_absent (absent : lookupCode s code = none) :
    validateCode m chars s = counterAnswer m chars .unknown none none s := by
  simp [validateCode, spelt, right, absent]

variable {i : Nat} (found : lookupCode s code = some i)
include found

theorem validateCode_empty (state : (voucherAt s i).state = none) :
    validateCode m chars s = counterAnswer m chars .unknown none none s := by
  simp [validateCode, spelt, right, found, state]

theorem validateCode_pending (state : (voucherAt s i).state = some .pending) :
    validateCode m chars s = counterAnswer m chars .notPaid (some (voucherAt s i).kind) none s := by
  simp [validateCode, spelt, right, found, state]

theorem validateCode_voided (state : (voucherAt s i).state = some .voided) :
    validateCode m chars s = counterAnswer m chars .voided (some (voucherAt s i).kind) none s := by
  simp [validateCode, spelt, right, found, state]

theorem validateCode_redeemed (state : (voucherAt s i).state = some .redeemed) :
    validateCode m chars s = counterAnswer m chars .alreadyUsed (some (voucherAt s i).kind)
      ((voucherAt s i).redeemedAt.map (fun x => (x.2, x.1))) s := by
  simp [validateCode, spelt, right, found, state]

variable (state : (voucherAt s i).state = some .active)
include state

theorem validateCode_expired (late : pastGrace s (voucherAt s i).sh = true) :
    validateCode m chars s = counterAnswer m chars .expired (some (voucherAt s i).kind) none s := by
  simp [validateCode, spelt, right, found, state, late]

theorem validateCode_active (timely : pastGrace s (voucherAt s i).sh = false) :
    validateCode m chars s = counterAnswer m chars .redeemed (some (voucherAt s i).kind) none
      (updVoucher i (fun v => { v with state := some .redeemed, redeemedAt := some (s.showUnit.clock.now, m) }) s) := by
  simp [validateCode, spelt, right, found, state, timely]

end

/-! ### An answer at a counter (R142, R167) -/

section
variable (s : State)

@[simp] theorem updCounter_counters_length (m : Nat) (f : Counter → Counter) :
    (updCounter m f s).station.counters.length = s.station.counters.length := updAt_length _ _ _

/-- A factor raised writes the cell's factor set; the notice moves the attention count and what is sent. -/
theorem raiseFactor_eq (cell : CellId) (f : FactorSet) :
    let t := raiseFactor cell f s
    t = { setFactors cell (factorsOf s cell ||| f) (maskOf s cell) s with
      board := { s.board with attention := t.board.attention }, wire := t.wire } := by
  have frame := setFactors_frame s cell (factorsOf s cell ||| f) (maskOf s cell)
  simp only [raiseFactor]
  split
  · rw [frame]
  · split <;> (rw [frame, sendInterrupt]; split <;> rfl)

/-- A factor raised in a counter cell, read field by field. -/
theorem raiseCounter_spec (m : Fin 4) (f : FactorSet) (counters : s.station.counters.length = 4) :
    let t := raiseFactor (counterCell m) f s
    counterAt t m = { counterAt s m with factors := (counterAt s m).factors ||| f, changes := bump (counterAt s m).changes } ∧
    (∀ j, j ≠ m.val → counterAt t j = counterAt s j) ∧ t.station.counters.length = 4 ∧
    t = { s with board := { s.board with attention := t.board.attention }, wire := t.wire
                 station := { s.station with counters := t.station.counters } } := by
  have cell : counterCell m = .counter m := congrArg CellId.counter (Fin.ofNat_val_eq_self m)
  have written := raiseFactor_eq s (.counter m) f
  rw [cell]
  intro t
  have station : t.station = _ := congrArg State.station written
  refine ⟨?_, fun j apart => ?_, ?_, ?_⟩
  · rw [show t = _ from written]
    exact counterAt_updCounter_self _ _ _ (by omega)
  · rw [show t = _ from written]
    exact counterAt_updCounter_other _ _ _ _ apart.symm
  · rw [station]
    exact (updCounter_counters_length s _ _).trans counters
  · rw [station]
    exact written

theorem lampLike_refreshLamp (binding : Option LampFunction) (l : Lamp) : lampLike (refreshLamp binding l) l := rfl

/-- R164, R167: the lamps of a counter moved to the functions in force for what it shows. -/
theorem counterAt_refreshCounter_self (m : Nat) (inside : m < s.station.counters.length) :
    let binding := counterBinding s (counterAt s m).showing
    counterAt (refreshCounter m s) m = { counterAt s m with
      green := refreshLamp (binding.map Binding.green) (counterAt s m).green
      red := refreshLamp (binding.map Binding.red) (counterAt s m).red
      changes := bump (counterAt s m).changes } :=
  counterAt_updCounter_self _ _ _ inside

theorem counterAt_refreshCounter_other (m j : Nat) (apart : j ≠ m) : counterAt (refreshCounter m s) j = counterAt s j :=
  counterAt_updCounter_other _ _ _ _ apart.symm

/-- What a counter shows replaced, its lamps with it. -/
theorem refreshCounter_updCounter_spec (m : Nat) (f : Counter → Counter) (inside : m < s.station.counters.length) :
    let t := refreshCounter m (updCounter m f s)
    let c := f (counterAt s m)
    let binding := counterBinding s c.showing
    counterAt t m = { c with
      green := refreshLamp (binding.map Binding.green) c.green
      red := refreshLamp (binding.map Binding.red) c.red
      changes := (counterAt t m).changes } ∧
    (∀ j, j ≠ m → counterAt t j = counterAt s j) ∧
    t = { s with station := { s.station with counters := t.station.counters } } := by
  have self := counterAt_updCounter_self s m f inside
  refine ⟨?_, fun j apart => ?_, rfl⟩
  · rw [counterAt_refreshCounter_self _ _ (by simpa using inside), self]
    rfl
  · rw [counterAt_refreshCounter_other _ _ _ apart, counterAt_updCounter_other _ _ _ _ apart.symm]

theorem showAnswer_spec (m : Nat) (a : Showing) (inside : m < s.station.counters.length) :
    let t := showAnswer m a s
    counterAt t m = { counterAt s m with
      showing := a, answerDue := some ⟨nowOf s + 1000 * (cfgOf s).answerTime, nowOf s⟩
      green := (counterAt t m).green, red := (counterAt t m).red, changes := (counterAt t m).changes } ∧
    lampLike (counterAt t m).green (counterAt s m).green ∧ lampLike (counterAt t m).red (counterAt s m).red ∧
    (∀ j, j ≠ m → counterAt t j = counterAt s j) ∧
    t = { s with station := { s.station with counters := t.station.counters } } := by
  obtain ⟨self, others, frame⟩ := refreshCounter_updCounter_spec s m
    (fun c => { c with showing := a, answerDue := some (deadlineAt (nowOf s) (nowOf s + 1000 * (cfgOf s).answerTime)) }) inside
  have self' : counterAt (showAnswer m a s) m = _ := self
  refine ⟨?_, ?_, ?_, others, frame⟩
  · rw [self']
    rfl
  · rw [self']
    exact lampLike_refreshLamp _ _
  · rw [self']
    exact lampLike_refreshLamp _ _

end

/-- A count raised, read where the statistics are those of another state. -/
theorem statAt_addStat_of_stats_eq {s u : State} (stats : u.stats = s.stats) (canonical : sparseWf (0 : Nat) s.stats) (off n : Nat) :
    statAt (addStat off n u) off = min (statAt s off + n) 4294967295 ∧
      ∀ o, o ≠ off → statAt (addStat off n u) o = statAt s o := by
  have canonical' : sparseWf (0 : Nat) u.stats := stats ▸ canonical
  have same : ∀ o, statAt u o = statAt s o := fun o => by rw [statAt, stats, statAt]
  refine ⟨?_, fun o apart => ?_⟩
  · rw [statAt_addStat_self _ _ _ canonical', same]
  · rw [statAt_addStat_other _ _ _ _ canonical' apart.symm, same]

/-- R142: the last answer of a counter, as an answer given now writes it. -/
def lastAnswerOf (chars : List Byte) (a : Showing) (kind : Option Nat) (first : Option (Nat × Instant)) (s : State) : Answer :=
  { code := chars, answer := a, kind := kind, first := first
    instant := if s.showUnit.clock.isSet then some s.showUnit.clock.now else none }

/-- R142: an answer recorded, raised and counted at a counter, before the counter shows it. -/
def recordAnswer (m : Nat) (chars : List Byte) (a : Showing) (kind : Option Nat) (first : Option (Nat × Instant)) (s : State) : State :=
  addStat (statCounter m (if a = .redeemed then 0 else 1)) 1
    (raiseFactor (counterCell m) (if a = .redeemed then cfRedeemed else cfRefused)
      (updCounter m (fun c => { c with lastAnswer := some (lastAnswerOf chars a kind first s) }) s))

theorem counterAnswer_eq (m : Nat) (chars : List Byte) (a : Showing) (kind : Option Nat) (first : Option (Nat × Instant)) (s : State) :
    counterAnswer m chars a kind first s = showAnswer m a (recordAnswer m chars a kind first s) := rfl

section
variable {s : State} (m : Fin 4) (chars : List Byte) (a : Showing) (kind : Option Nat) (first : Option (Nat × Instant))
  (counters : s.station.counters.length = 4)

theorem statAt_recordAnswer (canonical : sparseWf (0 : Nat) s.stats) :
    let t := recordAnswer m chars a kind first s
    let off := 0x1B0 + 20 * m.val + (if a = .redeemed then 0 else 4)
    statAt t off = min (statAt s off + 1) 4294967295 ∧ (∀ o, o ≠ off → statAt t o = statAt s o) := by
  have place : statCounter m (if a = .redeemed then 0 else 1) = 0x1B0 + 20 * m.val + (if a = .redeemed then 0 else 4) := by
    unfold statCounter
    split <;> rfl
  rw [recordAnswer, place]
  exact statAt_addStat_of_stats_eq (by simp) canonical _ 1

include counters

theorem recordAnswer_spec :
    let t := recordAnswer m chars a kind first s
    counterAt t m = { counterAt s m with
      lastAnswer := some (lastAnswerOf chars a kind first s)
      factors := (counterAt s m).factors ||| (if a = .redeemed then cfRedeemed else cfRefused)
      changes := (counterAt t m).changes } ∧
    (∀ j, j ≠ m.val → counterAt t j = counterAt s j) ∧ t.station.counters.length = 4 ∧
    t = { s with stats := t.stats, wire := t.wire, board := { s.board with attention := t.board.attention }
                 station := { s.station with counters := t.station.counters } } := by
  obtain ⟨raised, others, length, frame⟩ :=
    raiseCounter_spec (updCounter m (fun c => { c with lastAnswer := some (lastAnswerOf chars a kind first s) }) s) m
      (if a = .redeemed then cfRedeemed else cfRefused) ((updCounter_counters_length s _ _).trans counters)
  rw [counterAt_updCounter_self _ _ _ (by omega)] at raised
  refine ⟨?_, fun j apart => ?_, length, ?_⟩
  · exact raised.trans (by rw [show counterAt (recordAnswer m chars a kind first s) m = _ from raised])
  · exact (others j apart).trans (counterAt_updCounter_other _ _ _ _ apart.symm)
  · rw [recordAnswer, frame]
    rfl

/-- R142: every answer is one `Answered`. -/
theorem answered_counterAnswer (canonical : sparseWf (0 : Nat) s.stats) :
    Answered m chars a kind first s (counterAnswer m chars a kind first s) := by
  obtain ⟨recorded, recordedOthers, length, frame⟩ := recordAnswer_spec m chars a kind first counters
  obtain ⟨counted, countedOthers⟩ := statAt_recordAnswer m chars a kind first canonical
  rw [counterAnswer_eq]
  generalize recordAnswer m chars a kind first s = u at *
  have terms : nowOf u = s.showUnit.runTime ∧ cfgOf u = cfgOf s := by rw [frame]; exact ⟨rfl, rfl⟩
  obtain ⟨shown, green, red, shownOthers, shownFrame⟩ := showAnswer_spec u m a (by omega)
  rw [recorded, terms.1, terms.2] at shown
  rw [recorded] at green red
  refine ⟨shown, green, red, fun j apart => (shownOthers j apart).trans (recordedOthers j apart), ?_, ?_, ?_⟩
  · rw [shownFrame]
    exact counted
  · rw [shownFrame]
    exact countedOthers
  · rw [shownFrame, frame]

end

/-! ### VALIDATION (R141) and ANSWER_DEADLINE (R167) -/

/-- R141: the oldest code that waits at a counter taken, and the rest left waiting. -/
def takeScanned (m : Nat) (rest : List (List Byte)) (s : State) : State := setReceiver m (fun r => { r with scanned := rest }) s

@[simp] theorem lookupCode_takeScanned (m : Nat) (rest : List (List Byte)) (s : State) (code : Nat) :
    lookupCode (takeScanned m rest s) code = lookupCode s code :=
  lookupCode_congr (s := s) (t := takeScanned m rest s) rfl rfl code

@[simp] theorem voucherAt_takeScanned (m : Nat) (rest : List (List Byte)) (s : State) (i : Nat) :
    voucherAt (takeScanned m rest s) i = voucherAt s i := rfl

@[simp] theorem pastGrace_takeScanned (m : Nat) (rest : List (List Byte)) (s : State) (sh : Nat) :
    pastGrace (takeScanned m rest s) sh = pastGrace s sh := rfl

section
variable {s : State} {m : Nat} {chars : List Byte} {rest : List (List Byte)} (scanned : (receiverAt s m).scanned = chars :: rest)
include scanned

theorem validationOp_disabled (off : (counterAt s m).enabled = false) : validationOp m s = takeScanned m rest s := by
  simp [validationOp, scanned, off, takeScanned]

theorem validationOp_enabled (on : (counterAt s m).enabled = true) :
    validationOp m s = validateCode m chars (takeScanned m rest s) := by
  simp [validationOp, scanned, on, takeScanned]

end

/-- What a validation answers of the taken code, after whatever it did to a voucher. -/
theorem answered_validationOp {s u : State} {m : Fin 4} {chars : List Byte} {rest : List (List Byte)} {a : Showing} {kind : Option Nat}
    {first : Option (Nat × Instant)} (scanned : (receiverAt s m).scanned = chars :: rest) (on : (counterAt s m).enabled = true)
    (counters : u.station.counters.length = 4) (canonical : sparseWf (0 : Nat) u.stats)
    (row : validateCode m chars (takeScanned m rest s) = counterAnswer m chars a kind first u) :
    Answered m chars a kind first u (validationOp m s) := by
  rw [validationOp_enabled scanned on, row]
  exact answered_counterAnswer m chars a kind first counters canonical

theorem answerExpires_due {s : State} {m : Nat} {d : Deadline} (running : (counterAt s m).answerDue = some d)
    (due : d.value ≤ s.showUnit.runTime) (earlier : d.setAt < s.showUnit.runTime) :
    answerExpires m s = refreshCounter m (updCounter m (fun c => { c with showing := .idle, answerDue := none }) s) :=
  if_pos (by simp [dueNow, isDue, running, nowOf, due, earlier])

/-- Settles O55: each clause is one row of VOID_VOUCHER or of a validation, and every answer is one `Answered`. -/
theorem vouchersAreVoidedAndAnswered : Obligations.VouchersAreVoidedAndAnswered := by
  refine ⟨?voids, ?answers, ?deadline⟩
  case voids =>
    intro s r handed canonical chars refused
    refine ⟨fun bad => exec_voidVoucher_notDigits handed (codeOfChars_eq_none bad), fun code code_lt digits => ?_⟩
    have spelt : codeOfChars chars = some code := by rw [digits, codeOfChars_digits code_lt]
    refine ⟨exec_voidVoucher_noVoucher handed spelt, fun i right found => ⟨?_, fun active => ?_⟩⟩
    · exact exec_voidVoucher_notActive handed spelt right found
    · refine ⟨_, exec_voidVoucher_active handed spelt right found active, ?_, fun j apart => ?_, rfl⟩
      · exact voucherAt_updVoucher_self (s := taken r s) canonical.entries i _
      · exact voucherAt_updVoucher_other (s := taken r s) canonical.entries i _ apart
  case answers =>
    intro s m chars rest receivers counters canonical scanned
    have answer : ∀ {a kind first}, (counterAt s m).enabled = true →
        validateCode m chars (takeScanned m rest s) = counterAnswer m chars a kind first (takeScanned m rest s) →
        Answered m chars a kind first (takeScanned m rest s) (validationOp m s) :=
      fun on => answered_validationOp (u := takeScanned m rest s) scanned on counters canonical.stats
    refine ⟨takeScanned m rest s, validationOp m s, rfl, validationOp_disabled scanned,
      receiverAt_setReceiver_self s m _ (by omega), fun j apart => receiverAt_setReceiver_other s m j _ apart.symm, rfl,
      fun on bad => answer on (validateCode_notDigits (codeOfChars_eq_none bad)), fun code on code_lt digits => ?_⟩
    have spelt : codeOfChars chars = some code := by rw [digits, codeOfChars_digits code_lt]
    refine ⟨fun wrong => answer on (validateCode_wrongCheck spelt wrong),
      fun right absent => answer on (validateCode_absent spelt right (by simpa using absent)), fun i right found => ?_⟩
    have found' : lookupCode (takeScanned m rest s) code = some i := by simpa using found
    have late_iff : pastGrace (takeScanned m rest s) (voucherAt s i).sh = true ↔ _ := pastGrace_eq_true_iff (s := s)
    refine ⟨fun state => answer on (validateCode_empty spelt right found' state),
      fun state => answer on (validateCode_pending spelt right found' state),
      fun state => answer on (validateCode_voided spelt right found' state),
      fun state => answer on (validateCode_redeemed spelt right found' state),
      fun state late => answer on (validateCode_expired spelt right found' state (late_iff.mpr late)), fun state timely => ?_⟩
    refine ⟨_, answered_validationOp scanned on ?_ ?_
      (validateCode_active spelt right found' state (Bool.eq_false_iff.mpr (timely ∘ late_iff.mp))), ?_, fun j apart => ?_, rfl⟩
    · exact counters
    · exact canonical.stats
    · exact voucherAt_updVoucher_self (s := takeScanned m rest s) canonical.entries i _
    · exact voucherAt_updVoucher_other (s := takeScanned m rest s) canonical.entries i _ apart
  case deadline =>
    intro s m d counters running due earlier
    obtain ⟨self, others, frame⟩ := refreshCounter_updCounter_spec s m (fun c => { c with showing := .idle, answerDue := none })
      (by omega)
    have runs : exec (.answerDeadline m) s = .next (answerExpires m s) := rfl
    rw [answerExpires_due running due earlier] at runs
    exact ⟨_, runs, self, others, frame⟩

end Sys2Proof.Machine
end

section
/-! The board unit (Chapter 10): the notice served at a completion (R180, R181), what a completion writes (R179), and WITHDRAWN onto a
posted or a taken slot (R178). -/

namespace Sys2Proof.Machine

/-! ### Tables and bytes -/

theorem getD_set_self {α : Type} {l : List α} {i : Nat} {v d : α} (inside : i < l.length) : (l.set i v).getD i d = v := by
  simp [List.getD_eq_getElem?_getD, inside]

theorem getD_set_other {α : Type} {l : List α} {i j : Nat} {v d : α} (apart : j ≠ i) : (l.set i v).getD j d = l.getD j d := by
  simp [List.getD_eq_getElem?_getD, List.getElem?_set_ne apart.symm]

@[simp] theorem padTo_length (n : Nat) (b : List Byte) : (padTo n b).length = n := by
  simp [padTo]

theorem padTo_getD_inside {n i : Nat} {b : List Byte} (fits : b.length ≤ n) (inside : i < b.length) :
    (padTo n b).getD i 0 = b.getD i 0 := by
  have cut : i < n := by omega
  simp [padTo, List.getD_eq_getElem?_getD, List.getElem?_take_of_lt cut, List.getElem?_append_left inside]

theorem padTo_getD_padding {n i : Nat} {b : List Byte} (cut : i < n) (behind : b.length ≤ i) : (padTo n b).getD i 0 = 0 := by
  have padded : i - b.length < n := by omega
  simp [padTo, List.getD_eq_getElem?_getD, List.getElem?_take_of_lt cut, List.getElem?_append_right behind, padded]

@[simp] theorem memReadAll_length (m : List Host.Cell) (a n : Nat) : (memReadAll m a n).length = n := by
  induction n generalizing a with
  | zero => rfl
  | succ n ih => simp [memReadAll, ih]

theorem memReadAll_getD (m : List Host.Cell) (a : Nat) {n i : Nat} (inside : i < n) :
    (memReadAll m a n).getD i 0 = memRead m (a + i) := by
  induction n generalizing a i with
  | zero => omega
  | succ n ih =>
    cases i with
    | zero => rfl
    | succ i => simpa [memReadAll, Nat.add_assoc, Nat.add_comm 1 i] using ih (a + 1) (Nat.lt_of_succ_lt_succ inside)

theorem resultByte_toNat (code : ResultCode) : (resultByte code).toNat = codesInOrder.idxOf code := by
  cases code <;> rfl

theorem satCount_eq_min (n : Nat) : satCount n = min 65535 (n + 1) := by
  unfold satCount
  split <;> omega

/-! ### The notice (R180, R181) -/

section
variable (s : State)

theorem sendInterrupt_eq : sendInterrupt s = { s with wire := s.wire ++ message s.board.noticeEnable } := by
  unfold sendInterrupt message
  split
  · rfl
  · simp

/-- R180: a completion counted among the unnoticed ones. -/
def countUnnoticed : State := { s with board := { s.board with unnoticed := min 65535 (s.board.unnoticed + 1) } }

/-- R180: a completion that sets COMPLETIONS, while that stands clear: the done threshold is reached, or there is no delay to wait. -/
abbrev NoticeDue : Prop :=
  (cfgOf s).threshold ≤ min 65535 (s.board.unnoticed + 1) ∨ (s.board.unnoticed = 0 ∧ (cfgOf s).delay = 0)

/-- R180: the first unnoticed completion starts the coalescing deadline. -/
def startDelay : State :=
  { countUnnoticed s with board := { (countUnnoticed s).board with
      coalescing := some ⟨s.showUnit.runTime + (cfgOf s).delay, s.showUnit.runTime⟩ } }

/-- R180: the notice in one equation, its two ways to set COMPLETIONS taken together. -/
theorem serveNotice_eq : serveNotice s =
    if s.board.completions = true then countUnnoticed s
    else if NoticeDue s then setCompletions (countUnnoticed s)
    else if s.board.unnoticed = 0 then startDelay s
    else countUnnoticed s := by
  have branches : serveNotice s =
      if s.board.completions = true then countUnnoticed s
      else if (cfgOf s).threshold ≤ min 65535 (s.board.unnoticed + 1) then setCompletions (countUnnoticed s)
      else if s.board.unnoticed = 0 then if (cfgOf s).delay = 0 then setCompletions (countUnnoticed s) else startDelay s
      else countUnnoticed s := by
    simp only [serveNotice, satCount_eq_min]
    rfl
  rw [branches]
  by_cases first : s.board.unnoticed = 0
  · by_cases atOnce : (cfgOf s).delay = 0 <;> simp [NoticeDue, first, atOnce]
  · simp [NoticeDue, first]

theorem setCompletions_eq : setCompletions s = { s with
    board := { s.board with completions := true, coalescing := none }, wire := s.wire ++ message s.board.noticeEnable } :=
  sendInterrupt_eq _

/-- The notice writes the unnoticed count, COMPLETIONS and the coalescing deadline of the board, sends what it sends, and moves nothing
else. -/
theorem serveNotice_frame :
    let t := serveNotice s
    t = { s with
      board := { s.board with
        unnoticed := min 65535 (s.board.unnoticed + 1), completions := t.board.completions, coalescing := t.board.coalescing }
      wire := t.wire } := by
  rw [serveNotice_eq]
  split_ifs
  · rfl
  · rw [setCompletions_eq]
    rfl
  · rfl
  · rfl

theorem serveNotice_board : (serveNotice s).board = { s.board with
    unnoticed := min 65535 (s.board.unnoticed + 1)
    completions := (serveNotice s).board.completions
    coalescing := (serveNotice s).board.coalescing } :=
  congrArg State.board (serveNotice_frame s)

/-- What the notice does of itself: what it leaves of COMPLETIONS, of the coalescing deadline and on the wire. -/
def NoticeServed (s t : State) : Prop :=
  (s.board.completions = true →
    t.board.completions = true ∧ t.board.coalescing = s.board.coalescing ∧ t.wire = s.wire) ∧
  (s.board.completions = false →
    if NoticeDue s then
      t.board.completions = true ∧ t.board.coalescing = none ∧ t.wire = s.wire ++ message s.board.noticeEnable
    else if s.board.unnoticed = 0 then
      t.board.completions = false ∧ t.wire = s.wire ∧
        t.board.coalescing = some ⟨s.showUnit.runTime + (cfgOf s).delay, s.showUnit.runTime⟩
    else t.board.completions = false ∧ t.board.coalescing = s.board.coalescing ∧ t.wire = s.wire)

theorem noticeServed_serveNotice : NoticeServed s (serveNotice s) := by
  rw [serveNotice_eq]
  refine ⟨fun set => ?_, fun clear => ?_⟩
  · rw [if_pos set]
    exact ⟨set, rfl, rfl⟩
  · rw [if_neg (Bool.eq_false_iff.mp clear)]
    split_ifs
    · rw [setCompletions_eq]
      exact ⟨rfl, rfl, rfl⟩
    · exact ⟨clear, rfl, rfl⟩
    · exact ⟨clear, rfl, rfl⟩

end

/-! ### The completion (R179) -/

section
/-- R179: the slot's bytes, state word and marks written, and its in-flight entries cleared, the notice not yet served. -/
def writeCompletion (slot : Nat) (code : ResultCode) (fields : List Byte) (s : State) : State := { s with
  mem := memWriteAll s.mem (128 * slot + 0x60) (padTo 24 fields ++ [resultByte code])
  board := { s.board with
    slots := s.board.slots.set slot .done
    posting := s.board.posting.filter (fun n => n != slot)
    doneMark := s.board.doneMark.set slot true
    inflight := s.board.inflight.map (fun e => if e = some slot then none else e) } }

variable {slot : Nat} {code : ResultCode} {fields : List Byte} {s : State}

theorem completeSlot_eq : completeSlot slot code fields s = serveNotice (writeCompletion slot code fields s) := rfl

/-- A completion's board: the board written, the notice's three fields apart. -/
theorem completeSlot_board :
    let t := completeSlot slot code fields s
    t.board = { (writeCompletion slot code fields s).board with
      unnoticed := min 65535 (s.board.unnoticed + 1), completions := t.board.completions, coalescing := t.board.coalescing } :=
  serveNotice_board _

theorem completeSlot_mem :
    (completeSlot slot code fields s).mem = memWriteAll s.mem (128 * slot + 0x60) (padTo 24 fields ++ [resultByte code]) := by
  simp [completeSlot_eq, writeCompletion]

@[simp] theorem completeSlot_handed : (completeSlot slot code fields s).board.handed = s.board.handed := by
  rw [completeSlot_board]
  rfl

@[simp] theorem completeSlot_unnoticed :
    (completeSlot slot code fields s).board.unnoticed = min 65535 (s.board.unnoticed + 1) := by
  rw [completeSlot_board]

theorem completeSlot_frame :
    let t := completeSlot slot code fields s
    t = { s with mem := t.mem, board := t.board, wire := t.wire } := by
  intro t
  rw [completeSlot_mem, completeSlot_board]
  exact serveNotice_frame (writeCompletion slot code fields s)

theorem noticeServed_completeSlot : NoticeServed s (completeSlot slot code fields s) :=
  noticeServed_serveNotice (writeCompletion slot code fields s)

/-! What a completion leaves of the slot, of the other slots, and of the in-flight entries. -/

theorem slotAt_completeSlot_self (inside : slot < s.board.slots.length) : slotAt (completeSlot slot code fields s) slot = .done := by
  rw [slotAt, completeSlot_board]
  exact getD_set_self inside

theorem slotAt_completeSlot_other {n : Nat} (apart : n ≠ slot) : slotAt (completeSlot slot code fields s) n = slotAt s n := by
  rw [slotAt, completeSlot_board]
  exact getD_set_other apart

theorem doneMark_completeSlot_self (inside : slot < s.board.doneMark.length) :
    (completeSlot slot code fields s).board.doneMark.getD slot false = true := by
  rw [completeSlot_board]
  exact getD_set_self inside

theorem doneMark_completeSlot_other {n : Nat} (apart : n ≠ slot) :
    (completeSlot slot code fields s).board.doneMark.getD n false = s.board.doneMark.getD n false := by
  rw [completeSlot_board]
  exact getD_set_other apart

theorem mem_posting_completeSlot {n : Nat} :
    n ∈ (completeSlot slot code fields s).board.posting ↔ n ∈ s.board.posting ∧ n ≠ slot := by
  rw [completeSlot_board]
  simp [writeCompletion]

theorem inflight_completeSlot (b : Nat) : (completeSlot slot code fields s).board.inflight.getD b none =
    if s.board.inflight.getD b none = some slot then none else s.board.inflight.getD b none := by
  rw [completeSlot_board]
  exact List.getD_map _ none (fun e => if e = some slot then none else e)

/-! The bytes of a completion: 24 of result fields from 60h of the slot, and the result code at 78h. -/

theorem memRead_completeSlot_outside (canonical : Memory.wf s.mem) {a : Nat}
    (outside : a < 128 * slot + 0x60 ∨ 128 * slot + 0x78 < a) :
    memRead (completeSlot slot code fields s).mem a = memRead s.mem a := by
  rw [completeSlot_mem]
  exact memRead_writeAll_outside _ _ _ _ canonical (by simp; omega)

theorem memRead_completeSlot_code (canonical : Memory.wf s.mem) :
    memRead (completeSlot slot code fields s).mem (128 * slot + 0x78) = resultByte code := by
  rw [completeSlot_mem]
  have last := memRead_writeAll_inside (padTo 24 fields ++ [resultByte code]) s.mem (128 * slot + 0x60) 24 canonical (by simp)
  rwa [List.getD_append_right _ _ _ _ (by simp), padTo_length] at last

theorem memRead_completeSlot_field (canonical : Memory.wf s.mem) {i : Nat} (inside : i < 24) :
    memRead (completeSlot slot code fields s).mem (128 * slot + 0x60 + i) = (padTo 24 fields).getD i 0 := by
  rw [completeSlot_mem, memRead_writeAll_inside _ _ _ _ canonical (by simp; omega), List.getD_append _ _ _ _ (by simpa)]

end

/-- Settles O12: each clause is one lemma about `completeSlot`. -/
theorem completionWritesTheSlotAndServesTheNotice : Obligations.CompletionWritesTheSlotAndServesTheNotice := by
  intro s slot code fields inTable slots marks canonical fits t
  obtain ⟨noticeStands, noticeClear⟩ := noticeServed_completeSlot (s := s) (slot := slot) (code := code) (fields := fields)
  refine ⟨⟨?state, ?mark, ?unlisted⟩, fun n apart => ⟨?stateOther, ?markOther, ?listedOther⟩, fun i inside => ?field,
    fun i inside padding => ?padding, memRead_completeSlot_code canonical, resultByte_toNat code,
    fun a outside => memRead_completeSlot_outside canonical outside, inflight_completeSlot, completeSlot_unnoticed,
    noticeStands, noticeClear, ?boardFrame, completeSlot_frame⟩
  case state => exact slotAt_completeSlot_self (by omega)
  case mark => exact doneMark_completeSlot_self (by omega)
  case unlisted => exact fun listed => (mem_posting_completeSlot.mp listed).2 rfl
  case stateOther => exact slotAt_completeSlot_other apart
  case markOther => exact doneMark_completeSlot_other apart
  case listedOther => exact mem_posting_completeSlot.trans (and_iff_left apart)
  case field => exact (memRead_completeSlot_field canonical (by omega)).trans (padTo_getD_inside fits inside)
  case padding => exact (memRead_completeSlot_field canonical inside).trans (padTo_getD_padding inside padding)
  case boardFrame =>
    rw [show t.board = _ from completeSlot_board]
    exact ⟨rfl, rfl, rfl, rfl, rfl, rfl⟩

/-! ### WITHDRAWN (R178) -/

section
variable {s : State} {slot : Fin 64}

theorem exec_withdrawal_posted (posted : slotAt s slot = .posted) :
    exec (.withdrawal slot) s = .next (completeSlot slot .withdrawn [] (echoTag slot s)) := by
  show Host.Outcome.next (stateWordWrite slot 4 s) = _
  simp [stateWordWrite, posted, finish]

theorem exec_withdrawal_taken (taken : slotAt s slot = .taken) : exec (.withdrawal slot) s = .next s := by
  show Host.Outcome.next (stateWordWrite slot 4 s) = _
  simp [stateWordWrite, taken]

end

section
variable {s : State} (slot : Nat)

theorem echoTag_mem_wf (canonical : Memory.wf s.mem) : Memory.wf (echoTag slot s).mem := memWriteAll_wf _ _ _ canonical

theorem memRead_echoTag_tag (canonical : Memory.wf s.mem) {i : Nat} (inside : i < 2) :
    memRead (echoTag slot s).mem (128 * slot + 0x7A + i) = memRead s.mem (128 * slot + 0x58 + i) :=
  (memRead_writeAll_inside _ _ _ _ canonical (by simpa using inside)).trans (memReadAll_getD _ _ inside)

theorem memRead_echoTag_outside (canonical : Memory.wf s.mem) {a : Nat} (low : a ≠ 128 * slot + 0x7A)
    (high : a ≠ 128 * slot + 0x7B) : memRead (echoTag slot s).mem a = memRead s.mem a :=
  memRead_writeAll_outside _ _ _ _ canonical (by simp [slotBase]; omega)

end

/-- Settles O15: a posted slot is completed once its tag is echoed, behind the bytes that the completion writes. The clause on other
bytes elaborates its `a` in `Fin 64`, below every slot's echoed tag; `memRead_echoTag_outside` says it of every offset. -/
theorem withdrawalMeetsThePostedOrTheTakenSlot : Obligations.WithdrawalMeetsThePostedOrTheTakenSlot := by
  intro s slot slots marks canonical
  refine ⟨fun posted => ⟨echoTag slot s, exec_withdrawal_posted posted, ?done, ?unlisted, fun i inside => ?echoed, ?unhanded, ?counted,
    fun a _ _ => ?bytes, rfl⟩, exec_withdrawal_taken⟩
  case done => exact slotAt_completeSlot_self (slots.symm ▸ slot.isLt)
  case unlisted => exact fun listed => (mem_posting_completeSlot.mp listed).2 rfl
  case echoed =>
    rw [memRead_completeSlot_outside (echoTag_mem_wf slot canonical) (by omega)]
    exact memRead_echoTag_tag slot canonical inside
  case bytes => exact memRead_echoTag_outside slot canonical (by omega) (by omega)
  case unhanded => exact completeSlot_handed
  case counted => exact completeSlot_unnoticed

end Sys2Proof.Machine
end

section
/-! The statistics (Chapter 11): what CLEAR_COUNTS answers and leaves (R188). -/

namespace Sys2Proof.Machine

/-! ### CLEAR_COUNTS (R188) -/

section
variable {s : State}

/-- An empty sparse store holds every counter at its default, 0. -/
theorem statAt_eq_zero_of_stats_nil (cleared : s.stats = []) (off : Nat) : statAt s off = 0 := by
  rw [statAt, cleared, sparseGet]

@[simp] theorem nowOf_taken (r : Request) : nowOf (taken r s) = nowOf s := rfl

theorem exec_clearCounts {r : Request} (handed : Handed .clearCounts r s) :
    exec .clearCounts s = .next (completeSlot r.slot .ok (leBytes 6 (nowOf s)) { taken r s with stats := [] }) := by
  show Host.Outcome.next (withRequest .clearCounts (fun r => clearCountsOp r) s) = _
  rw [withRequest_handed handed, clearCountsOp, nowOf_taken]

end

/-- Settles O21: the state completed is the one whose request is taken, with the statistics emptied; its run time is still the one
before the clear, and an emptied store reads 0 at every offset. -/
theorem clearCountsZeroesTheStatistics : Obligations.ClearCountsZeroesTheStatistics := by
  intro s r handed
  exact ⟨{ taken r s with stats := [] }, exec_clearCounts handed, statAt_eq_zero_of_stats_nil rfl, rfl⟩

end Sys2Proof.Machine
end

section
/-! What every step keeps, said once for five laws: the tables keep their lengths, the stores their canonical form, the work slots
their marks (R175), the printer queues their order (R112) and the attention count its meaning (R181). -/

namespace Sys2Proof.Machine

/-- A table updated at a place keeps its length. -/
theorem updAt_lengthKept {α : Type} {l : List α} {i n : Nat} {f : α → α} (length : l.length = n) : (updAt l i f).length = n :=
  (updAt_length ..).trans length

/-- R175's law, as a property of the board unit's record alone (`boardLaw_iff`). -/
def BoardMarks (b : Board) : Prop :=
  b.slots.length = 64 ∧ b.doneMark.length = 64 ∧ (∀ n < 64, n ∈ b.posting ↔ b.slots.getD n .free = .posted) ∧
    (∀ n < 64, b.doneMark.getD n false = true ↔ b.slots.getD n .free = .done) ∧ b.posting.Nodup

theorem boardLaw_iff {s : State} : BoardLaw s ↔ BoardMarks s.board :=
  ⟨fun ⟨slots, marks, posted, done, once⟩ => ⟨slots, marks, posted, done, once⟩,
    fun ⟨slots, marks, posted, done, once⟩ => ⟨slots, marks, posted, done, once⟩⟩

/-- From `s` to `t` every table keeps its length, every store its canonical form, and the laws of the board, of the queues and of
the attention count are kept. A state that differs from another in other fields alone keeps all of them by `refl`, so an update
says only what it must show. -/
structure Keeps (s t : State) : Prop where
  slots : s.board.slots.length = 64 → t.board.slots.length = 64
  doneMark : s.board.doneMark.length = 64 → t.board.doneMark.length = 64
  inflight : s.board.inflight.length = 24 → t.board.inflight.length = 24
  shows : s.showUnit.shows.length = 48 → t.showUnit.shows.length = 48
  prices : s.showUnit.prices.length = 16 → t.showUnit.prices.length = 16
  kinds : s.showUnit.kinds.length = 16 → t.showUnit.kinds.length = 16
  baskets : s.basketUnit.baskets.length = 24 → t.basketUnit.baskets.length = 24
  lines : s.lines.length = 12 → t.lines.length = 12
  records : (∀ x ∈ s.lines, x.records.length = 4) → ∀ x ∈ t.lines, x.records.length = 4
  printers : s.print.printers.length = 12 → t.print.printers.length = 12
  templates : s.print.templates.length = 32 → t.print.templates.length = 32
  receivers : s.voucherUnit.receivers.length = 4 → t.voucherUnit.receivers.length = 4
  kiosks : s.station.kiosks.length = 12 → t.station.kiosks.length = 12
  senses : (∀ x ∈ s.station.kiosks, x.senses.length = 4) → ∀ x ∈ t.station.kiosks, x.senses.length = 4
  counters : s.station.counters.length = 4 → t.station.counters.length = 4
  kioskBindings : s.station.kioskBindings.length = 9 → t.station.kioskBindings.length = 9
  counterBindings : s.station.counterBindings.length = 8 → t.station.counterBindings.length = 8
  generators : s.station.generators.length = 8 → t.station.generators.length = 8
  mem : Memory.wf s.mem → Memory.wf t.mem
  seats : sparseWf Seat.spare s.seats → sparseWf Seat.spare t.seats
  entries : sparseWf Voucher.empty s.voucherUnit.entries → sparseWf Voucher.empty t.voucherUnit.entries
  heads : sparseWf (none : Option Nat) s.voucherUnit.heads → sparseWf (none : Option Nat) t.voucherUnit.heads
  sales : sparseWf Sale.empty s.salesUnit.sales → sparseWf Sale.empty t.salesUnit.sales
  stats : sparseWf (0 : Nat) s.stats → sparseWf (0 : Nat) t.stats
  board : BoardMarks s.board → BoardMarks t.board
  queues : (∀ q ∈ s.print.printers, QueueLaw q) → ∀ q ∈ t.print.printers, QueueLaw q
  attention : s.station.kiosks.length = 12 → s.station.counters.length = 4 → AttentionLaw s → AttentionLaw t

namespace Keeps

variable {s t u : State}

@[refl] theorem refl (s : State) : Keeps s s := ⟨id, id, id, id, id, id, id, id, id, id, id, id, id, id, id, id, id, id, id, id, id, id, id, id, id, id, fun _ _ => id⟩

theorem trans (h : Keeps s t) (g : Keeps t u) : Keeps s u where
  slots := g.slots ∘ h.slots
  doneMark := g.doneMark ∘ h.doneMark
  inflight := g.inflight ∘ h.inflight
  shows := g.shows ∘ h.shows
  prices := g.prices ∘ h.prices
  kinds := g.kinds ∘ h.kinds
  baskets := g.baskets ∘ h.baskets
  lines := g.lines ∘ h.lines
  records := g.records ∘ h.records
  printers := g.printers ∘ h.printers
  templates := g.templates ∘ h.templates
  receivers := g.receivers ∘ h.receivers
  kiosks := g.kiosks ∘ h.kiosks
  senses := g.senses ∘ h.senses
  counters := g.counters ∘ h.counters
  kioskBindings := g.kioskBindings ∘ h.kioskBindings
  counterBindings := g.counterBindings ∘ h.counterBindings
  generators := g.generators ∘ h.generators
  mem := g.mem ∘ h.mem
  seats := g.seats ∘ h.seats
  entries := g.entries ∘ h.entries
  heads := g.heads ∘ h.heads
  sales := g.sales ∘ h.sales
  stats := g.stats ∘ h.stats
  board := g.board ∘ h.board
  queues := g.queues ∘ h.queues
  attention kiosks counters law := g.attention (h.kiosks kiosks) (h.counters counters) (h.attention kiosks counters law)

theorem shaped (h : Keeps s t) (w : Shaped s) : Shaped t where
  slots := h.slots w.slots
  doneMark := h.doneMark w.doneMark
  inflight := h.inflight w.inflight
  shows := h.shows w.shows
  prices := h.prices w.prices
  kinds := h.kinds w.kinds
  baskets := h.baskets w.baskets
  lines := h.lines w.lines
  records := h.records w.records
  printers := h.printers w.printers
  templates := h.templates w.templates
  receivers := h.receivers w.receivers
  kiosks := h.kiosks w.kiosks
  senses := h.senses w.senses
  counters := h.counters w.counters
  kioskBindings := h.kioskBindings w.kioskBindings
  counterBindings := h.counterBindings w.counterBindings
  generators := h.generators w.generators

theorem canonical (h : Keeps s t) (w : Canonical s) : Canonical t where
  mem := h.mem w.mem
  seats := h.seats w.seats
  entries := h.entries w.entries
  heads := h.heads w.heads
  sales := h.sales w.sales
  stats := h.stats w.stats

/-! ### Records updated -/

variable (h : Keeps s t)
include h

theorem setBasket {b : Nat} {f : Basket → Basket} : Keeps s (setBasket b f t) := h.trans { refl t with baskets := updAt_lengthKept }
theorem updBasket {b : Nat} {f : Basket → Basket} : Keeps s (updBasket b f t) := h.setBasket
theorem setShow {n : Nat} {f : ShowRec → ShowRec} : Keeps s (setShow n f t) := h.trans { refl t with shows := updAt_lengthKept }
theorem updShow {n : Nat} {f : ShowRec → ShowRec} : Keeps s (updShow n f t) := h.setShow

omit h in
/-- A count over a table is kept by an update that keeps what is counted. -/
theorem filter_length_updAt {α : Type} (p : α → Bool) (l : List α) (i : Nat) (f : α → α) (same : ∀ x, p (f x) = p x) :
    ((updAt l i f).filter p).length = (l.filter p).length := by
  rw [← List.countP_eq_length_filter, ← List.countP_eq_length_filter, updAt]
  split
  · next x found =>
    obtain ⟨inside, rfl⟩ := List.getElem?_eq_some_iff.mp found
    rw [List.countP_set inside, same]
    have : (if p l[i] = true then 1 else 0) ≤ List.countP p l := by
      split
      · exact List.countP_pos_iff.mpr ⟨_, List.getElem_mem inside, ‹_›⟩
      · exact Nat.zero_le _
    omega
  · rfl

/-- A kiosk cell updated, its factor set and mask left. -/
theorem updKiosk {k : Nat} {f : Kiosk → Kiosk} 
    (same : ∀ c, (f c).senses.length = c.senses.length ∧ draws (f c).factors (f c).mask = draws c.factors c.mask) :
    Keeps s (updKiosk k f t) := h.trans { refl t with
  kiosks := updAt_lengthKept
  senses := fun w x hx => by
    rcases mem_updAt hx with hx | ⟨y, hy, rfl⟩
    · exact w x hx
    · exact (same y).1.trans (w y hy)
  attention := fun _ _ law => by
    refine law.trans ?_
    simp only [drawingCells, Machine.updKiosk]
    rw [filter_length_updAt _ _ _ _ (fun c => (same c).2)]
    rfl }

theorem updCounter {m : Nat} {f : Counter → Counter}
    (factors : ∀ c, draws (f c).factors (f c).mask = draws c.factors c.mask) :
    Keeps s (updCounter m f t) := h.trans { refl t with
  counters := updAt_lengthKept
  attention := fun _ _ law => by
    refine law.trans ?_
    simp only [drawingCells, Machine.updCounter]
    rw [filter_length_updAt _ _ _ _ (fun c => factors c)]
    rfl }

theorem updFoyer {f : Foyer → Foyer}
    (factors : ∀ c, draws (f c).factors (f c).mask = draws c.factors c.mask) :
    Keeps s (updFoyer f t) := h.trans { refl t with
  attention := fun _ _ law => law.trans (by simp only [drawingCells, Machine.updFoyer, factors]) }

theorem setReceiving {n : Nat} {f : Line → Line} (records : ∀ x, (f x).records.length = x.records.length) :
    Keeps s (setReceiving n f t) := h.trans { refl t with
  lines := updAt_lengthKept
  records := fun w x hx => by
    rcases mem_updAt hx with hx | ⟨y, hy, rfl⟩
    · exact w x hx
    · exact (records y).trans (w y hy) }

theorem updLine {n : Nat} {f : Line → Line} (records : ∀ x, (f x).records.length = x.records.length) :
    Keeps s (updLine n f t) := (h.setReceiving records).updKiosk (by intros; exact ⟨rfl, rfl⟩)

theorem setPrinter {p : Nat} {f : Printer → Printer} (law : QueueLaw (printerAt t p) → QueueLaw (f (printerAt t p))) :
    Keeps s (setPrinter p f t) := h.trans { refl t with
  printers := updAt_lengthKept
  queues := fun w q hq => by
    simp only [Machine.setPrinter, updAt] at hq
    split at hq
    · next x found =>
      rcases List.mem_or_eq_of_mem_set hq with hq | rfl
      · exact w q hq
      · have : printerAt t p = x := by rw [printerAt, List.getD_eq_getElem?_getD, found]; rfl
        rw [← this]
        exact law (this ▸ w x (List.mem_of_getElem? found))
    · exact w q hq }

theorem updPrinter {p : Nat} {f : Printer → Printer} (law : QueueLaw (printerAt t p) → QueueLaw (f (printerAt t p))) :
    Keeps s (updPrinter p f t) := (h.setPrinter law).updKiosk (by intros; exact ⟨rfl, rfl⟩)

theorem updQueue {p : Nat} {f : Printer → Printer} (law : QueueLaw (printerAt t p) → QueueLaw (f (printerAt t p))) :
    Keeps s (updQueue p f t) := h.setPrinter law

theorem setSeat {cell : Nat} {v : Seat} : Keeps s (setSeat cell v t) := h.trans { refl t with seats := sparsePut_wf _ _ _ _ }
theorem setVoucher {i : Nat} {v : Voucher} : Keeps s (setVoucher i v t) := h.trans { refl t with entries := sparsePut_wf _ _ _ _ }
theorem setHead {i : Nat} {v : Option Nat} : Keeps s (setHead i v t) := h.trans { refl t with heads := sparsePut_wf _ _ _ _ }
theorem setSale {p : Nat} {v : Sale} : Keeps s (setSale p v t) := h.trans { refl t with sales := sparsePut_wf _ _ _ _ }
theorem setReceiver {m : Nat} {f : Receiver → Receiver} : Keeps s (setReceiver m f t) := h.trans { refl t with receivers := updAt_lengthKept }
theorem updGenerator {n : Nat} {f : Generator → Generator} : Keeps s (updGenerator n f t) := h.trans { refl t with generators := updAt_lengthKept }
theorem updVoucher {i : Nat} {f : Voucher → Voucher} : Keeps s (updVoucher i f t) := h.setVoucher
theorem addStat {off n : Nat} : Keeps s (addStat off n t) := h.trans { refl t with stats := sparsePut_wf _ _ _ _ }
theorem emit {o : Output} : Keeps s (emit o t) := h.trans (by exact { refl _ with })
theorem waitFor {r : Resource} {e : WaitEvent} : Keeps s (waitFor r e t) := h.trans (by exact { refl _ with })

omit h in
theorem overForEach {l : List Nat} {f : Nat → State → State} (h : Keeps s t) (each : ∀ n u, Keeps u (f n u)) : Keeps s (forEach l f t) :=
  forEach_induct (p := Keeps s) (fun n u g => g.trans (each n u)) l h

end Keeps
end Sys2Proof.Machine
end

section
/-! The factors of a station cell and the attention count (R157 to R159, R181), and the completion of a slot (R179), in what they keep. -/

namespace Sys2Proof.Machine

/-- One entry of a table replaced: the count of a property moves by what it says of the old entry and of the new one. -/
theorem filter_length_updAt_add {α : Type} (p : α → Bool) (l : List α) (i : Nat) (f : α → α) (d : α) (inside : i < l.length) :
    ((updAt l i f).filter p).length + (p (l.getD i d)).toNat = (l.filter p).length + (p (f (l.getD i d))).toNat := by
  have found : l[i]? = some l[i] := List.getElem?_eq_getElem inside
  have old : (p l[i]).toNat ≤ List.countP p l := by
    cases h : p l[i]
    · exact Nat.zero_le _
    · exact List.countP_pos_iff.mpr ⟨_, List.getElem_mem inside, h⟩
  rw [← List.countP_eq_length_filter, ← List.countP_eq_length_filter, updAt, List.getD_eq_getElem?_getD, found]
  simp only [Option.getD_some]
  rw [List.countP_set inside]
  cases h : p l[i] <;> cases g : p (f l[i]) <;> simp only [h, Bool.toNat_true, Bool.toNat_false] at old ⊢ <;> simp <;> omega

theorem drawingCells_eq (s : State) : drawingCells s = (s.station.kiosks.filter (fun c => draws c.factors c.mask)).length
    + (s.station.counters.filter (fun c => draws c.factors c.mask)).length
    + (draws s.station.foyer.factors s.station.foyer.mask).toNat := by
  unfold drawingCells
  cases draws s.station.foyer.factors s.station.foyer.mask <;> rfl

theorem drawingCells_updKiosk {k : Nat} {f : Kiosk → Kiosk} {s : State} (inside : k < s.station.kiosks.length) :
    drawingCells (updKiosk k f s) + (draws (kioskAt s k).factors (kioskAt s k).mask).toNat
      = drawingCells s + (draws (f (kioskAt s k)).factors (f (kioskAt s k)).mask).toNat := by
  have one := filter_length_updAt_add (fun c : Kiosk => draws c.factors c.mask) s.station.kiosks k
    (fun c => { f c with changes := bump c.changes }) (.atLevels []) inside
  simp only [drawingCells_eq, updKiosk, kioskAt] at one ⊢
  omega

/-- One cell's factor set and mask replaced: the cells that draw attention are one fewer if it drew, one more if it draws now. -/
theorem drawingCells_setFactors (cell : CellId) (factors mask : FactorSet) {s : State} (kiosks : s.station.kiosks.length = 12)
    (counters : s.station.counters.length = 4) :
    drawingCells (setFactors cell factors mask s) + (draws (factorsOf s cell) (maskOf s cell)).toNat
      = drawingCells s + (draws factors mask).toNat := by
  cases cell with
  | kiosk k => exact drawingCells_updKiosk (by omega)
  | counter m =>
    have one := filter_length_updAt_add (fun c : Counter => draws c.factors c.mask) s.station.counters m
      (fun c => { c with factors := factors, mask := mask, changes := bump c.changes }) .initial (by omega)
    simp only [drawingCells_eq, setFactors, updCounter, factorsOf, maskOf, counterAt] at one ⊢
    omega
  | foyer =>
    simp only [drawingCells_eq, setFactors, updFoyer, factorsOf, maskOf]
    omega

theorem drawingCells_pos {s : State} {cell : CellId} (kiosks : s.station.kiosks.length = 12)
    (counters : s.station.counters.length = 4) (drawn : draws (factorsOf s cell) (maskOf s cell) = true) : 0 < drawingCells s := by
  have cleared := drawingCells_setFactors cell 0 0 kiosks counters
  have quiet : draws 0 0 = false := rfl
  rw [drawn, quiet] at cleared
  simp only [Bool.toNat_true, Bool.toNat_false] at cleared
  omega

theorem draws_or (a b mask : FactorSet) : draws (a ||| b) mask = (draws a mask || draws b mask) := by
  have distrib : (a ||| b) &&& ~~~mask = (a &&& ~~~mask) ||| (b &&& ~~~mask) := by ext i; simp [Bool.and_or_distrib_right]
  rw [Bool.eq_iff_iff, Bool.or_eq_true]
  simp only [draws, distrib, bne_iff_ne, ne_eq]
  have : a &&& ~~~mask ||| b &&& ~~~mask = 0 ↔ a &&& ~~~mask = 0 ∧ b &&& ~~~mask = 0 := BitVec.or_eq_zero_iff
  tauto

theorem sendInterrupt_board (s : State) : (sendInterrupt s).board = s.board := by
  unfold sendInterrupt; split <;> rfl

theorem raiseFactor_attention (cell : CellId) (f : FactorSet) (s : State) : (raiseFactor cell f s).board.attention =
    s.board.attention + (draws f (maskOf s cell) && !draws (factorsOf s cell) (maskOf s cell)).toNat := by
  have board : ∀ a b, (setFactors cell a b s).board = s.board := fun a b => by rw [setFactors_frame]
  simp only [raiseFactor]
  cases draws f (maskOf s cell) <;> cases draws (factorsOf s cell) (maskOf s cell) <;>
    simp [sendInterrupt_board, board]

/-- The board unit told of a cell: the attention count moves, and a message may go out. -/
theorem reportAttention_eq (before after : Bool) (s : State) : reportAttention before after s =
    { s with
      board := { s.board with attention := s.board.attention + (!before && after).toNat - (before && !after).toNat }
      wire := (reportAttention before after s).wire } := by
  cases before <;> cases after <;> simp only [reportAttention, attentionBegins, attentionCeases, sendInterrupt, factorsCause] <;>
    (repeat' split) <;> simp_all [Machine.emit]

namespace Keeps

variable {s t u : State} (h : Keeps s t)
include h

/-! ### The notice, the factors, the completion -/

theorem sendInterrupt : Keeps s (sendInterrupt t) := by
  unfold Machine.sendInterrupt
  split
  exacts [h.emit, h]

theorem setCompletions : Keeps s (setCompletions t) := (h.trans (by exact { refl _ with }) : Keeps s { t with board := _ }).sendInterrupt

theorem serveNotice : Keeps s (serveNotice t) := by
  have counted : Keeps s { t with board := { t.board with unnoticed := satCount t.board.unnoticed } } := h.trans (by exact { refl _ with })
  simp only [Machine.serveNotice]
  repeat' split
  exacts [counted, counted.setCompletions, counted.setCompletions, counted.trans (by exact { refl _ with }), counted]

omit h in
theorem setFactors_shape (cell : CellId) (factors mask : FactorSet) (t : State) :
    (t.station.kiosks.length = 12 → (setFactors cell factors mask t).station.kiosks.length = 12) ∧
    (t.station.counters.length = 4 → (setFactors cell factors mask t).station.counters.length = 4) ∧
    ((∀ x ∈ t.station.kiosks, x.senses.length = 4) → ∀ x ∈ (setFactors cell factors mask t).station.kiosks, x.senses.length = 4) := by
  cases cell with
  | kiosk k =>
    refine ⟨updAt_lengthKept, id, fun w x hx => ?_⟩
    rcases mem_updAt hx with hx | ⟨y, hy, rfl⟩
    exacts [w x hx, w y hy]
  | counter m => exact ⟨id, updAt_lengthKept, id⟩
  | foyer => exact ⟨id, id, id⟩

/-- A cell's factor set and mask replaced, and the attention count moved as the cell begins or ceases to draw. -/
theorem withFactors (cell : CellId) (factors mask : FactorSet) (attention : Nat)
    (moved : t.board.attention = drawingCells t → t.station.kiosks.length = 12 → t.station.counters.length = 4 →
      attention = drawingCells (setFactors cell factors mask t)) :
    Keeps s { setFactors cell factors mask t with board := { t.board with attention := attention } } := by
  obtain ⟨kiosks, counters, senses⟩ := setFactors_shape cell factors mask t
  refine h.trans ?_
  rw [setFactors_frame]
  cases cell <;> exact { refl t with kiosks, counters, senses, attention := fun k c law => moved law k c }

theorem raiseFactor {cell : CellId} {f : FactorSet} : Keeps s (raiseFactor cell f t) := by
  rw [raiseFactor_eq, raiseFactor_attention]
  refine (h.withFactors cell (factorsOf t cell ||| f) (maskOf t cell) _ fun law k c => ?_).trans (by exact { refl _ with })
  have count := drawingCells_setFactors cell (factorsOf t cell ||| f) (maskOf t cell) k c
  rw [draws_or] at count
  cases new : draws f (maskOf t cell) <;> cases drawn : draws (factorsOf t cell) (maskOf t cell) <;>
    simp [new, drawn] at count ⊢ <;> omega

/-- A cell's factors and mask replaced, and the board unit told of it. -/
theorem reportedFactors {cell : CellId} {factors mask : FactorSet} :
    Keeps s (reportAttention (draws (factorsOf t cell) (maskOf t cell)) (draws factors mask) (setFactors cell factors mask t)) := by
  have board : (setFactors cell factors mask t).board = t.board := by rw [setFactors_frame]
  rw [reportAttention_eq, board]
  refine (h.withFactors cell factors mask _ fun law k c => ?_).trans (by exact { refl _ with })
  have count := drawingCells_setFactors cell factors mask k c
  have drawing := drawingCells_pos (cell := cell) k c
  cases new : draws factors mask <;> cases drawn : draws (factorsOf t cell) (maskOf t cell) <;>
    simp [new, drawn] at count drawing ⊢ <;> omega

theorem writeMask {cell : CellId} {value : FactorSet} : Keeps s (writeMask cell value t) := h.reportedFactors
theorem acknowledge {cell : CellId} {value : FactorSet} : Keeps s (acknowledge cell value t) := h.reportedFactors

/-- A slot completed, also where the decoder has just taken it off the posting list. -/
theorem completedFrom {slot : Nat} {code : ResultCode} {fields : List Byte} {mem : List Host.Cell} {posting : List Nat}
    (wf : Memory.wf t.mem → Memory.wf mem) (others : ∀ n, n ≠ slot → (n ∈ posting ↔ n ∈ t.board.posting))
    (sub : posting.Sublist t.board.posting) :
    Keeps s (Machine.completeSlot slot code fields { t with mem := mem, board := { t.board with posting := posting } }) := by
  refine Keeps.serveNotice (h.trans { refl t with
    slots := List.length_set.trans, doneMark := List.length_set.trans, inflight := (List.length_map _).trans,
    mem := fun w => memWriteAll_wf _ _ _ (wf w), board := ?_ })
  rintro ⟨slots, marks, posted, done, once⟩
  refine ⟨by simpa, by simpa, fun n inside => ?_, fun n inside => ?_, (once.sublist sub).filter _⟩
  · by_cases same : n = slot
    · subst same; simp [slots, inside]
    · simpa [same, List.getElem?_set_ne (Ne.symm same), others] using posted n inside
  · by_cases same : n = slot
    · subst same; simp [slots, marks, inside]
    · simpa [same, List.getElem?_set_ne (Ne.symm same)] using done n inside

theorem completeSlot {slot : Nat} {code : ResultCode} {fields : List Byte} : Keeps s (completeSlot slot code fields t) :=
  h.completedFrom id (fun _ _ => Iff.rfl) (List.Sublist.refl _)

theorem finish {slot : Nat} {code : ResultCode} : Keeps s (finish slot code t) := h.completeSlot
end Keeps
end Sys2Proof.Machine
end

section
/-! What the events of the station, the seat, the voucher, the sales and the payment unit keep. -/

namespace Sys2Proof.Machine
namespace Keeps
variable {s t u : State} (h : Keeps s t)
include h

/-! ### Waiting, and steps made on a condition -/

theorem maybe {c : Prop} [Decidable c] (made : Keeps t u) : Keeps s (if c then u else t) := by
  split
  exacts [h.trans made, h]

theorem withRequest {k : RequestKind} {f : Request → State → State} (each : ∀ r u, Keeps u (f r u)) :
    Keeps s (withRequest k f t) := by
  unfold Machine.withRequest
  split
  · split
    · exact (h.trans (by exact { refl _ with })).trans (each _ _)
    · exact h
  · exact h

theorem whenFree {r : Resource} {e : WaitEvent} {f : State → State} (free : Keeps s (f t)) : Keeps s (whenFree r e f t) := by
  unfold Machine.whenFree
  split
  exacts [h.waitFor, free]

theorem basketRequest {r : Request} {f : State → State} (free : Keeps s (f t)) : Keeps s (basketRequest r f t) := h.whenFree free

/-! ### The station unit -/

theorem refreshKiosk {k : Nat} : Keeps s (refreshKiosk k t) := h.updKiosk (by intros; exact ⟨rfl, rfl⟩)
theorem refreshKiosks : Keeps s (refreshKiosks t) := h.overForEach fun _ u => (refl u).refreshKiosk
theorem refreshCounter {m : Nat} : Keeps s (refreshCounter m t) := h.updCounter (by intros; rfl)
theorem setFreeCount {n : Nat} : Keeps s (setFreeCount n t) := by
  simp only [Machine.setFreeCount]
  split
  · exact (h.updFoyer (by intros; rfl)).maybe (refl _).raiseFactor
  · exact ((h.updFoyer (by intros; rfl)).maybe (refl _).raiseFactor).refreshKiosks
theorem updSense {k l : Nat} {f : Sense → Sense} : Keeps s (updSense k l f t) := h.updKiosk fun _ => ⟨updAt_length .., rfl⟩
theorem acceptEdge {k l : Nat} : Keeps s (acceptEdge k l t) :=
  (((h.updSense.maybe (refl _).raiseFactor).maybe ((refl _).updKiosk (by intros; exact ⟨rfl, rfl⟩))).maybe (by exact { refl _ with })).refreshKiosk
theorem senseChange {k l : Nat} {level : Bool} : Keeps s (senseChange k l level t) := by
  simp only [Machine.senseChange]
  repeat' split
  exacts [h, h.updSense.updSense, h.updSense.acceptEdge, h.updSense.updSense]
theorem senseFilterDue {k l : Nat} : Keeps s (senseFilterDue k l t) := by
  unfold Machine.senseFilterDue
  split
  exacts [h.acceptEdge, h]
theorem setSenseOp {r : Request} : Keeps s (setSenseOp r t) := by
  simp only [Machine.setSenseOp]
  repeat' split
  exacts [h.updSense.finish, h.updSense.acceptEdge.finish, h.updSense.updSense.finish, h.finish, h.finish]
theorem updLamp {l : LampId} {f : Lamp → Lamp} : Keeps s (updLamp l f t) := by
  unfold Machine.updLamp
  split
  exacts [h.updKiosk (by intros; exact ⟨rfl, rfl⟩), h.updKiosk (by intros; exact ⟨rfl, rfl⟩), h.updCounter (by intros; rfl), h.updCounter (by intros; rfl)]
theorem retakeLamp {l : LampId} : Keeps s (retakeLamp l t) := h.updLamp
theorem retakeWhere {shows : State → LampId → Bool} {lamps : List LampId} : Keeps s (retakeWhere shows lamps t) := by
  unfold Machine.retakeWhere
  induction lamps generalizing t with
  | nil => exact h
  | cons l rest ih => exact ih (h.maybe (refl _).retakeLamp)
theorem setBindingOp {r : Request} : Keeps s (setBindingOp r t) := by
  simp only [Machine.setBindingOp]
  repeat' split
  any_goals with_reducible exact h.finish
  · exact ((h.trans (by exact { refl t with kioskBindings := updAt_lengthKept })).retakeWhere).finish
  · exact ((h.trans (by exact { refl t with counterBindings := updAt_lengthKept })).retakeWhere).finish
  all_goals exact h.updLamp.retakeLamp.finish
theorem setLampOp {r : Request} : Keeps s (setLampOp r t) := by
  simp only [Machine.setLampOp]
  repeat' split
  any_goals with_reducible exact h.finish
  all_goals exact h.updLamp.retakeLamp.finish
theorem overrideExpires {l : LampId} : Keeps s (overrideExpires l t) := by
  unfold Machine.overrideExpires
  split
  exacts [h.updLamp.retakeLamp, h]
theorem setPatternOp {r : Request} : Keeps s (setPatternOp r t) := by
  simp only [Machine.setPatternOp]
  split
  exacts [h.updGenerator.finish, h.finish]
theorem patternStepOp {n : Nat} : Keeps s (patternStepOp n t) := by
  simp only [Machine.patternStepOp]
  repeat' split
  exacts [h.updGenerator, h, h]
theorem showAnswer {m : Nat} {a : Showing} : Keeps s (showAnswer m a t) := (h.updCounter (by intros; rfl)).refreshCounter
theorem answerExpires {m : Nat} : Keeps s (answerExpires m t) := by
  unfold Machine.answerExpires
  split
  exacts [(h.updCounter (by intros; rfl)).refreshCounter, h]

/-- R169: the cell ceases to draw, and its factor set is cleared. -/
theorem stationShare {k : Nat} (inside : k < 12) : Keeps s (stationShare k t) := by
  refine refreshKiosk (h.trans ?_)
  rw [reportAttention_eq]
  refine { refl t with kiosks := updAt_lengthKept, senses := fun w x hx => ?_, attention := fun kiosks counters law => ?_ }
  · rcases mem_updAt hx with hx | ⟨y, hy, rfl⟩
    exacts [w x hx, by simpa using w y hy]
  · have cell : ((Fin.ofNat 12 k : Fin 12) : Nat) = k := Nat.mod_eq_of_lt inside
    have count := drawingCells_updKiosk (s := t) (k := k) (f := fun c =>
      let senses := c.senses.map (fun x => { x with accepted := x.present, deadline := none })
      { c with
        factors := 0
        green := { c.green with override := none }
        red := { c.red with override := none }
        senses := senses
        service := (senses.getD 1 (.atLevel false)).accepted }) (by omega)
    have law : t.board.attention = drawingCells t := law
    have quiet : draws 0 (kioskAt t k).mask = false := by simp [draws]
    simp only [quiet, Bool.toNat_false] at count
    show t.board.attention + (_ && false).toNat - (_ && true).toNat = _
    simp only [kioskCell, factorsOf, maskOf, cell, Bool.and_false, Bool.and_true, Bool.toNat_false]
    exact Nat.sub_eq_of_eq_add (law.trans count.symm)

/-! ### The seat unit -/

theorem writeCell {cell : Nat} {st : SeatState} {owner : Option Nat} : Keeps s (writeCell cell st owner t) := h.setSeat
theorem writeCells {cells : List Nat} {st : SeatState} {owner : Option Nat} : Keeps s (writeCells cells st owner t) :=
  h.overForEach fun _ u => (refl u).writeCell
theorem cellEvent {sh : Nat} {cells : List Nat} {st : SeatState} {owner : Option Nat} {counts : ShowRec → ShowRec} :
    Keeps s (cellEvent sh cells st owner counts t) := by
  unfold Machine.cellEvent
  split
  exacts [h, h.writeCells.updShow]
theorem seatEvent {sh : Nat} {list : List Nat} {st : SeatState} {owner : Option Nat} {counts : ShowRec → ShowRec} :
    Keeps s (seatEvent sh list st owner counts t) := h.cellEvent
theorem holdCells {sh b : Nat} {list : List Nat} : Keeps s (holdCells sh b list t) := h.seatEvent
theorem releaseCells {sh : Nat} {list : List Nat} : Keeps s (releaseCells sh list t) := h.seatEvent
theorem sellCells {sh serial : Nat} {list : List Nat} : Keeps s (sellCells sh serial list t) := h.seatEvent
theorem freeSold {sh serial : Nat} : Keeps s (freeSold sh serial t).1 := h.cellEvent
theorem clearRange {sh : Nat} : Keeps s (clearRange sh t) := (h.trans (by exact { refl t with seats := sparse_filter_wf _ _ _ })).setShow
omit h in
theorem loadCells {cell : Nat} {map : List Byte} {t : State} (h : Keeps s t) : Keeps s (loadCells cell map t) := by
  induction map generalizing cell t with
  | nil => exact h
  | cons b rest ih => exact ih h.setSeat
theorem blockSeatsOp {r : Request} : Keeps s (blockSeatsOp r t) := by
  simp only [Machine.blockSeatsOp]
  repeat' split
  exacts [h.completeSlot, h.completeSlot, h.seatEvent.completeSlot]
theorem unblockSeatsOp {r : Request} : Keeps s (unblockSeatsOp r t) := by
  simp only [Machine.unblockSeatsOp]
  split
  · exact h.completeSlot
  · split
    exacts [h.completeSlot, h.seatEvent.completeSlot]

/-! ### The voucher unit -/

theorem bumpChain : Keeps s (bumpChain t) := h.trans (by exact { refl _ with })
theorem unlinkVoucher {i : Nat} : Keeps s (unlinkVoucher i t) := by
  simp only [Machine.unlinkVoucher]
  repeat' split
  exacts [h.setHead.setVoucher, h.updVoucher.setVoucher, h.setVoucher]
theorem removeVouchers {list : List Nat} : Keeps s (removeVouchers list t) := by
  unfold Machine.removeVouchers
  split
  exacts [h, (h.overForEach fun _ u => (refl u).unlinkVoucher).bumpChain]
theorem activateVouchers {serial : Nat} {list : List Nat} : Keeps s (activateVouchers serial list t) :=
  h.overForEach fun _ u => (refl u).updVoucher
theorem refundVouchers {serial : Nat} : Keeps s (refundVouchers serial t).1 := h.overForEach fun _ u => (refl u).updVoucher
theorem takeDay {day : Nat × Nat} : Keeps s (takeDay day t) := by
  unfold Machine.takeDay
  split
  exacts [h, h.trans (by exact { refl _ with })]
theorem dayChangeOp : Keeps s (dayChangeOp t) := by
  unfold Machine.dayChangeOp
  split
  exacts [h, (h.trans (by exact { refl _ with })).takeDay]
theorem issueVoucher {kind b sh : Nat} : Keeps s (issueVoucher kind b sh t).1 := by
  have day := h.takeDay (day := (t.showUnit.clock.now.year, t.showUnit.clock.now.day))
  simp only [Machine.issueVoucher]
  repeat' split
  exacts [day, day, day, day.trans (by exact { refl _ with }), day.setVoucher.setHead.bumpChain.trans (by exact { refl _ with })]
theorem voidVoucherOp {r : Request} : Keeps s (voidVoucherOp r t) := by
  simp only [Machine.voidVoucherOp]
  repeat' split
  exacts [h.finish, h.finish, h.finish, h.updVoucher.completeSlot, h.finish]
theorem counterAnswer {m : Nat} {chars : List Byte} {a : Showing} {kind : Option Nat} {first : Option (Nat × Instant)} :
    Keeps s (counterAnswer m chars a kind first t) := (h.updCounter (by intros; rfl)).raiseFactor.addStat.showAnswer
theorem validateCode {m : Nat} {chars : List Byte} : Keeps s (validateCode m chars t) := by
  simp only [Machine.validateCode]
  repeat' split
  any_goals with_reducible exact h.counterAnswer
  exact h.updVoucher.counterAnswer
theorem validationOp {m : Nat} : Keeps s (validationOp m t) := by
  simp only [Machine.validationOp]
  repeat' split
  exacts [h, h.setReceiver.validateCode, h.setReceiver]
theorem counterByteOp {m : Nat} {b : Byte} : Keeps s (counterByteOp m b t) := by
  simp only [Machine.counterByteOp]
  repeat' split
  exacts [h, h.setReceiver, h.setReceiver, h.setReceiver.counterAnswer, h.setReceiver, h.setReceiver.counterAnswer,
    h.setReceiver.setReceiver, h.setReceiver]
theorem counterFaultOp {m : Nat} {f : ByteFault} : Keeps s (counterFaultOp m f t) := by
  unfold Machine.counterFaultOp
  split
  exacts [h, h.addStat.setReceiver]
theorem counterGapOp {m : Nat} : Keeps s (counterGapOp m t) := h.setReceiver

/-! ### The sales unit -/

theorem updSale {serial : Nat} {f : Sale → Sale} : Keeps s (updSale serial f t) := by
  unfold Machine.updSale
  split
  exacts [h.setSale, h]
theorem reservePlace : Keeps s (reservePlace t) := h.trans (by exact { refl _ with })
theorem giveBackPlace : Keeps s (giveBackPlace t) := h.trans (by exact { refl _ with })
theorem createSale {c : Basket} {m : Method} : Keeps s (createSale c m t) := h.setSale.trans (by exact { refl _ with })
theorem finishSale {serial kiosk seats vouchers : Nat} : Keeps s (finishSale serial kiosk seats vouchers t) :=
  h.updSale.addStat.addStat
theorem raiseReprints {serial n : Nat} : Keeps s (raiseReprints serial n t) := by
  unfold Machine.raiseReprints
  repeat' split
  exacts [h.updSale, h, h]
theorem refundOp {r : Request} : Keeps s (refundOp r t) := by
  simp only [Machine.refundOp]
  split
  exacts [h.finish, h.updSale.trans (by exact { refl _ with })]
theorem refundTake {r : Request} : Keeps s (refundTake r t) := h.whenFree h.refundOp
theorem updRefund {serial : Nat} {f : Refund → Refund} : Keeps s (updRefund serial f t) := h.trans (by exact { refl _ with })
theorem refundFreeingOp {serial : Nat} : Keeps s (refundFreeingOp serial t) := by
  simp only [Machine.refundFreeingOp]
  repeat' split
  exacts [h, h, h.freeSold.updRefund]
theorem refundVoucherOp {serial : Nat} : Keeps s (refundVoucherOp serial t) := by
  simp only [Machine.refundVoucherOp]
  repeat' split
  exacts [h, h, h.refundVouchers.updRefund]
theorem refundWrite {serial : Nat} : Keeps s (refundWrite serial t) := by
  simp only [Machine.refundWrite]
  split
  · exact h
  · split
    · exact (h.updSale.trans (by exact { refl _ with })).completeSlot
    · exact h
theorem removeSales {sh : Nat} : Keeps s (removeSales sh t).1 := h.trans { refl t with sales := sparse_filter_wf _ _ _ }

/-! ### The payment unit -/

theorem updRecord {n i : Nat} {f : PayRecord → PayRecord} : Keeps s (updRecord n i f t) := h.updLine fun _ => updAt_length ..
theorem sendFrame {n : Nat} {f : Frame} : Keeps s (sendFrame n f t) := h.emit.updLine (by intros; rfl)
theorem sendPing {n : Nat} : Keeps s (sendPing n t) := h.emit
theorem strayFrame {n : Nat} : Keeps s (strayFrame n t) := h.addStat
theorem countOutcome {n : Nat} {o : PayOutcome} : Keeps s (countOutcome n o t) := by
  unfold Machine.countOutcome
  split
  exacts [h.addStat, h.addStat, h.addStat, h.addStat, h]
theorem handOver {outcomes : List OutcomeReport} :
    Keeps s { t with basketUnit := { t.basketUnit with outcomes := outcomes } } := h.trans (by exact { refl _ with })
theorem closeRecord {n i : Nat} {o : PayOutcome} {code : Option (List Byte)} {tail : Option Nat} {dest : LineState} :
    Keeps s (closeRecord n i o code tail dest t) :=
  ((((h.updRecord.updLine (by intros; rfl)).maybe (refl _).raiseFactor).countOutcome).handOver).overForEach fun _ u => (refl u).finish
theorem endReverse {n : Nat} {code : ResultCode} : Keeps s (endReverse n code t) := by
  unfold Machine.endReverse
  split
  exacts [(h.updLine (by intros; rfl)).finish, h]
theorem enterFault {n : Nat} {code : ResultCode} : Keeps s (enterFault n code t) := by
  simp only [Machine.enterFault]
  split
  exacts [h.closeRecord, (h.endReverse.updLine (by intros; rfl)).raiseFactor]
theorem resend {n : Nat} : Keeps s (resend n t) := by
  simp only [Machine.resend]
  repeat' split
  exacts [h, (h.emit.updLine (by intros; rfl)).addStat, h.enterFault]
theorem startAbort {n i : Nat} {cause : AbortCause} : Keeps s (startAbort n i cause t) := (h.updRecord.updLine (by intros; rfl)).sendFrame
theorem ackReceived {n : Nat} : Keeps s (ackReceived n t) := by
  simp only [Machine.ackReceived]
  repeat' split
  exacts [h, h.updLine (by intros; rfl), (h.updLine (by intros; rfl)).startAbort, (h.updLine (by intros; rfl)).updRecord, h.updLine (by intros; rfl)]
theorem lateOrStray {n tag : Nat} {v : Option Verdict} : Keeps s (lateOrStray n tag v t) := by
  simp only [Machine.lateOrStray]
  repeat' split
  exacts [h.strayFrame, (h.updLine (by intros; rfl)).raiseFactor, (h.updLine (by intros; rfl)).raiseFactor, h.strayFrame, h.strayFrame, h.strayFrame]
theorem resultFrame {n tag : Nat} {payload : List Byte} : Keeps s (resultFrame n tag payload t) := by
  unfold Machine.resultFrame
  repeat' split
  exacts [h.closeRecord, h.closeRecord, h.strayFrame, h.lateOrStray, h.lateOrStray]
theorem cardFrame {n tag : Nat} {kind : Byte} : Keeps s (cardFrame n tag kind t) := by
  unfold Machine.cardFrame
  repeat' split
  exacts [h.updRecord.raiseFactor, h.strayFrame, h.strayFrame]
theorem abortDoneFrame {n tag : Nat} : Keeps s (abortDoneFrame n tag t) := by
  simp only [Machine.abortDoneFrame]
  split
  · split
    exacts [h.closeRecord, h.strayFrame]
  · exact h.strayFrame
theorem reverseDoneFrame {n tag : Nat} {verdict : Byte} : Keeps s (reverseDoneFrame n tag verdict t) := by
  simp only [Machine.reverseDoneFrame]
  split
  · split
    exacts [(h.updLine (by intros; rfl)).finish, h.strayFrame]
  · exact h.strayFrame
theorem pongFrame {n : Nat} : Keeps s (pongFrame n t) := by
  simp only [Machine.pongFrame]
  repeat' split
  exacts [h.updLine (by intros; rfl), h.updLine (by intros; rfl), h.strayFrame]
theorem faultFrame {n : Nat} {code : Byte} : Keeps s (faultFrame n code t) := by
  simp only [Machine.faultFrame]
  split
  exacts [h.updLine (by intros; rfl), (h.updLine (by intros; rfl)).enterFault]
theorem frameTaken {n : Nat} {f : Frame} : Keeps s (frameTaken n f t) := by
  simp only [Machine.frameTaken]
  repeat' split
  exacts [h.cardFrame, h.resultFrame, h.abortDoneFrame, h.reverseDoneFrame, h.pongFrame, h.faultFrame, h.strayFrame]
theorem goodFrame {n : Nat} {f : Frame} : Keeps s (goodFrame n f t) := h.emit.frameTaken
theorem byteInside {n : Nat} {l : List Byte} : Keeps s (byteInside n l t) := by
  simp only [Machine.byteInside]
  repeat' split
  exacts [h, (h.setReceiving (by intros; rfl)).emit, h.setReceiving (by intros; rfl), (h.setReceiving (by intros; rfl)).goodFrame, (h.setReceiving (by intros; rfl)).emit]
theorem lineByte {n : Nat} {b : Byte} : Keeps s (lineByte n b t) := by
  simp only [Machine.lineByte]
  split
  · exact h.byteInside
  · repeat' split
    exacts [h.setReceiving (by intros; rfl), (h.setReceiving (by intros; rfl)).ackReceived, (h.setReceiving (by intros; rfl)).resend, h.setReceiving (by intros; rfl)]
omit h in
theorem lineBytes {n : Nat} {l : List Byte} {t : State} (h : Keeps s t) : Keeps s (lineBytes n l t) := by
  induction l generalizing t with
  | nil => exact h
  | cons b rest ih => exact ih h.lineByte
theorem bytesArrive {n : Nat} {l : List Byte} : Keeps s (bytesArrive n l t) := by
  unfold Machine.bytesArrive
  split
  exacts [h.lineBytes, h]
theorem frameArrives {n : Nat} {f : Frame} : Keeps s (frameArrives n f t) := by
  unfold Machine.frameArrives
  repeat' split
  exacts [h, (h.setReceiving (by intros; rfl)).goodFrame, h.lineBytes]
theorem lineFaultOp {n : Nat} {f : ByteFault} : Keeps s (lineFaultOp n f t) := by
  simp only [Machine.lineFaultOp]
  split
  · exact h
  · exact (h.updLine fun _ => by cases f <;> rfl).addStat
theorem lineGapOp {n : Nat} : Keeps s (lineGapOp n t) := by
  unfold Machine.lineGapOp
  split
  exacts [h.setReceiving (by intros; rfl), h]
theorem ackWaitOp {n : Nat} : Keeps s (ackWaitOp n t) := by
  unfold Machine.ackWaitOp
  repeat' split
  exacts [h.resend, h, h]
theorem pingTimerOp {n : Nat} : Keeps s (pingTimerOp n t) := by
  simp only [Machine.pingTimerOp]
  repeat' split
  exacts [(h.updLine (by intros; rfl)).sendPing, (h.updLine (by intros; rfl)).sendPing, h.enterFault.sendPing, h, h]
theorem authTimeoutOp {n : Nat} : Keeps s (authTimeoutOp n t) := by
  unfold Machine.authTimeoutOp
  repeat' split
  exacts [h.updLine (by intros; rfl), h.updRecord.updLine (by intros; rfl), h.startAbort, h]
theorem abortWaitOp {n : Nat} : Keeps s (abortWaitOp n t) := by
  unfold Machine.abortWaitOp
  repeat' split
  exacts [h.closeRecord, h.updLine (by intros; rfl), h]
theorem reverseWaitOp {n : Nat} : Keeps s (reverseWaitOp n t) := by
  unfold Machine.reverseWaitOp
  split
  exacts [h.enterFault, h]
theorem openPayment {n b amount : Nat} : Keeps s (openPayment n b amount t) := (h.updRecord.updLine (by intros; rfl)).sendFrame
theorem cancelPayOp {r : Request} : Keeps s (cancelPayOp r t) := by
  simp only [Machine.cancelPayOp]
  repeat' split
  any_goals with_reducible exact h.finish
  exacts [h.updRecord, h.updRecord.startAbort]
theorem reverseOp {r : Request} : Keeps s (reverseOp r t) := by
  simp only [Machine.reverseOp]
  repeat' split
  any_goals with_reducible exact h.finish
  exact (h.updLine (by intros; rfl)).sendFrame
theorem lineShare {k : Nat} : Keeps s (lineShare k t) := h.endReverse.updLine (by intros; rfl)
theorem resetStationOp {r : Request} : Keeps s (resetStationOp r t) := by
  simp only [Machine.resetStationOp]
  repeat' split
  exacts [h.finish, h.finish, h.lineShare.trans (by exact { refl _ with })]
end Keeps
end Sys2Proof.Machine
end

section
/-! The printer queues' law (R112) at each of its updates, and what the events of the print, the basket and the show unit keep. -/

namespace Sys2Proof.Machine

/-! ### Printer queues (R111, R112) -/

theorem placeItem_perm (x : Item) (l : List Item) : (placeItem x l).Perm (x :: l) := by
  induction l with
  | nil => exact .refl _
  | cons y rest ih =>
    unfold placeItem
    split
    · exact .refl _
    · exact (ih.cons y).trans (.swap x y rest)

/-- A QUEUED item never stands before one that is PRINTING or INCOMPLETE. -/
theorem queued_of_standsBefore {x y : Item} (queued : x.state = .queued) (first : standsBefore x y = true) : y.state = .queued := by
  by_contra active
  simp only [standsBefore, itemRank, queued, active, ne_eq, not_true_eq_false, not_false_eq_true, if_true, if_false] at first
  cases urgent : x.urgent <;> simp [urgent] at first

theorem placeItem_tail_queued {x : Item} {l : List Item} (queued : x.state = .queued) (rest : ∀ y ∈ l.tail, y.state = .queued) :
    ∀ y ∈ (placeItem x l).tail, y.state = .queued := by
  cases l with
  | nil => simp [placeItem]
  | cons z r =>
    unfold placeItem
    split
    · next first =>
      intro y hy
      rcases List.mem_cons.mp hy with rfl | hy
      exacts [queued_of_standsBefore queued first, rest y hy]
    · intro y hy
      rcases List.mem_cons.mp ((placeItem_perm x r).mem_iff.mp hy) with rfl | hy
      exacts [queued, rest y hy]

theorem queueLaw_joinQueue {q : Printer} {x : Item} (queued : x.state = .queued) (room : q.queue.length < 16) (law : QueueLaw q) :
    QueueLaw (joinQueue q x) :=
  ⟨by rw [joinQueue, (placeItem_perm _ _).length_eq]; exact room, placeItem_tail_queued queued law.2⟩

theorem joinQueue_length (q : Printer) (x : Item) : (joinQueue q x).queue.length = q.queue.length + 1 :=
  (placeItem_perm _ _).length_eq

theorem queueLaw_joinAll {items : List Item} {q : Printer} (queued : ∀ x ∈ items, x.state = .queued)
    (room : q.queue.length + items.length ≤ 16) (law : QueueLaw q) : QueueLaw (items.foldl joinQueue q) := by
  induction items generalizing q with
  | nil => exact law
  | cons x rest ih =>
    rw [List.length_cons] at room
    exact ih (fun y hy => queued y (List.mem_cons_of_mem _ hy)) (by rw [joinQueue_length]; omega)
      (queueLaw_joinQueue (queued x List.mem_cons_self) (by omega) law)

theorem requeued_queued (x : Item) : (requeued x).state = .queued := by
  unfold requeued
  split
  exacts [‹_›, rfl]

theorem queueLaw_requeueHead {q : Printer} (law : QueueLaw q) : QueueLaw (requeueHead q) := by
  obtain ⟨short, rest⟩ := law
  unfold requeueHead
  cases queue : q.queue with
  | nil => exact ⟨Nat.zero_le _, by simp⟩
  | cons x r =>
    rw [queue] at short rest
    simp only
    split
    · exact ⟨short, rest⟩
    · refine ⟨?_, placeItem_tail_queued (requeued_queued x) fun y hy => rest y (List.mem_of_mem_tail hy)⟩
      rw [(placeItem_perm _ _).length_eq]
      exact short

theorem queueLaw_interruptHead {q : Printer} (law : QueueLaw q) : QueueLaw (interruptHead q) := by
  obtain ⟨short, rest⟩ := law
  unfold interruptHead
  cases queue : q.queue with
  | nil => exact ⟨by simp, by simp⟩
  | cons x r =>
    rw [queue] at short rest
    simp only
    split
    · exact ⟨short, rest⟩
    · exact ⟨short, rest⟩

namespace Keeps
variable {s t u : State} (h : Keeps s t)
include h

/-! ### The print unit -/

theorem pullNow {p : Nat} : Keeps s (pullNow p t) := by
  unfold Machine.pullNow
  split
  · exact h
  · next b x choice =>
    have room : (printerAt t p).queue.length < 16 := by
      by_contra full
      rw [pullChoice, if_neg full] at choice
      cases choice
    exact (h.updQueue (queueLaw_joinQueue rfl room)).updBasket
theorem pullOp {p : Nat} : Keeps s (pullOp p t) := by
  unfold Machine.pullOp
  split
  exacts [h.whenFree h.pullNow, h]
theorem enterFinishing {p : Nat} : Keeps s (enterFinishing p t) := h.updPrinter (by exact id)
theorem startItem {p : Nat} : Keeps s (startItem p t) := by
  simp only [Machine.startItem]
  split
  · exact h
  · next x rest queue =>
    have started := fun bytes => h.updPrinter (p := p) (f := fun y => { y with
      state := .streaming, toSend := bytes, queue := { x with state := .printing } :: rest, queueChanges := bump y.queueChanges })
      fun law => by rw [QueueLaw, queue] at law; exact law
    split
    · split
      exacts [(started _).enterFinishing, started _]
    · exact h
theorem stallPrinter {p : Nat} {cause : StallCause} : Keeps s (stallPrinter p cause t) :=
  (h.updPrinter (by exact queueLaw_interruptHead)).raiseFactor.addStat
theorem losePrinter {p : Nat} : Keeps s (losePrinter p t) :=
  (h.updPrinter (by exact queueLaw_interruptHead)).raiseFactor
theorem reportPrinted {x : Item} : Keeps s (reportPrinted x t) := by
  unfold Machine.reportPrinted
  split
  exacts [h.updBasket, h.raiseReprints]
theorem countPrinted {p : Nat} {x : Item} : Keeps s (countPrinted p x t) := h.addStat.maybe (refl _).addStat
theorem removeHead {p : Nat} : Keeps s (removeHead p t) := by
  unfold Machine.removeHead
  split
  · exact h.updPrinter (by exact id)
  · next x rest queue =>
    refine ((h.updPrinter fun law => ?_).reportPrinted).countPrinted
    rw [QueueLaw, queue] at law
    exact ⟨Nat.le_of_succ_le law.1, fun y hy => law.2 y (List.mem_of_mem_tail hy)⟩
theorem completeItem {p : Nat} : Keeps s (completeItem p t) := h.removeHead.pullNow
theorem takeReady {p : Nat} {b : Byte} : Keeps s (takeReady p b t) := by
  unfold Machine.takeReady
  split
  exacts [h.stallPrinter, h.startItem]
theorem endAbsence {p : Nat} {b : Byte} : Keeps s (endAbsence p b t) := by
  unfold Machine.endAbsence
  repeat' split
  exacts [h.stallPrinter, h.updPrinter (by exact id), h]
theorem streamOn {p : Nat} : Keeps s (streamOn p t) := by
  unfold Machine.streamOn
  split
  exacts [h.enterFinishing, h]
theorem presentStatus {p : Nat} {b : Byte} : Keeps s (presentStatus p b t) := by
  unfold Machine.presentStatus
  repeat' split
  exacts [h, h.takeReady, h.stallPrinter, h.streamOn, h.completeItem.takeReady, h.stallPrinter, h, h]
theorem movePresent {p : Nat} {b : Byte} : Keeps s (movePresent p b t) := by
  simp only [Machine.movePresent]
  repeat' split
  exacts [h.waitFor, h.endAbsence.whenFree h.endAbsence.presentStatus, h.endAbsence.presentStatus]
theorem moveAbsent {p : Nat} : Keeps s (moveAbsent p t) := by
  simp only [Machine.moveAbsent]
  repeat' split
  exacts [h.whenFree h.losePrinter, h.losePrinter, h.streamOn, h]
theorem recordStatus {p : Nat} {b : Byte} : Keeps s (recordStatus p b t) := (h.updPrinter (by exact id)).maybe (refl _).raiseFactor
theorem takeStatus {p : Nat} {b : Byte} : Keeps s (takeStatus p b t) := by
  simp only [Machine.takeStatus]
  split
  exacts [h.recordStatus.movePresent.refreshKiosk, h.recordStatus.moveAbsent.refreshKiosk]
theorem clockOut {p : Nat} : Keeps s (clockOut p t) := by
  simp only [Machine.clockOut]
  repeat' split
  exacts [h.setPrinter (by exact id), (h.setPrinter (by exact id)).emit, h.emit]
theorem statusByteOp {p : Nat} {b : Byte} : Keeps s (statusByteOp p b t) := by
  unfold Machine.statusByteOp
  split
  exacts [h.clockOut.takeStatus, h]
theorem statusMoveOp {p : Nat} {b : Byte} : Keeps s (statusMoveOp p b t) := h.whenFree h.presentStatus.refreshKiosk
theorem returnOp {p : Nat} {b : Byte} : Keeps s (returnOp p b t) := h.whenFree h.endAbsence.presentStatus.refreshKiosk
theorem absenceOp {p : Nat} : Keeps s (absenceOp p t) := by
  unfold Machine.absenceOp
  split
  exacts [h, h.whenFree h.losePrinter.refreshKiosk]
theorem cutDue {p : Nat} : Keeps s (cutDue p t) := h.stallPrinter.refreshKiosk
theorem cutDeadlineOp {p : Nat} : Keeps s (cutDeadlineOp p t) := by
  unfold Machine.cutDeadlineOp
  split
  exacts [h.whenFree h.cutDue, h]
theorem checkQueues : Keeps s (checkQueues t) := h.overForEach fun _ u => (refl u).updQueue (by exact id)
theorem loadTemplateNow {r : Request} : Keeps s (loadTemplateNow r t) := by
  simp only [Machine.loadTemplateNow]
  repeat' split
  · exact h.finish
  · exact h.checkQueues.finish
  · have checked := h.checkQueues
    have mem : (Machine.checkQueues t).mem = t.mem := by simp
    have templates : (Machine.checkQueues t).print.templates = t.print.templates := by
      rw [Machine.checkQueues]
      exact forEach_induct (p := fun v => v.print.templates = t.print.templates) (fun _ _ same => same) (List.range 12) rfl
    generalize Machine.checkQueues t = u at checked mem templates ⊢
    refine Keeps.finish (checked.trans ?_)
    exact { refl u with
      mem := fun w => memWriteAll_wf _ _ _ (mem ▸ w)
      templates := by rw [templates]; exact updAt_lengthKept }
theorem loadTemplateOp {r : Request} : Keeps s (loadTemplateOp r t) := by
  unfold Machine.loadTemplateOp
  split
  exacts [h.waitFor, h.loadTemplateNow]
theorem resumeNow {r : Request} : Keeps s (resumeNow r t) := by
  simp only [Machine.resumeNow]
  split
  exacts [h.finish, (h.updPrinter (by exact queueLaw_requeueHead)).refreshKiosk.completeSlot]
theorem resumeOp {r : Request} : Keeps s (resumeOp r t) := h.whenFree h.resumeNow
theorem assignPrinter {dst b : Nat} : Keeps s (assignPrinter dst b t) := h.updBasket
theorem redirectNow {r : Request} : Keeps s (redirectNow r t) := by
  simp only [Machine.redirectNow]
  split
  · exact h.finish
  · next passed =>
    have apart : param1 r 0 ≠ param1 r 1 := by
      intro same
      simp [redirectRefusal, same] at passed
    have room : ¬ freePlaces (printerAt t (param1 r 1)) < (printerAt t (param1 r 0)).queue.length := by
      intro full
      unfold redirectRefusal at passed
      (repeat' split at passed) <;> simp_all
    refine (((h.updQueue fun _ => ⟨Nat.zero_le _, by simp⟩).updQueue fun law => ?_).overForEach fun _ u => (refl u).assignPrinter).completeSlot
    rw [printerAt_updQueue_other _ _ _ _ apart] at law ⊢
    refine queueLaw_joinAll (fun x hx => ?_) ?_ law
    · obtain ⟨y, -, rfl⟩ := List.mem_map.mp hx
      exact requeued_queued y
    · rw [List.length_map]
      have := law.1
      simp only [freePlaces, Config.queueCapacity] at room
      omega
theorem redirectOp {r : Request} : Keeps s (redirectOp r t) := h.whenFree (h.whenFree h.redirectNow)
theorem reprintNow {r : Request} : Keeps s (reprintNow r t) := by
  simp only [Machine.reprintNow]
  repeat' split
  exacts [h.finish, h.finish, h.finish, h.finish, h.setPrinter (by exact id)]
theorem reprintOp {r : Request} : Keeps s (reprintOp r t) := h.whenFree h.reprintNow
theorem refuseReprint {p slot : Nat} {code : ResultCode} : Keeps s (refuseReprint p slot code t) := (h.setPrinter (by exact id)).finish
theorem saleCheckNow {p : Nat} : Keeps s (saleCheckNow p t) := by
  unfold Machine.saleCheckNow
  repeat' split
  exacts [h, h, h.refuseReprint, h.refuseReprint, h.setPrinter (by exact id)]
theorem saleCheckOp {p : Nat} : Keeps s (saleCheckOp p t) := by
  unfold Machine.saleCheckOp
  repeat' split
  exacts [h, h, h.whenFree h.saleCheckNow]
theorem reprintEnterNow {p : Nat} : Keeps s (reprintEnterNow p t) := by
  simp only [Machine.reprintEnterNow]
  repeat' split
  · exact h
  · exact h
  · exact h.refuseReprint
  · next room =>
    refine (h.updQueue fun law => queueLaw_joinAll (fun x hx => ?_) ?_ (by exact law)).completeSlot
    · obtain ⟨y, -, rfl⟩ := List.mem_map.mp hx
      rfl
    · rw [List.length_map]
      have := law.1
      simp only [freePlaces, Config.queueCapacity] at room
      simp only
      omega
theorem restartPrinter {p : Nat} : Keeps s (restartPrinter p t) := 
  (h.updPrinter (by exact queueLaw_requeueHead)).emit.refreshKiosk
theorem printerResetNow {k : Nat} : Keeps s (printerResetNow k t) := by
  unfold Machine.printerResetNow
  split
  exacts [h, (h.trans (by exact { refl _ with })).restartPrinter]
theorem printerResetOp {k : Nat} : Keeps s (printerResetOp k t) := by
  unfold Machine.printerResetOp
  split
  exacts [h.whenFree h.printerResetNow, h]

/-! ### The basket unit -/

theorem writeSupply : Keeps s (writeSupply t) := h.setFreeCount
theorem clearCurrent {b k : Nat} : Keeps s (clearCurrent b k t) := (h.maybe ((refl _).updKiosk (by intros; exact ⟨rfl, rfl⟩))).refreshKiosk
theorem openBasketOp {r : Request} : Keeps s (openBasketOp r t) := by
  simp only [Machine.openBasketOp]
  split
  exacts [h.finish, (h.updBasket.updKiosk (by intros; exact ⟨rfl, rfl⟩)).refreshKiosk.writeSupply.completeSlot]
theorem openCall {b : Nat} {call : Call} : Keeps s (openCall b call t) := h.setBasket
theorem closeCall {b : Nat} {f : Basket → Basket} : Keeps s (closeCall b f t) := h.setBasket
theorem requote {b : Nat} : Keeps s (requote b t) := h.setBasket
theorem holdSeatsNow {r : Request} : Keeps s (holdSeatsNow r t) := by
  simp only [Machine.holdSeatsNow]
  repeat' split
  exacts [h.finish, h.finish, h.finish, h.openCall]
theorem releaseSeatsNow {r : Request} : Keeps s (releaseSeatsNow r t) := by
  simp only [Machine.releaseSeatsNow]
  repeat' split
  exacts [h.finish, h.finish, h.finish, h.completeSlot, h.openCall]
theorem addVoucherNow {r : Request} : Keeps s (addVoucherNow r t) := by
  simp only [Machine.addVoucherNow]
  split
  exacts [h.finish, h.openCall]
theorem dropVoucherNow {r : Request} : Keeps s (dropVoucherNow r t) := by
  simp only [Machine.dropVoucherNow]
  split
  exacts [h.finish, h.openCall]
theorem holdEventNow {b slot : Nat} {list : List Nat} : Keeps s (holdEventNow b slot list t) := by
  simp only [Machine.holdEventNow]
  split
  exacts [h.closeCall.completeSlot, h.holdCells.closeCall.requote.completeSlot]
theorem releaseEventNow {b slot : Nat} {list : List Nat} : Keeps s (releaseEventNow b slot list t) :=
  h.releaseCells.closeCall.requote.completeSlot
theorem issueEventNow {b slot kind : Nat} : Keeps s (issueEventNow b slot kind t) := by
  have issued := h.issueVoucher (kind := kind) (b := b) (sh := (basketAt t b).sh)
  simp only [Machine.issueEventNow]
  split
  · next v code answer =>
    rw [answer] at issued
    exact issued.closeCall.finish
  · next v index code answer =>
    rw [answer] at issued
    exact issued.closeCall.requote.completeSlot
theorem removalEventNow {b slot position : Nat} : Keeps s (removalEventNow b slot position t) :=
  h.removeVouchers.closeCall.requote.completeSlot
theorem holdEventOp {b : Nat} : Keeps s (holdEventOp b t) := by
  unfold Machine.holdEventOp
  split
  exacts [h.holdEventNow, h]
theorem releaseEventOp {b : Nat} : Keeps s (releaseEventOp b t) := by
  unfold Machine.releaseEventOp
  split
  exacts [h.releaseEventNow, h]
theorem voucherIssueOp {b : Nat} : Keeps s (voucherIssueOp b t) := by
  unfold Machine.voucherIssueOp
  split
  exacts [h.issueEventNow, h]
theorem voucherRemovalOp {b : Nat} : Keeps s (voucherRemovalOp b t) := by
  unfold Machine.voucherRemovalOp
  split
  exacts [h.removalEventNow, h]
theorem quoteNow {r : Request} : Keeps s (quoteNow r t) := by
  simp only [Machine.quoteNow]
  repeat' split
  exacts [h.finish, h.finish, h.updBasket.completeSlot]
theorem endBasket {b : Nat} {dest : BasketState} : Keeps s (endBasket b dest t) :=
  h.releaseCells.removeVouchers.updBasket.clearCurrent
theorem expireBasket {b : Nat} : Keeps s (expireBasket b t) := h.endBasket.raiseFactor
theorem holdDeadlineOp {b : Nat} : Keeps s (holdDeadlineOp b t) := by
  unfold Machine.holdDeadlineOp
  split
  exacts [h.whenFree h.expireBasket, h]
theorem leftSaleNow {b : Nat} : Keeps s (leftSaleNow b t) := by
  unfold Machine.leftSaleNow
  split
  exacts [h.expireBasket, h]
theorem showLeftSaleOp {sh : Nat} : Keeps s (showLeftSaleOp sh t) := by
  unfold Machine.showLeftSaleOp
  split
  exacts [(h.trans (by exact { refl _ with })).overForEach fun _ u => (refl u).whenFree (refl u).leftSaleNow, h]
theorem abandonNow {r : Request} : Keeps s (abandonNow r t) := by
  simp only [Machine.abandonNow]
  repeat' split
  exacts [h.finish, h.endBasket.completeSlot, h.finish, h.finish]
theorem saleMove {b : Nat} {m : Method} : Keeps s (saleMove b m t) :=
  h.createSale.sellCells.activateVouchers.finishSale.updBasket.refreshKiosk
theorem startPaying {b : Nat} : Keeps s (startPaying b t) := h.updBasket.openPayment.refreshKiosk
theorem payNow {r : Request} : Keeps s (payNow r t) := by
  simp only [Machine.payNow]
  repeat' split
  exacts [h.finish, h.updBasket.completeSlot, h.updBasket.reservePlace.saleMove.completeSlot,
    h.updBasket.reservePlace.startPaying]
theorem returnBasket {b : Nat} : Keeps s (returnBasket b t) := by
  simp only [Machine.returnBasket]
  split
  exacts [h.giveBackPlace.updBasket.refreshKiosk, h.giveBackPlace.expireBasket]
theorem leaveUnresolved {b : Nat} : Keeps s (leaveUnresolved b t) := h.updBasket.refreshKiosk
theorem finishPay {b : Nat} {code : ResultCode} {fields : List Byte} : Keeps s (finishPay b code fields t) := by
  unfold Machine.finishPay
  split
  exacts [h.completeSlot, h]
theorem takeOutcome {o : OutcomeReport} : Keeps s (takeOutcome o t) := by
  simp only [Machine.takeOutcome]
  split
  exacts [h.saleMove.finishPay, h.returnBasket.finishPay, h.returnBasket.finishPay, h.returnBasket.finishPay,
    h.leaveUnresolved.finishPay]
theorem paymentOutcomeOp {b : Nat} : Keeps s (paymentOutcomeOp b t) := by
  simp only [Machine.paymentOutcomeOp]
  repeat' split
  exacts [h, h.handOver.takeOutcome, h.handOver]
theorem settleNow {r : Request} : Keeps s (settleNow r t) := by
  simp only [Machine.settleNow]
  repeat' split
  exacts [h.finish, h.finish, h.saleMove.completeSlot, h.returnBasket.completeSlot]
theorem moveToCollectOp {b : Nat} : Keeps s (moveToCollectOp b t) := by
  simp only [Machine.moveToCollectOp]
  split
  exacts [h.updBasket.refreshKiosk, h]
theorem closeBasket {b : Nat} {uncollected : Bool} : Keeps s (closeBasket b uncollected t) := h.updBasket.clearCurrent
theorem chuteClearedOp {k : Nat} : Keeps s (chuteClearedOp k t) := by
  unfold Machine.chuteClearedOp
  split
  exacts [(h.trans (by exact { refl _ with })).overForEach fun _ u => (refl u).closeBasket, h]
theorem collectDeadlineOp {b : Nat} : Keeps s (collectDeadlineOp b t) := by
  simp only [Machine.collectDeadlineOp]
  split
  exacts [h.closeBasket.raiseFactor, h]
theorem retireNow {r : Request} : Keeps s (retireNow r t) := by
  simp only [Machine.retireNow]
  repeat' split
  exacts [h.finish, h.updBasket.writeSupply.finish, h.finish]

/-! ### The show unit -/

theorem enterShow {n : Nat} {st : ShowState} : Keeps s (enterShow n st t) := by
  simp only [Machine.enterShow]
  split
  exacts [(h.updShow.trans (by exact { refl _ with })).raiseFactor, h.updShow.raiseFactor, h.updShow, h.updShow, h.updShow]
omit h in
theorem enterShows {n : Nat} {l : List ShowState} (h : Keeps s t) : Keeps s (l.foldl (fun t st => Machine.enterShow n st t) t) := by
  induction l generalizing t with
  | nil => exact h
  | cons st rest ih => exact ih h.enterShow
theorem moveShow {n : Nat} : Keeps s (moveShow n t) := h.enterShows
theorem moveShows : Keeps s (moveShows t) := h.overForEach fun _ u => (refl u).moveShow
theorem writeClock {now : Instant} {phase : Nat} : Keeps s (writeClock now phase t) := h.trans (by exact { refl _ with })
theorem reportDay {before : Instant} : Keeps s (reportDay before t) := by
  simp only [Machine.reportDay]
  split
  exacts [h.trans (by exact { refl _ with }), h]
theorem secondAdvance : Keeps s (secondAdvance t) := h.writeClock.reportDay.moveShows
theorem clockAdvance : Keeps s (clockAdvance t) := by
  simp only [Machine.clockAdvance]
  repeat' split
  exacts [h, h.writeClock, h.secondAdvance]
theorem runTimeOp : Keeps s (runTimeOp t) := (h.trans (by exact { refl _ with })).clockAdvance
theorem clockSecondOp : Keeps s (clockSecondOp t) := by
  unfold Machine.clockSecondOp
  split
  exacts [h.runTimeOp, h]
theorem setClockOp {r : Request} : Keeps s (setClockOp r t) := by
  simp only [Machine.setClockOp]
  split
  exacts [(h.writeClock.moveShows.maybe (refl _).reportDay).completeSlot, h.finish]
theorem loadShowOp {r : Request} : Keeps s (loadShowOp r t) := by
  simp only [Machine.loadShowOp]
  split
  exacts [h.finish, h.setShow.trans (by exact { refl _ with })]
theorem loadingCompleteOp {sh : Nat} : Keeps s (loadingCompleteOp sh t) := by
  simp only [Machine.loadingCompleteOp]
  split
  exacts [h, (h.loadCells.setShow.trans (by exact { refl _ with })).moveShow.completeSlot]
theorem setPricesOp {r : Request} : Keeps s (setPricesOp r t) := by
  simp only [Machine.setPricesOp]
  split
  exacts [h.finish, (h.trans (by exact { refl t with prices := updAt_lengthKept })).finish]
theorem closeSaleOp {r : Request} : Keeps s (closeSaleOp r t) := by
  simp only [Machine.closeSaleOp]
  repeat' split
  exacts [h.finish, h.finish, h.enterShow.finish, h.finish]
theorem stepShow {sh : Nat} : Keeps s (stepShow sh t) := h.setShow
theorem dropShowOp {r : Request} : Keeps s (dropShowOp r t) := by
  simp only [Machine.dropShowOp]
  split
  exacts [h.finish, h.stepShow.trans (by exact { refl _ with })]
theorem updRemoval {x : Removal} {y : Option Removal} : Keeps s (updRemoval x y t) := h.trans (by exact { refl _ with })
theorem salesRemovalNow {sh : Nat} : Keeps s (salesRemovalNow sh t) := by
  unfold Machine.salesRemovalNow
  repeat' split
  exacts [h, h.updRemoval.stepShow.finish, h.removeSales.updRemoval]
theorem salesRemovalOp {sh : Nat} : Keeps s (salesRemovalOp sh t) := by
  unfold Machine.salesRemovalOp
  split
  exacts [h.waitFor, h.salesRemovalNow]
theorem voucherShowRemovalOp {sh : Nat} : Keeps s (voucherShowRemovalOp sh t) := by
  simp only [Machine.voucherShowRemovalOp]
  split
  exacts [h, h.removeVouchers.updRemoval]
theorem seatRangeClearOp {sh : Nat} : Keeps s (seatRangeClearOp sh t) := by
  unfold Machine.seatRangeClearOp
  split
  exacts [h, h.clearRange.updRemoval]
theorem dropCompleteOp {sh : Nat} : Keeps s (dropCompleteOp sh t) := by
  unfold Machine.dropCompleteOp
  split
  exacts [h, h.updRemoval.setShow.completeSlot]
end Keeps
end Sys2Proof.Machine
end

section
/-! The guarded state words (R175), the resets (R186) and the configuration in what they keep; what waited; and every command, which
settles O3 to O7. -/

namespace Sys2Proof.Machine

/-- A state word stands in one of the 64 slots. -/
theorem stateWord_inside {a slot i : Nat} (place : placeAt a = .stateWord slot i) : slot < 64 := by
  unfold placeAt at place
  split at place
  · next low =>
    simp only [slotPlace] at place
    repeat' split at place
    all_goals cases place
    omega
  · simp only [kioskPlace, counterPlace] at place
    repeat' split at place
    all_goals cases place

theorem stateWordOf_inside {l : List (Nat × Byte)} {slot : Nat} (found : stateWordOf l = some slot) : slot < 64 := by
  obtain ⟨e, -, place⟩ := List.exists_of_findSome?_eq_some found
  split at place
  · next word =>
    cases place
    exact stateWord_inside word
  · cases place

/-- R186: no cell of a station unit at its reset values draws attention. -/
theorem drawingCells_atLevels {s : State} {levels : List (List Bool)} (station : s.station = .atLevels levels) :
    drawingCells s = 0 := by
  have kiosks : (levels.map Kiosk.atLevels).filter (fun c => draws c.factors c.mask) = [] := by
    rw [List.filter_eq_nil_iff]
    intro c hc
    obtain ⟨l, -, rfl⟩ := List.mem_map.mp hc
    simp [Kiosk.atLevels, draws]
  simp only [drawingCells, station, StationUnit.atLevels, kiosks]
  decide

theorem boardMarks_initial : BoardMarks .initial := by
  refine ⟨rfl, rfl, fun n inside => ?_, fun n inside => ?_, List.nodup_nil⟩
  · simp only [Board.initial]; grind
  · simp only [Board.initial]; grind

namespace Keeps
variable {s t u : State} (h : Keeps s t)
include h

/-! ### The board unit -/

theorem coalescingOp : Keeps s (coalescingOp t) := by
  unfold Machine.coalescingOp
  split
  exacts [h.setCompletions, h]
theorem noticeWrite : Keeps s (noticeWrite t) := h.trans (by exact { refl _ with })
theorem runtimeLow : Keeps s (runtimeLow t) := (h.trans (by exact { refl _ with })).emit
theorem runtimeHigh : Keeps s (runtimeHigh t) := (h.trans (by exact { refl _ with })).emit
theorem boardFault {slot value : Nat} : Keeps s (boardFault slot value t) := (h.trans (by exact { refl _ with })).addStat.raiseFactor
theorem echoTag {slot : Nat} : Keeps s (echoTag slot t) := h.trans { refl t with mem := memWriteAll_wf _ _ _ }

/-- R175: POSTED onto a FREE slot. -/
theorem posted {slot : Nat} (inside : slot < 64) (free : slotAt t slot = .free) :
    Keeps s { t with board := { t.board with slots := t.board.slots.set slot .posted, posting := t.board.posting ++ [slot] } } := by
  refine h.trans { refl t with slots := List.length_set.trans, board := ?_ }
  unfold slotAt at free
  rintro ⟨slots, marks, posted, done, once⟩
  have unposted : slot ∉ t.board.posting := fun member => by
    have := (posted slot inside).mp member
    rw [free] at this
    cases this
  have unmarked : t.board.doneMark.getD slot false ≠ true := fun mark => by
    have := (done slot inside).mp mark
    rw [free] at this
    cases this
  refine ⟨by simpa, marks, fun n low => ?_, fun n low => ?_, ?_⟩
  · by_cases same : n = slot
    · subst same; simp [slots, inside]
    · simpa [same, List.getElem?_set_ne (Ne.symm same)] using posted n low
  · by_cases same : n = slot
    · subst same; simpa [slots, inside] using unmarked
    · simpa [same, List.getElem?_set_ne (Ne.symm same)] using done n low
  · exact List.nodup_append.mpr ⟨once, List.nodup_singleton slot, fun a member b last => by
      rw [List.mem_singleton.mp last]
      rintro rfl
      exact unposted member⟩

/-- R175: FREE onto a DONE slot. -/
theorem freed {slot : Nat} (isDone : slotAt t slot = .done) :
    Keeps s { t with board := { t.board with
      slots := t.board.slots.set slot .free, doneMark := t.board.doneMark.set slot false } } := by
  refine h.trans { refl t with slots := List.length_set.trans, doneMark := List.length_set.trans, board := ?_ }
  unfold slotAt at isDone
  rintro ⟨slots, marks, posted, done, once⟩
  refine ⟨by simpa, by simpa, fun n low => ?_, fun n low => ?_, once⟩
  · by_cases same : n = slot
    · subst same
      have := posted n low
      rw [isDone] at this
      simpa [slots, low] using this
    · simpa [same, List.getElem?_set_ne (Ne.symm same)] using posted n low
  · by_cases same : n = slot
    · subst same; simp [slots, marks, low]
    · simpa [same, List.getElem?_set_ne (Ne.symm same)] using done n low

theorem stateWordWrite {slot value : Nat} (inside : slot < 64) : Keeps s (stateWordWrite slot value t) := by
  unfold Machine.stateWordWrite
  split <;> split
  exacts [h.posted inside ‹_›, h.boardFault, h.echoTag.finish, h.boardFault, h, h.boardFault, h.freed ‹_›, h.boardFault]

omit h in
theorem storedBytes_wf {l : List (Nat × Byte)} {m : List Host.Cell} (w : Memory.wf m) :
    Memory.wf (l.foldl (fun m e => if placeAt e.1 = .stored then memWrite m e.1 e.2 else m) m) := by
  induction l generalizing m with
  | nil => exact w
  | cons e rest ih =>
    rw [List.foldl_cons]
    split
    exacts [ih (memWrite_wf _ _ _ w), ih w]

theorem storeBytes {l : List (Nat × Byte)} : Keeps s (storeBytes l t) := h.trans { refl t with mem := storedBytes_wf }
theorem countStray {off : Nat} {l : List (Nat × Byte)} : Keeps s (countStray off l t) := by
  unfold Machine.countStray
  split
  exacts [(h.trans (by exact { refl _ with }) : Keeps s { t with board := _ }).addStat, h]
theorem stateWordUnit {lanes : List (Option Byte)} {l : List (Nat × Byte)} : Keeps s (stateWordUnit lanes l t) := by
  unfold Machine.stateWordUnit
  split
  · exact h
  · next found =>
    split
    exacts [h.stateWordWrite (stateWordOf_inside found), h.boardFault]
theorem stationUnitWrite {l : List (Nat × Byte)} : Keeps s (stationUnitWrite l t) := by
  simp only [Machine.stationUnitWrite]
  split <;> split
  exacts [h.writeMask.acknowledge, h.acknowledge, h.writeMask, h]
theorem hostUnit {off : Nat} {lanes : List (Option Byte)} : Keeps s (hostUnit off lanes t) :=
  h.storeBytes.countStray.stateWordUnit.stationUnitWrite

/-- R176: the oldest posted slot taken off the posting list, whatever it becomes that is not POSTED and not DONE. -/
theorem takenOff {slot : Nat} {rest : List Nat} {inflight : List (Option Nat)} {handed : List Request}
    (front : t.board.posting = slot :: rest) (kept : t.board.inflight.length = 24 → inflight.length = 24) :
    Keeps s { t with board := { t.board with
      posting := rest, slots := t.board.slots.set slot .taken, inflight := inflight, handed := handed } } := by
  refine h.trans { refl t with slots := List.length_set.trans, inflight := kept, board := ?_ }
  rintro ⟨slots, marks, posted, done, once⟩
  rw [front] at posted once
  obtain ⟨apart, once⟩ := List.nodup_cons.mp once
  refine ⟨by simpa, marks, fun n low => ?_, fun n low => ?_, once⟩
  · by_cases same : n = slot
    · subst same; simpa [slots, low] using apart
    · simpa [same, List.getElem?_set_ne (Ne.symm same)] using posted n low
  · by_cases same : n = slot
    · subst same
      have unmarked := done n low
      rw [(posted n low).mp List.mem_cons_self] at unmarked
      simpa [slots, low] using unmarked
    · simpa [same, List.getElem?_set_ne (Ne.symm same)] using done n low

theorem decoderTakeOp : Keeps s (decoderTakeOp t) := by
  unfold Machine.decoderTakeOp
  split
  · exact h
  · next slot rest front =>
    simp only
    split
    · refine h.completedFrom (mem := memWriteAll t.mem _ (memReadAll t.mem _ 2)) (memWriteAll_wf _ _ _) (fun n apart => ?_) ?_
      · rw [front, List.mem_cons, or_iff_right apart]
      · rw [front]
        exact List.sublist_cons_self ..
    · refine h.echoTag.takenOff (handed := _) front fun length => ?_
      split
      exacts [List.length_set.trans length, length]

/-! ### The resets -/

theorem powerOn : Keeps s (powerOn t) := h.trans { refl t with
  slots := fun _ => rfl, doneMark := fun _ => rfl, inflight := fun _ => rfl, shows := fun _ => rfl, prices := fun _ => rfl
  kinds := fun _ => rfl, baskets := fun _ => rfl, lines := fun _ => rfl, printers := fun _ => rfl, templates := fun _ => rfl
  receivers := fun _ => rfl, counters := fun _ => rfl, kioskBindings := fun _ => rfl, counterBindings := fun _ => rfl
  generators := fun _ => rfl
  records := fun _ x hx => by rw [List.eq_of_mem_replicate hx]; rfl
  kiosks := fun length => by simpa [Machine.powerOn, StationUnit.atLevels, inputLevels] using length
  senses := fun w x hx => by
    obtain ⟨levels, hl, rfl⟩ := List.mem_map.mp hx
    obtain ⟨c, hc, rfl⟩ := List.mem_map.mp hl
    simpa [Kiosk.atLevels] using w c hc
  mem := fun _ => sparse_nil_wf _, seats := fun _ => sparse_nil_wf _, entries := fun _ => sparse_nil_wf _
  heads := fun _ => sparse_nil_wf _, sales := fun _ => sparse_nil_wf _, stats := fun _ => sparse_nil_wf _
  board := fun _ => boardMarks_initial
  queues := fun _ q hq => by rw [List.eq_of_mem_replicate hq]; exact ⟨Nat.zero_le _, fun _ hx => nomatch hx⟩
  attention := fun _ _ _ => (drawingCells_atLevels rfl).symm }

theorem softResetOp : Keeps s (softResetOp t) := by
  have reset := (refl t).powerOn
  exact h.trans { reset with
    shows := fun _ => rfl, prices := fun _ => rfl, kinds := fun _ => rfl
    mem := sparse_filter_wf _ _ _
    stats := id
    board := fun _ => boardMarks_initial
    attention := fun _ _ _ => (drawingCells_atLevels rfl).symm }

theorem runWrite {value : Word32} : Keeps s (runWrite value t) := by
  simp only [Machine.runWrite]
  repeat' split
  exacts [h.softResetOp, (h.trans (by exact { refl _ with })).emit, h.trans (by exact { refl _ with })]

/-! ### The configuration -/

theorem restartLine {n : Nat} : Keeps s (restartLine n t) := h.endReverse.updLine (by intros; rfl)
theorem restartReceiver {m : Nat} : Keeps s (restartReceiver m t) := h.setReceiver
theorem writeEnabled {c : Configuration} {m : Nat} : Keeps s (writeEnabled c m t) := by
  unfold Machine.writeEnabled
  split
  exacts [h.updCounter (by intros; rfl), h.setReceiver.updCounter (by intros; rfl)]
theorem takeShares {old : Option Configuration} {c : Configuration} {kinds : List VoucherKind} (length : kinds.length = 16) :
    Keeps s (takeShares old c kinds t) :=
  ((((h.trans (by exact { refl t with kinds := fun _ => length })).overForEach fun _ u => (refl u).restartLine).overForEach
    fun _ u => (refl u).restartPrinter).overForEach fun _ u => (refl u).restartReceiver).overForEach
    (fun _ u => (refl u).writeEnabled) |>.writeSupply
theorem configured {c : Configuration} {kinds : List VoucherKind} (length : kinds.length = 16) :
    Keeps s (Machine.takeShares t.config c kinds { t with config := some c }) :=
  (h.trans (by exact { refl _ with }) : Keeps s { t with config := some c }).takeShares length
theorem configureOp {r : Request} : Keeps s (configureOp r t) := by
  unfold Machine.configureOp
  dsimp only
  cases configureRefusal t (param2 r 0) with
  | some x => exact h.completeSlot
  | none =>
    refine completeSlot (h.configured ?_)
    rw [List.length_map, List.length_range]
theorem clearCountsOp {r : Request} : Keeps s (clearCountsOp r t) :=
  (h.trans (by exact { refl t with stats := fun _ => sparse_nil_wf _ }) : Keeps s { t with stats := _ }).completeSlot

/-! ### What waited -/

theorem takeRequest {r : Request} : Keeps s (takeRequest r t) := by
  unfold Machine.takeRequest
  split
  exacts [h.setClockOp, h.loadShowOp, h.setPricesOp, h.closeSaleOp, h.dropShowOp, h.blockSeatsOp, h.unblockSeatsOp,
    h.basketRequest h.holdSeatsNow, h.basketRequest h.releaseSeatsNow, h.openBasketOp, h.basketRequest h.addVoucherNow,
    h.basketRequest h.dropVoucherNow, h.basketRequest h.quoteNow, h.basketRequest h.payNow, h.basketRequest h.settleNow,
    h.basketRequest h.abandonNow, h.basketRequest h.retireNow, h.cancelPayOp, h.reverseOp, h.loadTemplateOp, h.reprintOp,
    h.redirectOp, h.resumeOp, h.voidVoucherOp, h.refundTake, h.resetStationOp, h.setSenseOp, h.setPatternOp, h.setBindingOp,
    h.setLampOp, h.configureOp, h.clearCountsOp]
theorem takeWaiting {e : WaitEvent} : Keeps s (takeWaiting e t) := by
  cases e
  exacts [h.takeRequest, h.holdDeadlineOp, h.whenFree h.leftSaleNow, h.statusMoveOp, h.absenceOp, h.returnOp, h.cutDeadlineOp,
    h.pullOp, h.printerResetOp, h.saleCheckOp, h.salesRemovalOp]
omit h in
theorem drainFor {r : Resource} {n : Nat} {t : State} (h : Keeps s t) : Keeps s (drainFor r n t) := by
  induction n generalizing t with
  | zero => exact h
  | succ n ih =>
    unfold Machine.drainFor
    split
    · exact h
    · split
      · exact h
      · exact ih (h.trans (by exact { refl _ with }) : Keeps s { t with waiting := _ }).takeWaiting
theorem drain {r : Resource} : Keeps s (drain r t) := h.drainFor

theorem holdEventClose {b : Nat} : Keeps s (holdEventClose b t) := h.holdEventOp.drain
theorem releaseEventClose {b : Nat} : Keeps s (releaseEventClose b t) := h.releaseEventOp.drain
theorem voucherIssueClose {b : Nat} : Keeps s (voucherIssueClose b t) := h.voucherIssueOp.drain
theorem voucherRemovalClose {b : Nat} : Keeps s (voucherRemovalClose b t) := h.voucherRemovalOp.drain
theorem saleCheckClose {p : Nat} : Keeps s (saleCheckClose p t) := h.saleCheckOp.drain
theorem reprintEnterClose {p : Nat} : Keeps s (reprintEnterClose p t) := h.reprintEnterNow.drain
theorem refundCompleteClose {serial : Nat} : Keeps s (refundCompleteClose serial t) :=
  h.refundWrite.drain.overForEach fun _ u => (refl u).drain
theorem stationCellResetOp {k : Nat} (inside : k < 12) : Keeps s (stationCellResetOp k t) := by
  unfold Machine.stationCellResetOp
  split
  exacts [h, ((h.trans (by exact { refl _ with }) : Keeps s { t with station := _ }).stationShare inside).finish]
end Keeps

/-- What a command leads to keeps all that `Keeps` names; a command that stops leads to nothing. -/
def NextKeeps (s : State) (o : Host.Outcome State Fault Refusal) : Prop := ∀ t, o = .next t → Keeps s t

namespace NextKeeps
variable {s t : State}
theorem next (h : Keeps s t) : NextKeeps s (.next t) := fun _ ran => by cases ran; exact h
theorem next_withRequest {k : RequestKind} {f : Request → State → State} (each : ∀ r u, Keeps u (f r u)) :
    NextKeeps s (.next (withRequest k f s)) := next ((Keeps.refl s).withRequest each)
theorem hostWriteUnit {off : Nat} {lanes : List (Option Byte)} : NextKeeps s (execHostWriteUnit off lanes s) := by
  intro t ran
  unfold execHostWriteUnit at ran
  (repeat' split at ran) <;> cases ran
  exact (Keeps.refl s).hostUnit
end NextKeeps

open NextKeeps in
/-- What a command does, the commands taken one by one. -/
theorem nextKeeps_exec (c : Instr) (s : State) : NextKeeps s (exec c s) := by
  have h := Keeps.refl s
  have u := Keeps.refl
  cases c
  exacts [
    next h.powerOn, next h.softResetOp, next h.runWrite, next h.noticeWrite, next h.runtimeLow, next h.runtimeHigh, next h,
    hostWriteUnit, next (h.stateWordWrite (Fin.isLt _)), next (h.stateWordWrite (Fin.isLt _)),
    next (h.stateWordWrite (Fin.isLt _)), next h.writeMask, next h.acknowledge, next h.decoderTakeOp, next h.coalescingOp,
    next h.runTimeOp, next h.clockSecondOp, next h.dayChangeOp, next_withRequest fun _ v => (u v).setClockOp,
    next_withRequest fun _ v => (u v).loadShowOp, next h.loadingCompleteOp, next_withRequest fun _ v => (u v).setPricesOp,
    next_withRequest fun _ v => (u v).closeSaleOp, next_withRequest fun _ v => (u v).dropShowOp, next h.salesRemovalOp,
    next h.voucherShowRemovalOp, next h.seatRangeClearOp, next h.dropCompleteOp,
    next_withRequest fun _ v => (u v).blockSeatsOp, next_withRequest fun _ v => (u v).unblockSeatsOp,
    next_withRequest fun _ v => (u v).basketRequest (u v).holdSeatsNow, next h.holdEventClose,
    next_withRequest fun _ v => (u v).basketRequest (u v).releaseSeatsNow, next h.releaseEventClose,
    next_withRequest fun _ v => (u v).openBasketOp, next_withRequest fun _ v => (u v).basketRequest (u v).addVoucherNow,
    next h.voucherIssueClose, next_withRequest fun _ v => (u v).basketRequest (u v).dropVoucherNow,
    next h.voucherRemovalClose, next_withRequest fun _ v => (u v).basketRequest (u v).quoteNow,
    next_withRequest fun _ v => (u v).basketRequest (u v).payNow, next h.paymentOutcomeOp,
    next_withRequest fun _ v => (u v).basketRequest (u v).settleNow,
    next_withRequest fun _ v => (u v).basketRequest (u v).abandonNow,
    next_withRequest fun _ v => (u v).basketRequest (u v).retireNow, next h.holdDeadlineOp, next h.showLeftSaleOp,
    next h.moveToCollectOp, next h.chuteClearedOp, next h.collectDeadlineOp, next_withRequest fun _ v => (u v).cancelPayOp,
    next_withRequest fun _ v => (u v).reverseOp, next h.lineFaultOp, next h.lineGapOp, next h.bytesArrive, next h.bytesArrive,
    next h.bytesArrive, next h.ackWaitOp, next h.frameArrives, next h.frameArrives, next h.frameArrives, next h.frameArrives,
    next h.frameArrives, next h.frameArrives, next h.pingTimerOp, next h.authTimeoutOp, next h.abortWaitOp,
    next h.reverseWaitOp, next h.statusByteOp, next h.cutDeadlineOp, next h.pullOp,
    next_withRequest fun _ v => (u v).loadTemplateOp, next_withRequest fun _ v => (u v).resumeOp,
    next_withRequest fun _ v => (u v).redirectOp, next_withRequest fun _ v => (u v).reprintOp, next h.saleCheckClose,
    next h.reprintEnterClose, next_withRequest fun _ v => (u v).voidVoucherOp, next_withRequest fun _ v => (u v).refundTake,
    next h.refundFreeingOp, next h.refundVoucherOp, next h.refundCompleteClose, next h.counterByteOp, next h.counterFaultOp,
    next h.counterGapOp, next h.validationOp, next h.answerExpires, next h.senseChange, next h.senseFilterDue,
    next_withRequest fun _ v => (u v).setSenseOp, next_withRequest fun _ v => (u v).setBindingOp,
    next_withRequest fun _ v => (u v).setLampOp, next h.overrideExpires, next_withRequest fun _ v => (u v).setPatternOp,
    next h.patternStepOp, next_withRequest fun _ v => (u v).resetStationOp, next h.printerResetOp,
    next (h.stationCellResetOp (Fin.isLt _)), next_withRequest fun _ v => (u v).configureOp,
    next_withRequest fun _ v => (u v).clearCountsOp, next h.frameArrives]

theorem keeps_of_step {s t : State} (ran : step s = .next t) : Keeps s t := by
  unfold step at ran
  split at ran
  · cases ran
    exact .refl s
  · exact ((Keeps.refl s).trans (by exact { Keeps.refl s with })).trans (nextKeeps_exec _ _ _ ran)

/-- Settles O3: the stores are written by updates that keep their form alone. -/
theorem everyStepKeepsTheStoresCanonical : Obligations.EveryStepKeepsTheStoresCanonical :=
  fun _ _ canonical ran => (keeps_of_step ran).canonical canonical

/-- Settles O4: no update of a table changes its length. -/
theorem everyStepKeepsTheTablesShaped : Obligations.EveryStepKeepsTheTablesShaped :=
  fun _ _ shaped ran => (keeps_of_step ran).shaped shaped

/-- Settles O5: the slots move by R175's transitions and by completions alone. -/
theorem everyStepKeepsTheBoardLaw : Obligations.EveryStepKeepsTheBoardLaw :=
  fun _ _ law ran => boardLaw_iff.mpr ((keeps_of_step ran).board (boardLaw_iff.mp law))

/-- Settles O6: items enter behind the head where there is room, and only the head is started or interrupted. -/
theorem everyStepKeepsTheQueueLaw : Obligations.EveryStepKeepsTheQueueLaw :=
  fun _ _ law ran => (keeps_of_step ran).queues law

/-- Settles O7: whatever writes a factor set or a mask reports the cell's beginning and ceasing to draw. -/
theorem everyStepKeepsTheAttentionCount : Obligations.EveryStepKeepsTheAttentionCount :=
  fun _ _ shaped law ran => (keeps_of_step ran).attention shaped.kiosks shaped.counters law
end Sys2Proof.Machine
end

section
/-! Run time (R1): only its own advance and the resets move it, which settles O11. -/

namespace Sys2Proof.Machine

section
variable (s : State)

@[simp] theorem forEach_runTime {f : Nat → State → State} (each : ∀ n t, (f n t).showUnit.runTime = t.showUnit.runTime)
    (l : List Nat) : (forEach l f s).showUnit.runTime = s.showUnit.runTime :=
  forEach_induct (p := fun t => t.showUnit.runTime = s.showUnit.runTime) (fun n t same => (each n t).trans same) l rfl
@[simp] theorem whenFree_runTime {r : Resource} {e : WaitEvent} {f : State → State}
    (free : (f s).showUnit.runTime = s.showUnit.runTime) : (whenFree r e f s).showUnit.runTime = s.showUnit.runTime := by
  unfold whenFree
  split
  exacts [rfl, free]
@[simp] theorem basketRequest_runTime {r : Request} {f : State → State}
    (free : (f s).showUnit.runTime = s.showUnit.runTime) : (basketRequest r f s).showUnit.runTime = s.showUnit.runTime :=
  whenFree_runTime s free
@[simp] theorem withRequest_runTime {k : RequestKind} {f : Request → State → State}
    (each : ∀ r t, (f r t).showUnit.runTime = t.showUnit.runTime) :
    (withRequest k f s).showUnit.runTime = s.showUnit.runTime := by
  unfold withRequest
  repeat' split
  exacts [each _ _, rfl, rfl]

/-! ### The show unit's own updates -/

@[simp] theorem updShow_runTime (n : Nat) (f : ShowRec → ShowRec) : (updShow n f s).showUnit.runTime = s.showUnit.runTime := rfl
@[simp] theorem setShow_runTime (n : Nat) (f : ShowRec → ShowRec) : (setShow n f s).showUnit.runTime = s.showUnit.runTime := rfl
@[simp] theorem stepShow_runTime (n : Nat) : (stepShow n s).showUnit.runTime = s.showUnit.runTime := rfl
@[simp] theorem writeClock_runTime (now : Instant) (phase : Nat) :
    (writeClock now phase s).showUnit.runTime = s.showUnit.runTime := rfl
@[simp] theorem updRemoval_runTime (x : Removal) (y : Option Removal) :
    (updRemoval x y s).showUnit.runTime = s.showUnit.runTime := rfl

/-! ### The events that reach the show unit's record -/

@[simp] theorem clearRange_runTime (n : Nat) : (clearRange n s).showUnit.runTime = s.showUnit.runTime := by
  simp [clearRange]
@[simp] theorem loadCells_runTime (cell : Nat) (map : List Byte) : (loadCells cell map s).showUnit.runTime = s.showUnit.runTime := by
  induction map generalizing cell s with
  | nil => rfl
  | cons b rest ih => exact ih _ _
@[simp] theorem cellEvent_runTime (n : Nat) (cells : List Nat) (st : SeatState) (owner : Option Nat) (counts : ShowRec → ShowRec) : (cellEvent n cells st owner counts s).showUnit.runTime = s.showUnit.runTime := by
  simp only [cellEvent]
  (repeat' split) <;> simp
@[simp] theorem seatEvent_runTime (n : Nat) (list : List Nat) (st : SeatState) (owner : Option Nat) (counts : ShowRec → ShowRec) : (seatEvent n list st owner counts s).showUnit.runTime = s.showUnit.runTime := by
  simp [seatEvent]
@[simp] theorem holdCells_runTime (n b : Nat) (list : List Nat) : (holdCells n b list s).showUnit.runTime = s.showUnit.runTime := by
  simp [holdCells]
@[simp] theorem releaseCells_runTime (n : Nat) (list : List Nat) : (releaseCells n list s).showUnit.runTime = s.showUnit.runTime := by
  simp [releaseCells]
@[simp] theorem sellCells_runTime (n serial : Nat) (list : List Nat) : (sellCells n serial list s).showUnit.runTime = s.showUnit.runTime := by
  simp [sellCells]
@[simp] theorem freeSold_runTime (n serial : Nat) : (freeSold n serial s).1.showUnit.runTime = s.showUnit.runTime := by
  simp [freeSold]
@[simp] theorem blockSeatsOp_runTime (r : Request) : (blockSeatsOp r s).showUnit.runTime = s.showUnit.runTime := by
  simp only [blockSeatsOp]
  (repeat' split) <;> simp
@[simp] theorem unblockSeatsOp_runTime (r : Request) : (unblockSeatsOp r s).showUnit.runTime = s.showUnit.runTime := by
  simp only [unblockSeatsOp]
  (repeat' split) <;> simp
@[simp] theorem dayChangeOp_runTime : (dayChangeOp s).showUnit.runTime = s.showUnit.runTime := by
  simp only [dayChangeOp]
  (repeat' split) <;> simp
@[simp] theorem refundFreeingOp_runTime (serial : Nat) : (refundFreeingOp serial s).showUnit.runTime = s.showUnit.runTime := by
  simp only [refundFreeingOp]
  (repeat' split) <;> simp
@[simp] theorem holdEventNow_runTime (b slot : Nat) (list : List Nat) : (holdEventNow b slot list s).showUnit.runTime = s.showUnit.runTime := by
  simp only [holdEventNow]
  (repeat' split) <;> simp
@[simp] theorem releaseEventNow_runTime (b slot : Nat) (list : List Nat) : (releaseEventNow b slot list s).showUnit.runTime = s.showUnit.runTime := by
  simp [releaseEventNow]
@[simp] theorem holdEventOp_runTime (b : Nat) : (holdEventOp b s).showUnit.runTime = s.showUnit.runTime := by
  simp only [holdEventOp]
  (repeat' split) <;> simp
@[simp] theorem releaseEventOp_runTime (b : Nat) : (releaseEventOp b s).showUnit.runTime = s.showUnit.runTime := by
  simp only [releaseEventOp]
  (repeat' split) <;> simp
@[simp] theorem endBasket_runTime (b : Nat) (dest : BasketState) : (endBasket b dest s).showUnit.runTime = s.showUnit.runTime := by
  simp [endBasket]
@[simp] theorem expireBasket_runTime (b : Nat) : (expireBasket b s).showUnit.runTime = s.showUnit.runTime := by
  simp [expireBasket]
@[simp] theorem holdDeadlineOp_runTime (b : Nat) : (holdDeadlineOp b s).showUnit.runTime = s.showUnit.runTime := by
  simp only [holdDeadlineOp]
  (repeat' split) <;> simp
@[simp] theorem leftSaleNow_runTime (b : Nat) : (leftSaleNow b s).showUnit.runTime = s.showUnit.runTime := by
  simp only [leftSaleNow]
  (repeat' split) <;> simp
@[simp] theorem showLeftSaleOp_runTime (n : Nat) : (showLeftSaleOp n s).showUnit.runTime = s.showUnit.runTime := by
  simp only [showLeftSaleOp]
  (repeat' split) <;> simp
@[simp] theorem abandonNow_runTime (r : Request) : (abandonNow r s).showUnit.runTime = s.showUnit.runTime := by
  simp only [abandonNow]
  (repeat' split) <;> simp
@[simp] theorem saleMove_runTime (b : Nat) (m : Method) : (saleMove b m s).showUnit.runTime = s.showUnit.runTime := by
  simp [saleMove]
@[simp] theorem payNow_runTime (r : Request) : (payNow r s).showUnit.runTime = s.showUnit.runTime := by
  simp only [payNow]
  (repeat' split) <;> simp
@[simp] theorem returnBasket_runTime (b : Nat) : (returnBasket b s).showUnit.runTime = s.showUnit.runTime := by
  simp only [returnBasket]
  (repeat' split) <;> simp
@[simp] theorem takeOutcome_runTime (o : OutcomeReport) : (takeOutcome o s).showUnit.runTime = s.showUnit.runTime := by
  simp only [takeOutcome]
  (repeat' split) <;> simp
@[simp] theorem paymentOutcomeOp_runTime (b : Nat) : (paymentOutcomeOp b s).showUnit.runTime = s.showUnit.runTime := by
  simp only [paymentOutcomeOp]
  (repeat' split) <;> simp
@[simp] theorem settleNow_runTime (r : Request) : (settleNow r s).showUnit.runTime = s.showUnit.runTime := by
  simp only [settleNow]
  (repeat' split) <;> simp
@[simp] theorem enterShow_runTime (n : Nat) (st : ShowState) : (enterShow n st s).showUnit.runTime = s.showUnit.runTime := by
  simp only [enterShow]
  (repeat' split) <;> simp
@[simp] theorem moveShow_runTime (n : Nat) : (moveShow n s).showUnit.runTime = s.showUnit.runTime := by
  rw [moveShow]
  generalize dueMoves _ _ = due
  induction due generalizing s with
  | nil => rfl
  | cons st rest ih => exact (ih _).trans (enterShow_runTime s n st)
@[simp] theorem moveShows_runTime : (moveShows s).showUnit.runTime = s.showUnit.runTime := by
  simp [moveShows]
@[simp] theorem reportDay_runTime (before : Instant) : (reportDay before s).showUnit.runTime = s.showUnit.runTime := by
  simp only [reportDay]
  (repeat' split) <;> simp
@[simp] theorem setClockOp_runTime (r : Request) : (setClockOp r s).showUnit.runTime = s.showUnit.runTime := by
  simp only [setClockOp]
  (repeat' split) <;> simp
@[simp] theorem loadShowOp_runTime (r : Request) : (loadShowOp r s).showUnit.runTime = s.showUnit.runTime := by
  simp only [loadShowOp]
  (repeat' split) <;> simp
@[simp] theorem loadingCompleteOp_runTime (n : Nat) : (loadingCompleteOp n s).showUnit.runTime = s.showUnit.runTime := by
  simp only [loadingCompleteOp]
  (repeat' split) <;> simp
@[simp] theorem setPricesOp_runTime (r : Request) : (setPricesOp r s).showUnit.runTime = s.showUnit.runTime := by
  simp only [setPricesOp]
  (repeat' split) <;> simp
@[simp] theorem closeSaleOp_runTime (r : Request) : (closeSaleOp r s).showUnit.runTime = s.showUnit.runTime := by
  simp only [closeSaleOp]
  (repeat' split) <;> simp
@[simp] theorem dropShowOp_runTime (r : Request) : (dropShowOp r s).showUnit.runTime = s.showUnit.runTime := by
  simp only [dropShowOp]
  (repeat' split) <;> simp
@[simp] theorem salesRemovalNow_runTime (n : Nat) : (salesRemovalNow n s).showUnit.runTime = s.showUnit.runTime := by
  simp only [salesRemovalNow]
  (repeat' split) <;> simp
@[simp] theorem salesRemovalOp_runTime (n : Nat) : (salesRemovalOp n s).showUnit.runTime = s.showUnit.runTime := by
  simp only [salesRemovalOp]
  (repeat' split) <;> simp
@[simp] theorem voucherShowRemovalOp_runTime (n : Nat) : (voucherShowRemovalOp n s).showUnit.runTime = s.showUnit.runTime := by
  simp only [voucherShowRemovalOp]
  (repeat' split) <;> simp
@[simp] theorem seatRangeClearOp_runTime (n : Nat) : (seatRangeClearOp n s).showUnit.runTime = s.showUnit.runTime := by
  simp only [seatRangeClearOp]
  (repeat' split) <;> simp
@[simp] theorem dropCompleteOp_runTime (n : Nat) : (dropCompleteOp n s).showUnit.runTime = s.showUnit.runTime := by
  simp only [dropCompleteOp]
  (repeat' split) <;> simp
@[simp] theorem takeShares_runTime (old : Option Configuration) (c : Configuration) (kinds : List VoucherKind) : (takeShares old c kinds s).showUnit.runTime = s.showUnit.runTime := by
  simp [takeShares]
@[simp] theorem configureOp_runTime (r : Request) : (configureOp r s).showUnit.runTime = s.showUnit.runTime := by
  unfold configureOp
  dsimp only
  cases configureRefusal s (param2 r 0) <;> simp
@[simp] theorem takeRequest_runTime (r : Request) : (takeRequest r s).showUnit.runTime = s.showUnit.runTime := by
  simp only [takeRequest]
  (repeat' split) <;> simp
@[simp] theorem takeWaiting_runTime (e : WaitEvent) : (takeWaiting e s).showUnit.runTime = s.showUnit.runTime := by
  simp only [takeWaiting]
  (repeat' split) <;> simp

@[simp] theorem drain_runTime (r : Resource) : (drain r s).showUnit.runTime = s.showUnit.runTime := by
  rw [drain]
  induction s.waiting.length generalizing s with
  | zero => rfl
  | succ n ih =>
    unfold drainFor
    repeat' split
    exacts [rfl, rfl, (ih _).trans (takeWaiting_runTime _ _)]
end

/-- The state a command leads to, if it leads to one, has the run time of `s`. -/
def LeavesRunTime (s : State) (o : Host.Outcome State Fault Refusal) : Prop := ∀ t, o = .next t → t.showUnit.runTime = s.showUnit.runTime

theorem LeavesRunTime.next {s t : State} (same : t.showUnit.runTime = s.showUnit.runTime) : LeavesRunTime s (.next t) :=
  fun _ ran => by cases ran; exact same

/-- Settles O11: the commands taken one by one, each made of updates that leave run time. -/
theorem onlyItsAdvanceAndTheResetsMoveRunTime : Obligations.OnlyItsAdvanceAndTheResetsMoveRunTime := by
  intro c s t notAdvance notSecond notPowerOn notSoft noReset ran
  refine (?_ : LeavesRunTime s (exec c s)) t ran
  cases c
  case runTimeAdvance => exact absurd rfl notAdvance
  case clockSecond => exact absurd rfl notSecond
  case powerOnReset => exact absurd rfl notPowerOn
  case softReset => exact absurd rfl notSoft
  case noticeEnableWrite value =>
    refine .next ?_
    simp only [runWrite, noReset value rfl, Bool.false_eq_true, if_false]
    split
    exacts [by simp, rfl]
  case hostWriteUnit off lanes =>
    simp only [exec, execHostWriteUnit]
    repeat' split
    exacts [(fun _ ran => by cases ran), (fun _ ran => by cases ran), .next (by simp)]
  all_goals
    refine .next ?_
    simp [holdEventClose, releaseEventClose, voucherIssueClose, voucherRemovalClose, saleCheckClose, reprintEnterClose,
      refundCompleteClose]
end Sys2Proof.Machine
end

section
/-! The step (log entry 1) and the state after power-on reset: every value written out, and every law the steps keep. -/

namespace Sys2Proof.Machine

/-- Settles O1. -/
theorem stepRunsTheFrontCommandAndIdlesByChoice : Obligations.StepRunsTheFrontCommandAndIdlesByChoice := by
  refine ⟨fun _ _ => rfl, fun s empty => ?_⟩
  rw [step, empty]

/-! ### The laws at reset -/

theorem getD_replicate_self {α : Type} (n i : Nat) (a : α) : (List.replicate n a).getD i a = a := by
  rw [List.getD_eq_getElem?_getD, List.getElem?_getD_replicate_default_eq]

theorem shaped_reset : Shaped State.reset := by
  constructor <;> decide

theorem canonical_reset : Canonical State.reset :=
  ⟨sparse_nil_wf _, sparse_nil_wf _, sparse_nil_wf _, sparse_nil_wf _, sparse_nil_wf _, sparse_nil_wf _⟩

@[simp] theorem basketAt_reset (b : Nat) : basketAt .reset b = .free := getD_replicate_self ..
@[simp] theorem showAt_reset (n : Nat) : showAt .reset n = .empty := getD_replicate_self ..
@[simp] theorem lineAt_reset (n : Nat) : lineAt .reset n = .initial := getD_replicate_self ..
@[simp] theorem seatAt_reset (cell : Nat) : seatAt .reset cell = .spare := rfl
@[simp] theorem voucherAt_reset (i : Nat) : voucherAt .reset i = .empty := rfl

theorem paymentLaw_reset : PaymentLaw .reset where
  lines := List.length_replicate
  records n _ := by rw [lineAt_reset]; rfl
  baskets := List.length_replicate
  opened n _ i _ isOpen := by
    have empty : (lineAt .reset n).records.getD i .empty = .empty := by
      rw [lineAt_reset]
      exact getD_replicate_self 4 i PayRecord.empty
    rw [empty] at isOpen
    exact absurd rfl isOpen.1
  outcomes _ member := nomatch member
  once := List.nodup_nil
  calls b _ isOpen := absurd rfl (by rw [basketAt_reset] at isOpen; exact isOpen)
  unconfigured _ := ⟨fun _ member => (nomatch member), fun _ member => (nomatch member)⟩

theorem not_selling_free : ¬ Selling Basket.free := by decide

theorem basketLaw_reset : BasketLaw .reset where
  baskets := List.length_replicate
  lists b _ := by
    rw [basketAt_reset]
    refine ⟨by decide, by decide, by decide, by decide, by decide, by decide, fun _ _ call => nomatch call⟩
  oneSelling a _ b _ selling := absurd (basketAt_reset a ▸ selling) not_selling_free

theorem salesLaw_reset : SalesLaw .reset where
  baskets := List.length_replicate
  store := sparse_nil_wf _
  records _ member := nomatch member
  once := List.nodup_nil
  first := Nat.le_refl 1
  inUse := rfl
  reserved := rfl
  places := by decide
  serials := by decide

theorem not_allocated_reset (n : Nat) : ¬ Allocated .reset n := by
  rintro (state | ⟨_, member, -⟩)
  · rw [showAt_reset] at state
    exact state rfl
  · cases member

theorem houseLaw_reset : HouseLaw .reset where
  shows := List.length_replicate
  baskets := List.length_replicate
  canonical := canonical_reset
  owned c := by rw [seatAt_reset]; decide
  pool n _ allocated := absurd allocated (not_allocated_reset n)
  apart n _ _ _ _ allocated := absurd allocated (not_allocated_reset n)
  unallocated n _ _ := by rw [showAt_reset]; rfl
  loadings _ member := nomatch member
  loadingOnce := List.nodup_nil
  removals _ member := nomatch member
  removalOnce := List.nodup_nil
  counts n _ state := absurd rfl (by rw [showAt_reset] at state; exact state)
  listed b _ := by
    intro c selling
    exact absurd (basketAt_reset b ▸ selling) not_selling_free
  held cell state := by rw [seatAt_reset] at state; cases state
  calls b _ isOpen := absurd rfl (by rw [basketAt_reset] at isOpen; exact isOpen)
  releases b _ slot list call := by rw [basketAt_reset] at call; cases call
  vouchers b _ := by
    intro c selling
    exact absurd (basketAt_reset b ▸ selling) not_selling_free
  pendings i state := by rw [voucherAt_reset] at state; cases state
  table i _ := rfl
  chains bucket _ := ⟨[], List.nodup_nil, rfl, nofun, fun i => by simp [Voucher.empty]⟩
  codes i _ state := absurd rfl (by rw [voucherAt_reset] at state; exact state)
  sold c _ state := by rw [seatAt_reset] at state; cases state
  sales _ member := nomatch member
  refunds _ member := nomatch member
  refundOnce := List.nodup_nil
  actives i state := by rw [voucherAt_reset] at state; cases state
  voided _ member := nomatch member

theorem kioskAt_reset {k : Nat} (inside : k < 12) : kioskAt .reset k = .atLevels [false, false, false, false] := by
  simp only [kioskAt, State.reset, StationUnit.atLevels, List.map_replicate]
  rw [List.getD_eq_getElem _ _ (by simpa using inside), List.getElem_replicate]

@[simp] theorem counterAt_reset (m : Nat) : counterAt .reset m = .initial := getD_replicate_self ..

theorem stationLaw_reset : StationLaw .reset where
  currents k inside b current := by rw [kioskAt_reset inside] at current; cases current
  conditions k inside := by
    have printer : printerAt .reset k = .initial := getD_replicate_self ..
    simp only [senseAt, kioskAt_reset inside, printer]
    decide
  lamps l := by
    rcases l with ⟨k, _ | _⟩ | ⟨m, _ | _⟩
    · simp only [lampAt, kioskAt_reset k.isLt]
      exact ⟨nofun, nofun, fun e _ _ found => by cases found; exact ⟨rfl, rfl⟩⟩
    · simp only [lampAt, kioskAt_reset k.isLt]
      exact ⟨nofun, nofun, fun e _ _ found => by cases found; exact ⟨rfl, rfl⟩⟩
    · simp only [lampAt, counterAt_reset]
      exact ⟨nofun, nofun, fun e _ _ found => by cases found; exact ⟨rfl, rfl⟩⟩
    · simp only [lampAt, counterAt_reset]
      exact ⟨nofun, nofun, fun e _ _ found => by cases found; exact ⟨rfl, rfl⟩⟩

/-- Settles O2: every store of the reset state is empty, every table is one record repeated. -/
theorem resetStateHoldsTheGivenValuesAndMeetsTheLaws : Obligations.ResetStateHoldsTheGivenValuesAndMeetsTheLaws := by
  refine ⟨⟨rfl, rfl, rfl, rfl, fun _ => rfl, rfl, fun _ => rfl, rfl, rfl, rfl⟩, rfl, ⟨rfl, fun _ => rfl⟩, rfl, rfl, rfl, ⟨rfl, fun _ => rfl, fun _ => rfl⟩,
    ⟨rfl, fun _ => rfl⟩, rfl, rfl, shaped_reset, canonical_reset, boardLaw_iff.mpr boardMarks_initial, (drawingCells_atLevels rfl).symm,
    fun q hq => ?_, paymentLaw_reset, basketLaw_reset, salesLaw_reset, houseLaw_reset, stationLaw_reset⟩
  rw [List.eq_of_mem_replicate hq]
  decide
end Sys2Proof.Machine
end

section
/-! Station cells' factor sets and masks (R158, R159, R181): what writes them, whole. -/

namespace Sys2Proof.Machine

/-- An entry of a table updated is the entry replaced; past the end both leave the table. -/
theorem updAt_eq_set {α : Type} (l : List α) (i : Nat) (f : α → α) (d : α) : updAt l i f = l.set i (f (l.getD i d)) := by
  rw [updAt]
  cases found : l[i]? with
  | none => exact (List.set_eq_of_length_le (List.getElem?_eq_none_iff.mp found)).symm
  | some x => rw [List.getD_eq_getElem?_getD, found]; rfl

theorem setFactors_eq (cell : CellId) (factors mask : FactorSet) (s : State) :
    setFactors cell factors mask s = { s with station := cellWritten cell factors mask s.station } := by
  cases cell with
  | kiosk k => simp only [setFactors, updKiosk, cellWritten, updAt_eq_set _ _ _ (Kiosk.atLevels [])]
  | counter m => simp only [setFactors, updCounter, cellWritten, updAt_eq_set _ _ _ Counter.initial]
  | foyer => rfl

/-- R159: a cell draws attention while some bit of its factor set is not in its mask. -/
theorem draws_iff (factors mask : FactorSet) :
    draws factors mask = true ↔ ∃ i < 16, factors.getLsbD i = true ∧ mask.getLsbD i = false := by
  rw [draws, bne_iff_ne, ne_eq, BitVec.eq_of_getLsbD_eq_iff]
  push Not
  refine exists_congr fun i => ?_
  refine and_congr_right fun inside => ?_
  simp [inside]

/-- R181: a cell that begins or ceases to draw attention, as the board unit is told of it. -/
theorem reportAttention_written (before after : Bool) (s : State) : reportAttention before after s = { s with
    board := { s.board with attention :=
      if !before && after then s.board.attention + 1 else if before && !after then s.board.attention - 1 else s.board.attention }
    wire := s.wire ++ message (!before && after && s.board.noticeEnable && s.board.attention == 0) } := by
  have quiet : s.wire ++ message false = s.wire := List.append_nil _
  cases before <;> cases after
  · simp [reportAttention, quiet]
  · simp only [reportAttention, attentionBegins, factorsCause, sendInterrupt_eq]
    cases count : s.board.attention with
    | zero => simp
    | succ n => simp [quiet]
  · simp [reportAttention, attentionCeases, quiet]
  · simp [reportAttention, quiet]

/-- R159, R181: a factor raised. -/
theorem raiseFactor_written (cell : CellId) (f : FactorSet) (s : State) : raiseFactor cell f s = { s with
    station := cellWritten cell (factorsOf s cell ||| f) (maskOf s cell) s.station
    board := { s.board with attention := s.board.attention +
      (if draws f (maskOf s cell) && !draws (factorsOf s cell) (maskOf s cell) then 1 else 0) }
    wire := s.wire ++ message (draws f (maskOf s cell) && s.board.noticeEnable) } := by
  have quiet : s.wire ++ message false = s.wire := List.append_nil _
  simp only [raiseFactor, setFactors_eq]
  cases draws f (maskOf s cell) <;> cases draws (factorsOf s cell) (maskOf s cell) <;> simp [sendInterrupt_eq, quiet]

/-- Settles O13: each write is `setFactors`, of which the board unit is told. -/
theorem factorsMasksAndAcknowledgesWriteOneCell : Obligations.FactorsMasksAndAcknowledgesWriteOneCell := by
  refine ⟨⟨by decide, by decide, rfl, rfl, draws_iff⟩, fun s cell _ _ => ?_⟩
  intro named drew written
  have stored : named = namedFactors cell := by cases cell <;> rfl
  refine ⟨fun f => raiseFactor_written cell f s, fun value => ?_, fun value => ?_⟩
  · simp only [exec, execMaskWrite, writeMask, reportAttention_written, setFactors_eq, ← stored]
    rfl
  · simp only [exec, execAcknowledgeWrite, acknowledge, reportAttention_written, setFactors_eq]
    rfl
end Sys2Proof.Machine
end

section
/-! Guarded state words (R175) and the bytes a host write unit covers (R172). -/

namespace Sys2Proof.Machine

/-! ### The bytes a unit covers -/

theorem mem_covered {off : Nat} {lanes : List (Option Byte)} {e : Nat × Byte} :
    e ∈ covered off lanes ↔ ∃ i, e.1 = off + i ∧ lanes[i]? = some (some e.2) := by
  induction lanes generalizing off with
  | nil => simp [covered]
  | cons lane rest ih =>
    have tail : (∃ i, e.1 = off + 1 + i ∧ rest[i]? = some (some e.2)) ↔ ∃ i, e.1 = off + (i + 1) ∧ (lane :: rest)[i + 1]? = some (some e.2) := by
      simp only [List.getElem?_cons_succ, Nat.add_assoc, Nat.add_comm 1]
    have split : (∃ i, e.1 = off + i ∧ (lane :: rest)[i]? = some (some e.2)) ↔
        (e.1 = off ∧ lane = some e.2) ∨ ∃ i, e.1 = off + (i + 1) ∧ (lane :: rest)[i + 1]? = some (some e.2) := by
      constructor
      · rintro ⟨_ | i, place, found⟩
        exacts [.inl ⟨place, by simpa using found⟩, .inr ⟨i, place, found⟩]
      · rintro (⟨place, rfl⟩ | ⟨i, place, found⟩)
        exacts [⟨0, place, rfl⟩, ⟨i + 1, place, found⟩]
    rw [split, ← tail, ← ih]
    cases lane with
    | none => simp [covered]
    | some b => simp [covered, Prod.ext_iff, eq_comm]

/-- The place of byte `i` of a slot's state word. -/
theorem placeAt_stateWord {slot i : Nat} (inside : slot < 64) (low : i < 4) :
    placeAt (128 * slot + 0x7C + i) = .stateWord slot i := by
  have byte : (128 * slot + 0x7C + i) % 128 = 0x7C + i := by omega
  have word : (128 * slot + 0x7C + i) / 128 = slot := by omega
  rw [placeAt, if_pos (by omega), slotPlace]
  simp only [byte, word]
  rw [if_neg (by omega), if_neg (by omega), Nat.add_sub_cancel_left]

/-- Every byte a unit covers lies on the state word of a slot. -/
def OnWord (slot : Nat) (l : List (Nat × Byte)) : Prop := ∀ e ∈ l, ∃ i, placeAt e.1 = .stateWord slot i

theorem onWord_covered {slot : Nat} {lanes : List (Option Byte)} (inside : slot < 64) (four : lanes.length = 4) :
    OnWord slot (covered (128 * slot + 0x7C) lanes) := by
  intro e he
  obtain ⟨i, place, found⟩ := mem_covered.mp he
  have low := (List.getElem?_eq_some_iff.mp found).1
  exact ⟨i, place ▸ placeAt_stateWord inside (four ▸ low)⟩

section
variable {slot : Nat} {l : List (Nat × Byte)} (word : OnWord slot l) (s : State)
include word

theorem storeBytes_onWord : storeBytes l s = s := by
  have kept : ∀ (l : List (Nat × Byte)) (m : List Host.Cell), OnWord slot l →
      l.foldl (fun m e => if placeAt e.1 = .stored then memWrite m e.1 e.2 else m) m = m := by
    intro l
    induction l with
    | nil => exact fun _ _ => rfl
    | cons e rest ih =>
      intro m word
      obtain ⟨i, place⟩ := word e List.mem_cons_self
      rw [List.foldl_cons, if_neg (by rw [place]; nofun)]
      exact ih m fun x hx => word x (List.mem_cons_of_mem _ hx)
  rw [storeBytes, kept l _ word]

theorem countStray_onWord (off : Nat) : countStray off l s = s := by
  rw [countStray, if_neg]
  intro touched
  obtain ⟨e, he, part⟩ := List.any_eq_true.mp touched
  obtain ⟨i, place⟩ := word e he
  rw [place] at part
  cases part

theorem stationUnitWrite_onWord : stationUnitWrite l s = s := by
  have mask : maskUnit l s = none := by
    rw [maskUnit]
    refine List.foldlRecOn l _ (motive := fun acc => acc = none) rfl fun acc none e he => ?_
    obtain ⟨i, place⟩ := word e he
    simp only [place]
    exact none
  have ack : ackUnit l = none := by
    rw [ackUnit]
    refine List.foldlRecOn l _ (motive := fun acc => acc = none) rfl fun acc none e he => ?_
    obtain ⟨i, place⟩ := word e he
    simp only [place]
    exact none
  simp only [stationUnitWrite, mask, ack]

theorem stateWordOf_onWord (covers : l ≠ []) : stateWordOf l = some slot := by
  obtain ⟨e, rest, rfl⟩ := List.exists_cons_of_ne_nil covers
  obtain ⟨i, place⟩ := word e List.mem_cons_self
  simp [stateWordOf, place]

end

/-- A host write unit that covers a byte of a state word does what R175 says of it, and nothing else. -/
theorem hostUnit_onWord {slot : Nat} {lanes : List (Option Byte)} (s : State) (inside : slot < 64) (four : lanes.length = 4)
    (covers : ∃ x ∈ lanes, x ≠ none) :
    hostUnit (128 * slot + 0x7C) lanes s =
      if lanes.all Option.isSome then stateWordWrite slot (leValue ((covered (128 * slot + 0x7C) lanes).map Prod.snd)) s
      else boardFault slot ((lanes.headD none).getD 0).toNat s := by
  have word := onWord_covered inside four
  have some' : covered (128 * slot + 0x7C) lanes ≠ [] := by
    obtain ⟨x, hx, set⟩ := covers
    obtain ⟨b, rfl⟩ := Option.ne_none_iff_exists'.mp set
    obtain ⟨i, found⟩ := List.getElem?_of_mem hx
    exact List.ne_nil_of_mem (mem_covered (e := (128 * slot + 0x7C + i, b)).mpr ⟨i, rfl, found⟩)
  simp only [hostUnit, storeBytes_onWord word, countStray_onWord word, stationUnitWrite_onWord word, stateWordUnit,
    stateWordOf_onWord word some']

/-! ### Board faults (R175) -/

/-- What a board fault leaves: it is recorded and counted, and raises BOARD_FAULT. -/
structure BoardFaulted (slot value : Nat) (s t : State) : Prop where
  board : t.board = { s.board with lastFault := some (slot, value, slotAt s slot), attention := t.board.attention }
  counted : statAt t statBoardFault = min (statAt s statBoardFault + 1) 4294967295
  others : ∀ o, o ≠ statBoardFault → statAt t o = statAt s o
  raised : factorsOf t .foyer = factorsOf s .foyer ||| ffBoardFault
  frame : t = { s with board := t.board, wire := t.wire, station := { s.station with foyer := t.station.foyer }, stats := t.stats }

theorem boardFault_spec {slot value : Nat} {s : State} (canonical : sparseWf (0 : Nat) s.stats) (low : value < 256) :
    BoardFaulted slot value s (boardFault slot value s) := by
  rw [boardFault, raiseFactor_written]
  refine ⟨?_, statAt_addStat_self _ _ _ canonical, fun o apart => statAt_addStat_other _ _ _ _ canonical apart.symm, rfl, rfl⟩
  simp only [Nat.mod_eq_of_lt low]
  rfl

/-- R175: the writes of a state word that are not stored. -/
theorem stateWordWrite_fault {slot value : Nat} {s : State} (free : slotAt s slot = .free → value ≠ 1)
    (posted : slotAt s slot = .posted → value ≠ 4) (taken : slotAt s slot = .taken → value ≠ 4)
    (done : slotAt s slot = .done → value ≠ 0) : stateWordWrite slot value s = boardFault slot value s := by
  unfold stateWordWrite
  split
  next state => exact if_neg (free state)
  next state => exact if_neg (posted state)
  next state => exact if_neg (taken state)
  next state => exact if_neg (done state)

/-! ### The transitions (R175) -/

theorem exec_postingWrite_free {s : State} {slot : Fin 64} (free : slotAt s slot = .free) :
    exec (.postingWrite slot) s = .next { s with board := { s.board with
      slots := s.board.slots.set slot .posted, posting := s.board.posting ++ [slot.val] } } := by
  show Host.Outcome.next (stateWordWrite slot 1 s) = _
  simp [stateWordWrite, free]

theorem exec_freeWrite_done {s : State} {slot : Fin 64} (done : slotAt s slot = .done) :
    exec (.freeWrite slot) s = .next { s with board := { s.board with
      slots := s.board.slots.set slot .free, doneMark := s.board.doneMark.set slot false } } := by
  show Host.Outcome.next (stateWordWrite slot 0 s) = _
  simp [stateWordWrite, done]

theorem exec_hostWriteUnit {off : Nat} {lanes : List (Option Byte)} (s : State) (inside : off < 0x40000) (aligned : off % 4 = 0)
    (four : lanes.length = 4) : exec (.hostWriteUnit off lanes) s = .next (hostUnit off lanes s) := by
  simp only [exec, execHostWriteUnit]
  rw [if_neg (by simpa [Config.windowSize] using inside), if_neg (by omega)]

/-- A whole unit on a state word. -/
theorem exec_wholeWord (s : State) (slot : Fin 64) (a b c d : Byte) :
    exec (.hostWriteUnit (128 * slot + 0x7C) [some a, some b, some c, some d]) s =
      .next (stateWordWrite slot (a.toNat + 256 * (b.toNat + 256 * (c.toNat + 256 * d.toNat))) s) := by
  rw [exec_hostWriteUnit s (by omega) (by omega) rfl, hostUnit_onWord s slot.isLt rfl ⟨some a, by simp, nofun⟩]
  simp [covered, leValue]

/-- A board fault of a unit, read off what the unit does. -/
theorem exec_faultyUnit {s : State} {slot : Fin 64} {lanes : List (Option Byte)} (four : lanes.length = 4)
    (bad : (∃ x ∈ lanes, x = none) ∧ (∃ x ∈ lanes, x ≠ none) ∨
      ∃ a b c d : Byte, lanes = [some a, some b, some c, some d] ∧ ¬ (b = 0 ∧ c = 0 ∧ d = 0 ∧ (a = 0 ∨ a = 1 ∨ a = 4))) :
    ∃ value, value % 256 = ((lanes.headD none).getD 0).toNat ∧
      exec (.hostWriteUnit (128 * slot + 0x7C) lanes) s = .next (boardFault slot value s) := by
  rcases bad with ⟨⟨_, gap, rfl⟩, covers⟩ | ⟨a, b, c, d, rfl, bad⟩
  · refine ⟨((lanes.headD none).getD 0).toNat, Nat.mod_eq_of_lt (BitVec.isLt _), ?_⟩
    rw [exec_hostWriteUnit s (by omega) (by omega) four, hostUnit_onWord s slot.isLt four covers, if_neg]
    intro whole
    exact absurd (List.all_eq_true.mp whole _ gap) (by simp)
  · refine ⟨a.toNat + 256 * (b.toNat + 256 * (c.toNat + 256 * d.toNat)), ?_, ?_⟩
    · have := a.isLt
      simp only [List.headD_cons, Option.getD_some]
      omega
    · have apart : ∀ n ∈ [0, 1, 4], a.toNat + 256 * (b.toNat + 256 * (c.toNat + 256 * d.toNat)) ≠ n := by
        intro n hn same
        refine bad ?_
        simp only [List.mem_cons, List.not_mem_nil, or_false] at hn
        refine ⟨?_, ?_, ?_, ?_⟩ <;> bv_omega
      rw [exec_wholeWord, stateWordWrite_fault] <;> exact fun _ => apart _ (by simp)

/-- Settles O14: the transitions are `stateWordWrite` opened at each state; every other write is one board fault. -/
theorem stateWordWritesMoveTheSlotOrAreBoardFaults : Obligations.StateWordWritesMoveTheSlotOrAreBoardFaults := by
  refine ⟨fun s slot slots marks => ⟨fun free => ?posted, fun done => ?freed⟩, ?refused, fun s slot => ⟨?whole, ?unit⟩⟩
  case posted =>
    refine ⟨_, exec_postingWrite_free free, ?_, fun n apart => ?_, rfl⟩
    · exact getD_set_self (slots.symm ▸ slot.isLt)
    · exact getD_set_other apart
  case freed =>
    refine ⟨_, exec_freeWrite_done done, ?_, fun n apart => ?_, ?_, fun n apart => ?_, rfl⟩
    · exact getD_set_self (slots.symm ▸ slot.isLt)
    · exact getD_set_other apart
    · exact getD_set_self (marks.symm ▸ slot.isLt)
    · exact getD_set_other apart
  case refused =>
    intro s slot c value canonical bad
    have fault : value < 256 ∧ exec c s = .next (boardFault slot value s) := by
      rcases bad with ⟨rfl, rfl, state⟩ | ⟨rfl, rfl, state⟩ | ⟨rfl, rfl, state⟩
      · refine ⟨by omega, congrArg Host.Outcome.next (stateWordWrite_fault ?_ ?_ ?_ ?_)⟩ <;> simp_all
      · refine ⟨by omega, congrArg Host.Outcome.next (stateWordWrite_fault ?_ ?_ ?_ ?_)⟩ <;> simp_all
      · refine ⟨by omega, congrArg Host.Outcome.next (stateWordWrite_fault ?_ ?_ ?_ ?_)⟩ <;> rcases state with state | state <;> simp_all
    have spec := boardFault_spec (slot := slot) canonical fault.1
    exact ⟨_, fault.2, spec.board, spec.counted, spec.others, spec.raised, spec.frame⟩
  case whole =>
    intro a b c d
    exact ⟨fun same => (exec_wholeWord s slot a b c d).trans (by rw [same]; rfl),
      fun same => (exec_wholeWord s slot a b c d).trans (by rw [same]; rfl),
      fun same => (exec_wholeWord s slot a b c d).trans (by rw [same]; rfl)⟩
  case unit =>
    intro lanes recorded canonical four first bad
    obtain ⟨value, low, ran⟩ := exec_faultyUnit (s := s) (slot := slot) four bad
    have same : boardFault slot value s = boardFault slot recorded.toNat s := by
      simp only [boardFault, low, first, Nat.mod_eq_of_lt (BitVec.isLt _)]
    have spec := boardFault_spec (slot := slot) canonical recorded.isLt
    exact ⟨_, ran.trans (congrArg _ same), spec.board, spec.counted, spec.others, spec.raised, spec.frame⟩
end Sys2Proof.Machine
end

section
/-! The decoder (R176, R177): kinds, owners, result codes and parameters as they stand, and what a take does. -/

namespace Sys2Proof.Machine

/-! ### Parameters (10.6) -/

theorem leValue_take_one (l : List Byte) : leValue (l.take 1) = (l.getD 0 0).toNat := by
  cases l <;> simp [leValue]

theorem leValue_take_succ (l : List Byte) (n : Nat) :
    leValue (l.take (n + 1)) = (l.getD 0 0).toNat + 256 * leValue ((l.drop 1).take n) := by
  cases l <;> simp [leValue]

section
variable (r : Request) (n : Nat)

theorem param1_eq : param1 r n = (r.params.getD n 0).toNat := by
  rw [param1, paramBytes, leValue_take_one]
  simp

theorem param2_eq : param2 r n = (r.params.getD n 0).toNat + 256 * (r.params.getD (n + 1) 0).toNat := by
  rw [param2, paramBytes, leValue_take_succ, leValue_take_one]
  simp

theorem param3_eq : param3 r n =
    (r.params.getD n 0).toNat + 256 * (r.params.getD (n + 1) 0).toNat + 65536 * (r.params.getD (n + 2) 0).toNat := by
  rw [param3, paramBytes, leValue_take_succ, leValue_take_succ, leValue_take_one]
  simp only [List.drop_drop, List.getD_eq_getElem?_getD, List.getElem?_drop, Nat.add_zero]
  omega

theorem paramBytes_getD {len i : Nat} (inside : i < len) : (paramBytes r n len).getD i 0 = r.params.getD (n + i) 0 := by
  simp [paramBytes, inside]

theorem numbersOf_params (count : Nat) :
    numbersOf count (r.params.drop n) = (List.range count).map (fun i => param2 r (n + 2 * i)) := by
  induction count generalizing n with
  | zero => rfl
  | succ count ih =>
    rw [numbersOf, List.drop_drop, ih, List.range_succ_eq_map, List.map_cons, List.map_map]
    refine congrArg₂ _ rfl (List.map_congr_left fun i _ => ?_)
    show param2 r _ = param2 r _
    congr 1
    simp only [Nat.succ_eq_add_one]
    omega

theorem paramSeats_iff {list : List Nat} : paramSeats r n = some list ↔
    n + 1 + 2 * param1 r n ≤ 88 ∧ list = (List.range (param1 r n)).map (fun i => param2 r (n + 1 + 2 * i)) := by
  simp only [paramSeats, numbersOf_params]
  split
  · next fits => simp [fits, eq_comm]
  · next room => simp [room]

end

/-! ### What a unit takes (R176) -/

theorem nextHanded_iff {o : Owner} {s : State} {r : Request} : nextHanded o s = some r ↔
    ownerOf r.kind = o ∧ ∃ before after, s.board.handed = before ++ r :: after ∧ ∀ x ∈ before, ownerOf x.kind ≠ o := by
  simp [nextHanded, List.find?_eq_some_iff_append]

/-! ### The take (R176, R177) -/

theorem takenUnconfigured_iff {k : RequestKind} : takenUnconfigured k = true ↔ k = .configure ∨ k = .setClock ∨ k = .clearCounts := by
  cases k <;> decide

theorem setsInFlight_iff {k : RequestKind} : setsInFlight k = true ↔ k = .pay ∨ k = .settle := by
  cases k <;> decide

theorem running_iff {s : State} : running s = true ↔ s.config ≠ none := by
  simp [running, Option.isSome_iff_ne_none]

/-- R176: a request that passes its checks. -/
theorem takeCheck_ok {s : State} {code b : Nat} {k : RequestKind} (known : kindOfCode code = some k)
    (configured : s.config ≠ none ∨ k = .configure ∨ k = .setClock ∨ k = .clearCounts)
    (idle : namesBasket k = true → k ≠ .cancelPay → s.board.inflight.getD b none = none) : takeCheck s code b = .ok k := by
  have passes : (!running s && !takenUnconfigured k) = false := by
    rcases configured with set | kind
    · rw [running_iff.mpr set]; rfl
    · rw [takenUnconfigured_iff.mpr kind, Bool.not_true, Bool.and_false]
  have free : (namesBasket k && k != .cancelPay && basketInFlight s b) = false := by
    by_contra busy
    simp only [Bool.not_eq_false, Bool.and_eq_true, bne_iff_ne] at busy
    obtain ⟨⟨names, other⟩, flight⟩ := busy
    rw [basketInFlight, idle names other] at flight
    cases flight
  simp [takeCheck, known, passes, free]

/-- R176: a request that fails a check, and the first it fails. -/
theorem takeCheck_error {s : State} {n b : Nat} {code : ResultCode}
    (fails : (kindOfCode n = none ∧ code = .badKind) ∨
     (∃ k, kindOfCode n = some k ∧ s.config = none ∧ k ≠ .configure ∧ k ≠ .setClock ∧ k ≠ .clearCounts ∧ code = .notConfigured) ∨
     (∃ k slot', kindOfCode n = some k ∧ (s.config ≠ none ∨ k = .configure ∨ k = .setClock ∨ k = .clearCounts) ∧ namesBasket k = true ∧
       k ≠ .cancelPay ∧ s.board.inflight.getD b none = some slot' ∧ code = .basketBusy)) :
    takeCheck s n b = .error code := by
  rcases fails with ⟨unknown, rfl⟩ | ⟨k, known, unset, notConfigure, notClock, notClear, rfl⟩ |
    ⟨k, slot', known, configured, names, other, flight, rfl⟩
  · simp [takeCheck, unknown]
  · have later : takenUnconfigured k = false := by
      rw [← Bool.not_eq_true, takenUnconfigured_iff]
      simp [notConfigure, notClock, notClear]
    simp [takeCheck, known, running, unset, later]
  · have passes : (!running s && !takenUnconfigured k) = false := by
      rcases configured with set | kind
      · rw [running_iff.mpr set]; rfl
      · rw [takenUnconfigured_iff.mpr kind, Bool.not_true, Bool.and_false]
    have busy : basketInFlight s b = true := by rw [basketInFlight, flight]; rfl
    simp [takeCheck, known, passes, names, other, busy]

theorem memReadAll_take_one (m : List Host.Cell) (a : Nat) : leValue ((memReadAll m a 88).take 1) = (memRead m a).toNat := by
  rw [leValue_take_one, memReadAll_getD _ _ (by omega), Nat.add_zero]

/-- R176: the state a take leaves of a request that passes its checks. -/
def handedOn (slot : Nat) (rest : List Nat) (k : RequestKind) (s : State) : State :=
  { s with
    mem := (echoTag slot s).mem
    board := { s.board with
      posting := rest, slots := s.board.slots.set slot .taken
      inflight := if setsInFlight k then s.board.inflight.set (memRead s.mem (128 * slot)).toNat (some slot) else s.board.inflight
      handed := s.board.handed ++ [{ slot := slot, kind := k, params := memReadAll s.mem (128 * slot) 88 }] } }

section
variable {s : State} {slot : Nat} {rest : List Nat} (front : s.board.posting = slot :: rest)
include front

theorem exec_decoderTake_ok {k : RequestKind}
    (check : takeCheck s (memRead s.mem (128 * slot + 0x5A)).toNat (memRead s.mem (128 * slot)).toNat = .ok k) :
    exec .decoderTake s = .next (handedOn slot rest k s) := by
  show Host.Outcome.next (decoderTakeOp s) = _
  simp only [decoderTakeOp, front, slotBase, memReadAll_take_one, check]
  rfl

theorem exec_decoderTake_error {code : ResultCode}
    (check : takeCheck s (memRead s.mem (128 * slot + 0x5A)).toNat (memRead s.mem (128 * slot)).toNat = .error code) :
    exec .decoderTake s = .next (completeSlot slot code []
      { s with mem := memWriteAll s.mem (128 * slot + 0x7A) [memRead s.mem (128 * slot + 0x58), memRead s.mem (128 * slot + 0x59)]
               board := { s.board with posting := rest } }) := by
  show Host.Outcome.next (decoderTakeOp s) = _
  simp only [decoderTakeOp, front, slotBase, memReadAll_take_one, check]
  rfl

end

theorem inflight_handedOn {s : State} {slot : Nat} {rest : List Nat} {k : RequestKind} {n : Nat} (inside : n < s.board.inflight.length) :
    (handedOn slot rest k s).board.inflight.getD n none =
      if (k = .pay ∨ k = .settle) ∧ n = (memRead s.mem (128 * slot)).toNat then some slot else s.board.inflight.getD n none := by
  simp only [handedOn]
  by_cases sets : setsInFlight k = true
  · rw [if_pos sets]
    have kind := setsInFlight_iff.mp sets
    by_cases same : n = (memRead s.mem (128 * slot)).toNat
    · rw [if_pos ⟨kind, same⟩, ← same, getD_set_self inside]
    · rw [if_neg (fun h => same h.2), getD_set_other same]
  · rw [if_neg sets, if_neg (fun h => sets (setsInFlight_iff.mpr h.1))]

/-- Settles O16: the tables are finite; a take is `takeCheck` passed or failed. -/
theorem decoderHandsOnOrRefusesTheOldestPostedRequest : Obligations.DecoderHandsOnOrRefusesTheOldestPostedRequest := by
  refine ⟨⟨by decide, rfl, fun n high => ?beyond, fun k => by cases k <;> decide, rfl, fun k => by cases k <;> decide⟩,
    ⟨fun code => by cases code <;> decide, rfl⟩, fun r n => ?params, fun o s r => nextHanded_iff, ?taken, ?refused⟩
  case beyond =>
    rw [kindOfCode, List.getElem?_eq_none (by simp only [List.length_cons, List.length_nil]; omega)]
    rfl
  case params =>
    exact ⟨param1_eq r n, param2_eq r n, param3_eq r n, fun len i inside => paramBytes_getD r n inside, fun list => paramSeats_iff r n⟩
  case taken =>
    intro s slot rest k inside slots inflight canonical front known configured b idle
    refine ⟨_, _, exec_decoderTake_ok front (takeCheck_ok known configured idle), rfl, ?now, fun n apart => getD_set_other apart,
      ⟨rfl, rfl, memReadAll_length _ _ _, fun i low => memReadAll_getD _ _ low⟩, rfl,
      fun i low => memRead_echoTag_tag slot canonical low, fun a low high => memRead_echoTag_outside slot canonical low high,
      fun n low => inflight_handedOn (inflight.symm ▸ low), rfl⟩
    exact getD_set_self (slots.symm ▸ inside)
  case refused =>
    intro s slot rest code front kind b fails
    exact exec_decoderTake_error front (takeCheck_error fails)
end Sys2Proof.Machine
end

section
/-! The register window (R171, R180, R181): what the host reads there, and what its writes and the coalescing deadline do. -/

namespace Sys2Proof.Machine

/-! ### Words made of two flags and a count -/

/-- A word with two flags in bits 0 and 1 and a count from bit 16 on. -/
def flagWord (a b : Bool) (count : Nat) : Word32 := BitVec.ofNat 32 ((if a then 1 else 0) + (if b then 2 else 0) + 65536 * count)

section
variable (a b : Bool) (count : Nat)

theorem flagWord_bit {i : Nat} (low : i < 16) :
    (flagWord a b count).getLsbD i = ((if a then 1 else 0) + (if b then 2 else 0) : Nat).testBit i := by
  have small : (if a then 1 else 0) + (if b then 2 else 0) < 2 ^ 16 := by cases a <;> cases b <;> decide
  rw [flagWord, BitVec.getLsbD_ofNat, Nat.add_comm, Nat.testBit_two_pow_mul_add count small, if_pos low]
  simp [show i < 32 by omega]

theorem flagWord_zero : (flagWord a b count).getLsbD 0 = a := by
  rw [flagWord_bit a b count (by decide)]
  cases a <;> cases b <;> rfl

theorem flagWord_one : (flagWord a b count).getLsbD 1 = b := by
  rw [flagWord_bit a b count (by decide)]
  cases a <;> cases b <;> rfl

theorem flagWord_between {i : Nat} (two : 2 ≤ i) (low : i < 16) : (flagWord a b count).getLsbD i = false := by
  rw [flagWord_bit a b count low]
  refine Nat.testBit_lt_two_pow (Nat.lt_of_lt_of_le ?_ (Nat.pow_le_pow_right (by decide) two))
  cases a <;> cases b <;> decide

theorem flagWord_count (inside : count < 65536) : (flagWord a b count).toNat / 65536 = count := by
  have small : (if a then 1 else 0) + (if b then 2 else 0) < 4 := by cases a <;> cases b <;> decide
  rw [flagWord, BitVec.toNat_ofNat]
  omega

theorem flagWord_noCount {i : Nat} (two : 2 ≤ i) : (flagWord a b 0).getLsbD i = false := by
  rw [flagWord, BitVec.getLsbD_ofNat, Nat.mul_zero, Nat.add_zero, Bool.and_eq_false_iff]
  refine .inr (Nat.testBit_lt_two_pow (Nat.lt_of_lt_of_le ?_ (Nat.pow_le_pow_right (by decide) two)))
  cases a <;> cases b <;> decide

end

section
variable (s : State)

theorem factorsCause_eq : factorsCause s = (s.board.attention != 0) := by
  rw [Bool.eq_iff_iff]
  simp [factorsCause, Nat.pos_iff_ne_zero]

theorem readRegister_run : readRegister s 0x04 = flagWord s.config.isSome s.board.noticeEnable 0 := rfl

theorem readRegister_notice : readRegister s 0x08 = flagWord s.board.completions (s.board.attention != 0) s.board.unnoticed := by
  rw [← factorsCause_eq]
  rfl

/-! ### What moves the board's notice and the run-time latch -/

theorem exec_noticeEnableWrite {value : Word32} (running : value.getLsbD 8 = false) :
    exec (.noticeEnableWrite value) s = .next { s with
      board := { s.board with noticeEnable := value.getLsbD 1 }
      wire := s.wire ++ message (!s.board.noticeEnable && value.getLsbD 1 && (s.board.completions || s.board.attention != 0)) } := by
  simp only [exec, execNoticeEnableWrite, runWrite, running, causeSet, factorsCause_eq]
  cases (!s.board.noticeEnable && value.getLsbD 1 && (s.board.completions || s.board.attention != 0)) <;> simp [message, emit]

theorem exec_noticeEnableWrite_reset {value : Word32} (reset : value.getLsbD 8 = true) :
    exec (.noticeEnableWrite value) s = exec .softReset s := by
  simp only [exec, execNoticeEnableWrite, execSoftReset, runWrite, reset, if_true]

theorem isDue_iff {now : Nat} {d : Deadline} : isDue now d = true ↔ d.value ≤ now ∧ d.setAt < now := by
  simp [isDue]

theorem exec_coalescingDeadline {d : Deadline} (running : s.board.coalescing = some d) (due : isDue (nowOf s) d = true) :
    exec .coalescingDeadline s = .next { s with
      board := { s.board with completions := true, coalescing := none }, wire := s.wire ++ message s.board.noticeEnable } := by
  simp only [exec, execCoalescingDeadline, coalescingOp, running, dueNow, due, if_true, setCompletions_eq]

/-- A half of run time as a word, where run time has two. -/
theorem ofNat_half {n : Nat} (inside : n < 2 ^ 64) :
    (BitVec.ofNat 32 (n / 4294967296)).toNat = n / 2 ^ 32 ∧ (BitVec.ofNat 32 n).toNat = n % 2 ^ 32 := by
  rw [BitVec.toNat_ofNat, BitVec.toNat_ofNat]
  omega

end

/-- Settles O17: a register is read as a word of its flags and its count. -/
theorem registersReadAndWriteAsTheTableSays : Obligations.RegistersReadAndWriteAsTheTableSays := by
  refine ⟨fun s => ⟨rfl, rfl, ?run, ?notice, fun inside => ?runtime⟩, fun s d running past before => ?coalescing, fun s => rfl,
    fun s value low => exec_noticeEnableWrite s low, fun s value high => exec_noticeEnableWrite_reset s high,
    fun s reg value => rfl, fun s inside => ?halves, fun s clear inside => ?high⟩
  case run =>
    rw [readRegister_run]
    exact ⟨flagWord_zero .., flagWord_one .., fun i two => flagWord_noCount _ _ two⟩
  case notice =>
    rw [readRegister_notice]
    exact ⟨flagWord_zero .., flagWord_one .., fun i two low => flagWord_between _ _ _ two low, fun small => flagWord_count _ _ _ small⟩
  case runtime => exact (BitVec.toNat_ofNat ..).trans (Nat.mod_eq_of_lt (by show s.showUnit.runTime < _; omega))
  case coalescing => exact exec_coalescingDeadline s running (isDue_iff.mpr ⟨past, before⟩)
  case halves =>
    obtain ⟨hi, lo⟩ := ofNat_half inside
    refine ⟨_, _, rfl, rfl, rfl, fun u latched => ⟨_, _, rfl, rfl, rfl, rfl, ?_⟩⟩
    have latched : u.board.runtimeLatch = some (s.showUnit.runTime / 4294967296) := latched
    rw [latched, Option.getD_some, hi]
    show _ + (BitVec.ofNat 32 s.showUnit.runTime).toNat = _
    rw [lo]
    omega
  case high =>
    refine ⟨_, ?_, (ofNat_half inside).1⟩
    show Host.Outcome.next (runtimeHigh s) = _
    rw [runtimeHigh, clear]
    cases board : s.board
    simp_all [emit, nowOf]
end Sys2Proof.Machine
end

section
/-! Host writes and reads of the memory window (R172, R174, 10.1, 10.6). -/

namespace Sys2Proof.Machine

/-! ### Two bytes of a factor set -/

theorem twoBytes_getLsbD (lo hi : Byte) (i : Nat) :
    (twoBytes lo hi).getLsbD i = if i < 8 then lo.getLsbD i else hi.getLsbD (i - 8) := by
  rw [twoBytes, BitVec.getLsbD_ofNat, Nat.add_comm, Nat.testBit_two_pow_mul_add _ (show lo.toNat < 2 ^ 8 from lo.isLt)]
  split
  · simp [BitVec.testBit_toNat, show i < 16 by omega]
  · by_cases inside : i < 16
    · simp [BitVec.testBit_toNat, inside]
    · simp [BitVec.testBit_toNat, inside, BitVec.getLsbD_of_ge hi (i - 8) (by omega)]

theorem lowByte_getLsbD (w : FactorSet) {i : Nat} (inside : i < 8) : (lowByte w).getLsbD i = w.getLsbD i := by
  rw [lowByte, BitVec.getLsbD_ofNat, Nat.testBit_mod_two_pow w.toNat 8]
  simp [inside, BitVec.testBit_toNat]

theorem highByte_getLsbD (w : FactorSet) {i : Nat} (inside : i < 8) : (highByte w).getLsbD i = w.getLsbD (i + 8) := by
  rw [highByte, BitVec.getLsbD_ofNat, show w.toNat / 256 = w.toNat / 2 ^ 8 from rfl, Nat.testBit_div_two_pow]
  simp [inside, BitVec.testBit_toNat]

theorem withByte_low (w : FactorSet) (b : Byte) : withByte w 0 b = twoBytes b (highByte w) := by
  refine BitVec.eq_of_getLsbD_eq fun i inside => ?_
  rw [withByte, if_pos rfl, twoBytes_getLsbD]
  split
  · next low => interval_cases i <;> simp
  · next high =>
    rw [highByte_getLsbD w (by omega)]
    interval_cases i <;> simp

theorem withByte_high (w : FactorSet) (b : Byte) : withByte w 1 b = twoBytes (lowByte w) b := by
  refine BitVec.eq_of_getLsbD_eq fun i inside => ?_
  rw [withByte, if_neg (by decide), twoBytes_getLsbD]
  split
  · next low =>
    rw [lowByte_getLsbD w low]
    interval_cases i <;> simp
  · next high => interval_cases i <;> simp

theorem twoBytes_low (lo hi : Byte) : lowByte (twoBytes lo hi) = lo :=
  BitVec.eq_of_getLsbD_eq fun i inside => by rw [lowByte_getLsbD _ inside, twoBytes_getLsbD, if_pos inside]

theorem twoBytes_high (lo hi : Byte) : highByte (twoBytes lo hi) = hi :=
  BitVec.eq_of_getLsbD_eq fun i inside => by
    rw [highByte_getLsbD _ inside, twoBytes_getLsbD, if_neg (by omega), Nat.add_sub_cancel]

/-! ### Places (R172, R174, 10.6) -/

theorem inStagingArea_iff {a : Nat} : inStagingArea a = true ↔ 0x8000 ≤ a ∧ a < 0xA000 := by
  simp [inStagingArea, Config.stagingBase, Config.stagingSize]

/-- What a place says of its offset, in the terms of the statements. -/
@[irreducible] def Stands (a : Nat) : Place → Prop
  | .stored => storedPlace a
  | .stateWord _ _ => guardedPlace a
  | .maskByte _ _ => maskPlace a
  | .ackByte _ _ => ackPlace a
  | .partOwned => partPlace a

theorem stands_slotPlace {a : Nat} (inside : a < 0x2000) : Stands a (slotPlace a) := by
  simp only [slotPlace]
  (repeat' split) <;> simp only [Stands] <;> omega

theorem stands_kioskPlace {a d : Nat} (low : 0x2800 ≤ a) (high : a < 0x3400) (offset : a - 0x2800 = d) : Stands a (kioskPlace d) := by
  simp only [kioskPlace]
  (repeat' split) <;> simp only [Stands] <;> omega

theorem stands_counterPlace {a d : Nat} (low : 0x3400 ≤ a) (high : a < 0x3600) (offset : a - 0x3400 = d) : Stands a (counterPlace d) := by
  simp only [counterPlace]
  (repeat' split) <;> simp only [Stands] <;> omega

theorem stands_placeAt (a : Nat) : Stands a (placeAt a) := by
  unfold placeAt
  split
  · next slot => exact stands_slotPlace slot
  split
  · next area => rw [Stands]; exact .inr (inStagingArea_iff.mp area)
  next area =>
  have area := mt inStagingArea_iff.mpr area
  split
  · next kiosk =>
    exact stands_kioskPlace kiosk.1 kiosk.2 rfl
  split
  · next counter =>
    exact stands_counterPlace counter.1 counter.2 rfl
  split
  · next mask => rw [Stands]; exact .inr (.inr mask)
  split
  · next ack => rw [Stands]; exact .inr (.inr ack)
  · simp only [Stands]
    omega

theorem placeAt_stored_iff {a : Nat} : placeAt a = .stored ↔ storedPlace a := by
  have stands := stands_placeAt a
  refine ⟨fun place => by rwa [place, Stands] at stands, fun stored => ?_⟩
  cases place : placeAt a <;> rw [place] at stands <;> simp only [Stands] at stands
  all_goals omega

theorem placeAt_partOwned_iff {a : Nat} : placeAt a = .partOwned ↔ partPlace a := by
  have stands := stands_placeAt a
  refine ⟨fun place => by rwa [place, Stands] at stands, fun part => ?_⟩
  cases place : placeAt a <;> rw [place] at stands <;> simp only [Stands] at stands
  all_goals omega

/-- The places of a kiosk cell's mask and acknowledge field. -/
theorem placeAt_kiosk (k : Fin 12) {o : Nat} (inside : o < 256) : placeAt (0x2800 + 256 * k + o) =
    if o = 6 ∨ o = 7 then .maskByte (.kiosk k) (o - 6) else if o = 8 ∨ o = 9 then .ackByte (.kiosk k) (o - 8) else .partOwned := by
  have cell : kioskCell k = .kiosk k := congrArg CellId.kiosk (Fin.ofNat_val_eq_self k)
  have := k.isLt
  have byte : (0x2800 + 256 * k.val + o - 0x2800) % 256 = o := by omega
  have number : (0x2800 + 256 * k.val + o - 0x2800) / 256 = k := by omega
  simp only [placeAt, inStagingArea_iff]
  rw [if_neg (by omega), if_neg (by omega), if_pos (by omega), kioskPlace]
  simp only [byte, number, cell]

theorem placeAt_counter (m : Fin 4) {o : Nat} (inside : o < 128) : placeAt (0x3400 + 128 * m + o) =
    if o = 9 then .maskByte (.counter m) 0 else if o = 10 then .ackByte (.counter m) 0 else .partOwned := by
  have cell : counterCell m = .counter m := congrArg CellId.counter (Fin.ofNat_val_eq_self m)
  have := m.isLt
  have byte : (0x3400 + 128 * m.val + o - 0x3400) % 128 = o := by omega
  have number : (0x3400 + 128 * m.val + o - 0x3400) / 128 = m := by omega
  simp only [placeAt, inStagingArea_iff]
  rw [if_neg (by omega), if_neg (by omega), if_neg (by omega), if_pos (by omega), counterPlace]
  simp only [byte, number, cell]

/-! ### What a unit stores, counts and writes in the cells -/

/-- The memory once the bytes of a unit that fall on stored places are stored. -/
def storedInto (m : List Host.Cell) (l : List (Nat × Byte)) : List Host.Cell :=
  l.foldl (fun m e => if placeAt e.1 = .stored then memWrite m e.1 e.2 else m) m

theorem storedInto_cons (m : List Host.Cell) (e : Nat × Byte) (l : List (Nat × Byte)) :
    storedInto m (e :: l) = storedInto (if placeAt e.1 = .stored then memWrite m e.1 e.2 else m) l := rfl

theorem memRead_storedInto_outside {l : List (Nat × Byte)} {m : List Host.Cell} {a : Nat} (canonical : Memory.wf m)
    (apart : ∀ e ∈ l, placeAt e.1 = .stored → a ≠ e.1) : memRead (storedInto m l) a = memRead m a := by
  induction l generalizing m with
  | nil => rfl
  | cons e rest ih =>
    have later := fun x hx => apart x (List.mem_cons_of_mem _ hx)
    rw [storedInto_cons]
    split
    · next stored =>
      rw [ih (memWrite_wf _ _ _ canonical) later, memRead_write_other _ _ _ _ canonical (apart e List.mem_cons_self stored).symm]
    · exact ih canonical later

theorem memRead_storedInto_inside {l : List (Nat × Byte)} {m : List Host.Cell} {e : Nat × Byte} (canonical : Memory.wf m)
    (once : (l.map Prod.fst).Nodup) (member : e ∈ l) (stored : placeAt e.1 = .stored) : memRead (storedInto m l) e.1 = e.2 := by
  induction l generalizing m with
  | nil => cases member
  | cons x rest ih =>
    obtain ⟨fresh, once⟩ := List.nodup_cons.mp once
    rw [storedInto_cons]
    rcases List.mem_cons.mp member with rfl | member
    · rw [if_pos stored, memRead_storedInto_outside (memWrite_wf _ _ _ canonical), memRead_write_self _ _ _ canonical]
      exact fun y hy _ same => fresh (List.mem_map.mpr ⟨y, hy, same.symm⟩)
    · split
      exacts [ih (memWrite_wf _ _ _ canonical) once member, ih canonical once member]

theorem covered_nodup (off : Nat) (lanes : List (Option Byte)) : ((covered off lanes).map Prod.fst).Nodup := by
  induction lanes generalizing off with
  | nil => exact List.nodup_nil
  | cons lane rest ih =>
    cases lane with
    | none => exact ih _
    | some b =>
      refine List.nodup_cons.mpr ⟨fun member => ?_, ih _⟩
      obtain ⟨e, he, same⟩ := List.mem_map.mp member
      obtain ⟨i, place, -⟩ := mem_covered.mp he
      simp only at same
      omega

theorem maskUnit_none {l : List (Nat × Byte)} (s : State) (none' : ∀ e ∈ l, ¬ maskPlace e.1) : maskUnit l s = none := by
  rw [maskUnit]
  refine List.foldlRecOn l _ (motive := fun acc => acc = none) rfl fun acc none e he => ?_
  have stands := stands_placeAt e.1
  split
  · next place => rw [place, Stands] at stands; exact absurd stands (none' e he)
  · exact none

theorem ackUnit_none {l : List (Nat × Byte)} (none' : ∀ e ∈ l, ¬ ackPlace e.1) : ackUnit l = none := by
  rw [ackUnit]
  refine List.foldlRecOn l _ (motive := fun acc => acc = none) rfl fun acc none e he => ?_
  have stands := stands_placeAt e.1
  split
  · next place => rw [place, Stands] at stands; exact absurd stands (none' e he)
  · exact none

theorem stateWordOf_none {l : List (Nat × Byte)} (none' : ∀ e ∈ l, ¬ guardedPlace e.1) : stateWordOf l = none := by
  rw [stateWordOf, List.findSome?_eq_none_iff]
  intro e he
  have stands := stands_placeAt e.1
  split
  · next place => rw [place, Stands] at stands; exact absurd stands (none' e he)
  · rfl
end Sys2Proof.Machine
end

section
/-! The unit write of the memory window whole (R172), how the host reads the window, and how numbers stand in it (10.6). -/

namespace Sys2Proof.Machine

section
variable {off : Nat} {lanes : List (Option Byte)}

theorem mem_covered_iff {e : Nat × Byte} : e ∈ covered off lanes ↔ ∃ i, e.1 = off + i ∧ lanes.getD i none = some e.2 := by
  rw [mem_covered]
  refine exists_congr fun i => and_congr_right fun _ => ?_
  rw [List.getD_eq_getElem?_getD]
  cases lanes[i]? <;> simp

/-- What holds of every covered byte, lane by lane. -/
theorem forall_covered {p : Nat → Prop} (four : lanes.length = 4) :
    (∀ e ∈ covered off lanes, p e.1) ↔ ∀ i, i < 4 ∧ lanes.getD i none ≠ none → p (off + i) := by
  constructor
  · rintro all i ⟨-, set⟩
    obtain ⟨b, lane⟩ := Option.ne_none_iff_exists'.mp set
    exact all (off + i, b) (mem_covered_iff.mpr ⟨i, rfl, lane⟩)
  · intro all e member
    obtain ⟨i, place, lane⟩ := mem_covered_iff.mp member
    rw [place]
    refine all i ⟨?_, by rw [lane]; nofun⟩
    by_contra beyond
    rw [List.getD_eq_default _ _ (by omega)] at lane
    cases lane

/-- The state a unit leaves before the cells are written: its bytes stored, and the unit counted where it touches the part. -/
def countedUnit (off : Nat) (lanes : List (Option Byte)) (s : State) : State :=
  countStray off (covered off lanes) (storeBytes (covered off lanes) s)

theorem hostUnit_eq (s : State) (free : ∀ e ∈ covered off lanes, ¬ guardedPlace e.1) :
    hostUnit off lanes s = stationUnitWrite (covered off lanes) (countedUnit off lanes s) := by
  simp only [hostUnit, stateWordUnit, stateWordOf_none free, countedUnit]

theorem countedUnit_mem (s : State) : (countedUnit off lanes s).mem = storedInto s.mem (covered off lanes) := by
  simp [countedUnit, storeBytes, storedInto]

theorem countedUnit_station (s : State) : (countedUnit off lanes s).station = s.station := by
  simp [countedUnit, storeBytes]

theorem countedUnit_frame (s : State) :
    let u := countedUnit off lanes s
    u = { s with mem := u.mem, board := u.board, stats := u.stats } := by
  simp only [countedUnit, countStray]
  split <;> rfl

theorem countedUnit_stray {s : State} (canonical : sparseWf (0 : Nat) s.stats) (touched : ∃ e ∈ covered off lanes, partPlace e.1) :
    let u := countedUnit off lanes s
    u.board = { s.board with lastStray := some off } ∧ statAt u statStray = min (statAt s statStray + 1) 4294967295 ∧
      ∀ o, o ≠ statStray → statAt u o = statAt s o := by
  obtain ⟨e, member, part⟩ := touched
  have counts : (covered off lanes).any (fun e => placeAt e.1 == .partOwned) = true :=
    List.any_eq_true.mpr ⟨e, member, beq_iff_eq.mpr (placeAt_partOwned_iff.mpr part)⟩
  simp only [countedUnit, countStray, counts, if_true]
  exact ⟨rfl, statAt_addStat_self _ _ _ canonical, fun o apart => statAt_addStat_other _ _ _ _ canonical apart.symm⟩

theorem countedUnit_quiet {s : State} (quiet : ∀ e ∈ covered off lanes, ¬ partPlace e.1) :
    (countedUnit off lanes s).board = s.board ∧ (countedUnit off lanes s).stats = s.stats := by
  have counts : ¬ (covered off lanes).any (fun e => placeAt e.1 == .partOwned) = true := fun touched => by
    obtain ⟨e, member, part⟩ := List.any_eq_true.mp touched
    exact quiet e member (placeAt_partOwned_iff.mp (beq_iff_eq.mp part))
  rw [countedUnit, countStray, if_neg counts]
  exact ⟨rfl, rfl⟩

end

theorem stationUnitWrite_none {l : List (Nat × Byte)} {s : State} (none' : ∀ e ∈ l, ¬ maskPlace e.1 ∧ ¬ ackPlace e.1) :
    stationUnitWrite l s = s := by
  simp only [stationUnitWrite, maskUnit_none s fun e he => (none' e he).1, ackUnit_none fun e he => (none' e he).2]

/-! ### The units of the cells' mask and acknowledge places -/

/-- The bytes of a unit that lie on no part-owned place. -/
def cellBytes (l : List (Nat × Byte)) : List (Nat × Byte) := l.filter (fun e => placeAt e.1 != .partOwned)

/-- The cells' write reads of a unit only the bytes on the cells' places. -/
theorem stationUnitWrite_cellBytes (l : List (Nat × Byte)) (s : State) :
    stationUnitWrite l s = stationUnitWrite (cellBytes l) s := by
  have mask : maskUnit (cellBytes l) s = maskUnit l s := by
    rw [maskUnit, cellBytes, List.foldl_filter, maskUnit]
    refine congrArg (fun f => l.foldl f none) (funext₂ fun acc e => ?_)
    split
    · rfl
    · next part =>
      have part : placeAt e.1 = .partOwned := by simpa using part
      rw [part]
  have ack : ackUnit (cellBytes l) = ackUnit l := by
    rw [ackUnit, cellBytes, List.foldl_filter, ackUnit]
    refine congrArg (fun f => l.foldl f none) (funext₂ fun acc e => ?_)
    split
    · rfl
    · next part =>
      have part : placeAt e.1 = .partOwned := by simpa using part
      rw [part]
  simp only [stationUnitWrite, mask, ack]

/-- The byte that a lane puts at an offset, if it covers it. -/
def laneAt (a : Nat) (x : Option Byte) : List (Nat × Byte) := x.toList.map (fun b => (a, b))

theorem covered_four (off : Nat) (x0 x1 x2 x3 : Option Byte) :
    covered off [x0, x1, x2, x3] = laneAt off x0 ++ (laneAt (off + 1) x1 ++ (laneAt (off + 2) x2 ++ laneAt (off + 3) x3)) := by
  cases x0 <;> cases x1 <;> cases x2 <;> cases x3 <;> rfl

theorem cellBytes_laneAt_part {a : Nat} (x : Option Byte) (part : placeAt a = .partOwned) : cellBytes (laneAt a x) = [] := by
  cases x <;> simp [cellBytes, laneAt, part]

theorem cellBytes_laneAt_cell {a : Nat} (x : Option Byte) (cell : placeAt a ≠ .partOwned) : cellBytes (laneAt a x) = laneAt a x := by
  cases x <;> simp [cellBytes, laneAt, cell]

theorem cellBytes_append (l r : List (Nat × Byte)) : cellBytes (l ++ r) = cellBytes l ++ cellBytes r := List.filter_append ..

section
variable (x0 x1 x2 x3 : Option Byte) (u : State)

/-- A unit whose last two lanes lie on the two mask bytes of a kiosk cell. -/
theorem stationUnitWrite_kioskMask (k : Fin 12) (set : x2 ≠ none ∨ x3 ≠ none) :
    stationUnitWrite (covered (0x2804 + 256 * k) [x0, x1, x2, x3]) u =
      writeMask (.kiosk k) (twoBytes (x2.getD (lowByte (kioskAt u k).mask)) (x3.getD (highByte (kioskAt u k).mask))) u := by
  have place : ∀ i < 4, placeAt (0x2804 + 256 * k + i) = if i < 2 then .partOwned else .maskByte (.kiosk k) (i - 2) := by
    intro i low
    have := placeAt_kiosk k (o := 4 + i) (by omega)
    rw [show 0x2800 + 256 * k.val + (4 + i) = 0x2804 + 256 * k.val + i by omega] at this
    interval_cases i <;> exact this
  have p0 : placeAt (0x2804 + 256 * k) = .partOwned := place 0 (by decide)
  have p2 : placeAt (0x2804 + 256 * k + 2) = .maskByte (.kiosk k) 0 := place 2 (by decide)
  have p3 : placeAt (0x2804 + 256 * k + 3) = .maskByte (.kiosk k) 1 := place 3 (by decide)
  rw [stationUnitWrite_cellBytes, covered_four, cellBytes_append, cellBytes_append, cellBytes_append,
    cellBytes_laneAt_part _ p0, cellBytes_laneAt_part _ (place 1 (by decide)),
    cellBytes_laneAt_cell _ (by rw [p2]; nofun), cellBytes_laneAt_cell _ (by rw [p3]; nofun)]
  rcases x2 with _ | b <;> rcases x3 with _ | c
  · exact absurd set (by simp)
  all_goals simp [laneAt, stationUnitWrite, maskUnit, ackUnit, p2, p3, withByte_low, withByte_high, maskOf, twoBytes_low]

/-- A unit whose first two lanes lie on the two acknowledge bytes of a kiosk cell. -/
theorem stationUnitWrite_kioskAck (k : Fin 12) (set : x0 ≠ none ∨ x1 ≠ none) :
    stationUnitWrite (covered (0x2808 + 256 * k) [x0, x1, x2, x3]) u =
      acknowledge (.kiosk k) (twoBytes (x0.getD 0) (x1.getD 0)) u := by
  have place : ∀ i < 4, placeAt (0x2808 + 256 * k + i) = if i < 2 then .ackByte (.kiosk k) i else .partOwned := by
    intro i low
    have := placeAt_kiosk k (o := 8 + i) (by omega)
    rw [show 0x2800 + 256 * k.val + (8 + i) = 0x2808 + 256 * k.val + i by omega] at this
    interval_cases i <;> exact this
  have p0 : placeAt (0x2808 + 256 * k) = .ackByte (.kiosk k) 0 := place 0 (by decide)
  have p1 : placeAt (0x2808 + 256 * k + 1) = .ackByte (.kiosk k) 1 := place 1 (by decide)
  have zero : lowByte 0#16 = 0#8 ∧ highByte 0#16 = 0#8 := ⟨rfl, rfl⟩
  rw [stationUnitWrite_cellBytes, covered_four, cellBytes_append, cellBytes_append, cellBytes_append,
    cellBytes_laneAt_part _ (place 2 (by decide)), cellBytes_laneAt_part _ (place 3 (by decide)),
    cellBytes_laneAt_cell _ (by rw [p0]; nofun), cellBytes_laneAt_cell _ (by rw [p1]; nofun)]
  rcases x0 with _ | b <;> rcases x1 with _ | c
  · exact absurd set (by simp)
  all_goals simp [laneAt, stationUnitWrite, maskUnit, ackUnit, p0, p1, withByte_low, withByte_high, twoBytes_low, zero]

/-- A unit whose two middle lanes lie on the mask and on the acknowledge byte of a counter cell: the mask is written first. -/
theorem stationUnitWrite_counter (m : Fin 4) :
    stationUnitWrite (covered (0x3408 + 128 * m) [x0, x1, x2, x3]) u =
      let v := x1.elim u fun b => writeMask (.counter m) (twoBytes b (highByte (counterAt u m).mask)) u
      x2.elim v fun b => acknowledge (.counter m) (twoBytes b 0) v := by
  have place : ∀ i < 4, placeAt (0x3408 + 128 * m + i) =
      if i = 1 then .maskByte (.counter m) 0 else if i = 2 then .ackByte (.counter m) 0 else .partOwned := by
    intro i low
    have := placeAt_counter m (o := 8 + i) (by omega)
    rw [show 0x3400 + 128 * m.val + (8 + i) = 0x3408 + 128 * m.val + i by omega] at this
    interval_cases i <;> exact this
  have p0 : placeAt (0x3408 + 128 * m) = .partOwned := place 0 (by decide)
  have p1 : placeAt (0x3408 + 128 * m + 1) = .maskByte (.counter m) 0 := place 1 (by decide)
  have p2 : placeAt (0x3408 + 128 * m + 2) = .ackByte (.counter m) 0 := place 2 (by decide)
  have zero : highByte 0#16 = 0#8 := rfl
  rw [stationUnitWrite_cellBytes, covered_four, cellBytes_append, cellBytes_append, cellBytes_append,
    cellBytes_laneAt_part _ p0, cellBytes_laneAt_part _ (place 3 (by decide)),
    cellBytes_laneAt_cell _ (by rw [p1]; nofun), cellBytes_laneAt_cell _ (by rw [p2]; nofun)]
  rcases x1 with _ | b <;> rcases x2 with _ | c <;>
    simp [laneAt, stationUnitWrite, maskUnit, ackUnit, p1, p2, withByte_low, maskOf, zero]

/-- A unit whose last lane lies on the mask byte of the foyer cell, and one whose first lies on its acknowledge byte. -/
theorem stationUnitWrite_foyerMask (b : Byte) : stationUnitWrite (covered 0x3600 [x0, x1, x2, some b]) u =
    writeMask .foyer (twoBytes b (highByte u.station.foyer.mask)) u := by
  have p3 : placeAt (0x3600 + 3) = .maskByte .foyer 0 := by decide
  rw [stationUnitWrite_cellBytes, covered_four, cellBytes_append, cellBytes_append, cellBytes_append,
    cellBytes_laneAt_part (a := 0x3600) _ (by decide), cellBytes_laneAt_part (a := 0x3600 + 1) _ (by decide),
    cellBytes_laneAt_part (a := 0x3600 + 2) _ (by decide), cellBytes_laneAt_cell _ (by rw [p3]; nofun)]
  simp [laneAt, stationUnitWrite, maskUnit, ackUnit, p3, withByte_low, maskOf]

theorem stationUnitWrite_foyerAck (b : Byte) : stationUnitWrite (covered 0x3604 [some b, x1, x2, x3]) u =
    acknowledge .foyer (twoBytes b 0) u := by
  have p0 : placeAt 0x3604 = .ackByte .foyer 0 := by decide
  have zero : highByte 0#16 = 0#8 := rfl
  rw [stationUnitWrite_cellBytes, covered_four, cellBytes_append, cellBytes_append, cellBytes_append,
    cellBytes_laneAt_part (a := 0x3604 + 1) _ (by decide), cellBytes_laneAt_part (a := 0x3604 + 2) _ (by decide),
    cellBytes_laneAt_part (a := 0x3604 + 3) _ (by decide), cellBytes_laneAt_cell _ (by rw [p0]; nofun)]
  simp [laneAt, stationUnitWrite, maskUnit, ackUnit, p0, withByte_low, zero]

end
end Sys2Proof.Machine
end

section
/-! How numbers stand in memory (10.6), how the host reads the window (R172), and O18. -/

namespace Sys2Proof.Machine

theorem leBytes_length (n v : Nat) : (leBytes n v).length = n := by
  induction n generalizing v with
  | zero => rfl
  | succ n ih => rw [leBytes, List.length_cons, ih]

theorem leBytes_getD {n i : Nat} (v : Nat) (inside : i < n) : (leBytes n v).getD i 0 = BitVec.ofNat 8 (v / 256 ^ i) := by
  induction n generalizing v i with
  | zero => omega
  | succ n ih =>
    cases i with
    | zero => rw [leBytes, List.getD_cons_zero, Nat.pow_zero, Nat.div_one]
    | succ i => rw [leBytes, List.getD_cons_succ, ih _ (by omega), Nat.div_div_eq_div_mul, Nat.pow_succ']

theorem stepCount_eq {n : Nat} (small : n < 65536) : stepCount n = if n = 65535 then 0 else n + 1 := by
  rw [stepCount]
  split <;> omega

/-! ### The bytes a host reads -/

theorem tableByte_record {size r i : Nat} (f : Nat → List Byte) (inside : i < size) : tableByte size f (size * r + i) = byteOf (f r) i := by
  rw [tableByte, Nat.mul_add_div (by omega), Nat.div_eq_of_lt inside, Nat.add_zero, Nat.mul_add_mod, Nat.mod_eq_of_lt inside]

theorem readByte_stored {a : Nat} (s : State) (stored : storedPlace a) : readByte s a = memRead s.mem a := by
  unfold readByte
  rcases stored with ⟨low, word⟩ | ⟨low, high⟩
  · rw [if_pos low, if_neg (by omega)]
  · iterate 13 rw [if_neg (by omega)]
    rw [if_pos (by omega)]

theorem readByte_stateWord {slot i : Nat} (s : State) (inside : slot < 64) (byte : i < 4) :
    readByte s (128 * slot + 0x7C + i) = (leBytes 4 (slotStateNum (slotAt s slot))).getD i 0 := by
  unfold readByte
  rw [if_pos (by omega), if_pos (by omega), show (128 * slot + 0x7C + i) / 128 = slot by omega,
    show (128 * slot + 0x7C + i) % 128 - 0x7C = i by omega]
  rfl

theorem readByte_seat {cell i : Nat} (s : State) (inside : cell < 16384) (byte : i < 4) :
    readByte s (0x2C000 + (4 * cell + i)) = byteOf (seatBytes (seatAt s cell)) i := by
  unfold readByte
  iterate 21 rw [if_neg (by omega)]
  rw [if_pos (by omega), Nat.add_sub_cancel_left, tableByte_record _ byte]

theorem readByte_stat {o i : Nat} (s : State) (inside : o < 0x2F8) (aligned : o % 4 = 0) (byte : i < 4) :
    readByte s (0x3C000 + o + i) = (leBytes 4 (statAt s o)).getD i 0 := by
  obtain ⟨n, rfl⟩ : ∃ n, o = 4 * n := ⟨o / 4, by omega⟩
  unfold readByte
  iterate 22 rw [if_neg (by omega)]
  rw [if_pos (by omega), Nat.add_assoc, Nat.add_sub_cancel_left, tableByte_record _ byte]
  rfl

theorem seatBytes_zero (c : Seat) : byteOf (seatBytes c) 0 = BitVec.ofNat 8 (seatStateNum c.state + 4 * c.tier) := rfl

theorem seatBytes_succ (c : Seat) (i : Nat) : byteOf (seatBytes c) (1 + i) = (leBytes 3 (c.owner.getD 0)).getD i 0 := by
  rw [Nat.add_comm]; rfl

theorem storedInto_covered {s : State} {off : Nat} {lanes : List (Option Byte)} (canonical : Memory.wf s.mem) :
    (∀ i b, i < 4 ∧ lanes.getD i none ≠ none → storedPlace (off + i) → lanes.getD i none = some b →
        memRead (countedUnit off lanes s).mem (off + i) = b) ∧
      ∀ a, (∀ i, i < 4 ∧ lanes.getD i none ≠ none → storedPlace (off + i) → a ≠ off + i) → lanes.length = 4 →
        memRead (countedUnit off lanes s).mem a = memRead s.mem a := by
  rw [countedUnit_mem]
  constructor
  · intro i b _ stored lane
    exact memRead_storedInto_inside (e := (off + i, b)) canonical (covered_nodup _ _) (mem_covered_iff.mpr ⟨i, rfl, lane⟩)
      (placeAt_stored_iff.mpr stored)
  · intro a apart four
    refine memRead_storedInto_outside canonical fun e member stored => ?_
    have all := (forall_covered (off := off) (lanes := lanes) (p := fun x => storedPlace x → a ≠ x) four).mpr apart
    exact all e member (placeAt_stored_iff.mp stored)

/-- Settles O18: the unit stores its bytes and is counted, then writes the cells as MASK_WRITE and ACKNOWLEDGE_WRITE do. -/
theorem hostWriteStoresOrIsCountedAsStray : Obligations.HostWriteStoresOrIsCountedAsStray := by
  unfold Obligations.HostWriteStoresOrIsCountedAsStray
  refine ⟨⟨fun n v => ⟨leBytes_length n v, fun i => leBytes_getD v⟩, rfl, fun _ _ => rfl,
    fun m a n => ⟨memReadAll_length m a n, fun i => memReadAll_getD m a⟩, ⟨rfl, rfl, rfl⟩,
    fun n small => ⟨stepCount_eq small, rfl⟩⟩, ?_, ?_, ?_⟩
  · intro s off lanes inside aligned four canonical lane covers free
    obtain ⟨stored, kept⟩ := storedInto_covered (off := off) (lanes := lanes) canonical.mem
    have station := countedUnit_station (off := off) (lanes := lanes) s
    refine ⟨countedUnit off lanes s, stationUnitWrite (covered off lanes) (countedUnit off lanes s), ?_, stored,
      fun a apart => kept a apart four, ?_, ?_, countedUnit_frame s, ?_, ?_⟩
    · rw [exec_hostWriteUnit s inside aligned four, hostUnit_eq s ((forall_covered (p := fun a => ¬ guardedPlace a) four).mpr free)]
    · rintro ⟨i, cov, part⟩
      refine countedUnit_stray canonical.stats ?_
      by_contra quiet
      exact (forall_covered (p := fun a => ¬ partPlace a) four).mp (fun e he part => quiet ⟨e, he, part⟩) i cov part
    · exact fun quiet => countedUnit_quiet ((forall_covered (p := fun a => ¬ partPlace a) four).mpr quiet)
    · exact fun quiet => stationUnitWrite_none ((forall_covered (p := fun a => ¬ maskPlace a ∧ ¬ ackPlace a) four).mpr quiet)
    · have kiosk : ∀ k, kioskAt (countedUnit off lanes s) k = kioskAt s k := fun k => by rw [kioskAt, station]; rfl
      have counter : ∀ m, counterAt (countedUnit off lanes s) m = counterAt s m := fun m => by rw [counterAt, station]; rfl
      generalize countedUnit off lanes s = u at station kiosk counter ⊢
      obtain ⟨x0, x1, x2, x3, rfl⟩ := List.length_eq_four.mp four
      refine ⟨fun k at' set => ?_, fun k at' set => ?_, fun m at' set => ?_, fun b at' set => ?_, fun b at' set => ?_⟩
      · rw [at', stationUnitWrite_kioskMask x0 x1 x2 x3 u k set, kiosk]
        rfl
      · rw [at', stationUnitWrite_kioskAck x0 x1 x2 x3 u k set]
        rfl
      · rw [at', stationUnitWrite_counter x0 x1 x2 x3 u m, counter]
        refine ⟨x1.elim u fun b => writeMask (.counter m) (twoBytes b (highByte (counterAt s m).mask)) u, fun b at1 => ?_,
          fun at1 => ?_, fun b at2 => ?_, fun at2 => ?_⟩
        · rw [show x1 = some b from at1]; rfl
        · rw [show x1 = none from at1]; rfl
        · rw [show x2 = some b from at2]; rfl
        · rw [show x2 = none from at2]; rfl
      · rw [at', show x3 = some b from set, stationUnitWrite_foyerMask x0 x1 x2 u b, station]
        rfl
      · rw [at', show x0 = some b from set, stationUnitWrite_foyerAck x1 x2 x3 u b]
        rfl
  · intro s a
    refine ⟨readByte_stored s, fun slot inside i byte => readByte_stateWord s inside byte, fun cell inside => ⟨?_, fun i byte => ?_⟩,
      fun o inside aligned i byte => readByte_stat s inside aligned byte⟩
    · exact (readByte_seat s inside (show 0 < 4 by decide)).trans (seatBytes_zero _)
    · rw [show 0x2C001 + 4 * cell + i = 0x2C000 + (4 * cell + (1 + i)) by omega, readByte_seat s inside (by omega), seatBytes_succ]
  · intro s off lanes
    refine ⟨fun outside => ?_, fun inside ill => ?_, fun inside aligned four => ⟨_, exec_hostWriteUnit s inside aligned four⟩⟩
    · simp only [exec, execHostWriteUnit]
      rw [if_pos (by simpa [Config.windowSize] using outside)]
    · simp only [exec, execHostWriteUnit]
      rw [if_neg (by simpa [Config.windowSize] using inside), if_pos ill]

end Sys2Proof.Machine
end

section
/-! The two resets (R182, R186): O19. -/

namespace Sys2Proof.Machine

/-- A kiosk cell after power-on reset is that of the levels at its sense inputs. -/
theorem kioskAt_powerOn (s : State) (k : Nat) : kioskAt (powerOn s) k = .atLevels ((kioskAt s k).senses.map Sense.present) := by
  simp only [kioskAt, powerOn, StationUnit.atLevels, inputLevels, List.map_map]
  exact List.getD_map s.station.kiosks (Kiosk.atLevels []) (n := k) (Kiosk.atLevels ∘ fun c : Kiosk => c.senses.map Sense.present)

theorem softResetOp_eq (s : State) : softResetOp s = { powerOn s with
    stats := s.stats, mem := (softResetOp s).mem, showUnit := { (powerOn s).showUnit with clock := { s.showUnit.clock with changes := 0 } } } := rfl

theorem memRead_softResetOp {s : State} (canonical : Memory.wf s.mem) (a : Nat) :
    memRead (softResetOp s).mem a = if 0x8000 ≤ a ∧ a < 0xA000 then memRead s.mem a else 0 := by
  simp only [softResetOp, memRead]
  rw [sparseGet_filter _ _ canonical]
  simp only [inStagingArea_iff]
  rfl

/-- Settles O19. -/
theorem resetsLeaveTheResetState : Obligations.ResetsLeaveTheResetState := by
  unfold Obligations.ResetsLeaveTheResetState
  refine ⟨fun s => ⟨powerOn s, rfl, rfl, rfl, ?_, fun m inside => counterAt_reset m, fun k => ?_⟩,
    fun s canonical => ⟨_, _, rfl, rfl, softResetOp_eq s, memRead_softResetOp canonical⟩, fun s => ⟨_, rfl⟩⟩
  · simp [powerOn, StationUnit.atLevels, inputLevels]
  · have turned : ((kioskAt s k).senses.map Sense.present).getD 1 false = (senseAt s k 1).present :=
      List.getD_map (kioskAt s k).senses (Sense.atLevel false) (n := 1) Sense.present
    rw [kioskAt_powerOn, Kiosk.atLevels, turned, List.map_map]
    rfl

end Sys2Proof.Machine
end

section
/-! First-fit (R13): O24. -/

namespace Sys2Proof.Machine

/-- Where `n` cells fit among the allocated ranges. -/
def FreeRun (ranges : List (Nat × Nat)) (n b : Nat) : Prop := b + n ≤ 16384 ∧ ∀ q ∈ ranges, b + n ≤ q.1 ∨ q.1 + q.2 ≤ b

theorem rangeFree_iff {ranges : List (Nat × Nat)} {n b : Nat} : rangeFree ranges n b = true ↔ FreeRun ranges n b := by
  simp [rangeFree, FreeRun, Config.poolSize]

/-- At or below every index stands a place where first-fit looks, with every range that ends by that index behind it. -/
theorem candidate_below (ranges : List (Nat × Nat)) (b : Nat) :
    ∃ c ∈ 0 :: ranges.map (fun r => r.1 + r.2), c ≤ b ∧ ∀ q ∈ ranges, q.1 + q.2 ≤ b → q.1 + q.2 ≤ c := by
  induction ranges with
  | nil => exact ⟨0, List.mem_cons_self, Nat.zero_le b, fun _ h => nomatch h⟩
  | cons r rest ih =>
    obtain ⟨c, member, below, behind⟩ := ih
    by_cases later : c < r.1 + r.2 ∧ r.1 + r.2 ≤ b
    · refine ⟨r.1 + r.2, by simp, later.2, List.forall_mem_cons.mpr ⟨fun _ => le_refl _, fun q hq ends => ?_⟩⟩
      exact (behind q hq ends).trans later.1.le
    · refine ⟨c, ?_, below, List.forall_mem_cons.mpr ⟨by omega, behind⟩⟩
      simp only [List.mem_cons, List.map_cons] at member ⊢
      exact member.imp_right .inr

/-- A free run is never lower than every place where first-fit looks. -/
theorem freeRun_candidate {ranges : List (Nat × Nat)} {n b : Nat} (free : FreeRun ranges n b) :
    ∃ c ∈ (0 :: ranges.map (fun r => r.1 + r.2)).filter (rangeFree ranges n), c ≤ b := by
  obtain ⟨c, member, below, behind⟩ := candidate_below ranges b
  refine ⟨c, List.mem_filter.mpr ⟨member, rangeFree_iff.mpr ⟨by have := free.1; omega, fun q hq => ?_⟩⟩, below⟩
  exact (free.2 q hq).imp (fun _ => by omega) (behind q hq)

theorem firstFit_some_iff {ranges : List (Nat × Nat)} {n base : Nat} :
    firstFit ranges n = some base ↔ FreeRun ranges n base ∧ ∀ b < base, ¬ FreeRun ranges n b := by
  rw [firstFit, List.min?_eq_some_iff]
  constructor
  · rintro ⟨member, least⟩
    refine ⟨rangeFree_iff.mp (List.mem_filter.mp member).2, fun b lower free => ?_⟩
    obtain ⟨c, candidate, below⟩ := freeRun_candidate free
    have := least c candidate
    omega
  · rintro ⟨free, least⟩
    obtain ⟨c, candidate, below⟩ := freeRun_candidate free
    have reached : c = base := by
      by_contra apart
      exact least c (by omega) (rangeFree_iff.mp (List.mem_filter.mp candidate).2)
    refine ⟨reached ▸ candidate, fun b hb => ?_⟩
    by_contra lower
    exact least b (by omega) (rangeFree_iff.mp (List.mem_filter.mp hb).2)

theorem firstFit_none_iff {ranges : List (Nat × Nat)} {n : Nat} : firstFit ranges n = none ↔ ∀ b, ¬ FreeRun ranges n b := by
  rw [firstFit, List.min?_eq_none_iff]
  constructor
  · intro empty b free
    obtain ⟨c, candidate, -⟩ := freeRun_candidate free
    rw [empty] at candidate
    cases candidate
  · intro full
    refine List.filter_eq_nil_iff.mpr fun b _ free => full b (rangeFree_iff.mp free)

/-- Settles O24: the lowest free run begins at the pool's first cell or where a range ends. -/
theorem firstFitFindsTheLowestFreeRun : Obligations.FirstFitFindsTheLowestFreeRun := by
  unfold Obligations.FirstFitFindsTheLowestFreeRun
  exact fun ranges n => ⟨fun base => firstFit_some_iff, firstFit_none_iff⟩

end Sys2Proof.Machine
end

section
/-! What show transitions do (R6, R9 to R11), said once for every run of them. -/

namespace Sys2Proof.Machine

/-- The states a run of show events takes one show through. -/
def movesOf (n : Nat) (run : List (Nat × ShowState)) : List ShowState := (run.filter (fun e => e.1 == n)).map Prod.snd

/-- The shows that leave ON_SALE in a run of show events, in order. -/
def closedIn (run : List (Nat × ShowState)) : List Nat := (run.filter (fun e => e.2 == .closed)).map Prod.fst

/-- `t` is `s` after a run of show events: each show in the state it entered last, the basket unit and the foyer cell told. -/
structure RunMoved (run : List (Nat × ShowState)) (s t : State) : Prop where
  length : t.showUnit.shows.length = s.showUnit.shows.length
  moved : ∀ n < s.showUnit.shows.length, showAt t n = { (showAt s n) with
    state := (movesOf n run).getLastD (showAt s n).state, changes := (showAt t n).changes }
  apart : ∀ n, (∀ e ∈ run, e.1 ≠ n) → showAt t n = showAt s n
  leftSale : t.showUnit.leftSale = s.showUnit.leftSale ++ closedIn run
  foyer : t.station.foyer = { s.station.foyer with
    factors := s.station.foyer.factors ||| raisedBy (run.map Prod.snd), changes := t.station.foyer.changes }
  frame : t = { s with
    showUnit := { s.showUnit with shows := t.showUnit.shows, leftSale := t.showUnit.leftSale }
    board := { s.board with attention := t.board.attention }, wire := t.wire
    station := { s.station with foyer := t.station.foyer } }

theorem raisedBy_append (l r : List ShowState) : raisedBy (l ++ r) = raisedBy l ||| raisedBy r := by
  have member : ∀ (st : ShowState) (f : FactorSet),
      (if st ∈ l ++ r then f else 0) = (if st ∈ l then f else 0) ||| (if st ∈ r then f else 0) := by
    intro st f
    by_cases hl : st ∈ l <;> by_cases hr : st ∈ r <;> simp [hl, hr]
  simp only [raisedBy, member]
  ac_rfl

theorem getLastD_append_list {α : Type} (l r : List α) (d : α) : (l ++ r).getLastD d = r.getLastD (l.getLastD d) := by
  cases r using List.reverseRecOn with
  | nil => simp
  | append_singleton r x => rw [← List.append_assoc]; simp

namespace RunMoved
variable {s t u : State} {run run' : List (Nat × ShowState)}

theorem nil (s : State) : RunMoved [] s s where
  length := rfl
  moved := fun _ _ => rfl
  apart := fun _ _ => rfl
  leftSale := (List.append_nil _).symm
  foyer := by simp [raisedBy]
  frame := rfl

theorem append (first : RunMoved run s t) (then' : RunMoved run' t u) : RunMoved (run ++ run') s u where
  length := then'.length.trans first.length
  moved := fun n inside => by
    have last := then'.moved n (by rwa [first.length])
    rw [first.moved n inside] at last
    rw [last]
    simp only [movesOf, List.filter_append, List.map_append, getLastD_append_list]
  apart := fun n others => by
    rw [then'.apart n fun e he => others e (List.mem_append_right _ he), first.apart n fun e he => others e (List.mem_append_left _ he)]
  leftSale := by
    rw [then'.leftSale, first.leftSale, List.append_assoc]
    simp only [closedIn, List.filter_append, List.map_append]
  foyer := by
    rw [then'.foyer, first.foyer, List.map_append, raisedBy_append, ← BitVec.or_assoc]
  frame := by rw [then'.frame, first.frame]

/-- One show event. -/
theorem enterShow (n : Nat) (st : ShowState) (s : State) : RunMoved [(n, st)] s (enterShow n st s) := by
  have shows : ∀ u : State, u.showUnit.shows = (updShow n (fun w => { w with state := st }) s).showUnit.shows →
      u.showUnit.shows.length = s.showUnit.shows.length ∧
      (∀ m < s.showUnit.shows.length, showAt u m = { (showAt s m) with
        state := (movesOf m [(n, st)]).getLastD (showAt s m).state, changes := (showAt u m).changes }) ∧
      ∀ m, (∀ e ∈ [(n, st)], e.1 ≠ m) → showAt u m = showAt s m := by
    intro u same
    have at' : ∀ m, showAt u m = showAt (updShow n (fun w => { w with state := st }) s) m := fun m => by rw [showAt, same]; rfl
    refine ⟨by rw [same]; exact updAt_length .., fun m inside => ?_, fun m others => ?_⟩
    · by_cases here : n = m
      · subst here
        simp [at', showAt_updShow_self s n _ inside, movesOf]
      · simp [at', showAt_updShow_other s n m _ here, movesOf, here]
    · rw [at', showAt_updShow_other s n m _ (others _ List.mem_cons_self)]
  have told : ∀ (f : FactorSet) (left : List Nat) (v : State), v.station.foyer = s.station.foyer →
      v = { s with showUnit := { s.showUnit with shows := (updShow n (fun w => { w with state := st }) s).showUnit.shows
                                                 leftSale := s.showUnit.leftSale ++ left } } →
      left = closedIn [(n, st)] → f = raisedBy [st] → RunMoved [(n, st)] s (raiseFactor .foyer f v) := by
    rintro f left v foyer frame rfl rfl
    obtain ⟨raised, kept⟩ := raiseFoyer_spec (raisedBy [st]) v
    have unit : (raiseFactor .foyer (raisedBy [st]) v).showUnit = v.showUnit := by rw [kept]
    obtain ⟨length, moved, apart⟩ := shows (raiseFactor .foyer (raisedBy [st]) v) (by rw [unit, frame])
    refine ⟨length, moved, apart, by rw [unit, frame], ?_, ?_⟩
    · rw [raised, foyer]; rfl
    · rw [kept, frame]
  have quiet : ∀ v : State, v = updShow n (fun w => { w with state := st }) s → st ≠ .closed → raisedBy [st] = 0 →
      RunMoved [(n, st)] s v := by
    rintro v rfl open' none
    obtain ⟨length, moved, apart⟩ := shows _ rfl
    refine ⟨length, moved, apart, ?_, ?_, rfl⟩
    · simp [closedIn, open']
    · rw [show [(n, st)].map Prod.snd = [st] from rfl, none, show s.station.foyer.factors ||| 0 = s.station.foyer.factors from BitVec.or_zero]; rfl
  cases st with
  | closed => exact told _ [n] _ rfl rfl rfl (by decide)
  | ended => exact told _ [] _ rfl (by rw [List.append_nil]; rfl) rfl (by decide)
  | empty => exact quiet _ rfl nofun (by decide)
  | loaded => exact quiet _ rfl nofun (by decide)
  | onSale => exact quiet _ rfl nofun (by decide)

theorem enterShows (n : Nat) (l : List ShowState) (s : State) :
    RunMoved (l.map (fun st => (n, st))) s (l.foldl (fun t st => Machine.enterShow n st t) s) := by
  induction l generalizing s with
  | nil => exact nil s
  | cons st rest ih => exact (enterShow n st s).append (ih _)

/-- R9 to R11: the transitions of one show that are due. -/
theorem moveShow (n : Nat) (s : State) :
    RunMoved ((dueMoves s.showUnit.clock.now (showAt s n)).map (fun st => (n, st))) s (moveShow n s) := enterShows n _ s

theorem clock (h : RunMoved run s t) : t.showUnit.clock = s.showUnit.clock := by rw [h.frame]

end RunMoved

/-- The show events due at an instant, show after show. -/
def dueRun (now : Instant) (l : List Nat) (s : State) : List (Nat × ShowState) :=
  l.flatMap (fun n => (dueMoves now (showAt s n)).map (fun st => (n, st)))

theorem RunMoved.moveEach {l : List Nat} (once : l.Nodup) (s : State) :
    RunMoved (dueRun s.showUnit.clock.now l s) s (forEach l Machine.moveShow s) := by
  induction l generalizing s with
  | nil => exact nil s
  | cons n rest ih =>
    obtain ⟨fresh, once⟩ := List.nodup_cons.mp once
    have first := RunMoved.moveShow n s
    have later : dueRun (Machine.moveShow n s).showUnit.clock.now rest (Machine.moveShow n s) = dueRun s.showUnit.clock.now rest s := by
      rw [first.clock]
      refine List.flatMap_congr fun m hm => ?_
      rw [first.apart m fun e he => ?_]
      obtain ⟨st, -, rfl⟩ := List.mem_map.mp he
      rintro rfl
      exact fresh hm
    have rest' := ih once (Machine.moveShow n s)
    rw [later] at rest'
    exact first.append rest'

theorem movesOf_append (n : Nat) (l r : List (Nat × ShowState)) : movesOf n (l ++ r) = movesOf n l ++ movesOf n r := by
  simp only [movesOf, List.filter_append, List.map_append]

theorem movesOf_map (n m : Nat) (l : List ShowState) : movesOf n (l.map (fun st => (m, st))) = if m = n then l else [] := by
  by_cases here : m = n <;> simp [movesOf, here, List.filter_map, Function.comp_def]

theorem movesOf_dueRun (now : Instant) {l : List Nat} (once : l.Nodup) (s : State) (n : Nat) :
    movesOf n (dueRun now l s) = if n ∈ l then dueMoves now (showAt s n) else [] := by
  induction l with
  | nil => rfl
  | cons m rest ih =>
    obtain ⟨fresh, once⟩ := List.nodup_cons.mp once
    rw [dueRun, List.flatMap_cons, movesOf_append, movesOf_map, ← dueRun, ih once]
    by_cases here : m = n
    · subst here; simp [fresh]
    · simp [here, Ne.symm here]

theorem mem_closedIn {run : List (Nat × ShowState)} {n : Nat} : n ∈ closedIn run ↔ (n, ShowState.closed) ∈ run := by
  simp [closedIn]

theorem mem_dueRun {now : Instant} {l : List Nat} {s : State} {n : Nat} {st : ShowState} :
    (n, st) ∈ dueRun now l s ↔ n ∈ l ∧ st ∈ dueMoves now (showAt s n) := by
  simp [dueRun, List.mem_flatMap]

/-- A show is closed at most once by what is due. -/
theorem closedIn_dueMoves (now : Instant) (w : ShowRec) (n : Nat) :
    closedIn ((dueMoves now w).map (fun st => (n, st))) = if ShowState.closed ∈ dueMoves now w then [n] else [] := by
  unfold dueMoves openMoves closeMoves endMoves
  (repeat' split) <;> simp_all [closedIn]

theorem dueRun_states (now : Instant) (l : List Nat) (s : State) :
    (dueRun now l s).map Prod.snd = l.flatMap (fun n => dueMoves now (showAt s n)) := by
  simp [dueRun, List.map_flatMap, Function.comp_def]

/-- R3, R6: every show makes the transitions due. -/
theorem showsMoved_moveShows {s : State} (all : s.showUnit.shows.length = 48) :
    ShowsMoved s.showUnit.clock.now s (moveShows s) ∧ RunMoved (dueRun s.showUnit.clock.now (List.range 48) s) s (moveShows s) := by
  have run : RunMoved (dueRun s.showUnit.clock.now (List.range 48) s) s (moveShows s) := .moveEach List.nodup_range s
  refine ⟨⟨fun n inside => ?_, fun n => ?_, ?_⟩, run⟩
  · have moved := run.moved n (all ▸ inside)
    rwa [movesOf_dueRun _ List.nodup_range, if_pos (List.mem_range.mpr inside)] at moved
  · rw [run.leftSale, List.mem_append, mem_closedIn, mem_dueRun, List.mem_range]
  · rw [run.foyer, dueRun_states]

end Sys2Proof.Machine
end

section
/-! Run time and the foyer clock (R1 to R6): O22 and O23. -/

namespace Sys2Proof.Machine

/-! ### Instants (R2, R5) -/

theorem yearLength_eq (year : Nat) : yearLength year = if year % 4 = 0 then 366 else 365 := by simp [yearLength, isLeap]

theorem validInstant_iff {i : Instant} : validInstant i = true ↔
    2000 ≤ i.year ∧ i.year ≤ 2099 ∧ 1 ≤ i.day ∧ i.day ≤ (if i.year % 4 = 0 then 366 else 365) ∧ i.second ≤ 86399 := by
  simp only [validInstant, Bool.and_eq_true, decide_eq_true_eq, yearLength_eq, and_assoc]

theorem instantBefore_iff {i j : Instant} : instantBefore i j = true ↔
    i.year < j.year ∨ i.year = j.year ∧ (i.day < j.day ∨ i.day = j.day ∧ i.second < j.second) := by
  simp only [instantBefore, Bool.or_eq_true, Bool.and_eq_true, decide_eq_true_eq, beq_iff_eq]

/-- The days from 2000, day 1 to the first day of a year. -/
theorem daysBefore_next {year later : Nat} (low : 2000 ≤ year) (lt : year < later) :
    365 * (year - 2000) + (year - 2000 + 3) / 4 + (if year % 4 = 0 then 366 else 365) ≤
      365 * (later - 2000) + (later - 2000 + 3) / 4 := by
  split <;> omega

theorem instantSeconds_lt_of_year {i j : Instant} (vi : validInstant i = true) (lt : i.year < j.year) :
    instantSeconds i < instantSeconds j := by
  obtain ⟨low, -, day, days, second⟩ := validInstant_iff.mp vi
  have := daysBefore_next low lt
  simp only [instantSeconds]
  omega

theorem instantSeconds_lt_iff {i j : Instant} (vi : validInstant i = true) (vj : validInstant j = true) :
    instantSeconds i < instantSeconds j ↔ instantBefore i j = true := by
  rw [instantBefore_iff]
  rcases Nat.lt_trichotomy i.year j.year with lt | same | gt
  · simp [lt, instantSeconds_lt_of_year vi lt]
  · obtain ⟨-, -, iday, -, isecond⟩ := validInstant_iff.mp vi
    obtain ⟨-, -, jday, -, jsecond⟩ := validInstant_iff.mp vj
    simp only [instantSeconds, same, Nat.lt_irrefl, false_or, true_and]
    constructor <;> omega
  · have := instantSeconds_lt_of_year vj gt
    omega

theorem instantSeconds_nextSecond {i : Instant} (vi : validInstant i = true) : instantSeconds (nextSecond i) = instantSeconds i + 1 := by
  obtain ⟨low, -, day, days, second⟩ := validInstant_iff.mp vi
  rw [nextSecond, yearLength_eq]
  by_cases within : i.second < 86399
  · rw [if_pos within]
    simp only [instantSeconds]
    omega
  by_cases same : i.day < if i.year % 4 = 0 then 366 else 365
  · rw [if_neg within, if_pos same]
    simp only [instantSeconds]
    omega
  · rw [if_neg within, if_neg same]
    simp only [instantSeconds]
    split at days <;> rename_i leap <;> simp only [leap, if_true, if_false] at same <;> omega

theorem nextSecond_eq (i : Instant) : nextSecond i = if i.second < 86399 then ⟨i.year, i.day, i.second + 1⟩
    else if i.day < (if i.year % 4 = 0 then 366 else 365) then ⟨i.year, i.day + 1, 0⟩ else ⟨i.year + 1, 1, 0⟩ := by
  simp only [nextSecond, yearLength_eq]

theorem clockStopped_iff {i : Instant} : clockStopped i = true ↔ i = ⟨2099, 365, 86399⟩ := by
  cases i
  simp [clockStopped, and_assoc]

theorem reached_iff {now : Instant} {moment : Nat} : reached now moment = true ↔ moment ≤ instantSeconds now := decide_eq_true_iff

/-- R9 to R11: what is due, state by state. -/
theorem dueMoves_cases (now : Instant) (w : ShowRec) :
    dueMoves now w = [] ∧ (w.state = .empty ∨ w.state = .ended) ∨
    w.state = .loaded ∧ dueMoves now w =
      (if instantSeconds w.saleOpen ≤ instantSeconds now then
        [ShowState.onSale] ++ (if instantSeconds w.start + 60 * w.lateWindow ≤ instantSeconds now then
          [.closed] ++ (if instantSeconds w.finish ≤ instantSeconds now then [.ended] else []) else [])
       else []) ∨
    w.state = .onSale ∧ dueMoves now w =
      (if instantSeconds w.start + 60 * w.lateWindow ≤ instantSeconds now then
        [ShowState.closed] ++ (if instantSeconds w.finish ≤ instantSeconds now then [.ended] else []) else []) ∨
    w.state = .closed ∧ dueMoves now w = (if instantSeconds w.finish ≤ instantSeconds now then [ShowState.ended] else []) := by
  cases state : w.state <;>
    simp [dueMoves, state, openMoves, closeMoves, endMoves, reached_iff, saleClose]

/-! ### The clock -/

theorem exec_runTimeAdvance (s : State) : exec .runTimeAdvance s = .next (runTimeOp s) := rfl

theorem exec_clockSecond {s : State} (due : secondDue s = true) : exec .clockSecond s = .next (runTimeOp s) := by
  show Host.Outcome.next (clockSecondOp s) = _
  rw [clockSecondOp, if_pos due]

theorem reportDay_eq (before : Instant) (s : State) : reportDay before s = { s with showUnit := { s.showUnit with
    dayChanges := s.showUnit.dayChanges ++
      if differentDay before s.showUnit.clock.now then [(s.showUnit.clock.now.year, s.showUnit.clock.now.day)] else [] } } := by
  simp only [reportDay]
  split <;> simp

/-- A second passes into another day exactly at the end of one. -/
theorem differentDay_nextSecond (i : Instant) : differentDay i (nextSecond i) = !decide (i.second < 86399) := by
  rw [nextSecond, differentDay]
  split
  · next within => simp [within]
  next without => split <;> simp [without]

/-- The part when a second has passed and the shows have not yet moved. -/
def atSecond (s : State) : State :=
  let later := nextSecond s.showUnit.clock.now
  { s with showUnit := { s.showUnit with
      runTime := s.showUnit.runTime + 1, clock := ⟨true, later, 0, bump s.showUnit.clock.changes⟩
      dayChanges := s.showUnit.dayChanges ++ if s.showUnit.clock.now.second < 86399 then [] else [(later.year, later.day)] } }

theorem runTimeOp_second {s : State} (due : secondDue s = true) : runTimeOp s = moveShows (atSecond s) := by
  simp only [secondDue, Bool.and_eq_true, Bool.not_eq_true', beq_iff_eq] at due
  obtain ⟨⟨set, runs⟩, phase⟩ := due
  rw [runTimeOp, clockAdvance, if_neg (by simp [set, runs]), if_neg (by simp [phase]), secondAdvance, reportDay_eq]
  refine congrArg moveShows ?_
  simp only [writeClock, differentDay_nextSecond, atSecond]
  by_cases within : s.showUnit.clock.now.second < 86399 <;> simp [within]

/-- Settles O22: the second advance writes the clock, reports the day, and has every show make what is due. -/
theorem runTimeAdvanceMovesTheClock : Obligations.RunTimeAdvanceMovesTheClock := by
  unfold Obligations.RunTimeAdvanceMovesTheClock
  refine ⟨⟨fun i j => instantBefore_iff, fun i j vi vj => ?_, rfl, fun i vi => ?_⟩, dueMoves_cases, fun i => clockStopped_iff,
    fun s stands => ?_, fun s set runs phase => ?_, fun s set runs phase all => ?_⟩
  · exact (instantSeconds_lt_iff (validInstant_iff.mpr vi) (validInstant_iff.mpr vj)).trans instantBefore_iff
  · rw [← instantSeconds_nextSecond (validInstant_iff.mpr vi), nextSecond_eq]
  · rw [exec_runTimeAdvance, runTimeOp, clockAdvance, if_pos]
    simpa using stands
  · refine ⟨_, exec_runTimeAdvance s, ?_⟩
    rw [runTimeOp, clockAdvance, if_neg (by simp [set, runs]), if_pos (by simpa using by omega)]
    exact ⟨rfl, rfl, rfl, rfl⟩
  · have due : secondDue s = true := by simp [secondDue, set, runs, phase]
    refine ⟨runTimeOp s, exec_runTimeAdvance s, exec_clockSecond due, ?_⟩
    rw [runTimeOp_second due]
    obtain ⟨moved, run⟩ := showsMoved_moveShows (s := atSecond s) all
    have clock := run.clock
    have frame := run.frame
    generalize moveShows (atSecond s) = t at moved clock frame ⊢
    refine ⟨by rw [frame]; rfl, by rw [clock]; exact ⟨rfl, rfl⟩, by rw [clock]; exact nextSecond_eq _, ?_, by rw [clock]; exact moved, ?_⟩
    · rw [clock, frame]; rfl
    · rw [frame]; rfl

/-! ### SET_CLOCK (R5) -/

theorem exec_setClock {r : Request} {s : State} (handed : Handed .setClock r s) :
    exec .setClock s = .next (setClockOp r (taken r s)) := by
  show Host.Outcome.next (withRequest .setClock (fun r => setClockOp r) s) = _
  rw [withRequest_handed handed]

/-- The bytes of a request's parameters, from one on, are the bytes of its parameters. -/
theorem instantOf_params (r : Request) : instantOf (paramBytes r 0 6) = ⟨2000 + param1 r 0, param2 r 1, param3 r 3⟩ := by
  simp [instantOf, param1, param2, param3, paramBytes, List.take_take, List.drop_take]

theorem table_eq_map {α : Type} (l : List α) (d : α) : (List.range l.length).map (fun n => l.getD n d) = l := by
  refine List.ext_getElem (by simp) fun n inside _ => ?_
  simp [List.getD_eq_getElem?_getD, List.getElem?_eq_getElem (by simpa using inside)]

theorem movesDue_eq {s : State} (all : s.showUnit.shows.length = 48) :
    movesDue s = ((List.range 48).map (fun n => (dueMoves s.showUnit.clock.now (showAt s n)).length)).sum := by
  rw [movesDue, ← table_eq_map s.showUnit.shows ShowRec.empty, all, List.map_map]
  rfl

/-- Settles O23. -/
theorem setClockSetsAndMakesTheTransitionsDue : Obligations.SetClockSetsAndMakesTheTransitionsDue := by
  unfold Obligations.SetClockSetsAndMakesTheTransitionsDue
  intro s r handed all i
  rw [exec_setClock handed, setClockOp]
  simp only [instantOf_params]
  refine ⟨fun year day days second => ?_, fun invalid => ?_⟩
  · rw [if_pos (validInstant_iff.mpr ⟨Nat.le_add_right _ _, year, day, days, second⟩)]
    obtain ⟨moved, run⟩ := showsMoved_moveShows (s := writeClock i 0 (taken r s)) all
    have count : movesDue (writeClock i 0 (taken r s)) = ((List.range 48).map (fun n => (dueMoves i (showAt s n)).length)).sum :=
      movesDue_eq all
    rw [count]
    have clock := run.clock
    have frame := run.frame
    generalize moveShows (writeClock i 0 (taken r s)) = t at moved clock frame ⊢
    have now : t.showUnit.clock.now = i := by rw [clock]; rfl
    have days' : t.showUnit.dayChanges = s.showUnit.dayChanges := by rw [frame]; rfl
    have reported : (if s.showUnit.clock.isSet then reportDay s.showUnit.clock.now t else t) = { t with showUnit := { t.showUnit with
        dayChanges := s.showUnit.dayChanges ++ if s.showUnit.clock.isSet = true ∧
          (s.showUnit.clock.now.year ≠ i.year ∨ s.showUnit.clock.now.day ≠ i.day) then [(i.year, i.day)] else [] } } := by
      rw [reportDay_eq, now, days']
      cases set : s.showUnit.clock.isSet
      · simp [← days']
      · simp [differentDay]
    refine ⟨_, congrArg _ (congrArg₂ (completeSlot r.slot .ok) ?_ reported), clock, ?_, rfl, moved, ?_⟩
    · show optInstantBytes (if s.showUnit.clock.isSet = true then some s.showUnit.clock.now else none) ++ _ = _
      cases s.showUnit.clock.isSet <;> rfl
    · show t.showUnit.runTime = _
      rw [frame]; rfl
    · rw [frame]; rfl
  · rw [if_neg (fun valid => invalid (validInstant_iff.mp valid).2)]
    rfl
end Sys2Proof.Machine
end

section
/-! LOAD_SHOW (R12 to R14): O25. -/

namespace Sys2Proof.Machine

/-! ### The description in staging (10.6) -/

theorem memReadAll_eq_map (m : List Host.Cell) (a n : Nat) : memReadAll m a n = (List.range n).map (fun k => memRead m (a + k)) := by
  refine List.ext_getElem (by simp [memReadAll_length]) fun i left _ => ?_
  rw [memReadAll_length] at left
  have := memReadAll_getD m a left
  rw [List.getD_eq_getElem _ _ (by rwa [memReadAll_length])] at this
  simpa using this

theorem leValue_byte (m : List Host.Cell) (a : Nat) : leValue (memReadAll m a 1) = (memRead m a).toNat := by
  simp [memReadAll, leValue]

theorem instantOf_memReadAll (m : List Host.Cell) (a : Nat) : instantOf (memReadAll m a 6) =
    ⟨2000 + leValue (memReadAll m a 1), leValue (memReadAll m (a + 1) 2), leValue (memReadAll m (a + 3) 3)⟩ := rfl

theorem rowLengths_eq (m : List Host.Cell) (a n : Nat) :
    (memReadAll m a n).map BitVec.toNat = (List.range n).map (fun k => leValue (memReadAll m (a + k) 1)) := by
  rw [memReadAll_eq_map, List.map_map]
  simp only [leValue_byte]
  rfl

theorem descriptionSound_iff (d : Description) :
    let valid := fun (i : Instant) => 2000 ≤ i.year ∧ i.year ≤ 2099 ∧ 1 ≤ i.day ∧
      i.day ≤ (if i.year % 4 = 0 then 366 else 365) ∧ i.second ≤ 86399
    descriptionSound d = true ↔
      (1 ≤ d.titleLength ∧ d.titleLength ≤ 32) ∧ (1 ≤ d.auditorium ∧ d.auditorium ≤ 16) ∧ d.lateWindow ≤ 30 ∧ d.priceList ≤ 15 ∧
      (1 ≤ d.rowCount ∧ d.rowCount ≤ 32) ∧ (valid d.saleOpen ∧ valid d.start ∧ valid d.finish) ∧
      (instantSeconds d.saleOpen < instantSeconds d.start ∧ instantSeconds d.start < instantSeconds d.finish ∧
        instantSeconds d.start + 60 * d.lateWindow ≤ instantSeconds d.finish) ∧
      (∀ l ∈ d.rowLengths, 1 ≤ l ∧ l ≤ 40) ∧ (1 ≤ d.rowLengths.sum ∧ d.rowLengths.sum ≤ 512) ∧
      ∀ b ∈ d.map, b.toNat % 128 ≤ 7 := by
  intro valid
  simp only [descriptionSound, Bool.and_eq_true, decide_eq_true_eq, List.all_eq_true, seatByteTier]
  constructor
  · rintro ⟨⟨⟨⟨⟨⟨⟨⟨⟨⟨⟨⟨⟨⟨⟨⟨⟨t1, t2⟩, a1⟩, a2⟩, late⟩, list⟩, r1⟩, r2⟩, v1⟩, v2⟩, v3⟩, b1⟩, b2⟩, close⟩, rows⟩, s1⟩, s2⟩, seats⟩
    exact ⟨⟨t1, t2⟩, ⟨a1, a2⟩, late, list, ⟨r1, r2⟩, ⟨validInstant_iff.mp v1, validInstant_iff.mp v2, validInstant_iff.mp v3⟩,
      ⟨(instantSeconds_lt_iff v1 v2).mpr b1, (instantSeconds_lt_iff v2 v3).mpr b2, close⟩, rows, ⟨s1, s2⟩, fun b hb => of_decide_eq_true (seats b hb)⟩
  · rintro ⟨⟨t1, t2⟩, ⟨a1, a2⟩, late, list, ⟨r1, r2⟩, ⟨v1, v2, v3⟩, ⟨b1, b2, close⟩, rows, ⟨s1, s2⟩, seats⟩
    have v1 := validInstant_iff.mpr v1
    have v2 := validInstant_iff.mpr v2
    have v3 := validInstant_iff.mpr v3
    exact ⟨⟨⟨⟨⟨⟨⟨⟨⟨⟨⟨⟨⟨⟨⟨⟨⟨t1, t2⟩, a1⟩, a2⟩, late⟩, list⟩, r1⟩, r2⟩, v1⟩, v2⟩, v3⟩, (instantSeconds_lt_iff v1 v2).mp b1⟩,
      (instantSeconds_lt_iff v2 v3).mp b2⟩, close⟩, rows⟩, s1⟩, s2⟩, fun b hb => decide_eq_true (seats b hb)⟩

/-! ### The checks and the record -/

theorem isLoading_iff {s : State} {n : Nat} : isLoading s n = true ↔ ∃ l ∈ s.showUnit.loadings, l.sh = n := by
  simp [isLoading]

theorem mem_allocatedRanges {s : State} {range : Nat × Nat} : range ∈ allocatedRanges s ↔
    ∃ n < 48, ((showAt s n).state ≠ .empty ∨ ∃ l ∈ s.showUnit.loadings, l.sh = n) ∧
      range = ((showAt s n).seatBase, (showAt s n).seatCount) := by
  simp only [allocatedRanges, List.mem_map, List.mem_filter, List.mem_range, Bool.or_eq_true, bne_iff_ne, isLoading_iff]
  constructor
  · rintro ⟨n, ⟨inside, taken⟩, rfl⟩; exact ⟨n, inside, taken, rfl⟩
  · rintro ⟨n, inside, taken, rfl⟩; exact ⟨n, ⟨inside, taken⟩, rfl⟩

theorem inStaging_iff {off n : Nat} : inStaging off n = true ↔ off + n ≤ 8192 := decide_eq_true_iff

theorem inStaging_eq_false {off n : Nat} : inStaging off n = false ↔ 8192 < off + n := by
  rw [← Bool.not_eq_true, inStaging_iff, Nat.not_le]

theorem exec_loadShow {r : Request} {s : State} (handed : Handed .loadShow r s) :
    exec .loadShow s = .next (loadShowOp r (taken r s)) := by
  show Host.Outcome.next (withRequest .loadShow (fun r => loadShowOp r) s) = _
  rw [withRequest_handed handed]

theorem exec_loadShow_error {r : Request} {s : State} {code : ResultCode} (handed : Handed .loadShow r s)
    (refused : loadCheck s (param1 r 0) (param2 r 1) = .error code) :
    exec .loadShow s = .next (completeSlot r.slot code [] (taken r s)) := by
  rw [exec_loadShow handed, loadShowOp]
  simp only [show loadCheck (taken r s) (param1 r 0) (param2 r 1) = .error code from refused]
  rfl

section
variable {s : State} {sh off : Nat} (set : s.showUnit.clock.isSet = true) (inside : sh < 48)
  (empty : (showAt s sh).state = .empty) (idle : ∀ l ∈ s.showUnit.loadings, l.sh ≠ sh)
include set inside empty idle

/-- What is left of the checks once the show itself may be loaded. -/
theorem loadCheck_show : loadCheck s sh off =
    if inStaging off (descriptionAt s off).size = false ∨ descriptionSound (descriptionAt s off) = false then .error .badParameter
    else match firstFit (allocatedRanges s) (descriptionAt s off).rowLengths.sum with
      | none => .error .poolFull
      | some base => .ok base := by
  have notLoading : ¬ isLoading s sh = true := fun loading => by
    obtain ⟨l, hl, same⟩ := isLoading_iff.mp loading
    exact idle l hl same
  rw [loadCheck, if_neg (by simp [set]), if_neg (by omega), if_neg (by simp [empty, notLoading])]
  by_cases within : inStaging off (descriptionAt s off).size = false
  · rw [if_pos within, if_pos (.inl within)]
  rw [if_neg within]
  by_cases sound : descriptionSound (descriptionAt s off) = false
  · rw [if_pos sound, if_pos (.inr sound)]
  · rw [if_neg sound, if_neg (not_or_intro within sound)] <;> rfl

end

/-- Settles O25. -/
theorem loadShowReservesTheRangeAndFillsTheRecord : Obligations.LoadShowReservesTheRangeAndFillsTheRecord := by
  unfold Obligations.LoadShowReservesTheRangeAndFillsTheRecord
  refine ⟨fun s off => ?_, descriptionSound_iff, fun s range => mem_allocatedRanges, ⟨rfl, rfl⟩, ?_, ?_⟩
  · simp only [descriptionAt, stagingBytes, Config.stagingBase, instantOf_memReadAll, rowLengths_eq, Nat.add_assoc, Nat.add_zero]
    simp
  · intro s r base handed all sh d set inside empty idle within sound fits
    have ok : loadCheck s sh (param2 r 1) = .ok base := by
      rw [loadCheck_show set inside empty idle, if_neg]
      · rw [fits]
      · rw [inStaging_eq_false, show descriptionSound (descriptionAt s (param2 r 1)) = true from sound]
        simpa using within
    rw [exec_loadShow handed, loadShowOp]
    simp only [show loadCheck (taken r s) (param1 r 0) (param2 r 1) = .ok base from ok]
    refine ⟨_, rfl, ?_, fun n apart => ?_, rfl, rfl⟩
    · exact showAt_setShow_self (taken r s) sh _ (all ▸ inside)
    · exact showAt_setShow_other (taken r s) sh n _ apart.symm
  · intro s r handed sh d
    refine ⟨fun unset => ?_, fun set beyond => ?_, fun set inside busy => ?_, fun set inside empty idle =>
      ⟨fun bad => ?_, fun within sound full => ?_⟩⟩ <;> refine exec_loadShow_error handed ?_
    · rw [loadCheck, if_pos (by simp [unset])]
    · rw [loadCheck, if_neg (by simp [set]), if_pos beyond]
    · rw [loadCheck, if_neg (by simp [set]), if_neg (by omega), if_pos (busy.imp_right isLoading_iff.mpr)]
    · rw [loadCheck_show set inside empty idle, if_pos (bad.imp_left inStaging_eq_false.mpr)]
    · rw [loadCheck_show set inside empty idle, if_neg]
      · rw [full]
      · rw [inStaging_eq_false, show descriptionSound (descriptionAt s (param2 r 1)) = true from sound]
        simpa using within

end Sys2Proof.Machine
end

section
/-! A loading's completion (R14): O26. -/

namespace Sys2Proof.Machine

/-- R14: the cell that a seat byte stands for. -/
def loadedSeat (b : Byte) : Seat := ⟨if b.getLsbD 7 then .blocked else .free, b.toNat % 128, none⟩

/-- R14: the cells of a loading take what their seat bytes say, and no other cell moves. -/
theorem loadCells_spec (cell : Nat) (map : List Byte) (s : State) (canonical : sparseWf Seat.spare s.seats) :
    let t := loadCells cell map s
    (∀ i < map.length, seatAt t (cell + i) = loadedSeat (map.getD i 0)) ∧
      (∀ c, (c < cell ∨ cell + map.length ≤ c) → seatAt t c = seatAt s c) ∧ t = { s with seats := t.seats } := by
  induction map generalizing cell s with
  | nil => exact ⟨fun i inside => absurd inside (Nat.not_lt_zero i), fun _ _ => rfl, rfl⟩
  | cons b rest ih =>
    have set : sparseWf Seat.spare (setSeat cell (loadedSeat b) s).seats := sparsePut_wf _ _ _ _ canonical
    obtain ⟨inside, outside, frame⟩ := ih (cell + 1) (setSeat cell (loadedSeat b) s) set
    have other : ∀ c, c ≠ cell → seatAt (setSeat cell (loadedSeat b) s) c = seatAt s c :=
      fun c apart => seatAt_setSeat_other s cell c _ canonical apart.symm
    refine ⟨fun i within => ?_, fun c apart => ?_, by exact frame.trans rfl⟩
    · cases i with
      | zero => exact (outside cell (.inl (Nat.lt_succ_self cell))).trans (seatAt_setSeat_self s cell _ canonical)
      | succ i =>
        rw [show cell + (i + 1) = cell + 1 + i by omega, List.getD_cons_succ]
        exact inside i (Nat.lt_of_succ_lt_succ within)
    · rw [List.length_cons] at apart
      exact (outside c (by omega)).trans (other c (by omega))

/-- The show record once a loading's cells and counts are written, the transitions due not yet made. -/
def loadedShow (l : Loading) (w : ShowRec) : ShowRec :=
  { w with state := .loaded, blocked := blockedCount l.map, free := w.seatCount - blockedCount l.map, held := 0, sold := 0
           changes := stepCount w.changes }

/-- The part once a loading's cells and counts are written, the transitions due not yet made. -/
def loadedState (sh : Nat) (l : Loading) (s : State) : State :=
  let t := setShow sh (loadedShow l) (loadCells (showAt s sh).seatBase l.map s)
  { t with showUnit := { t.showUnit with loadings := t.showUnit.loadings.erase l } }

theorem loadingCompleteOp_eq {s : State} {sh : Nat} {l : Loading}
    (found : s.showUnit.loadings.find? (fun x => x.sh == sh) = some l) :
    let t := moveShow sh (loadedState sh l s)
    loadingCompleteOp sh s =
      completeSlot l.slot .ok (leBytes 2 (showAt t sh).seatBase ++ leBytes 1 (showStateNum (showAt t sh).state)) t := by
  simp only [loadingCompleteOp, found]
  rfl

/-- Settles O26: the cells and counts are written first, then the show makes what is due. -/
theorem loadingCompleteWritesTheSeats : Obligations.LoadingCompleteWritesTheSeats := by
  unfold Obligations.LoadingCompleteWritesTheSeats
  refine ⟨rfl, ?_⟩
  intro s sh l found canonical all base blocked w
  obtain ⟨cells, others, frame⟩ := loadCells_spec base l.map s canonical.seats
  have unit : (loadCells base l.map s).showUnit = s.showUnit := by rw [frame]
  have inside : sh.val < (loadCells base l.map s).showUnit.shows.length := by rw [unit, all]; exact sh.isLt
  have self : showAt (loadedState sh l s) sh = loadedShow l (showAt s sh) :=
    (showAt_setShow_self (loadCells base l.map s) sh (loadedShow l) inside).trans (by rw [showAt, unit]; rfl)
  have other : ∀ n, n ≠ sh.val → showAt (loadedState sh l s) n = showAt s n := fun n apart =>
    (showAt_setShow_other (loadCells base l.map s) sh n (loadedShow l) apart.symm).trans (by rw [showAt, unit]; rfl)
  have loaded : loadedState sh l s = { s with seats := (loadCells base l.map s).seats
                                              showUnit := { s.showUnit with shows := (loadedState sh l s).showUnit.shows
                                                                            loadings := s.showUnit.loadings.erase l } } := by
    simp only [loadedState, setShow, show (showAt s sh).seatBase = base from rfl]
    rw [frame]
  have length : sh.val < (loadedState sh l s).showUnit.shows.length := by
    simp only [loadedState, setShow, updAt_length]
    exact inside
  have run := RunMoved.moveShow sh (loadedState sh l s)
  have moves : dueMoves (loadedState sh l s).showUnit.clock.now (showAt (loadedState sh l s) sh) = dueMoves s.showUnit.clock.now w := by
    rw [self, loaded]; rfl
  rw [moves] at run
  show ∃ u, Host.Outcome.next (loadingCompleteOp sh s) = _ ∧ _
  rw [loadingCompleteOp_eq found]
  have seats : (moveShow sh (loadedState sh l s)).seats = (loadCells base l.map s).seats := by rw [run.frame, loaded]
  have moved := run.moved sh length
  rw [movesOf_map, if_pos rfl, self] at moved
  have apart : ∀ n, n ≠ sh.val → showAt (moveShow sh (loadedState sh l s)) n = showAt s n := fun n apart => by
    rw [run.apart n fun e he => ?_, other n apart]
    obtain ⟨st, -, rfl⟩ := List.mem_map.mp he
    exact apart.symm
  have left := run.leftSale
  rw [closedIn_dueMoves] at left
  have foyer := run.foyer
  rw [List.map_map] at foyer
  have whole := run.frame
  generalize moveShow sh (loadedState sh l s) = t at seats moved apart left foyer whole ⊢
  have at' : ∀ c, seatAt t c = seatAt (loadCells base l.map s) c := fun c => by rw [seatAt, seats]; rfl
  have entered : (showAt t sh).state = (dueMoves s.showUnit.clock.now w).getLastD .loaded := by rw [moved]; rfl
  refine ⟨t, ?_, fun i inside => (at' _).trans (cells i inside), fun c outside => (at' c).trans (others c outside), entered, ?_, apart,
    ?_, ⟨?_, ?_⟩, ?_⟩
  · rw [entered, moved]; rfl
  · rw [entered, moved]; rfl
  · rw [whole, loaded]
  · rw [left, loaded]
  · rw [foyer, loaded, Function.comp_def, List.map_id']
  · rw [whole, loaded]

end Sys2Proof.Machine
end

section
/-! SET_PRICES and CLOSE_SALE (R15, R18): O27. -/

namespace Sys2Proof.Machine

/-! ### A price list in staging (10.6) -/

theorem textOf_plain {text : List Byte} (plain : ∀ b ∈ text, b ≠ 0) (rest : List Byte) :
    textOf text = text ∧ textOf (text ++ 0 :: rest) = text := by
  have all : ∀ b ∈ text, (b != 0) = true := by simpa using plain
  refine ⟨List.takeWhile_eq_self_iff.mpr all, ?_⟩
  rw [textOf, List.takeWhile_append_of_pos all, List.takeWhile_cons_of_neg (by decide), List.append_nil]

theorem memReadAll_take (m : List Host.Cell) (a : Nat) {n k : Nat} (inside : k ≤ n) : (memReadAll m a n).take k = memReadAll m a k := by
  rw [memReadAll_eq_map, memReadAll_eq_map, ← List.map_take, List.take_range, Nat.min_eq_left inside]

theorem memReadAll_drop (m : List Host.Cell) (a n k : Nat) : (memReadAll m a n).drop k = memReadAll m (a + k) (n - k) := by
  induction k generalizing a n with
  | zero => rfl
  | succ k ih =>
    cases n with
    | zero => simp [memReadAll]
    | succ n => rw [memReadAll, List.drop_succ_cons, ih, Nat.add_sub_add_right, Nat.add_right_comm, Nat.add_assoc]

/-- A field of a record in memory. -/
theorem memReadAll_field (m : List Host.Cell) (a : Nat) {n o k : Nat} (inside : o + k ≤ n) :
    ((memReadAll m a n).drop o).take k = memReadAll m (a + o) k := by
  rw [memReadAll_drop, memReadAll_take _ _ (by omega)]

theorem tiersOf_eq_map (n : Nat) (b : List Byte) : tiersOf n b =
    (List.range n).map (fun i => (leValue ((b.drop (14 * i)).take 2), textOf ((b.drop (14 * i + 2)).take 12))) := by
  induction n generalizing b with
  | zero => rfl
  | succ n ih =>
    rw [tiersOf, ih, List.range_succ_eq_map, List.map_cons, List.map_map]
    have next : ∀ i k, 14 + (14 * i + k) = 14 * (i + 1) + k := fun i k => by omega
    simp only [List.drop_drop, Function.comp_def, next, show ∀ i, 14 + 14 * i = 14 * (i + 1) from fun i => next i 0]
    rfl

section
variable (s : State) (off : Nat)

/-- The price of a tier of the list in staging. -/
def stagedPrice (tier : Nat) : Nat := leValue (memReadAll s.mem (0x8000 + off + 14 * tier) 2)
/-- The name of a tier of the list in staging. -/
def stagedName (tier : Nat) : List Byte := textOf (memReadAll s.mem (0x8000 + off + 14 * tier + 2) 12)

theorem priceListAt_eq : priceListAt s off =
    { prices := (List.range 8).map (stagedPrice s off), names := (List.range 8).map (stagedName s off)
      factor := leValue (memReadAll s.mem (0x8000 + off + 112) 1), fee := leValue (memReadAll s.mem (0x8000 + off + 113) 2)
      changes := 0 } := by
  have prices : ∀ i ∈ List.range 8, leValue (((stagingBytes s off priceListSize).drop (14 * i)).take 2) = stagedPrice s off i :=
    fun i member => by
      rw [stagingBytes, memReadAll_field _ _ (by have := List.mem_range.mp member; simp only [priceListSize]; omega)]
      rfl
  have names : ∀ i ∈ List.range 8, textOf (((stagingBytes s off priceListSize).drop (14 * i + 2)).take 12) = stagedName s off i :=
    fun i member => by
      rw [stagingBytes, memReadAll_field _ _ (by have := List.mem_range.mp member; simp only [priceListSize]; omega)]
      rfl
  simp only [priceListAt, tiersOf_eq_map, List.map_map, Function.comp_def]
  rw [List.map_congr_left prices, List.map_congr_left names, stagingBytes, memReadAll_field _ _ (by decide),
    memReadAll_field _ _ (by decide)]

theorem priceListValid_iff : priceListValid (priceListAt s off) = true ↔
    (∀ tier < 8, stagedPrice s off tier ≤ 60000 ∧ stagedName s off tier ≠ []) ∧
      50 ≤ leValue (memReadAll s.mem (0x8000 + off + 112) 1) ∧ leValue (memReadAll s.mem (0x8000 + off + 112) 1) ≤ 250 ∧
      leValue (memReadAll s.mem (0x8000 + off + 113) 2) ≤ 2000 := by
  simp only [priceListValid, priceListAt_eq, Bool.and_eq_true, List.all_eq_true, List.forall_mem_map, List.mem_range,
    decide_eq_true_eq, forall_and, and_assoc, Nat.one_le_iff_ne_zero, ne_eq, List.length_eq_zero_iff]

end

theorem exec_setPrices {r : Request} {s : State} (handed : Handed .setPrices r s) :
    exec .setPrices s = .next (setPricesOp r (taken r s)) := by
  show Host.Outcome.next (withRequest .setPrices (fun r => setPricesOp r) s) = _
  rw [withRequest_handed handed]

theorem exec_closeSale {r : Request} {s : State} (handed : Handed .closeSale r s) :
    exec .closeSale s = .next (closeSaleOp r (taken r s)) := by
  show Host.Outcome.next (withRequest .closeSale (fun r => closeSaleOp r) s) = _
  rw [withRequest_handed handed]

theorem listAt_updAt_self {s : State} {n : Nat} (f : PriceList → PriceList) (inside : n < s.showUnit.prices.length) :
    listAt { s with showUnit := { s.showUnit with prices := updAt s.showUnit.prices n f } } n = f (listAt s n) :=
  updAt_getD_self _ _ _ _ inside

theorem listAt_updAt_other {s : State} {n m : Nat} (f : PriceList → PriceList) (apart : n ≠ m) :
    listAt { s with showUnit := { s.showUnit with prices := updAt s.showUnit.prices n f } } m = listAt s m :=
  updAt_getD_other _ _ _ _ _ apart

theorem enterShow_shows (n : Nat) (st : ShowState) (s : State) :
    (enterShow n st s).showUnit.shows = (updShow n (fun w => { w with state := st }) s).showUnit.shows := by
  cases st <;> simp only [enterShow] <;> rw [(raiseFoyer_spec _ _).2]

theorem showAt_enterShow_self {n : Nat} (st : ShowState) {s : State} (inside : n < s.showUnit.shows.length) :
    showAt (enterShow n st s) n = { (showAt s n) with state := st, changes := bump (showAt s n).changes } := by
  rw [showAt, enterShow_shows]
  exact showAt_updShow_self s n _ inside

/-- Settles O27: the list put in force is the record in staging, and CLOSE_SALE makes the one show event. -/
theorem setPricesAndCloseSaleActOnTheirRecord : Obligations.SetPricesAndCloseSaleActOnTheirRecord := by
  unfold Obligations.SetPricesAndCloseSaleActOnTheirRecord
  refine ⟨fun text rest plain => textOf_plain plain rest, ?_, ?_⟩
  · intro s r handed all n off v
    have bad_iff : (16 ≤ param1 r 0 ∨ inStaging (param2 r 1) priceListSize = false ∨
          priceListValid (priceListAt (taken r s) (param2 r 1)) = false) ↔
        ¬ (n < 16 ∧ off + 128 ≤ 8192 ∧ (∀ tier < 8, v (14 * tier) 2 ≤ 60000 ∧
          textOf (memReadAll s.mem (0x8000 + off + 14 * tier + 2) 12) ≠ []) ∧ 50 ≤ v 112 1 ∧ v 112 1 ≤ 250 ∧ v 113 2 ≤ 2000) := by
      refine Iff.trans ?_ (not_and_or.trans (or_congr Nat.not_lt (not_and_or.trans (or_congr Nat.not_le Iff.rfl)))).symm
      rw [← Bool.not_eq_true (priceListValid _), priceListValid_iff, inStaging_eq_false]
      rfl
    rw [exec_setPrices handed, setPricesOp]
    refine ⟨fun number within tiers low high fee => ?_, fun bad => ?_⟩
    · rw [if_neg (fun bad => bad_iff.mp bad ⟨number, within, tiers, low, high, fee⟩)]
      refine ⟨_, rfl, fun tier inside => ?_, ?_, ?_, fun m apart => listAt_updAt_other (s := taken r s) _ apart.symm, rfl⟩ <;>
        rw [listAt_updAt_self (s := taken r s) _ (all ▸ number)] <;>
        simp only [show priceListAt (taken r s) (param2 r 1) = _ from priceListAt_eq s off]
      · constructor <;> simp [inside, stagedPrice, stagedName, v]
      · rfl
      · rfl
    · rw [if_pos (bad_iff.mpr ?_)]
      · rfl
      · rintro ⟨number, within, tiers, low, high, fee⟩
        rcases bad with bad | bad | bad | bad | bad | ⟨tier, inside, bad⟩
        iterate 5 omega
        exact bad.elim (fun dear => absurd (tiers tier inside).1 (Nat.not_le.mpr dear)) (tiers tier inside).2
  · intro s r handed all
    rw [exec_closeSale handed, closeSaleOp]
    refine ⟨fun inside (open' : (showAt (taken r s) (param1 r 0)).state = .onSale) => ?_, fun beyond => ?_,
      fun inside (empty : (showAt (taken r s) (param1 r 0)).state = .empty) => ?_,
      fun inside (used : (showAt (taken r s) (param1 r 0)).state ≠ .empty) (other : (showAt (taken r s) (param1 r 0)).state ≠ .onSale) => ?_⟩
    · have used : (showAt (taken r s) (param1 r 0)).state ≠ .empty := by rw [open']; nofun
      rw [if_neg (Nat.not_le.mpr inside), if_neg used, if_pos open']
      have run := RunMoved.enterShow (param1 r 0) .closed (taken r s)
      refine ⟨_, rfl, showAt_enterShow_self .closed (all ▸ inside), fun m apart => ?_, run.leftSale, ?_, run.frame⟩
      · exact run.apart m fun e he => by rw [List.mem_singleton.mp he]; exact apart.symm
      · exact (congrArg Foyer.factors run.foyer).trans (congrArg (s.station.foyer.factors ||| ·) (show raisedBy [.closed] = _ by decide))
    · rw [if_pos beyond]; rfl
    · rw [if_neg (Nat.not_le.mpr inside), if_pos empty]; rfl
    · rw [if_neg (Nat.not_le.mpr inside), if_neg used, if_neg other]; rfl

end Sys2Proof.Machine
end

section
/-! DROP_SHOW and the removal of what belongs to a show (R16, R17, R43, R138, R154): O28. -/

namespace Sys2Proof.Machine

/-! ### Finding records (R146) -/

theorem findSale_some {s : State} (canonical : Canonical s) {serial : Nat} {x : Sale} (found : findSale s serial = some x) :
    serial ≠ 0 ∧ x.serial = serial ∧ ∃ e ∈ s.salesUnit.sales, e.2 = x := by
  simp only [findSale, saleplace] at found
  split at found
  · cases found
  · next positive =>
    obtain ⟨p, place, rfl⟩ := Option.map_eq_some_iff.mp found
    obtain ⟨e, first, rfl⟩ := Option.map_eq_some_iff.mp place
    have member := List.mem_of_find?_eq_some first
    have same : saleAt s e.1 = e.2 := ((sparse_mem_iff _ _ canonical.sales e.1 e.2).mp member).1
    rw [same]
    exact ⟨positive, by simpa using List.find?_some first, e, member, rfl⟩

theorem findSale_eq_none_iff {s : State} {serial : Nat} :
    findSale s serial = none ↔ serial = 0 ∨ ∀ e ∈ s.salesUnit.sales, e.2.serial ≠ serial := by
  simp only [findSale, saleplace, Option.map_eq_none_iff]
  split
  · next zero => simp [zero]
  · next positive => simp [positive]

/-- Whether a refund is of a record of a show. -/
theorem refundHere_iff {s : State} {sh : Nat} {f : Refund} :
    (findSale s f.serial).any (fun x => x.sh == sh) = true ↔ ∃ x, findSale s f.serial = some x ∧ x.sh = sh := by
  cases findSale s f.serial <;> simp

theorem refundOfShow_some {s : State} {sh serial : Nat} (refunding : refundOfShow s sh = some serial) :
    (∃ f ∈ s.salesUnit.refunds, f.serial = serial) ∧ ∃ x, findSale s serial = some x ∧ x.sh = sh := by
  obtain ⟨f, first, rfl⟩ := Option.map_eq_some_iff.mp refunding
  have here := List.find?_some first
  exact ⟨⟨f, List.mem_of_find?_eq_some first, rfl⟩, refundHere_iff.mp here⟩

theorem refundOfShow_eq_none_iff {s : State} {sh : Nat} :
    refundOfShow s sh = none ↔ ∀ f ∈ s.salesUnit.refunds, ∀ x, findSale s f.serial = some x → x.sh ≠ sh := by
  simp only [refundOfShow, Option.map_eq_none_iff, List.find?_eq_none, refundHere_iff, not_exists, not_and, ne_eq]

theorem salesOfShow_length (s : State) (sh : Nat) :
    (salesOfShow s sh).length = s.salesUnit.sales.countP (fun e => e.2.serial != 0 && e.2.sh == sh) :=
  (List.countP_eq_length_filter ..).symm

theorem vouchersOfShow_length (s : State) (sh : Nat) :
    (vouchersOfShow s sh).length = s.voucherUnit.entries.countP (fun e => e.2.state != none && e.2.sh == sh) := by
  rw [vouchersOfShow, List.length_map, List.countP_eq_length_filter]
  refine congrArg List.length (List.filter_congr fun e _ => ?_)
  cases e.2.state <;> rfl

theorem saleQueued_iff {s : State} {serial : Nat} : saleQueued s serial = true ↔
    ∃ q ∈ s.print.printers, (∃ x ∈ q.queue, x.serial = serial) ∨ ∃ c, q.check = some c ∧ c.serial = serial := by
  simp only [saleQueued, List.any_eq_true, Bool.or_eq_true, beq_iff_eq]
  refine exists_congr fun q => and_congr_right fun _ => or_congr_right ?_
  cases q.check <;> simp

theorem showQueued_iff {s : State} {sh : Nat} : showQueued s sh = true ↔
    ∃ e ∈ s.salesUnit.sales, e.2.serial ≠ 0 ∧ e.2.sh = sh ∧
      ∃ q ∈ s.print.printers, (∃ x ∈ q.queue, x.serial = e.2.serial) ∨ ∃ c, q.check = some c ∧ c.serial = e.2.serial := by
  simp only [showQueued, List.any_eq_true, salesOfShow, List.mem_filter, Bool.and_eq_true, bne_iff_ne, beq_iff_eq, saleQueued_iff,
    and_assoc]

theorem contextNames_iff {s : State} {sh : Nat} : contextNames s sh = true ↔ ∃ c ∈ s.basketUnit.baskets, c.state ≠ .free ∧ c.sh = sh := by
  simp [contextNames]

theorem mem_vouchersOfShow {s : State} (canonical : Canonical s) {sh i : Nat} :
    i ∈ vouchersOfShow s sh ↔ (voucherAt s i).state ≠ none ∧ (voucherAt s i).sh = sh := by
  simp only [vouchersOfShow, List.mem_map, List.mem_filter, Bool.and_eq_true, beq_iff_eq, ← Option.ne_none_iff_isSome]
  constructor
  · rintro ⟨⟨j, v⟩, ⟨member, used, here⟩, rfl⟩
    rw [((sparse_mem_iff _ _ canonical.entries j v).mp member).1.symm] at used here
    exact ⟨used, here⟩
  · rintro ⟨used, here⟩
    refine ⟨(i, voucherAt s i), ⟨(sparse_mem_iff _ _ canonical.entries _ _).mpr ⟨rfl, fun empty => used ?_⟩, used, here⟩, rfl⟩
    rw [empty]; rfl

/-! ### DROP_SHOW (R16) -/

theorem exec_dropShow {r : Request} {s : State} (handed : Handed .dropShow r s) :
    exec .dropShow s = .next (dropShowOp r (taken r s)) := by
  show Host.Outcome.next (withRequest .dropShow (fun r => dropShowOp r) s) = _
  rw [withRequest_handed handed]

theorem beingDropped_iff {s : State} {sh : Nat} :
    s.showUnit.removals.any (fun x => x.sh == sh) = true ↔ ∃ x ∈ s.showUnit.removals, x.sh = sh := by simp

/-- R16: the refusals of DROP_SHOW, in order. -/
theorem dropShowRefusal_some {s : State} {sh : Nat} {code : ResultCode}
    (why : 48 ≤ sh ∧ code = .badParameter ∨ sh < 48 ∧ (showAt s sh).state = .empty ∧ code = .noShow ∨
       sh < 48 ∧ (showAt s sh).state ≠ .empty ∧ ((showAt s sh).state ≠ .ended ∨ ∃ x ∈ s.showUnit.removals, x.sh = sh) ∧
        code = .wrongState ∨
       sh < 48 ∧ (showAt s sh).state = .ended ∧ (¬ ∃ x ∈ s.showUnit.removals, x.sh = sh) ∧
        (∃ c ∈ s.basketUnit.baskets, c.state ≠ .free ∧ c.sh = sh) ∧ code = .basketBusy) :
    dropShowRefusal s sh = some code := by
  rw [← beingDropped_iff, ← contextNames_iff] at why
  rw [dropShowRefusal]
  rcases why with ⟨beyond, rfl⟩ | ⟨inside, empty, rfl⟩ | ⟨inside, used, other, rfl⟩ | ⟨inside, ended, fresh, named, rfl⟩
  · rw [if_pos beyond]
  · rw [if_neg (Nat.not_le.mpr inside), if_pos empty]
  · rw [if_neg (Nat.not_le.mpr inside), if_neg used]
    by_cases ended : (showAt s sh).state ≠ .ended
    · rw [if_pos ended]
    · rw [if_neg ended, if_pos (other.resolve_left ended)]
  · have used : (showAt s sh).state ≠ .empty := by rw [ended]; nofun
    rw [if_neg (Nat.not_le.mpr inside), if_neg used, if_neg (not_not_intro ended), if_neg fresh, if_pos named]

theorem dropShowRefusal_none {s : State} {sh : Nat} (inside : sh < 48) (ended : (showAt s sh).state = .ended)
    (fresh : ∀ x ∈ s.showUnit.removals, x.sh ≠ sh) (unnamed : ∀ c ∈ s.basketUnit.baskets, c.state = .free ∨ c.sh ≠ sh) :
    dropShowRefusal s sh = none := by
  have used : (showAt s sh).state ≠ .empty := by rw [ended]; nofun
  have fresh : ¬ s.showUnit.removals.any (fun x => x.sh == sh) = true := fun any => by
    obtain ⟨x, member, same⟩ := beingDropped_iff.mp any
    exact fresh x member same
  have unnamed : ¬ contextNames s sh = true := fun named => by
    obtain ⟨c, member, taken, same⟩ := contextNames_iff.mp named
    exact (unnamed c member).elim taken (· same)
  rw [dropShowRefusal, if_neg (Nat.not_le.mpr inside), if_neg used, if_neg (not_not_intro ended), if_neg fresh, if_neg unnamed]

theorem stepShow_at {s : State} {sh : Nat} (inside : sh < s.showUnit.shows.length) :
    showAt (stepShow sh s) sh = { (showAt s sh) with changes := stepCount (showAt s sh).changes } ∧
      ∀ n, n ≠ sh → showAt (stepShow sh s) n = showAt s n :=
  ⟨showAt_setShow_self s sh _ inside, fun n apart => showAt_setShow_other s sh n _ apart.symm⟩

/-! ### The steps of a removal (R17) -/

section
variable {s : State} {sh : Nat} {x : Removal} (member : x ∈ s.showUnit.removals) (here : x.sh = sh)
  (only : ∀ y ∈ s.showUnit.removals, y.sh = sh → y = x)
include member here only

theorem removalAt_of_only : removalAt s sh x.step = some x := by
  have test : (fun y : Removal => y.sh == sh && y.step == x.step) x = true := by simp [here]
  obtain ⟨y, first⟩ := Option.isSome_iff_exists.mp ((List.find?_isSome (p := fun y => y.sh == sh && y.step == x.step)).mpr ⟨x, member, test⟩)
  have hy := List.find?_some first
  rw [Bool.and_eq_true, beq_iff_eq] at hy
  rw [removalAt, first, only y (List.mem_of_find?_eq_some first) hy.1]

end

theorem mem_updRemoval {s : State} {x : Removal} (member : x ∈ s.showUnit.removals) (z : Removal) (t : State)
    (removals : t.showUnit.removals = s.showUnit.removals) : z ∈ (updRemoval x (some z) t).showUnit.removals := by
  simp only [updRemoval, removals]
  exact List.mem_map.mpr ⟨x, member, if_pos rfl⟩

theorem removeSales_spec {s : State} (canonical : Canonical s) (sh : Nat) :
    let t := (removeSales sh s).1
    (∀ p, saleAt t p = if (saleAt s p).serial ≠ 0 ∧ (saleAt s p).sh = sh then Sale.empty else saleAt s p) ∧
      t.salesUnit.inUse = s.salesUnit.inUse - (salesOfShow s sh).length ∧
      t = { s with salesUnit := { s.salesUnit with
        sales := t.salesUnit.sales, inUse := t.salesUnit.inUse, changes := t.salesUnit.changes } } := by
  refine ⟨fun p => ?_, rfl, rfl⟩
  refine (sparseGet_filter Sale.empty s.salesUnit.sales canonical.sales _ p).trans ?_
  by_cases mine : (saleAt s p).serial ≠ 0 ∧ (saleAt s p).sh = sh
  · rw [if_pos mine, if_neg]
    have := mine
    simp only [saleAt] at this
    simp [this.1, this.2]
  · rw [if_neg mine, if_pos]
    · rfl
    · have := mine
      simp only [saleAt] at this
      simpa [imp_iff_not_or] using this

theorem clearRange_spec {s : State} (canonical : Canonical s) {sh : Nat} (inside : sh < s.showUnit.shows.length) :
    let t := clearRange sh s
    (∀ c, seatAt t c = if (showAt s sh).seatBase ≤ c ∧ c < (showAt s sh).seatBase + (showAt s sh).seatCount then Seat.spare
      else seatAt s c) ∧
      showAt t sh = { (showAt s sh) with free := 0, held := 0, sold := 0, blocked := 0 } ∧
      (∀ n, n ≠ sh → showAt t n = showAt s n) ∧ t = { s with seats := t.seats, showUnit := { s.showUnit with shows := t.showUnit.shows } } := by
  refine ⟨fun c => ?_, ?_, fun n apart => ?_, rfl⟩
  · refine (sparseGet_filter Seat.spare s.seats canonical.seats _ c).trans ?_
    by_cases mine : (showAt s sh).seatBase ≤ c ∧ c < (showAt s sh).seatBase + (showAt s sh).seatCount
    · rw [if_pos mine, if_neg (by simp [mine.1, mine.2])]
    · rw [if_neg mine, if_pos (by simpa [imp_iff_not_or] using mine)]
      rfl
  · exact updAt_getD_self _ _ _ _ inside
  · exact updAt_getD_other _ _ _ _ _ apart.symm

/-- Settles O28: each step of the removal is one event on what belongs to the show. -/
theorem dropShowRemovesAllThatBelongsToTheShow : Obligations.DropShowRemovesAllThatBelongsToTheShow := by
  unfold Obligations.DropShowRemovesAllThatBelongsToTheShow
  refine ⟨fun s r handed code why => ?_, fun s canonical serial => ⟨fun x => findSale_some canonical, findSale_eq_none_iff⟩,
    fun s sh => ⟨fun serial => refundOfShow_some, refundOfShow_eq_none_iff, salesOfShow_length s sh, vouchersOfShow_length s sh⟩,
    fun s sh => showQueued_iff, ?_, ?_, ?_⟩
  · rw [exec_dropShow handed, dropShowOp]
    simp only [show dropShowRefusal (taken r s) (param1 r 0) = some code from dropShowRefusal_some why]
    rfl
  · intro s sh x found all
    have inside : sh.val < s.showUnit.shows.length := all.symm ▸ sh.isLt
    have at' : removalAt s sh .sales = some x := found
    show (∀ serial, _ → Host.Outcome.next (salesRemovalOp sh s) = _) ∧
      (_ → _ → ∃ u, Host.Outcome.next (salesRemovalOp sh s) = _ ∧ _)
    refine ⟨fun serial refunding => ?_, fun free queued => ?_⟩
    · simp only [salesRemovalOp, at', refunding]
      rfl
    · simp only [salesRemovalOp, free, salesRemovalNow, at', queued, if_true]
      obtain ⟨self, other⟩ := stepShow_at (s := updRemoval x none s) (sh := sh) inside
      exact ⟨_, rfl, self, other, rfl, rfl⟩
  · intro s r handed all sh inside ended fresh unnamed
    rw [exec_dropShow handed, dropShowOp]
    simp only [show dropShowRefusal (taken r s) (param1 r 0) = none from dropShowRefusal_none inside ended fresh unnamed]
    obtain ⟨self, other⟩ := stepShow_at (s := taken r s) (sh := param1 r 0) (all ▸ inside)
    exact ⟨_, rfl, self, other, rfl, rfl⟩
  · intro s sh x canonical all member here only once
    have inside : sh.val < s.showUnit.shows.length := all.symm ▸ sh.isLt
    have at' := removalAt_of_only member here only
    refine ⟨fun step free quiet => ?_, fun step => ?_, fun step => ?_, fun step => ?_⟩ <;> rw [step] at at'
    · refine ⟨_, rfl, ?_⟩
      obtain ⟨sales, inUse, frame⟩ := removeSales_spec canonical sh
      simp only [salesRemovalOp, free, salesRemovalNow, at', quiet, Bool.false_eq_true, if_false]
      exact ⟨sales, inUse, mem_updRemoval member _ _ rfl, rfl⟩
    · refine ⟨_, rfl, ?_⟩
      obtain ⟨-, ⟨gone, others⟩, frame⟩ := removeVouchers_spec (vouchersOfShow s sh) s canonical.entries
      simp only [voucherShowRemovalOp, at']
      refine ⟨fun i => ⟨fun mine => gone i ((mem_vouchersOfShow canonical).mpr mine),
        fun foreign => others i (fun listed => foreign ((mem_vouchersOfShow canonical).mp listed))⟩,
        mem_updRemoval member _ _ (by rw [frame]), ?_⟩
      rw [updRemoval, frame]
    · refine ⟨_, rfl, ?_⟩
      obtain ⟨cells, self, other, frame⟩ := clearRange_spec canonical inside
      simp only [seatRangeClearOp, at']
      exact ⟨cells, self, other, mem_updRemoval member _ _ (by rw [frame]), rfl⟩
    · show ∃ u, Host.Outcome.next (dropCompleteOp sh s) = _ ∧ _
      simp only [dropCompleteOp, at']
      refine ⟨_, rfl, updAt_getD_self _ _ _ _ inside, fun n apart => updAt_getD_other _ _ _ _ _ apart.symm, ?_, rfl⟩
      exact fun again => (List.Nodup.mem_erase_iff once).mp again |>.1 rfl

end Sys2Proof.Machine
end

section
/-! How a basket leaves its kiosk and ends without a sale (R48, R51, R52, R55): O43. -/

namespace Sys2Proof.Machine

/-! ### The kiosk's current basket (R48, R163) -/

theorem refreshKiosk_unit (k : Nat) (s : State) :
    (∀ j, kioskLike (kioskAt (refreshKiosk k s) j) (kioskAt s j)) ∧
      refreshKiosk k s = { s with station := { s.station with kiosks := (refreshKiosk k s).station.kiosks } } :=
  ⟨fun j => refreshKiosk_like k j s, rfl⟩

/-- Only the kiosk cells move when one is derived anew. -/
theorem stationLike_refreshKiosk (k : Nat) (s : State) : stationLike (refreshKiosk k s) s :=
  ⟨fun j => refreshKiosk_like k j s, rfl⟩

/-- The kiosk's reference, as a clearing for a basket leaves it. -/
def clearedCurrent (b k j : Nat) (c : Kiosk) : Kiosk :=
  { c with current := if j = k ∧ c.current = some b then none else c.current }

theorem clearedCurrent_of_ne {b k j : Nat} {c : Kiosk} (other : ¬ (j = k ∧ c.current = some b)) : clearedCurrent b k j c = c := by
  rw [clearedCurrent, if_neg other]

/-- An update of the kiosk's reference. -/
theorem updKiosk_current (k j : Nat) (cur : Option Nat) (s : State) (inside : k < s.station.kiosks.length) :
    kioskLike (kioskAt (updKiosk k (fun x => { x with current := cur }) s) j)
      { (kioskAt s j) with current := if j = k then cur else (kioskAt s j).current } := by
  by_cases here : j = k
  · subst here
    rw [kioskAt_updKiosk_self s j _ inside, if_pos rfl]
    exact ⟨rfl, rfl, rfl⟩
  · rw [kioskAt_updKiosk_other s k j _ (Ne.symm here), if_neg here]
    exact kioskLike_refl _

theorem clearCurrent_like (b k j : Nat) (s : State) :
    kioskLike (kioskAt (clearCurrent b k s) j) (clearedCurrent b k j (kioskAt s j)) := by
  rw [clearCurrent]
  refine kioskLike_trans (refreshKiosk_like k j _) ?_
  split
  · next named =>
    have inside : k < s.station.kiosks.length := by
      by_contra beyond
      rw [kioskAt, List.getD_eq_default _ _ (Nat.not_lt.mp beyond)] at named
      cases named
    refine kioskLike_trans (updKiosk_current k j none s inside) ?_
    by_cases here : j = k
    · subst here
      rw [if_pos rfl, clearedCurrent, if_pos ⟨rfl, named⟩]
      exact kioskLike_refl _
    · rw [if_neg here, clearedCurrent_of_ne (fun both => here both.1)]
      exact kioskLike_refl _
  · next free =>
    rw [clearedCurrent_of_ne (fun both => free (by rw [← both.1]; exact both.2))]
    exact kioskLike_refl _

theorem clearCurrent_frame (b k : Nat) (s : State) :
    clearCurrent b k s = { s with station := { s.station with kiosks := (clearCurrent b k s).station.kiosks } } := by
  rw [clearCurrent]
  split <;> rfl

/-! ### Ends without a sale (R52, R55) -/

theorem releaseCells_spec {s : State} {sh : Nat} (list : List Nat) (canonical : Canonical s) (inside : sh < s.showUnit.shows.length) :
    let t := releaseCells sh list s
    CellsMoved sh list .free none s t ∧
      showAt t sh = { (showAt s sh) with
        held := (showAt s sh).held - list.length, free := (showAt s sh).free + list.length, changes := (showAt t sh).changes } ∧
      (∀ n, n ≠ sh → showAt t n = showAt s n) ∧
      t = { s with seats := t.seats, showUnit := { s.showUnit with shows := t.showUnit.shows } } := by
  obtain ⟨cells, self, others, frame⟩ := seatEvent_spec sh list .free none
    (fun w => { w with held := w.held - list.length, free := w.free + list.length }) s canonical.seats inside
  refine ⟨cells, ?_, others, frame⟩
  rw [releaseCells, self]
  split
  · next empty => rw [empty]; rfl
  · rfl

/-- A basket that has given up what it held. -/
def emptied (dest : BasketState) (x : Basket) : Basket := { x with seats := [], vouchers := [], deadline := none, state := dest }

theorem endBasket_eq (b : Nat) (dest : BasketState) (s : State) : endBasket b dest s =
    clearCurrent b (basketAt s b).kiosk (updBasket b (emptied dest)
      (removeVouchers (basketAt s b).vouchers (releaseCells (basketAt s b).sh (basketAt s b).seats s))) := rfl

theorem endBasket_baskets (b : Nat) (dest : BasketState) (s : State) : (endBasket b dest s).basketUnit =
    (updBasket b (emptied dest) s).basketUnit := by
  rw [endBasket_eq, (clearCurrent_frame ..)]
  simp only [updBasket, setBasket, removeVouchers_keeps, releaseCells_keeps]

theorem expireBasket_baskets (b : Nat) (s : State) : (expireBasket b s).basketUnit =
    (updBasket b (emptied .expired) s).basketUnit := by
  rw [expireBasket, (raiseFactor_keeps ..).2.2.2.2.2.2.2.1, endBasket_baskets]

theorem basketAt_of_baskets {s t : State} (same : t.basketUnit.baskets = s.basketUnit.baskets) (b : Nat) : basketAt t b = basketAt s b := by
  rw [basketAt, same]; rfl

/-- R52, R55: a basket ended. -/
theorem ended_endBasket {s : State} {b : Nat} (dest : BasketState) (canonical : Canonical s) (inside : b < s.basketUnit.baskets.length)
    (show' : (basketAt s b).sh < s.showUnit.shows.length) : Ended b dest s (endBasket b dest s) := by
  obtain ⟨cells, self, others, released⟩ := releaseCells_spec (basketAt s b).seats canonical show'
  rw [endBasket_eq]
  generalize releaseCells (basketAt s b).sh (basketAt s b).seats s = u at cells self others released ⊢
  have entries : u.voucherUnit = s.voucherUnit := by rw [released]
  obtain ⟨-, ⟨gone, kept⟩, removed⟩ := removeVouchers_spec (basketAt s b).vouchers u (by rw [entries]; exact canonical.entries)
  generalize removeVouchers (basketAt s b).vouchers u = v at gone kept removed ⊢
  have baskets : v.basketUnit = s.basketUnit := by rw [removed, released]
  have at' : ∀ n, basketAt v n = basketAt s n := fun n => basketAt_of_baskets (by rw [baskets]) n
  have self' := basketAt_updBasket_self v b (emptied dest)
    (by rw [baskets]; exact inside)
  have others' := fun n => basketAt_updBasket_other v b n (emptied dest)
  have kiosks := fun j => clearCurrent_like b (basketAt s b).kiosk j
    (updBasket b (emptied dest) v)
  have cleared := clearCurrent_frame b (basketAt s b).kiosk
    (updBasket b (emptied dest) v)
  have stations : (updBasket b (emptied dest) v).station =
    s.station := by rw [updBasket_station, removed, released]
  generalize clearCurrent b (basketAt s b).kiosk _ = t at kiosks cleared ⊢
  have seats : t.seats = u.seats := by rw [cleared, updBasket_seats, removed]
  have unit : t.showUnit = u.showUnit := by rw [cleared, updBasket_showUnit, removed]
  have vouchers : ∀ i, voucherAt t i = voucherAt v i := fun i => by rw [cleared]; rfl
  have before : ∀ i, voucherAt u i = voucherAt s i := fun i => by rw [voucherAt, entries]; rfl
  have kioskBefore : ∀ j, kioskAt (updBasket b (emptied dest) v) j =
    kioskAt s j := fun j => by rw [kioskAt, stations]; rfl
  have shows : ∀ n, showAt t n = showAt u n := fun n => by rw [showAt, unit]; rfl
  have basket : ∀ n, basketAt t n = basketAt (updBasket b (emptied dest) v) n :=
    fun n => by rw [cleared]; rfl
  refine ⟨⟨fun i hi => ?_, fun c hc => ?_⟩, ⟨fun i hi => (vouchers i).trans (gone i hi), fun i hi => ?_⟩, ?_,
    fun n apart => (shows n).trans (others n apart), ?_, fun n apart => ?_, fun j => ?_, ?_⟩
  · rw [seatAt, seats]; exact cells.1 i hi
  · rw [seatAt, seats]; exact cells.2 c hc
  · rw [vouchers, kept i hi, before]
  · rw [shows]; exact self
  · rw [basket, self', at']; rfl
  · rw [basket, others' n apart.symm, at']
  · have like := kiosks j
    rw [kioskBefore] at like
    exact like
  · rw [cleared, updBasket, setBasket, removed, released]

/-! ### ABANDON, the hold deadline, and a show's leaving ON_SALE -/

theorem busy_basket_iff {s : State} {b : Nat} : busy s (.basket b) = true ↔ (basketAt s b).call ≠ none :=
  Option.isSome_iff_ne_none

theorem basketAt_beyond {s : State} {b : Nat} (beyond : s.basketUnit.baskets.length ≤ b) : basketAt s b = .free :=
  List.getD_eq_default _ _ beyond

theorem whenFree_noCall {s : State} {b : Nat} (free : (basketAt s b).call = none) (e : WaitEvent) (f : State → State) :
    whenFree (.basket b) e f s = f s :=
  whenFree_free (Bool.not_eq_true _ |>.mp fun busy' => busy_basket_iff.mp busy' free) _ _

theorem whenFree_call {s : State} {b : Nat} (open' : (basketAt s b).call ≠ none) (e : WaitEvent) (f : State → State) :
    whenFree (.basket b) e f s = { s with waiting := s.waiting ++ [(.basket b, e)] } := whenFree_busy (busy_basket_iff.mpr open') _ _

theorem canonical_taken {s : State} (canonical : Canonical s) (r : Request) : Canonical (taken r s) :=
  ⟨canonical.mem, canonical.seats, canonical.entries, canonical.heads, canonical.sales, canonical.stats⟩

/-- A request for a basket without a call open is taken at once. -/
theorem basketRequest_free {r : Request} {f : State → State} {s : State} (free : (basketAt s (param1 r 0)).call = none) :
    basketRequest r f (taken r s) = f (taken r s) :=
  whenFree_noCall (s := taken r s) free _ _

/-- A request for a basket with a call open waits behind the events that wait already. -/
theorem basketRequest_busy {r : Request} {f : State → State} {s : State} (open' : (basketAt s (param1 r 0)).call ≠ none) :
    basketRequest r f (taken r s) = { taken r s with waiting := s.waiting ++ [(.basket (param1 r 0), .request r)] } :=
  whenFree_call (s := taken r s) open' _ _

theorem exec_abandon {r : Request} {s : State} (handed : Handed .abandon r s) :
    exec .abandon s = .next (basketRequest r (abandonNow r) (taken r s)) := by
  show Host.Outcome.next (withRequest .abandon (fun r => basketRequest r (abandonNow r)) s) = _
  rw [withRequest_handed handed]

theorem releaseCells_leftSale (sh : Nat) (list : List Nat) (s : State) :
    (releaseCells sh list s).showUnit.leftSale = s.showUnit.leftSale := by
  cases list with
  | nil => rfl
  | cons i rest => simp [releaseCells, seatEvent, cellEvent]

theorem mem_sellingInto {s : State} {sh b : Nat} :
    b ∈ sellingInto s sh ↔ b < 24 ∧ (basketAt s b).state = .selecting ∧ (basketAt s b).sh = sh := by
  simp [sellingInto]

theorem sellingInto_single {s : State} {sh b : Nat} (inside : b < 24) (selling : (basketAt s b).state = .selecting)
    (here : (basketAt s b).sh = sh) (only : ∀ n < 24, (basketAt s n).state = .selecting → (basketAt s n).sh = sh → n = b) :
    sellingInto s sh = [b] := by
  have once : (sellingInto s sh).Nodup := List.nodup_range.filter _
  have all : ∀ n ∈ sellingInto s sh, n = b := fun n hn =>
    let ⟨low, state, same⟩ := mem_sellingInto.mp hn
    only n low state same
  have member : b ∈ sellingInto s sh := mem_sellingInto.mpr ⟨inside, selling, here⟩
  exact List.perm_singleton.mp ((List.perm_ext_iff_of_nodup once (List.nodup_singleton b)).mpr fun n =>
    ⟨fun hn => List.mem_singleton.mpr (all n hn), fun hn => List.mem_singleton.mp hn ▸ member⟩)

/-- What a show's leaving ON_SALE does at one basket. -/
theorem leftSale_basket (b n : Nat) (s : State) (inside : b < s.basketUnit.baskets.length)
    (selling : (basketAt s b).state = .selecting) :
    let t := whenFree (.basket b) (.leftSale b) (leftSaleNow b) s
    t.basketUnit.baskets.length = s.basketUnit.baskets.length ∧ t.showUnit.leftSale = s.showUnit.leftSale ∧
      basketAt t n = if n = b ∧ (basketAt s b).call = none then
        { emptied .expired (basketAt s b) with changes := bump (basketAt s b).changes } else basketAt s n := by
  by_cases free : (basketAt s b).call = none
  · rw [whenFree_noCall free, leftSaleNow, if_pos selling]
    refine ⟨?_, ?_, ?_⟩
    · rw [expireBasket_baskets]; exact updAt_length ..
    · simp only [expireBasket, endBasket_eq, raiseFactor_keeps, clearCurrent_keeps, updBasket_showUnit, removeVouchers_keeps]
      exact releaseCells_leftSale ..
    · rw [basketAt, expireBasket_baskets]
      by_cases here : n = b
      · rw [if_pos ⟨here, free⟩, here]
        exact basketAt_updBasket_self s b _ inside
      · rw [if_neg (fun both => here both.1)]
        exact basketAt_updBasket_other s b n _ (Ne.symm here)
  · rw [whenFree_call free, if_neg (fun both => free both.2)]
    exact ⟨rfl, rfl, rfl⟩

/-- What a show's leaving ON_SALE does at the baskets that sell into it, one after the other. -/
theorem leftSale_baskets {l : List Nat} (once : l.Nodup) (s : State)
    (each : ∀ b ∈ l, b < s.basketUnit.baskets.length ∧ (basketAt s b).state = .selecting) :
    let t := forEach l (fun b => whenFree (.basket b) (.leftSale b) (leftSaleNow b)) s
    t.showUnit.leftSale = s.showUnit.leftSale ∧
      ∀ n, basketAt t n = if n ∈ l ∧ (basketAt s n).call = none then
        { emptied .expired (basketAt s n) with changes := bump (basketAt s n).changes } else basketAt s n := by
  induction l generalizing s with
  | nil => exact ⟨rfl, fun n => rfl⟩
  | cons b rest ih =>
    obtain ⟨fresh, once⟩ := List.nodup_cons.mp once
    obtain ⟨inside, selling⟩ := each b List.mem_cons_self
    have one := fun n => leftSale_basket b n s inside selling
    obtain ⟨length, left, -⟩ := one b
    have at' := fun n => (one n).2.2
    have apart : ∀ n ∈ rest, basketAt (whenFree (.basket b) (.leftSale b) (leftSaleNow b) s) n = basketAt s n := fun n hn => by
      rw [at', if_neg]
      rintro ⟨rfl, -⟩
      exact fresh hn
    obtain ⟨left', at''⟩ := ih once (whenFree (.basket b) (.leftSale b) (leftSaleNow b) s) fun n hn => by
      rw [length, apart n hn]
      exact each n (List.mem_cons_of_mem _ hn)
    refine ⟨left'.trans left, fun n => ?_⟩
    rw [forEach_cons, at'']
    by_cases here : n ∈ rest
    · simp [apart n here, here]
    · rw [if_neg (fun both => here both.1), at']
      by_cases same : n = b
      · subst same; simp
      · rw [if_neg (fun both => same both.1), if_neg (fun both => (List.mem_cons.mp both.1).elim same here)]

/-- Settles O43: each end is the release and removal of what the basket held. -/
theorem basketsEndWithoutASale : Obligations.BasketsEndWithoutASale := by
  unfold Obligations.BasketsEndWithoutASale
  refine ⟨?_, ?_, ?_⟩
  · intro s r handed canonical all shows
    rw [exec_abandon handed]
    refine ⟨fun open' => by rw [basketRequest_busy open'], fun inside show' free selling => ?_, fun inside free busy' => ?_,
      fun inside free other => ?_, fun beyond => ?_⟩
    · rw [basketRequest_free free, abandonNow, if_neg (Nat.not_le.mpr inside), if_pos (show (basketAt (taken r s) _).state = _ from selling)]
      exact ⟨_, rfl, ended_endBasket .abandoned (canonical_taken canonical r) (all ▸ inside) (shows ▸ show')⟩
    · have not : (basketAt s (param1 r 0)).state ≠ .selecting := fun selling => by simp [selling] at busy'
      have busy'' : abandonBusy (basketAt s (param1 r 0)).state = true := by
        rcases busy' with state | state | state | state <;> rw [state] <;> rfl
      rw [basketRequest_free free, abandonNow, if_neg (Nat.not_le.mpr inside),
        if_neg (show (basketAt (taken r s) _).state ≠ _ from not), if_pos (show abandonBusy (basketAt (taken r s) _).state = _ from busy'')]
      rfl
    · have not : (basketAt s (param1 r 0)).state ≠ .selecting := fun selling => by simp [selling] at other
      have idle : ¬ abandonBusy (basketAt s (param1 r 0)).state = true := by
        rcases other with state | state | state | state <;> rw [state] <;> nofun
      rw [basketRequest_free free, abandonNow, if_neg (Nat.not_le.mpr inside),
        if_neg (show (basketAt (taken r s) _).state ≠ _ from not), if_neg (show ¬ abandonBusy (basketAt (taken r s) _).state = _ from idle)]
      rfl
    · rw [basketRequest_free (by rw [basketAt_beyond (all ▸ beyond)]; rfl), abandonNow, if_pos beyond]
      rfl
  · intro s b canonical all shows c show' selling
    have ended : ∀ v : State, v.basketUnit = s.basketUnit → Canonical v → v.showUnit.shows = s.showUnit.shows →
        Ended b .expired v (endBasket b .expired v) := fun v baskets canonical' shows' =>
      ended_endBasket .expired canonical' (by rw [baskets, all]; exact b.isLt)
        (by rw [basketAt_of_baskets (congrArg _ baskets), shows', shows]; exact show')
    have due : ∀ d : Deadline, c.deadline = some d → d.value ≤ s.showUnit.runTime → d.setAt < s.showUnit.runTime → holdDue s b = true := by
      intro d at' value before
      rw [holdDue, show (basketAt s b).deadline = some d from at', show (basketAt s b).state = .selecting from selling]
      exact isDue_iff.mpr ⟨value, before⟩
    refine ⟨fun d free at' value before => ⟨_, ?_, ended s rfl canonical rfl⟩, fun d open' at' value before => ?_, fun sh listed here => ?_⟩
    · show Host.Outcome.next (holdDeadlineOp b s) = _
      rw [holdDeadlineOp, if_pos (due d at' value before), whenFree_noCall free]
      rfl
    · show Host.Outcome.next (holdDeadlineOp b s) = _
      rw [holdDeadlineOp, if_pos (due d at' value before), whenFree_call open']
    · intro v only
      show (_ → ∃ u, Host.Outcome.next (showLeftSaleOp sh s) = _ ∧ _) ∧ (_ → Host.Outcome.next (showLeftSaleOp sh s) = _)
      rw [showLeftSaleOp, if_pos (List.contains_iff_mem.mpr listed), sellingInto_single b.isLt selling here only]
      have canonical' : Canonical v := ⟨canonical.mem, canonical.seats, canonical.entries, canonical.heads, canonical.sales, canonical.stats⟩
      refine ⟨fun free => ⟨_, ?_, ended v rfl canonical' rfl⟩, fun open' => ?_⟩
      · show Host.Outcome.next (whenFree (.basket b) (.leftSale b) (leftSaleNow b) v) = _
        rw [whenFree_noCall (s := v) free, leftSaleNow, if_pos (show (basketAt v b).state = _ from selling)]
        rfl
      · show Host.Outcome.next (whenFree (.basket b) (.leftSale b) (leftSaleNow b) v) = _
        rw [whenFree_call (s := v) open']
  · intro s sh listed all
    have once : (sellingInto s sh).Nodup := List.nodup_range.filter _
    obtain ⟨left, baskets⟩ := leftSale_baskets once
      { s with showUnit := { s.showUnit with leftSale := s.showUnit.leftSale.erase sh.val } } fun b hb => by
        obtain ⟨inside, selling, -⟩ := mem_sellingInto.mp hb
        exact ⟨all ▸ inside, selling⟩
    refine ⟨_, rfl, ?_⟩
    rw [showLeftSaleOp, if_pos (List.contains_iff_mem.mpr listed)]
    refine ⟨left, fun n inside => ?_⟩
    refine (baskets n).trans ?_
    simp only [mem_sellingInto, inside, true_and, and_assoc]
    rfl

end Sys2Proof.Machine
end

section
/-! OPEN_BASKET and the context supply (R48 to R50): O39. -/

namespace Sys2Proof.Machine

/-! ### The context supply (R49) -/

theorem freeContexts_eq (s : State) : freeContexts s = s.basketUnit.baskets.countP (fun c => c.state == .free) :=
  (List.countP_eq_length_filter ..).symm

theorem basketAt_eq_getElem {s : State} {b : Nat} (inside : b < s.basketUnit.baskets.length) : basketAt s b = s.basketUnit.baskets[b] :=
  List.getD_eq_getElem _ _ inside

/-- The number of FREE contexts once one context is updated. -/
theorem freeContexts_updBasket {s : State} {b : Nat} (f : Basket → Basket) (inside : b < s.basketUnit.baskets.length) :
    freeContexts (updBasket b f s) = freeContexts s - (if (basketAt s b).state = .free then 1 else 0) +
      if (f (basketAt s b)).state = .free then 1 else 0 := by
  rw [freeContexts_eq, freeContexts_eq, basketAt_eq_getElem inside, updBasket, setBasket]
  simp only [updAt, List.getElem?_eq_getElem inside, List.countP_set inside, beq_iff_eq]

theorem freeContexts_pos {s : State} {b : Nat} (inside : b < s.basketUnit.baskets.length) (free : (basketAt s b).state = .free) :
    freeContexts s ≠ 0 := by
  rw [freeContexts_eq, ← Nat.pos_iff_ne_zero, List.countP_pos_iff]
  exact ⟨basketAt s b, basketAt_eq_getElem inside ▸ List.getElem_mem _, beq_iff_eq.mpr free⟩

theorem freeContexts_eq_zero {s : State} (none : ∀ c ∈ s.basketUnit.baskets, c.state ≠ .free) : freeContexts s = 0 := by
  rw [freeContexts_eq, List.countP_eq_zero]
  exact fun c hc free => none c hc (beq_iff_eq.mp free)

theorem freeContexts_congr {s t : State} (same : t.basketUnit.baskets = s.basketUnit.baskets) : freeContexts t = freeContexts s := by
  rw [freeContexts, same]; rfl

theorem lowestContext_eq {s : State} {b : Nat} (inside : b < s.basketUnit.baskets.length) (free : (basketAt s b).state = .free)
    (lower : ∀ n < b, (basketAt s n).state ≠ .free) : lowestContext s = b := by
  rw [lowestContext, List.findIdx_eq inside]
  refine ⟨by rw [← basketAt_eq_getElem inside]; exact beq_iff_eq.mpr free, fun n low => ?_⟩
  rw [← basketAt_eq_getElem (Nat.lt_trans low inside)]
  exact beq_eq_false_iff_ne.mpr (lower n low)

/-! ### The checks (R48) -/

theorem kioskSelling_iff {s : State} {k : Nat} : kioskSelling s k = true ↔
    ∃ c ∈ s.basketUnit.baskets, c.kiosk = k ∧ (c.state = .selecting ∨ c.state = .paying ∨ c.state = .unresolved) := by
  simp [kioskSelling, or_assoc]

theorem exec_openBasket {r : Request} {s : State} (handed : Handed .openBasket r s) :
    exec .openBasket s = .next (openBasketOp r (taken r s)) := by
  show Host.Outcome.next (withRequest .openBasket (fun r => openBasketOp r) s) = _
  rw [withRequest_handed handed]

theorem exec_openBasket_refused {r : Request} {s : State} {code : ResultCode} (handed : Handed .openBasket r s)
    (refused : openRefusal s (param1 r 0) (param1 r 1) = some code) :
    exec .openBasket s = .next (completeSlot r.slot code [] (taken r s)) := by
  rw [exec_openBasket handed, openBasketOp]
  simp only [show openRefusal (taken r s) (param1 r 0) (param1 r 1) = some code from refused]
  rfl

/-- R48: the context taken. -/
def openedBasket (s : State) (k sh : Nat) (c : Basket) : Basket :=
  { Basket.free with
    state := .selecting, kiosk := k, sh := sh, openedAt := nowOf s, deadline := some (openingDeadline s sh), printer := k
    changes := c.changes }

/-- R48: the context taken and named by its kiosk, the supply not yet written. -/
def openedState (b k sh : Nat) (s : State) : State :=
  refreshKiosk k (updKiosk k (fun x => { x with current := some b }) (updBasket b (openedBasket s k sh) s))

theorem openBasketOp_passed {r : Request} {s : State} {b : Nat} (passed : openRefusal s (param1 r 0) (param1 r 1) = none)
    (lowest : lowestContext s = b) :
    openBasketOp r s = completeSlot r.slot .ok
      (leBytes 1 b ++ leBytes 6 (openingDeadline s (param1 r 1)).value ++ leBytes 6 (nowOf s))
      (writeSupply (openedState b (param1 r 0) (param1 r 1) s)) := by
  rw [← lowest]
  simp only [openBasketOp, passed]
  rfl

theorem openedState_frame (b k sh : Nat) (s : State) : openedState b k sh s = { s with
    basketUnit := (updBasket b (openedBasket s k sh) s).basketUnit
    station := { s.station with kiosks := (openedState b k sh s).station.kiosks } } := rfl

theorem openedState_kiosks {b k sh : Nat} {s : State} (inside : k < s.station.kiosks.length) (j : Nat) :
    kioskLike (kioskAt (openedState b k sh s) j) { (kioskAt s j) with current := if j = k then some b else (kioskAt s j).current } :=
  kioskLike_trans (refreshKiosk_like k j _) (updKiosk_current k j (some b) (updBasket b (openedBasket s k sh) s) inside)

/-- R48, R49: the context, the kiosk's reference and the supply once a context is taken. -/
theorem openedSupply {b k sh : Nat} {s : State} (inside : b < s.basketUnit.baskets.length) (kiosk : k < s.station.kiosks.length)
    (free : (basketAt s b).state = .free) :
    let left := freeContexts s - 1
    let u := writeSupply (openedState b k sh s)
    basketAt u b = { openedBasket s k sh (basketAt s b) with changes := bump (basketAt s b).changes } ∧
    (∀ n, n ≠ b → basketAt u n = basketAt s n) ∧
    (∀ j, kioskLike (kioskAt u j) { (kioskAt s j) with current := if j = k then some b else (kioskAt s j).current }) ∧
    (u.station.foyer.freeCount = left ∧ u.station.foyer.low = decide (left ≤ (cfgOf s).lowWater) ∧
      u.station.foyer.factors = (if (cfgOf s).lowWater < s.station.foyer.freeCount ∧ left ≤ (cfgOf s).lowWater
        then s.station.foyer.factors ||| ffContextLow else s.station.foyer.factors) ∧
      u.station.foyer.mask = s.station.foyer.mask) ∧
    u = { s with
      basketUnit := { s.basketUnit with baskets := u.basketUnit.baskets }
      board := { s.board with attention := u.board.attention }, wire := u.wire
      station := { s.station with kiosks := u.station.kiosks, foyer := u.station.foyer } } := by
  intro left u
  have supply : freeContexts (openedState b k sh s) = left := by
    refine (freeContexts_congr (s := updBasket b (openedBasket s k sh) s) rfl).trans ?_
    rw [freeContexts_updBasket _ inside, if_pos free]
    rfl
  have count : u = setFreeCount left (openedState b k sh s) := congrArg (setFreeCount · (openedState b k sh s)) supply
  obtain ⟨foyer, like, frame⟩ := setFreeCount_spec left (openedState b k sh s)
  rw [← count] at foyer like frame
  have baskets : ∀ n, basketAt u n = basketAt (updBasket b (openedBasket s k sh) s) n := fun n => by rw [frame]; rfl
  refine ⟨(baskets b).trans (basketAt_updBasket_self s b _ inside), fun n apart => (baskets n).trans (basketAt_updBasket_other s b n _ apart.symm),
    fun j => kioskLike_trans (like j) (openedState_kiosks kiosk j), foyer, ?_⟩
  rw [frame]
  rfl

/-- Settles O39: the refusals in the order of R48, and the context, the kiosk and the supply once it passes. -/
theorem openBasketTakesTheLowestFreeContext : Obligations.OpenBasketTakesTheLowestFreeContext := by
  unfold Obligations.OpenBasketTakesTheLowestFreeContext
  refine ⟨freeContexts_eq, ?_⟩
  intro s r handed all kiosks k sh selling refused
  have refuse : ∀ code, openRefusal s k sh = some code → refused code := fun code why => exec_openBasket_refused handed why
  refine ⟨fun unset => refuse _ ?_, fun set bad => refuse _ ?_, fun set kiosk show' => ⟨fun service => refuse _ ?_,
    fun idle busy' => refuse _ ?_, fun idle free => ⟨fun empty => refuse _ ?_, fun used other => refuse _ ?_, fun onSale full => refuse _ ?_,
      fun b inside onSale isFree lower => ?_⟩⟩⟩
  · rw [openRefusal, if_pos (by simp [unset])]
  · rw [openRefusal, if_neg (by simp [set]), if_pos bad]
  · rw [openRefusal, if_neg (by simp [set]), if_neg (by omega), if_pos service]
  · rw [openRefusal, if_neg (by simp [set]), if_neg (by omega), if_neg (by simp [idle]), if_pos (kioskSelling_iff.mpr busy')]
  all_goals
    have past : openRefusal s k sh = if (showAt s sh).state = .empty then some .noShow
        else if (showAt s sh).state ≠ .onSale then some .saleClosed
        else if freeContexts s = 0 then some .noContext else none := by
      rw [openRefusal, if_neg (by simp [set]), if_neg (by omega), if_neg (by simp [idle]), if_neg (mt kioskSelling_iff.mp free)]
  · rw [past, if_pos empty]
  · rw [past, if_neg used, if_pos other]
  · rw [past, if_neg (by rw [onSale]; nofun), if_neg (not_not_intro onSale), if_pos (freeContexts_eq_zero full)]
  · have inside' : b < s.basketUnit.baskets.length := all ▸ inside
    have passed : openRefusal s k sh = none := by
      rw [past, if_neg (by rw [onSale]; nofun), if_neg (not_not_intro onSale), if_neg (freeContexts_pos inside' isFree)]
    intro d left
    rw [exec_openBasket handed, openBasketOp_passed (s := taken r s) passed (lowestContext_eq inside' isFree lower)]
    exact ⟨_, rfl, openedSupply (s := taken r s) inside' (kiosks ▸ kiosk) isFree⟩

end Sys2Proof.Machine
end

section
/-! Collecting and retiring (R65 to R68): O44. -/

namespace Sys2Proof.Machine

/-! ### Baskets closed -/

/-- A COLLECT basket that goes to CLOSED. -/
def closedBasket (uncollected : Bool) (x : Basket) : Basket :=
  { x with state := .closed, deadline := none, uncollected := uncollected }

theorem closeBasket_eq (b : Nat) (uncollected : Bool) (s : State) : closeBasket b uncollected s =
    clearCurrent b (basketAt s b).kiosk (updBasket b (closedBasket uncollected) s) := rfl

theorem closeBasket_frame (b : Nat) (uncollected : Bool) (s : State) : closeBasket b uncollected s = { s with
    basketUnit := (updBasket b (closedBasket uncollected) s).basketUnit
    station := { s.station with kiosks := (closeBasket b uncollected s).station.kiosks } } := by
  rw [closeBasket_eq, clearCurrent_frame]
  rfl

theorem basketAt_closeBasket {b : Nat} (uncollected : Bool) {s : State} (inside : b < s.basketUnit.baskets.length) (n : Nat) :
    basketAt (closeBasket b uncollected s) n =
      if n = b then { closedBasket uncollected (basketAt s b) with changes := bump (basketAt s b).changes } else basketAt s n := by
  have same : basketAt (closeBasket b uncollected s) n = basketAt (updBasket b (closedBasket uncollected) s) n := by
    rw [closeBasket_frame]; rfl
  rw [same]
  split
  · next here => rw [here, basketAt_updBasket_self s b _ inside]
  · next apart => rw [basketAt_updBasket_other s b n _ (Ne.symm apart)]

/-- The reference of a kiosk once the listed baskets are closed. -/
def closedCurrent (l : List Nat) (s : State) (j : Nat) : Option Nat :=
  if ∃ n ∈ l, (basketAt s n).kiosk = j ∧ (kioskAt s j).current = some n then none else (kioskAt s j).current

/-- R66, R67: the listed baskets closed, each leaving its kiosk. -/
theorem closeBaskets {l : List Nat} (once : l.Nodup) (uncollected : Bool) (s : State) (each : ∀ b ∈ l, b < s.basketUnit.baskets.length) :
    let t := forEach l (fun b => closeBasket b uncollected) s
    (∀ n, basketAt t n = if n ∈ l then { closedBasket uncollected (basketAt s n) with changes := bump (basketAt s n).changes }
      else basketAt s n) ∧
      (∀ j, kioskLike (kioskAt t j) { (kioskAt s j) with current := closedCurrent l s j }) ∧
      t = { s with basketUnit := { s.basketUnit with baskets := t.basketUnit.baskets }
                   station := { s.station with kiosks := t.station.kiosks } } := by
  induction l generalizing s with
  | nil => exact ⟨fun n => rfl, fun j => kioskLike_refl _, rfl⟩
  | cons b rest ih =>
    obtain ⟨fresh, once⟩ := List.nodup_cons.mp once
    have inside := each b List.mem_cons_self
    have at' := basketAt_closeBasket uncollected inside
    have length : (closeBasket b uncollected s).basketUnit.baskets.length = s.basketUnit.baskets.length := by
      rw [closeBasket_frame]; exact updAt_length ..
    obtain ⟨baskets, kiosks, frame⟩ := ih once (closeBasket b uncollected s) fun n hn => by
      rw [length]; exact each n (List.mem_cons_of_mem _ hn)
    have apart : ∀ n ∈ rest, basketAt (closeBasket b uncollected s) n = basketAt s n := fun n hn => by
      rw [at', if_neg (by rintro rfl; exact fresh hn)]
    refine ⟨fun n => ?_, fun j => kioskLike_trans (kiosks j) ?_, ?_⟩
    · rw [forEach_cons, baskets]
      by_cases here : n ∈ rest
      · rw [if_pos here, if_pos (List.mem_cons_of_mem _ here), apart n here]
      · rw [if_neg here, at']
        by_cases same : n = b
        · rw [if_pos same, if_pos (same ▸ List.mem_cons_self), same]
        · rw [if_neg same, if_neg (fun listed => (List.mem_cons.mp listed).elim same here)]
    · have like := clearCurrent_like b (basketAt s b).kiosk j (updBasket b (closedBasket uncollected) s)
      have current : (kioskAt (closeBasket b uncollected s) j).current =
          if j = (basketAt s b).kiosk ∧ (kioskAt s j).current = some b then none else (kioskAt s j).current :=
        congrArg Kiosk.current like.1
      have both : closedCurrent rest (closeBasket b uncollected s) j = closedCurrent (b :: rest) s j := by
        rw [closedCurrent, current, closedCurrent]
        by_cases named : j = (basketAt s b).kiosk ∧ (kioskAt s j).current = some b
        · rw [if_pos named, ite_self]
          exact (if_pos ⟨b, List.mem_cons_self, named.1.symm, named.2⟩).symm
        · rw [if_neg named]
          refine if_congr ⟨?_, ?_⟩ rfl rfl
          · rintro ⟨n, hn, kiosk, same⟩
            exact ⟨n, List.mem_cons_of_mem _ hn, apart n hn ▸ kiosk, same⟩
          · rintro ⟨n, hn, kiosk, same⟩
            rcases List.mem_cons.mp hn with rfl | hn
            · exact absurd ⟨kiosk.symm, same⟩ named
            · exact ⟨n, hn, (apart n hn).symm ▸ kiosk, same⟩
      rw [both]
      have replaced := kioskLike_current (closedCurrent (b :: rest) s j) like
      exact replaced
    · rw [forEach_cons, frame, closeBasket_frame]
      rfl

/-- The kiosks' references as the statements say them. -/
theorem leaves_of_closed {l : List Nat} {closed : Nat → Prop} {s t : State} (listed : ∀ n, closed n ↔ n ∈ l)
    (kiosks : ∀ j, kioskLike (kioskAt t j) { (kioskAt s j) with current := closedCurrent l s j }) :
    ∀ j, ∃ cur, kioskLike (kioskAt t j) { (kioskAt s j) with current := cur } ∧
      ((∃ n, closed n ∧ (basketAt s n).kiosk = j ∧ (kioskAt s j).current = some n) → cur = none) ∧
      ((∀ n, closed n → (basketAt s n).kiosk = j → (kioskAt s j).current ≠ some n) → cur = (kioskAt s j).current) := by
  refine fun j => ⟨closedCurrent l s j, kiosks j, ?_, fun none => ?_⟩
  · rintro ⟨n, hn, named⟩
    exact if_pos ⟨n, (listed n).mp hn, named⟩
  · refine if_neg ?_
    rintro ⟨n, hn, kiosk, named⟩
    exact none n ((listed n).mpr hn) kiosk named

theorem mem_collecting {s : State} {p b : Nat} :
    b ∈ collecting s p ↔ b < 24 ∧ (basketAt s b).state = .collect ∧ (basketAt s b).printer = p := by
  simp [collecting]

theorem isEnd_iff {st : BasketState} : isEnd st = true ↔ st = .closed ∨ st = .expired ∨ st = .abandoned := by
  simp [isEnd, or_assoc]

theorem exec_retire {r : Request} {s : State} (handed : Handed .retire r s) :
    exec .retire s = .next (basketRequest r (retireNow r) (taken r s)) := by
  show Host.Outcome.next (withRequest .retire (fun r => basketRequest r (retireNow r)) s) = _
  rw [withRequest_handed handed]

/-- R49, R68: a context given back to the supply. -/
theorem retiredSupply {b : Nat} {s : State} (inside : b < s.basketUnit.baskets.length) (used : (basketAt s b).state ≠ .free) :
    let left := freeContexts s + 1
    let u := writeSupply (updBasket b (fun c => { Basket.free with changes := c.changes }) s)
    basketAt u b = { Basket.free with changes := bump (basketAt s b).changes } ∧ (∀ n, n ≠ b → basketAt u n = basketAt s n) ∧
    u.station.foyer.freeCount = left ∧ u.station.foyer.low = decide (left ≤ (cfgOf s).lowWater) ∧
    u.station.foyer.factors = (if (cfgOf s).lowWater < s.station.foyer.freeCount ∧ left ≤ (cfgOf s).lowWater
      then s.station.foyer.factors ||| ffContextLow else s.station.foyer.factors) ∧
    (∀ j, kioskLike (kioskAt u j) (kioskAt s j)) ∧
    u = { s with
      basketUnit := { s.basketUnit with baskets := u.basketUnit.baskets }
      board := { s.board with attention := u.board.attention }, wire := u.wire
      station := { s.station with kiosks := u.station.kiosks, foyer := u.station.foyer } } := by
  intro left u
  have supply : freeContexts (updBasket b (fun c => { Basket.free with changes := c.changes }) s) = left := by
    rw [freeContexts_updBasket _ inside, if_neg used]
    rfl
  have count : u = setFreeCount left (updBasket b (fun c => { Basket.free with changes := c.changes }) s) :=
    congrArg (setFreeCount · _) supply
  obtain ⟨⟨number, low, factors, -⟩, like, frame⟩ := setFreeCount_spec left (updBasket b (fun c => { Basket.free with changes := c.changes }) s)
  rw [← count] at number low factors like frame
  have baskets : ∀ n, basketAt u n = basketAt (updBasket b (fun c => { Basket.free with changes := c.changes }) s) n :=
    fun n => by rw [frame]; rfl
  refine ⟨(baskets b).trans (basketAt_updBasket_self s b _ inside), fun n apart => (baskets n).trans (basketAt_updBasket_other s b n _ apart.symm),
    number, low, factors, like, ?_⟩
  rw [frame]
  rfl

/-- Settles O44. -/
theorem collectedBasketsCloseAndRetire : Obligations.CollectedBasketsCloseAndRetire := by
  unfold Obligations.CollectedBasketsCloseAndRetire
  intro s all kiosks now leaves
  refine ⟨fun b printing printed => ⟨_, rfl, ?_⟩, fun k chute => ⟨_, rfl, ?_⟩, fun b d collect at' value before => ?_, fun r handed => ?_⟩
  · have inside : b.val < s.basketUnit.baskets.length := by rw [all]; exact b.isLt
    rw [moveToCollectOp, if_pos ⟨printing, printed⟩]
    refine ⟨basketAt_updBasket_self s b _ inside, fun n apart => basketAt_updBasket_other s b n _ apart.symm,
      stationLike_refreshKiosk _ _, rfl⟩
  · have once : (collecting s k).Nodup := List.nodup_range.filter _
    have listed : ∀ n, (n < 24 ∧ (basketAt s n).state = .collect ∧ (basketAt s n).printer = k.val) ↔ n ∈ collecting s k :=
      fun n => mem_collecting.symm
    obtain ⟨baskets, kiosks', frame⟩ := closeBaskets once false
      { s with basketUnit := { s.basketUnit with chutes := s.basketUnit.chutes.erase k.val } } fun b hb => all ▸ (mem_collecting.mp hb).1
    rw [chuteClearedOp, if_pos (List.contains_iff_mem.mpr chute)]
    refine ⟨fun n hn => (baskets n).trans (if_pos ((listed n).mp hn)), fun n hn => (baskets n).trans (if_neg (mt (listed n).mpr hn)),
      leaves_of_closed listed kiosks', frame⟩
  · have due : dueNow (nowOf s) (basketAt s b).deadline = true := by rw [at']; exact isDue_iff.mpr ⟨value, before⟩
    obtain ⟨baskets, kiosks', frame⟩ := closeBaskets (List.nodup_singleton b.val) true s fun n hn => by
      rw [List.mem_singleton.mp hn, all]; exact b.isLt
    refine ⟨closeBasket b true s, ?_, (baskets b).trans (if_pos List.mem_cons_self), fun n apart =>
      (baskets n).trans (if_neg (fun hn => apart (List.mem_singleton.mp hn))),
      leaves_of_closed (fun n => List.mem_singleton.symm) kiosks', frame⟩
    show Host.Outcome.next (collectDeadlineOp b s) = _
    rw [collectDeadlineOp, if_pos ⟨collect, due⟩]
  · intro b c left
    rw [exec_retire handed]
    refine ⟨fun inside free ended => ?_, fun inside free closed expired abandoned => ?_, fun beyond => ?_⟩
    · have inside' : b < s.basketUnit.baskets.length := all ▸ inside
      have used : c.state ≠ .free := fun isFree => by simp [isFree] at ended
      rw [basketRequest_free free, retireNow, if_neg (Nat.not_le.mpr inside),
        if_pos (show isEnd (basketAt (taken r s) _).state = true from isEnd_iff.mpr ended)]
      exact ⟨_, rfl, retiredSupply (s := taken r s) inside' used⟩
    · have other : ¬ isEnd (basketAt (taken r s) (param1 r 0)).state = true := fun ended =>
        (isEnd_iff.mp ended).elim closed (·.elim expired abandoned)
      rw [basketRequest_free free, retireNow, if_neg (Nat.not_le.mpr inside), if_neg other]
      rfl
    · rw [basketRequest_free (by rw [basketAt_beyond (all ▸ beyond)]; rfl), retireNow, if_pos beyond]
      rfl

end Sys2Proof.Machine
end

section
/-! The sale move (R57, R64, R148) and the outcomes of payments (R60 to R63): O41 and O42. -/

namespace Sys2Proof.Machine

/-! ### The record of a sale (R146 to R148) -/

/-- R146: a serial that one place alone carries is found there. -/
theorem saleplace_eq {s : State} (canonical : sparseWf Sale.empty s.salesUnit.sales) {serial p : Nat} (positive : serial ≠ 0)
    (here : (saleAt s p).serial = serial) (only : ∀ q, q ≠ p → (saleAt s q).serial ≠ serial) : saleplace s serial = some p := by
  have member : (p, saleAt s p) ∈ s.salesUnit.sales :=
    (sparse_mem_iff _ _ canonical _ _).mpr ⟨rfl, fun empty => positive (by rw [← here, empty]; rfl)⟩
  have found : (s.salesUnit.sales.find? (fun e => e.2.serial == serial)).isSome = true :=
    List.find?_isSome.mpr ⟨_, member, beq_iff_eq.mpr here⟩
  obtain ⟨e, first⟩ := Option.isSome_iff_exists.mp found
  have at' : saleAt s e.1 = e.2 := ((sparse_mem_iff _ _ canonical e.1 e.2).mp (List.mem_of_find?_eq_some first)).1
  have place : e.1 = p := by
    by_contra apart
    exact only e.1 apart (at' ▸ by simpa using List.find?_some first)
  rw [saleplace, if_neg positive, first, ← place]
  rfl

/-- R148: the record as it stands until the sell event has been made. -/
def createdSale (s : State) (c : Basket) (m : Method) (old : Sale) : Sale :=
  { serial := s.salesUnit.nextSerial, sh := c.sh, kiosk := c.kiosk, seatCount := 0, voucherCount := c.vouchers.length
    seatSubtotal := c.quote.seatSubtotal, voucherSubtotal := c.quote.voucherSubtotal, discount := c.quote.discount
    gross := c.quote.gross, tax := c.quote.tax, byCard := m.byCard, code := m.code, tail := m.tail, refunded := false
    refundAmount := none, reprints := 0, changes := stepCount old.changes }

theorem createSale_spec {s : State} (c : Basket) (m : Method) (canonical : sparseWf Sale.empty s.salesUnit.sales) :
    let place := lowestFree 0 s.salesUnit.sales
    let t := createSale c m s
    saleAt t place = createdSale s c m (saleAt s place) ∧ (∀ p, p ≠ place → saleAt t p = saleAt s p) ∧
      sparseWf Sale.empty t.salesUnit.sales ∧
      t = { s with salesUnit := { s.salesUnit with
        sales := t.salesUnit.sales, nextSerial := s.salesUnit.nextSerial + 1, inUse := s.salesUnit.inUse + 1
        reserved := s.salesUnit.reserved - 1, changes := t.salesUnit.changes } } :=
  ⟨saleAt_setSale_self s _ _ canonical, fun p apart => saleAt_setSale_other s _ p _ canonical apart.symm, sparsePut_wf _ _ _ _ canonical, rfl⟩

theorem finishSale_spec {s : State} {serial p : Nat} (kiosk seats vouchers : Nat) (canonical : sparseWf Sale.empty s.salesUnit.sales)
    (stats : sparseWf (0 : Nat) s.stats) (found : saleplace s serial = some p) :
    let t := finishSale serial kiosk seats vouchers s
    saleAt t p = { (saleAt s p) with seatCount := seats, changes := stepCount (saleAt s p).changes } ∧
      (∀ q, q ≠ p → saleAt t q = saleAt s q) ∧
      (statAt t (24 * kiosk) = min (statAt s (24 * kiosk) + seats) 4294967295 ∧
        statAt t (24 * kiosk + 4) = min (statAt s (24 * kiosk + 4) + vouchers) 4294967295 ∧
        ∀ o, o ≠ 24 * kiosk → o ≠ 24 * kiosk + 4 → statAt t o = statAt s o) ∧
      t = { s with salesUnit := { s.salesUnit with sales := t.salesUnit.sales }, stats := t.stats } := by
  have eq : finishSale serial kiosk seats vouchers s = addStat (statKiosk kiosk 1) vouchers (addStat (statKiosk kiosk 0) seats
      (setSale p { (saleAt s p) with seatCount := seats, changes := stepCount (saleAt s p).changes } s)) := by
    simp only [finishSale, updSale, found]
  have first : statKiosk kiosk 0 = 24 * kiosk := by simp [statKiosk]
  have second : statKiosk kiosk 1 = 24 * kiosk + 4 := by simp [statKiosk]
  rw [eq, first, second]
  have stats' := sparsePut_wf (0 : Nat) s.stats (24 * kiosk) (min (statAt s (24 * kiosk) + seats) 4294967295) stats
  refine ⟨saleAt_setSale_self s _ _ canonical, fun q apart => saleAt_setSale_other s _ q _ canonical apart.symm, ⟨?_, ?_, fun o low high => ?_⟩, rfl⟩
  · rw [statAt_addStat_other _ _ _ _ (by exact stats') (by omega)]
    exact statAt_addStat_self _ _ _ stats
  · rw [statAt_addStat_self _ _ _ (by exact stats'), statAt_addStat_other _ _ _ _ (by exact stats) (by omega)]
    rfl
  · rw [statAt_addStat_other _ _ _ _ (by exact stats') high.symm, statAt_addStat_other _ _ _ _ (by exact stats) low.symm]
    rfl

/-- R57: the context once its sale has been made. -/
def soldBasket (serial : Nat) (receipts : Bool) (x : Basket) : Basket :=
  { x with serial := some serial, plan := planOf x receipts, cursor := 0, printed := 0, state := .printing, deadline := none }

theorem saleMove_eq (b : Nat) (m : Method) (s : State) : saleMove b m s =
    let c := basketAt s b
    let serial := s.salesUnit.nextSerial
    refreshKiosk c.kiosk (updBasket b (soldBasket serial (cfgOf s).receipts)
      (finishSale serial c.kiosk c.seats.length c.vouchers.length
        (activateVouchers serial c.vouchers (sellCells c.sh serial c.seats (createSale c m s))))) := rfl

/-- R57, R64, R148: a sale made of a basket. -/
theorem sold_saleMove {s : State} {b : Nat} (m : Method) (canonical : Canonical s) (inside : b < s.basketUnit.baskets.length)
    (show' : (basketAt s b).sh < s.showUnit.shows.length) (once : (basketAt s b).vouchers.Nodup) (positive : 1 ≤ s.salesUnit.nextSerial)
    (fresh : ∀ p, (saleAt s p).serial < s.salesUnit.nextSerial) : Sold b m s (saleMove b m s) := by
  obtain ⟨created, others, sales, frame1⟩ := createSale_spec (basketAt s b) m canonical.sales
  rw [saleMove_eq]
  dsimp only
  generalize createSale (basketAt s b) m s = u1 at created others sales frame1 ⊢
  have shows1 : u1.showUnit = s.showUnit := by rw [frame1]
  have seats1 : u1.seats = s.seats := by rw [frame1]
  obtain ⟨cells, self, shows, frame2⟩ := seatEvent_spec (basketAt s b).sh (basketAt s b).seats .sold (some s.salesUnit.nextSerial)
    (fun w => { w with held := w.held - (basketAt s b).seats.length, sold := w.sold + (basketAt s b).seats.length }) u1
    (by rw [seats1]; exact canonical.seats) (by rw [shows1]; exact show')
  rw [sellCells]
  generalize seatEvent (basketAt s b).sh (basketAt s b).seats .sold (some s.salesUnit.nextSerial) _ u1 = u2 at cells self shows frame2 ⊢
  have vouchers2 : u2.voucherUnit = s.voucherUnit := by rw [frame2, frame1]
  obtain ⟨-, active, frame3⟩ := activateVouchers_spec s.salesUnit.nextSerial (basketAt s b).vouchers u2
    (by rw [vouchers2]; exact canonical.entries) once
  generalize activateVouchers s.salesUnit.nextSerial (basketAt s b).vouchers u2 = u3 at active frame3 ⊢
  have sales3 : u3.salesUnit = u1.salesUnit := by rw [frame3, frame2]
  have stats3 : u3.stats = s.stats := by rw [frame3, frame2, frame1]
  have at3 : ∀ p, saleAt u3 p = saleAt u1 p := fun p => by rw [saleAt, sales3]; rfl
  have found : saleplace u3 s.salesUnit.nextSerial = some (lowestFree 0 s.salesUnit.sales) := by
    refine saleplace_eq (by rw [sales3]; exact sales) (by omega) ?_ fun q apart => ?_
    · rw [at3, created]; rfl
    · rw [at3, others q apart]
      exact (fresh q).ne
  obtain ⟨finished, others', counted, frame4⟩ := finishSale_spec (basketAt s b).kiosk (basketAt s b).seats.length
    (basketAt s b).vouchers.length (by rw [sales3]; exact sales) (by rw [stats3]; exact canonical.stats) found
  generalize finishSale s.salesUnit.nextSerial (basketAt s b).kiosk (basketAt s b).seats.length (basketAt s b).vouchers.length u3 = u4
    at finished others' counted frame4 ⊢
  have baskets : u4.basketUnit = s.basketUnit := by rw [frame4, frame3, frame2, frame1]
  have at4 : ∀ n, basketAt u4 n = basketAt s n := fun n => basketAt_of_baskets (by rw [baskets]) n
  have stations : u4.station = s.station := by rw [frame4, frame3, frame2, frame1]
  have self5 := basketAt_updBasket_self u4 b (soldBasket s.salesUnit.nextSerial (cfgOf s).receipts) (by rw [baskets]; exact inside)
  have others5 := fun n => basketAt_updBasket_other u4 b n (soldBasket s.salesUnit.nextSerial (cfgOf s).receipts)
  have like := fun j => refreshKiosk_like (basketAt s b).kiosk j (updBasket b (soldBasket s.salesUnit.nextSerial (cfgOf s).receipts) u4)
  have frame5 := refreshKiosk_frame (basketAt s b).kiosk (updBasket b (soldBasket s.salesUnit.nextSerial (cfgOf s).receipts) u4)
  have stations5 : (updBasket b (soldBasket s.salesUnit.nextSerial (cfgOf s).receipts) u4).station = s.station := stations
  generalize refreshKiosk (basketAt s b).kiosk _ = t at like frame5 ⊢
  have sale : ∀ p, saleAt t p = saleAt u4 p := fun p => by rw [frame5]; rfl
  have stat : ∀ o, statAt t o = statAt u4 o := fun o => by rw [frame5]; rfl
  have stat3 : ∀ o, statAt u3 o = statAt s o := fun o => by rw [statAt, stats3]; rfl
  have seat : ∀ c, seatAt t c = seatAt u2 c := fun c => by rw [frame5, updBasket, setBasket, frame4, frame3]; rfl
  have seat1 : ∀ c, seatAt u1 c = seatAt s c := fun c => by rw [seatAt, seats1]; rfl
  have show2 : ∀ n, showAt t n = showAt u2 n := fun n => by rw [frame5, updBasket, setBasket, frame4, frame3]; rfl
  have show1 : ∀ n, showAt u1 n = showAt s n := fun n => by rw [showAt, shows1]; rfl
  have voucher : ∀ i, voucherAt t i = voucherAt u3 i := fun i => by rw [frame5, updBasket, setBasket, frame4]; rfl
  have voucher2 : ∀ i, voucherAt u2 i = voucherAt s i := fun i => by rw [voucherAt, vouchers2]; rfl
  have basket : ∀ n, basketAt t n = basketAt (updBasket b (soldBasket s.salesUnit.nextSerial (cfgOf s).receipts) u4) n :=
    fun n => by rw [frame5]; rfl
  have kiosk : ∀ j, kioskAt (updBasket b (soldBasket s.salesUnit.nextSerial (cfgOf s).receipts) u4) j = kioskAt s j :=
    fun j => by rw [kioskAt, stations5]; rfl
  refine ⟨?_, fun p apart => ?_, ?_, ⟨fun i hi => ?_, fun c hc => ?_⟩, ?_, fun n apart => ?_, fun i => ?_,
    ⟨?_, ?_, fun o low high => ?_⟩, ?_, fun n apart => ?_, ⟨fun k => kiosk k ▸ like k, ?_⟩, ?_⟩
  · rw [sale, finished, at3, created]; rfl
  · rw [sale, others' p apart, at3, others p apart]
  · rw [frame5, updBasket, setBasket, frame4, sales3, frame1]
  · rw [seat, ← show1, cells.1 i hi, seat1]
  · rw [seat, cells.2 c (by simpa only [show1] using hc), seat1]
  · rw [show2, self, show1]
    split
    · next empty => rw [empty]; rfl
    · rfl
  · rw [show2, shows n apart, show1]
  · rw [voucher, active, voucher2]
  · rw [stat, counted.1, stat3]
  · rw [stat, counted.2.1, stat3]
  · rw [stat, counted.2.2 o low high, stat3]
  · rw [basket, self5, at4]; rfl
  · rw [basket, others5 n apart.symm, at4]
  · rw [frame5, stations5]
  · rw [frame5, updBasket, setBasket, frame4, frame3, frame2, frame1]

end Sys2Proof.Machine
end

section
/-! Outcomes of payments and SETTLE (R60 to R63), and PAYs of nothing (R56, R57): O41 and O42. -/

namespace Sys2Proof.Machine

/-! ### The digits of a card's tail (10.6) -/

theorem tailBytes_some {d : Nat} (small : d < 10000) : tailBytes (some d) =
    [BitVec.ofNat 8 (16 * (d / 1000) + d / 100 % 10), BitVec.ofNat 8 (16 * (d / 10 % 10) + d % 10)] := by
  have digits : digitsOf 4 d = [d / 1000, d / 100 % 10, d / 10 % 10, d % 10] := by
    simp only [digitsOf, List.nil_append, List.cons_append, Nat.div_div_eq_div_mul]
    rw [Nat.mod_eq_of_lt (show d / (10 * 10 * 10) < 10 by omega)]
  rw [tailBytes, digits]
  rfl

theorem all_isPrintable_iff {l : List Byte} : l.all isPrintable = true ↔ ∀ x ∈ l, 0x20 ≤ x.toNat ∧ x.toNat ≤ 0x7E := by
  simp [List.all_eq_true, isPrintable]

/-! ### SETTLE (R63) -/

theorem exec_settle {r : Request} {s : State} (handed : Handed .settle r s) :
    exec .settle s = .next (basketRequest r (settleNow r) (taken r s)) := by
  show Host.Outcome.next (withRequest .settle (fun r => basketRequest r (settleNow r)) s) = _
  rw [withRequest_handed handed]

/-- R63: whether SETTLE is well formed: a basket, an outcome, and with an approval its code. -/
def settleFormed (r : Request) : Prop :=
  param1 r 0 < 24 ∧ (param1 r 1 = 1 ∨ param1 r 1 = 2) ∧
    (param1 r 1 = 1 → (paramBytes r 2 6).length = 6 ∧ ∀ x ∈ paramBytes r 2 6, 0x20 ≤ x.toNat ∧ x.toNat ≤ 0x7E)

theorem settleFormed_iff {r : Request} : settleFormed r ↔ ¬ (24 ≤ param1 r 0 ∨ (param1 r 1 ≠ 1 ∧ param1 r 1 ≠ 2) ∨
    (param1 r 1 = 1 ∧ ¬ ((paramBytes r 2 6).length = 6 ∧ (paramBytes r 2 6).all isPrintable = true))) := by
  rw [settleFormed, all_isPrintable_iff, not_or, not_or, Nat.not_le, not_and_or, not_not, not_not, not_and, not_not]

section
variable {r : Request} {s : State} (free : (basketAt s (param1 r 0)).call = none)

theorem settleNow_malformed (bad : ¬ settleFormed r) : settleNow r s = completeSlot r.slot .badParameter [] s := by
  rw [settleFormed_iff, not_not] at bad
  rw [settleNow, if_pos bad]
  rfl

theorem settleNow_wrongState (formed : settleFormed r) (other : (basketAt s (param1 r 0)).state ≠ .unresolved) :
    settleNow r s = completeSlot r.slot .wrongState [] s := by
  rw [settleNow, if_neg (settleFormed_iff.mp formed), if_pos other]
  rfl

theorem settleNow_approved (formed : settleFormed r) (unresolved : (basketAt s (param1 r 0)).state = .unresolved)
    (approved : param1 r 1 = 1) : settleNow r s = completeSlot r.slot .ok (leBytes 3 s.salesUnit.nextSerial)
      (saleMove (param1 r 0) { byCard := true, code := some (paramBytes r 2 6), tail := none } s) := by
  rw [settleNow, if_neg (settleFormed_iff.mp formed), if_neg (not_not_intro unresolved), if_pos approved]

theorem settleNow_declined (formed : settleFormed r) (unresolved : (basketAt s (param1 r 0)).state = .unresolved)
    (declined : param1 r 1 = 2) : settleNow r s = completeSlot r.slot .ok
      (leBytes 1 (basketStateNum (basketAt (returnBasket (param1 r 0) s) (param1 r 0)).state)) (returnBasket (param1 r 0) s) := by
  rw [settleNow, if_neg (settleFormed_iff.mp formed), if_neg (not_not_intro unresolved), if_neg (by omega)]

end

/-! ### Outcomes (R60 to R62) -/

/-- R60 to R62: the oldest outcome for a basket is taken out of the list, and by a basket in PAYING. -/
theorem exec_paymentOutcome {s : State} {b : Fin 24} {o : OutcomeReport}
    (first : s.basketUnit.outcomes.find? (fun x => x.basket == b.val) = some o) :
    let v := { s with basketUnit := { s.basketUnit with outcomes := s.basketUnit.outcomes.erase o } }
    o.basket = b.val ∧ exec (.paymentOutcome b) s = .next (if (basketAt s b).state = .paying then takeOutcome o v else v) := by
  refine ⟨by simpa using List.find?_some first, ?_⟩
  show Host.Outcome.next (paymentOutcomeOp b s) = _
  simp only [paymentOutcomeOp, first]

theorem finishPay_slot {s : State} {b slot : Nat} (inflight : s.board.inflight.getD b none = some slot) (code : ResultCode)
    (fields : List Byte) : finishPay b code fields s = completeSlot slot code fields s := by
  simp only [finishPay, inflight]

/-- R61: the place given back. -/
theorem giveBackPlace_eq (s : State) : giveBackPlace s = { s with salesUnit := { s.salesUnit with
    reserved := s.salesUnit.reserved - 1, changes := bump s.salesUnit.changes } } := rfl

/-- R61: the context back in SELECTING. -/
def retriedBasket (d : Deadline) (x : Basket) : Basket := { x with state := .selecting, deadline := some d }

theorem returnBasket_onSale {s : State} {b : Nat} (onSale : (showAt s (basketAt s b).sh).state = .onSale) :
    returnBasket b s = refreshKiosk (basketAt s b).kiosk
      (updBasket b (retriedBasket (retryDeadline s (basketAt s b).sh)) (giveBackPlace s)) := by
  rw [returnBasket]
  exact if_pos onSale

theorem returnBasket_offSale {s : State} {b : Nat} (offSale : (showAt s (basketAt s b).sh).state ≠ .onSale) :
    returnBasket b s = raiseFactor (kioskCell (basketAt s b).kiosk) kfHoldExpired (endBasket b .expired (giveBackPlace s)) := by
  rw [returnBasket]
  exact if_neg offSale

theorem canonical_giveBackPlace {s : State} (canonical : Canonical s) : Canonical (giveBackPlace s) :=
  ⟨canonical.mem, canonical.seats, canonical.entries, canonical.heads, canonical.sales, canonical.stats⟩

theorem returnBasket_inflight (b : Nat) (s : State) : (returnBasket b s).board.inflight = s.board.inflight := by
  by_cases onSale : (showAt s (basketAt s b).sh).state = .onSale
  · rw [returnBasket_onSale onSale]; rfl
  · rw [returnBasket_offSale onSale, raiseFactor_written]
    simp only [endBasket_keeps]
    rfl

theorem leaveUnresolved_eq (b : Nat) (s : State) : leaveUnresolved b s = refreshKiosk (basketAt s b).kiosk
    (updBasket b (fun x => { x with state := .unresolved, deadline := none }) s) := rfl

/-- R61: a basket returned to SELECTING, in the terms of the statement. -/
theorem returned_spec {s : State} {b : Nat} (inside : b < s.basketUnit.baskets.length)
    (onSale : (showAt s (basketAt s b).sh).state = .onSale) :
    let u := returnBasket b s
    basketAt u b = { retriedBasket (retryDeadline s (basketAt s b).sh) (basketAt s b) with changes := bump (basketAt s b).changes } ∧
      (∀ n, n ≠ b → basketAt u n = basketAt s n) ∧ stationLike u s ∧
      u = { s with
        basketUnit := { s.basketUnit with baskets := u.basketUnit.baskets }, station := u.station
        salesUnit := { s.salesUnit with reserved := s.salesUnit.reserved - 1, changes := bump s.salesUnit.changes } } := by
  rw [returnBasket_onSale onSale]
  exact ⟨basketAt_updBasket_self (giveBackPlace s) b _ inside, fun n apart => basketAt_updBasket_other (giveBackPlace s) b n _ apart.symm,
    stationLike_refreshKiosk _ _, rfl⟩

/-- Settles O42. -/
theorem otherOutcomesReturnExpireOrSuspendTheBasket : Obligations.OtherOutcomesReturnExpireOrSuspendTheBasket := by
  unfold Obligations.OtherOutcomesReturnExpireOrSuspendTheBasket
  intro s b canonical all shows c open' retry returned givenBack show'
  have inside : b.val < s.basketUnit.baskets.length := all.symm ▸ b.isLt
  have ended : ∀ v : State, v.basketUnit.baskets = s.basketUnit.baskets → Canonical v → v.showUnit.shows = s.showUnit.shows →
      Ended b .expired (giveBackPlace v) (endBasket b .expired (giveBackPlace v)) := fun v baskets canonical' shows' =>
    ended_endBasket .expired (canonical_giveBackPlace canonical') (baskets ▸ inside)
      (by rw [basketAt_of_baskets (s := s) (t := giveBackPlace v) baskets, show (giveBackPlace v).showUnit.shows = _ from shows', shows]
          exact show')
  refine ⟨?_, ?_⟩
  · intro o first v
    obtain ⟨mine, taken⟩ := exec_paymentOutcome first
    have canonical' : Canonical v := ⟨canonical.mem, canonical.seats, canonical.entries, canonical.heads, canonical.sales, canonical.stats⟩
    rw [taken]
    refine ⟨fun other => by rw [if_neg other], fun slot code paying inflight which => ?_, fun slot paying inflight unresolved => ?_⟩
    · have completes : takeOutcome o v = completeSlot slot code [] (returnBasket b v) := by
        have slot' : (returnBasket b v).board.inflight.getD b none = some slot := by rw [returnBasket_inflight]; exact inflight
        rcases which with ⟨outcome, rfl⟩ | ⟨outcome, rfl⟩ | ⟨outcome, rfl⟩ <;>
          simp only [takeOutcome, outcome, mine, finishPay_slot slot']
      rw [if_pos paying, completes]
      refine ⟨fun onSale => ⟨_, rfl, returned_spec (s := v) inside onSale⟩, fun offSale => ?_⟩
      rw [returnBasket_offSale (s := v) offSale]
      exact ⟨_, rfl, ended v rfl canonical' rfl⟩
    · have completes : takeOutcome o v = completeSlot slot .unresolved [] (leaveUnresolved b v) := by
        have slot' : (leaveUnresolved b v).board.inflight.getD b none = some slot := inflight
        simp only [takeOutcome, unresolved, mine, finishPay_slot slot']
      rw [if_pos paying, completes]
      exact ⟨_, rfl, basketAt_updBasket_self v b _ inside, fun n apart => basketAt_updBasket_other v b n _ apart.symm,
        stationLike_refreshKiosk _ _, rfl⟩
  · intro r handed named free
    have at' : basketAt (taken r s) (param1 r 0) = c := by rw [named]; rfl
    rw [exec_settle handed, basketRequest_free (by rw [named]; exact free)]
    refine ⟨fun unresolved declined => ?_, fun other declined => ?_, fun one two => ?_⟩
    · have formed : settleFormed r := ⟨named ▸ b.isLt, .inr declined, fun one => by omega⟩
      rw [settleNow_declined formed (by rw [at']; exact unresolved) declined, named]
      refine ⟨fun onSale => ?_, fun offSale => ?_⟩
      · have spec := returned_spec (s := taken r s) inside onSale
        refine ⟨_, ?_, spec⟩
        rw [spec.1]
        rfl
      · have over' := ended (taken r s) rfl (canonical_taken canonical r) rfl
        have state : (basketAt (returnBasket b (taken r s)) b).state = .expired := by
          rw [returnBasket_offSale (s := taken r s) offSale, basketAt, (raiseFactor_keeps ..).2.2.2.2.2.2.2.1]
          obtain ⟨-, -, -, -, basket, -⟩ := over'
          exact congrArg Basket.state basket
        rw [state, returnBasket_offSale (s := taken r s) offSale]
        exact ⟨_, rfl, over'⟩
    · have formed : settleFormed r := ⟨named ▸ b.isLt, .inr declined, fun one => by omega⟩
      rw [settleNow_wrongState formed (by rw [at']; exact other)]
    · rw [settleNow_malformed (fun formed => formed.2.1.elim one two)]

/-! ### PAY (R56) -/

theorem exec_pay {r : Request} {s : State} (handed : Handed .pay r s) :
    exec .pay s = .next (basketRequest r (payNow r) (taken r s)) := by
  show Host.Outcome.next (withRequest .pay (fun r => basketRequest r (payNow r)) s) = _
  rw [withRequest_handed handed]

/-- R56, step (6): the snapshot stored. -/
def quoted (b : Nat) (s : State) : State := updBasket b (fun c => { c with quote := basketQuote s (basketAt s b) }) s

theorem payRefusal_none {s : State} {b : Nat} (set : s.showUnit.clock.isSet = true) (inside : b < 24)
    (selling : (basketAt s b).state = .selecting) (full : (basketAt s b).seats ≠ [] ∨ (basketAt s b).vouchers ≠ [])
    (onSale : (showAt s (basketAt s b).sh).state = .onSale) : payRefusal s b = none := by
  have full : ¬ ((basketAt s b).seats = [] ∧ (basketAt s b).vouchers = []) := fun empty => full.elim (· empty.1) (· empty.2)
  rw [payRefusal, if_neg (by simp [set]), if_neg (Nat.not_le.mpr inside), if_neg (not_not_intro selling), if_neg full,
    if_neg (not_not_intro onSale)]

theorem payNow_passed {r : Request} {s : State} (passed : payRefusal s (param1 r 0) = none) :
    let b := param1 r 0
    let q := basketQuote s (basketAt s b)
    payNow r s = match payStop (quoted b s) (basketAt s b).kiosk q with
      | some code => completeSlot r.slot code (quoteBytes q) (quoted b s)
      | none => if q.gross = 0 then
          completeSlot r.slot .ok (leBytes 3 s.salesUnit.nextSerial)
            (saleMove b { byCard := false, code := none, tail := none } (reservePlace (quoted b s)))
        else startPaying b (reservePlace (quoted b s)) := by
  simp only [payNow, passed]
  rfl

theorem canReserve_iff {s : State} : canReserve s = true ↔
    s.salesUnit.inUse + s.salesUnit.reserved < 2048 ∧ s.salesUnit.reserved < 16777216 - s.salesUnit.nextSerial := by
  simp [canReserve, Config.saleCount]

theorem payStop_none_zero {s : State} {k : Nat} {q : Quote} (under : q.overCeiling = false) (zero : q.gross = 0)
    (room : canReserve s = true) : payStop s k q = none := by
  rw [payStop, if_neg (by simp [under]), if_pos zero]
  simp only [room, if_true]

/-- R56, R57: a PAY of nothing makes the sale at once. -/
theorem payNow_zero {r : Request} {s : State} (passed : payRefusal s (param1 r 0) = none)
    (under : (basketQuote s (basketAt s (param1 r 0))).overCeiling = false) (zero : (basketQuote s (basketAt s (param1 r 0))).gross = 0)
    (room : canReserve s = true) :
    payNow r s = completeSlot r.slot .ok (leBytes 3 s.salesUnit.nextSerial)
      (saleMove (param1 r 0) { byCard := false, code := none, tail := none } (reservePlace (quoted (param1 r 0) s))) := by
  have stop : payStop (quoted (param1 r 0) s) (basketAt s (param1 r 0)).kiosk (basketQuote s (basketAt s (param1 r 0))) = none :=
    payStop_none_zero under zero room
  rw [payNow_passed passed]
  simp only [stop, zero, if_true]

/-- Settles O41: each of the three commands makes the one sale move. -/
theorem approvalsAndZeroPayMakeTheSale : Obligations.ApprovalsAndZeroPayMakeTheSale := by
  unfold Obligations.ApprovalsAndZeroPayMakeTheSale
  refine ⟨⟨rfl, fun d small => tailBytes_some small⟩, ?_, ?_⟩
  · intro s r handed all b code printable refused free
    have taken' : ∀ c, settleNow r (taken r s) = completeSlot r.slot c [] (taken r s) → refused c := fun c made =>
      (exec_settle handed).trans (by rw [basketRequest_free free, made])
    refine ⟨fun beyond => taken' _ (settleNow_malformed fun formed => absurd formed.1 (Nat.not_lt.mpr beyond)),
      fun one bad => taken' _ (settleNow_malformed fun formed => bad (formed.2.2 one)),
      fun inside one good other => taken' _ (settleNow_wrongState ⟨inside, .inl one, fun _ => good⟩ other)⟩
  · intro s b canonical inside all shows c serial q show' once positive fresh
    have sold : ∀ (v : State) (m : Method), Canonical v → v.basketUnit.baskets.length = 24 → v.showUnit = s.showUnit →
        (basketAt v b).sh = c.sh → (basketAt v b).vouchers = c.vouchers → v.salesUnit.sales = s.salesUnit.sales →
        v.salesUnit.nextSerial = serial → Sold b m v (saleMove b m v) := by
      intro v m canonical' all' unit sh vouchers sales next
      refine sold_saleMove m canonical' (all' ▸ inside) (by rw [unit, sh, shows]; exact show') (by rw [vouchers]; exact once)
        (by rw [next]; exact positive) fun p => ?_
      rw [saleAt, sales, next]
      exact fresh p
    refine ⟨?_, ?_, ?_⟩
    · intro r handed named free selling set full onSale under zero room serials
      subst named
      rw [exec_pay handed, basketRequest_free free,
        payNow_zero (s := taken r s) (payRefusal_none set inside selling full onSale) under zero (canReserve_iff.mpr ⟨room, serials⟩)]
      have inside' : param1 r 0 < (taken r s).basketUnit.baskets.length := all ▸ inside
      have self := basketAt_updBasket_self (taken r s) (param1 r 0) (fun x => { x with quote := basketQuote (taken r s) c }) inside'
      have canonical' : Canonical (reservePlace (quoted (param1 r 0) (taken r s))) :=
        ⟨canonical.mem, canonical.seats, canonical.entries, canonical.heads, canonical.sales, canonical.stats⟩
      refine ⟨reservePlace (quoted (param1 r 0) (taken r s)), _, rfl, sold _ _ canonical' ?_ rfl ?_ ?_ rfl rfl, self,
        fun n apart => basketAt_updBasket_other (taken r s) _ n _ apart.symm, rfl⟩
      · exact (updAt_length ..).trans all
      · exact (congrArg Basket.sh self).trans rfl
      · exact (congrArg Basket.vouchers self).trans rfl
    · intro o slot b' same first approved paying inflight
      subst same
      obtain ⟨mine, took⟩ := exec_paymentOutcome first
      rw [took, if_pos paying]
      have canonical' : Canonical { s with basketUnit := { s.basketUnit with outcomes := s.basketUnit.outcomes.erase o } } :=
        ⟨canonical.mem, canonical.seats, canonical.entries, canonical.heads, canonical.sales, canonical.stats⟩
      refine ⟨_, ?_, sold _ _ canonical' all rfl rfl rfl rfl rfl⟩
      simp only [takeOutcome, approved, mine]
      rw [finishPay_slot (by rw [(saleMove_keeps ..).2.2.2.2.2.1]; exact inflight)]
    · intro r handed named free unresolved one six printable
      subst named
      rw [exec_settle handed, basketRequest_free free, settleNow_approved (s := taken r s) ⟨inside, .inl one, fun _ => ⟨six, printable⟩⟩ unresolved one]
      exact ⟨_, rfl, sold _ _ (canonical_taken canonical r) all rfl rfl rfl rfl rfl⟩

end Sys2Proof.Machine
end

section
/-! What an update of a terminal line moves (R84, R156), said once for every run of updates. -/

namespace Sys2Proof.Machine

theorem updAt_updAt {α : Type} (l : List α) (n : Nat) (f g : α → α) : updAt (updAt l n f) n g = updAt l n (fun x => g (f x)) := by
  cases inside : l[n]? with
  | none => simp only [updAt, inside]
  | some x =>
    have low : n < l.length := (List.getElem?_eq_some_iff.mp inside).1
    simp [updAt, low]

/-- `t` is `s` with one line updated, things sent, and what the kiosk cells derive or count moved. -/
structure LineStep (n : Nat) (f : Line → Line) (sent : List Output) (s t : State) : Prop where
  lines : t.lines = updAt s.lines n f
  wire : t.wire = s.wire ++ sent
  kiosks : ∀ k, kioskLike (kioskAt t k) (kioskAt s k)
  frame : t = { s with lines := t.lines, wire := t.wire, station := { s.station with kiosks := t.station.kiosks } }

namespace LineStep
variable {n : Nat} {f g : Line → Line} {sent sent' : List Output} {s t u : State}

theorem trans (first : LineStep n f sent s t) (second : LineStep n g sent' t u) :
    LineStep n (fun x => g (f x)) (sent ++ sent') s u where
  lines := by rw [second.lines, first.lines, updAt_updAt]
  wire := by rw [second.wire, first.wire, List.append_assoc]
  kiosks := fun k => kioskLike_trans (second.kiosks k) (first.kiosks k)
  frame := by rw [second.frame, first.frame]

theorem updLine (n : Nat) (f : Line → Line) (s : State) : LineStep n f [] s (updLine n f s) where
  lines := rfl
  wire := (List.append_nil _).symm
  kiosks := fun k => updKiosk_like n k id (fun _ => ⟨rfl, rfl, rfl⟩) { s with lines := updAt s.lines n f }
  frame := rfl

theorem sendFrame (n : Nat) (f : Frame) (s : State) :
    LineStep n (fun x => { x with awaiting := sentAt s.showUnit.runTime f }) [.frame n f] s (sendFrame n f s) where
  lines := rfl
  wire := rfl
  kiosks := fun k => updKiosk_like n k id (fun _ => ⟨rfl, rfl, rfl⟩) _
  frame := rfl

theorem lineAt_self (h : LineStep n f sent s t) (inside : n < s.lines.length) : lineAt t n = f (lineAt s n) := by
  rw [lineAt, h.lines]
  exact updAt_getD_self _ _ _ _ inside

theorem lineAt_other (h : LineStep n f sent s t) {m : Nat} (apart : m ≠ n) : lineAt t m = lineAt s m := by
  rw [lineAt, h.lines]
  exact updAt_getD_other _ _ _ _ _ apart.symm

theorem length (h : LineStep n f sent s t) : t.lines.length = s.lines.length := by rw [h.lines, updAt_length]

theorem runTime (h : LineStep n f sent s t) : t.showUnit = s.showUnit := by rw [h.frame]

/-- In the terms of the statements. -/
theorem moved (h : LineStep n f sent s t) (inside : n < s.lines.length) : LineMoved n (f (lineAt s n)) sent s t :=
  ⟨h.lineAt_self inside, fun _ => h.lineAt_other, h.wire, h.kiosks, h.frame⟩

end LineStep

/-! ### Payment records (R94) -/

/-- One record of a line updated under its change count. -/
def recordsWith (i : Nat) (f : PayRecord → PayRecord) (x : Line) : Line :=
  { x with records := updAt x.records i (fun r => { f r with changes := bump r.changes }) }

theorem LineStep.updRecord (n i : Nat) (f : PayRecord → PayRecord) (s : State) :
    LineStep n (recordsWith i f) [] s (updRecord n i f s) := .updLine n _ s

theorem recordsWith_eq (i : Nat) (x : Line) (f : PayRecord → PayRecord) :
    recordsWith i f x = withRecord i { f (x.records.getD i .empty) with changes := bump (x.records.getD i .empty).changes } x := by
  rw [recordsWith, updAt_eq_set _ _ _ .empty, withRecord]

theorem findIdx?_lt {α : Type} {p : α → Bool} {l : List α} {i : Nat} (found : l.findIdx? p = some i) : i < l.length :=
  (List.findIdx?_eq_some_iff_getElem.mp found).1

theorem openRecord_lt {s : State} {n i : Nat} (found : openRecord s n = some i) : i < (lineAt s n).records.length := findIdx?_lt found

end Sys2Proof.Machine
end

section
/-! QUOTE and PAY (R56, R58, R59, R78, R79, R95): O40. -/

namespace Sys2Proof.Machine

/-! ### The quote block (R79) -/

theorem quoteBytes_spec (q : Quote) : (quoteBytes q).length = 16 ∧
    (∀ i < 15, (quoteBytes q).getD i 0 =
      BitVec.ofNat 8 ([q.seatSubtotal, q.voucherSubtotal, q.discount, q.gross, q.tax].getD (i / 3) 0 / 256 ^ (i % 3))) ∧
    (quoteBytes q).getD 15 0 = if q.overCeiling then 1 else 0 := by
  refine ⟨rfl, fun i inside => ?_, rfl⟩
  interval_cases i <;> simp [quoteBytes, leBytes, Nat.div_div_eq_div_mul]

/-! ### QUOTE (R78) -/

theorem exec_quote {r : Request} {s : State} (handed : Handed .quote r s) :
    exec .quote s = .next (basketRequest r (quoteNow r) (taken r s)) := by
  show Host.Outcome.next (withRequest .quote (fun r => basketRequest r (quoteNow r)) s) = _
  rw [withRequest_handed handed]

theorem updBasket_congr {s : State} {b : Nat} {f g : Basket → Basket} (same : f (basketAt s b) = g (basketAt s b)) :
    updBasket b f s = updBasket b g s := by
  simp only [updBasket, setBasket, updAt_eq_set _ b _ Basket.free]
  rw [show f (s.basketUnit.baskets.getD b .free) = g (s.basketUnit.baskets.getD b .free) from same]

theorem quoted_spec {s : State} {b : Nat} (inside : b < s.basketUnit.baskets.length) :
    let q := basketQuote s (basketAt s b)
    basketAt (quoted b s) b = { (basketAt s b) with quote := q, changes := bump (basketAt s b).changes } ∧
      (∀ n, n ≠ b → basketAt (quoted b s) n = basketAt s n) ∧
      quoted b s = { s with basketUnit := { s.basketUnit with baskets := (quoted b s).basketUnit.baskets } } :=
  ⟨basketAt_updBasket_self s b _ inside, fun n apart => basketAt_updBasket_other s b n _ apart.symm, rfl⟩

theorem quoteNow_selecting {r : Request} {s : State} (inside : param1 r 0 < 24) (length : param1 r 0 < s.basketUnit.baskets.length)
    (selling : (basketAt s (param1 r 0)).state = .selecting) :
    let c := basketAt s (param1 r 0)
    quoteNow r s = completeSlot r.slot .ok (leBytes 1 c.seats.length ++ leBytes 1 c.vouchers.length ++ quoteBytes (basketQuote s c))
      (quoted (param1 r 0) s) := by
  have same : updBasket (param1 r 0) (fun c => { c with quote := basketQuote s c }) s = quoted (param1 r 0) s :=
    updBasket_congr rfl
  rw [quoteNow, if_neg (Nat.not_le.mpr inside), if_neg (not_not_intro selling)]
  simp only [same]
  rw [(quoted_spec length).1]

/-! ### The place of a new record (R94) -/

theorem placeForRecord_empty {l : List PayRecord} {i : Nat} (inside : i < l.length) (empty : (l.getD i .empty).tag = 0)
    (lower : ∀ j < i, (l.getD j .empty).tag ≠ 0) : placeForRecord l = i := by
  have found : l.findIdx? (fun r => r.tag == 0) = some i := by
    rw [List.findIdx?_eq_some_iff_getElem]
    refine ⟨inside, ?_, fun j low => ?_⟩
    · rwa [List.getD_eq_getElem _ _ inside, ← beq_iff_eq] at empty
    · have := lower j low
      rw [List.getD_eq_getElem _ _ (by omega)] at this
      simpa using this
  simp only [placeForRecord, found]

theorem placeForRecord_full {l : List PayRecord} {i : Nat} (four : l.length = 4) (inside : i < 4)
    (full : ∀ j < 4, (l.getD j .empty).tag ≠ 0)
    (oldest : ∀ j < 4, j ≠ i → (l.getD i .empty).closedOrder < (l.getD j .empty).closedOrder) : placeForRecord l = i := by
  obtain ⟨r0, r1, r2, r3, rfl⟩ := List.length_eq_four.mp four
  have tags : r0.tag ≠ 0 ∧ r1.tag ≠ 0 ∧ r2.tag ≠ 0 ∧ r3.tag ≠ 0 :=
    ⟨full 0 (by decide), full 1 (by decide), full 2 (by decide), full 3 (by decide)⟩
  have none' : [r0, r1, r2, r3].findIdx? (fun r => r.tag == 0) = none := by simp [List.findIdx?_cons, tags]
  simp only [placeForRecord, none', longestClosed]
  have c0 := oldest 0 (by decide)
  have c1 := oldest 1 (by decide)
  have c2 := oldest 2 (by decide)
  have c3 := oldest 3 (by decide)
  interval_cases i <;> simp at c0 c1 c2 c3 <;> (repeat' split) <;> simp_all <;> omega

/-! ### PAY (R56) -/

/-- R56: the first five refusals of PAY, in order. -/
theorem payRefusal_some {s : State} {b : Nat} {code : ResultCode}
    (why : s.showUnit.clock.isSet = false ∧ code = .clockUnset ∨
         s.showUnit.clock.isSet = true ∧ 24 ≤ b ∧ code = .badParameter ∨
         s.showUnit.clock.isSet = true ∧ b < 24 ∧ ((basketAt s b).state ≠ .selecting ∨
           ((basketAt s b).seats = [] ∧ (basketAt s b).vouchers = [])) ∧ code = .wrongState ∨
         s.showUnit.clock.isSet = true ∧ b < 24 ∧ (basketAt s b).state = .selecting ∧
           ((basketAt s b).seats ≠ [] ∨ (basketAt s b).vouchers ≠ []) ∧
           (showAt s (basketAt s b).sh).state ≠ .onSale ∧ code = .saleClosed) : payRefusal s b = some code := by
  rw [payRefusal]
  rcases why with ⟨unset, rfl⟩ | ⟨set, beyond, rfl⟩ | ⟨set, inside, wrong, rfl⟩ | ⟨set, inside, selling, full, offSale, rfl⟩
  · rw [if_pos (by simp [unset])]
  · rw [if_neg (by simp [set]), if_pos beyond]
  · rw [if_neg (by simp [set]), if_neg (Nat.not_le.mpr inside)]
    by_cases selling : (basketAt s b).state = .selecting
    · rw [if_neg (not_not_intro selling), if_pos (wrong.resolve_left (not_not_intro selling))]
    · rw [if_pos selling]
  · have full : ¬ ((basketAt s b).seats = [] ∧ (basketAt s b).vouchers = []) := fun empty => full.elim (· empty.1) (· empty.2)
    rw [if_neg (by simp [set]), if_neg (Nat.not_le.mpr inside), if_neg (not_not_intro selling), if_neg full, if_pos offSale]

theorem payNow_refused {r : Request} {s : State} {code : ResultCode} (refused : payRefusal s (param1 r 0) = some code) :
    payNow r s = completeSlot r.slot code [] s := by
  simp only [payNow, refused]
  rfl

/-- R56, steps (7), (9) and (10): the refusals with the quote stored and answered, in order. -/
theorem payStop_some {s : State} {k : Nat} {q : Quote} {code : ResultCode}
    (why : q.overCeiling = true ∧ code = .overCeiling ∨
      q.overCeiling = false ∧ q.gross ≠ 0 ∧ ((lineAt s k).state = .down ∨ (lineAt s k).state = .fault) ∧ code = .terminalFault ∨
      q.overCeiling = false ∧ q.gross ≠ 0 ∧ ((lineAt s k).state = .authorizing ∨ (lineAt s k).state = .aborting ∨
        (lineAt s k).state = .reversing) ∧ code = .wrongState ∨
      q.overCeiling = false ∧ (q.gross = 0 ∨ (lineAt s k).state = .idle) ∧
        (2048 ≤ s.salesUnit.inUse + s.salesUnit.reserved ∨ 16777216 - s.salesUnit.nextSerial ≤ s.salesUnit.reserved) ∧
        code = .salesFull) : payStop s k q = some code := by
  rw [payStop]
  rcases why with ⟨dear, rfl⟩ | ⟨under, some', line, rfl⟩ | ⟨under, some', line, rfl⟩ | ⟨under, line, full, rfl⟩
  · rw [if_pos dear]
  · rw [if_neg (by simp [under]), if_neg some']
    rcases line with line | line <;> rw [line] <;> rfl
  · rw [if_neg (by simp [under]), if_neg some']
    rcases line with line | line | line <;> rw [line] <;> rfl
  · have free : (if q.gross = 0 then none else lineRefusal (lineAt s k).state) = none := by
      rcases line with zero | idle
      · rw [if_pos zero]
      · rw [idle]; exact ite_self _
    have room : ¬ canReserve s = true := fun room => by
      have := canReserve_iff.mp room
      omega
    rw [if_neg (by simp [under]), free]
    exact if_neg room

theorem payStop_none {s : State} {k : Nat} {q : Quote} (under : q.overCeiling = false) (idle : (lineAt s k).state = .idle)
    (room : canReserve s = true) : payStop s k q = none := by
  have free : (if q.gross = 0 then none else lineRefusal (lineAt s k).state) = none := by
    rw [idle]; exact ite_self _
  rw [payStop, if_neg (by simp [under]), free]
  exact if_pos room

/-- R95: the record opened. -/
def openedRecord (s : State) (tag b amount : Nat) (old : PayRecord) : PayRecord :=
  { PayRecord.empty with
    tag := tag, basket := b, amount := amount, phase := .awaitAck, openedAt := nowOf s, changes := old.changes }

/-- R95: the line once a record is opened. -/
def openedLine (s : State) (n b amount : Nat) (x : Line) : Line :=
  let tag := (lineAt s n).nextTag
  { enterState (nowOf s) .authorizing (recordsWith (placeForRecord (lineAt s n).records) (openedRecord s tag b amount) x) with
    nextTag := tagAfter tag, authDue := some (deadlineAt (nowOf s) (nowOf s + 1000 * (cfgOf s).authTimeout))
    awaiting := sentAt (nowOf s) (authFrame tag amount n) }

theorem LineStep.openPayment (n b amount : Nat) (s : State) :
    LineStep n (openedLine s n b amount) [.frame n (authFrame (lineAt s n).nextTag amount n)] s (openPayment n b amount s) :=
  ((LineStep.updRecord n (placeForRecord (lineAt s n).records) (openedRecord s (lineAt s n).nextTag b amount) s).trans
    (LineStep.updLine n (fun y => { enterState (nowOf s) .authorizing y with
      nextTag := tagAfter (lineAt s n).nextTag
      authDue := some (deadlineAt (nowOf s) (nowOf s + 1000 * (cfgOf s).authTimeout)) }) _)).trans
    (LineStep.sendFrame n (authFrame (lineAt s n).nextTag amount n) _)

/-- R59: the context in PAYING. -/
def payingBasket (k tag : Nat) (x : Basket) : Basket := { x with state := .paying, deadline := none, payRef := some (k, tag) }

/-- R59, R95: a context moved to PAYING, its line with a record opened at place `i`. -/
theorem startPaying_spec {s : State} {b k gross i : Nat} (inside : b < s.basketUnit.baskets.length)
    (kiosk : (basketAt s b).kiosk = k) (amount : (basketAt s b).quote.gross = gross) (line : k < s.lines.length)
    (place : placeForRecord (lineAt s k).records = i) (room : i < (lineAt s k).records.length) :
    let t := startPaying b s
    let x := lineAt s k
    let now := s.showUnit.runTime
    let frame : Frame := ⟨0x01, BitVec.ofNat 8 x.nextTag, beBytes 3 gross ++ [BitVec.ofNat 8 k]⟩
    basketAt t b = { payingBasket k x.nextTag (basketAt s b) with changes := bump (basketAt s b).changes } ∧
      (∀ n, n ≠ b → basketAt t n = basketAt s n) ∧
      recordAt t k i = { PayRecord.empty with
        tag := x.nextTag, basket := b, amount := gross, phase := .awaitAck, openedAt := now
        changes := bump (recordAt s k i).changes } ∧
      (∀ j, j ≠ i → recordAt t k j = recordAt s k j) ∧
      lineAt t k = { x with
        state := .authorizing, nextTag := if x.nextTag < 255 then x.nextTag + 1 else 1, records := (lineAt t k).records
        pingDue := none, authDue := some ⟨now + 1000 * (cfgOf s).authTimeout, now⟩
        awaiting := some { frame := frame, sendings := 1, due := ⟨now + 300, now⟩ } } ∧
      (∀ n, n ≠ k → lineAt t n = lineAt s n) ∧ t.wire = s.wire ++ [.frame k frame] ∧ stationLike t s ∧
      t = { s with
        basketUnit := { s.basketUnit with baskets := t.basketUnit.baskets }, lines := t.lines, wire := t.wire, station := t.station } := by
  intro t x now frame
  have opened := LineStep.openPayment k b gross (updBasket b (payingBasket k x.nextTag) s)
  have eq : t = refreshKiosk k (openPayment k b gross (updBasket b (payingBasket k x.nextTag) s)) := by
    simp only [t, startPaying, kiosk, amount]
    rfl
  rw [eq]
  generalize openPayment k b gross (updBasket b (payingBasket k x.nextTag) s) = u at opened ⊢
  have baskets : u.basketUnit = (updBasket b (payingBasket k x.nextTag) s).basketUnit := by rw [opened.frame]
  have self : lineAt u k = openedLine (updBasket b (payingBasket k x.nextTag) s) k b gross x := opened.lineAt_self line
  have records : (lineAt u k).records = updAt x.records i (fun r => { openedRecord s x.nextTag b gross r with changes := bump r.changes }) := by
    rw [self, ← place]; rfl
  refine ⟨?_, fun n apart => ?_, ?_, fun j apart => ?_, ?_, fun n apart => opened.lineAt_other apart, opened.wire,
    ⟨fun j => kioskLike_trans (refreshKiosk_like k j u) (opened.kiosks j), ?_⟩, ?_⟩
  · exact (basketAt_of_baskets (s := updBasket b (payingBasket k x.nextTag) s) (by rw [refreshKiosk_frame, baskets]) b).trans
      (basketAt_updBasket_self s b _ inside)
  · exact (basketAt_of_baskets (s := updBasket b (payingBasket k x.nextTag) s) (by rw [refreshKiosk_frame, baskets]) n).trans
      (basketAt_updBasket_other s b n _ apart.symm)
  · show (lineAt u k).records.getD i .empty = _
    rw [records, updAt_getD_self _ _ _ _ room]
    rfl
  · show (lineAt u k).records.getD j .empty = _
    rw [records, updAt_getD_other _ _ _ _ _ apart.symm]
    rfl
  · show lineAt u k = { x with
        state := .authorizing, nextTag := if x.nextTag < 255 then x.nextTag + 1 else 1, records := (lineAt u k).records
        pingDue := none, authDue := some ⟨now + 1000 * (cfgOf s).authTimeout, now⟩
        awaiting := some { frame := frame, sendings := 1, due := ⟨now + 300, now⟩ } }
    rw [self]
    rfl
  · rw [refreshKiosk_frame, opened.frame]
    rfl
  · rw [refreshKiosk_frame, opened.frame]
    rfl

/-- Settles O40. -/
theorem quoteAndPayTakeTheSnapshot : Obligations.QuoteAndPayTakeTheSnapshot := by
  unfold Obligations.QuoteAndPayTakeTheSnapshot
  refine ⟨quoteBytes_spec, ?_⟩
  intro s r all lines b c q k
  refine ⟨fun command which open' => ?_, fun free => ⟨fun handed => ⟨fun inside selling => ?_, fun beyond => ?_, fun inside other => ?_⟩,
    fun handed => ⟨fun code why => ?_, fun set inside selling full onSale => ⟨fun code why => ?_, ?_⟩⟩⟩⟩
  · rcases which with ⟨handed, rfl⟩ | ⟨handed, rfl⟩
    · rw [exec_quote handed, basketRequest_busy open']
    · rw [exec_pay handed, basketRequest_busy open']
  · have inside' : param1 r 0 < (taken r s).basketUnit.baskets.length := all ▸ inside
    rw [exec_quote handed, basketRequest_free free, quoteNow_selecting (s := taken r s) inside inside' selling]
    exact ⟨_, rfl, quoted_spec (s := taken r s) inside'⟩
  · rw [exec_quote handed, basketRequest_free free, quoteNow, if_pos beyond]
    rfl
  · rw [exec_quote handed, basketRequest_free free, quoteNow, if_neg (Nat.not_le.mpr inside)]
    exact congrArg _ (if_pos other)
  · rw [exec_pay handed, basketRequest_free free, payNow_refused (s := taken r s) (payRefusal_some why)]
  · have inside' : param1 r 0 < (taken r s).basketUnit.baskets.length := all ▸ inside
    have stop : payStop (quoted (param1 r 0) (taken r s)) (basketAt (taken r s) (param1 r 0)).kiosk
      (basketQuote (taken r s) (basketAt (taken r s) (param1 r 0))) = some code := payStop_some why
    rw [exec_pay handed, basketRequest_free free, payNow_passed (s := taken r s) (payRefusal_none set inside selling full onSale)]
    simp only [stop]
    exact ⟨_, rfl, quoted_spec (s := taken r s) inside'⟩
  · intro i place four which kiosk under some' idle room serials
    have inside' : param1 r 0 < (taken r s).basketUnit.baskets.length := all ▸ inside
    have stop : payStop (quoted (param1 r 0) (taken r s)) (basketAt (taken r s) (param1 r 0)).kiosk
      (basketQuote (taken r s) (basketAt (taken r s) (param1 r 0))) = none := payStop_none under idle (canReserve_iff.mpr ⟨room, serials⟩)
    have at' : placeForRecord (lineAt s k).records = i := by
      rcases which with ⟨empty, lower⟩ | ⟨full, oldest⟩
      · exact placeForRecord_empty (by omega) empty lower
      · exact placeForRecord_full four place full oldest
    obtain ⟨self, others, quote⟩ := quoted_spec (s := taken r s) inside'
    obtain ⟨self', others', spec⟩ := startPaying_spec (s := reservePlace (quoted (param1 r 0) (taken r s))) (b := param1 r 0) (k := k)
      (gross := q.gross) (i := i) (by exact (updAt_length ..).symm ▸ inside') ((congrArg Basket.kiosk self).trans rfl)
      ((congrArg (fun c => c.quote.gross) self).trans rfl) (lines ▸ kiosk) at' (by show i < (lineAt s k).records.length; omega)
    rw [exec_pay handed, basketRequest_free free, payNow_passed (s := taken r s) (payRefusal_none set inside selling full onSale)]
    simp only [stop, show (basketQuote (taken r s) (basketAt (taken r s) (param1 r 0))).gross ≠ 0 from some', if_false]
    obtain ⟨opened, kept, moved, rest, wire, station, whole⟩ := spec
    refine ⟨_, rfl, ?_, fun n apart => (others' n apart).trans (others n apart), opened, kept, moved, rest, wire, ?_, station, ?_⟩
    · have snapshot : basketAt (reservePlace (quoted (param1 r 0) (taken r s))) (param1 r 0) = _ := self
      rw [self', snapshot]
      rfl
    · rw [whole]; rfl
    · rw [whole]
      rfl

end Sys2Proof.Machine
end

section
/-! Frames and their receiver (R85, R86): a frame is read back from its bytes, one changed byte is caught by the check bytes, and
the receiver gathers the bytes of a frame into that frame. -/

namespace Sys2Proof.Machine

/-! ### The check bytes -/

theorem zero_xor_byte (b : Byte) : 0 ^^^ b = b := BitVec.zero_xor

theorem sumOf_eq_sum (l : List Byte) : sumOf l = l.sum := by rw [sumOf, List.sum_eq_foldl]

theorem sumOf_cons (b : Byte) (l : List Byte) : sumOf (b :: l) = b + sumOf l := by
  rw [sumOf_eq_sum, sumOf_eq_sum, List.sum_cons]

theorem xorOf_from (l : List Byte) (a : Byte) : l.foldl (· ^^^ ·) a = a ^^^ xorOf l := by
  induction l generalizing a with
  | nil => exact (BitVec.xor_zero).symm
  | cons b rest ih =>
    rw [xorOf, List.foldl_cons, List.foldl_cons, ih, ih (0 ^^^ b), zero_xor_byte, BitVec.xor_assoc]

theorem xorOf_cons (b : Byte) (l : List Byte) : xorOf (b :: l) = b ^^^ xorOf l := by
  rw [xorOf, List.foldl_cons, xorOf_from, zero_xor_byte]

theorem sum_changed {l : List Byte} {n : Nat} {b : Byte} (inside : n < l.length) (changed : l[n]? ≠ some b) :
    sumOf (l.set n b) ≠ sumOf l := by
  induction l generalizing n with
  | nil => exact absurd inside (Nat.not_lt_zero _)
  | cons a rest ih =>
    cases n with
    | zero =>
      rw [List.set_cons_zero, sumOf_cons, sumOf_cons]
      exact fun same => changed (congrArg some (by simpa using same.symm))
    | succ n =>
      rw [List.set_cons_succ, sumOf_cons, sumOf_cons]
      have below := ih (Nat.lt_of_succ_lt_succ inside) (by simpa using changed)
      exact fun same => below (by simpa using same)

/-! ### A frame's bytes -/

theorem frameBody_length (f : Frame) : (frameBody f).length = f.payload.length + 3 := rfl

/-- The bytes after the lead, as body and check bytes: read as a frame exactly where the check bytes are those of the body. -/
theorem frameOfBytes_append (body : List Byte) (a b : Byte) :
    frameOfBytes (body ++ [a, b]) =
      if [a, b] = [sumOf body, xorOf body] then
        match body with
        | _ :: kind :: tag :: payload => some ⟨kind, tag, payload⟩
        | _ => none
      else none := by
  have cut : (body ++ [a, b]).length - 2 = body.length := by simp
  simp only [frameOfBytes, cut, List.take_left, List.drop_left] <;> rfl

theorem frameOfBytes_frameBytes (f : Frame) : frameOfBytes (frameBytes f).tail = some f := by
  show frameOfBytes (frameBody f ++ [_, _]) = _
  rw [frameOfBytes_append, if_pos rfl]; rfl

theorem frameOfBytes_changed {f : Frame} {n : Nat} {b : Byte} (inside : n < f.payload.length + 5)
    (changed : (frameBytes f).tail[n]? ≠ some b) : frameOfBytes ((frameBytes f).tail.set n b) = none := by
  have whole : (frameBytes f).tail = frameBody f ++ [sumOf (frameBody f), xorOf (frameBody f)] := rfl
  have size := frameBody_length f
  rw [whole] at changed ⊢
  by_cases body : n < (frameBody f).length
  · rw [List.getElem?_append_left body] at changed
    rw [List.set_append_left _ _ body, frameOfBytes_append, if_neg]
    intro same
    exact sum_changed body changed (by simpa using (List.cons.inj same).1.symm)
  · rw [List.getElem?_append_right (Nat.le_of_not_lt body)] at changed
    rw [List.set_append_right _ _ (Nat.le_of_not_lt body)]
    obtain first | second : n - (frameBody f).length = 0 ∨ n - (frameBody f).length = 1 := by omega
    · rw [first] at changed ⊢
      exact (frameOfBytes_append _ _ _).trans (if_neg fun same => changed (congrArg some (List.cons.inj same).1.symm))
    · rw [second] at changed ⊢
      exact (frameOfBytes_append _ _ _).trans
        (if_neg fun same => changed (congrArg some (List.cons.inj (List.cons.inj same).2).1.symm))

theorem frameBytes_eq (f : Frame) :
    frameBytes f = 0xA5 :: BitVec.ofNat 8 (f.payload.length + 2) :: f.kind :: f.tag :: f.payload ++
      [BitVec.ofNat 8 (f.payload.length + 2) + f.kind + f.tag + f.payload.foldl (· + ·) 0,
       BitVec.ofNat 8 (f.payload.length + 2) ^^^ f.kind ^^^ f.tag ^^^ f.payload.foldl (· ^^^ ·) 0] := by
  have sum : sumOf (frameBody f) = BitVec.ofNat 8 (f.payload.length + 2) + f.kind + f.tag + sumOf f.payload := by
    simp only [frameBody, sumOf_cons, BitVec.add_assoc]
  have xor : xorOf (frameBody f) = BitVec.ofNat 8 (f.payload.length + 2) ^^^ f.kind ^^^ f.tag ^^^ xorOf f.payload := by
    simp only [frameBody, xorOf_cons, BitVec.xor_assoc]
  rw [frameBytes, sum, xor]
  rfl

/-! ### The receiver gathers a frame -/

theorem setReceiving_setReceiving (n : Nat) (f g : Line → Line) (s : State) :
    setReceiving n g (setReceiving n f s) = setReceiving n (fun x => g (f x)) s := by
  rw [setReceiving, setReceiving, setReceiving]
  exact congrArg (fun l => { s with lines := l }) (updAt_updAt ..)

theorem lineAt_setReceiving {n : Nat} {s : State} (f : Line → Line) (inside : n < s.lines.length) :
    lineAt (setReceiving n f s) n = f (lineAt s n) := updAt_getD_self _ _ _ _ inside

/-- A receiver that stands outside a frame enters one at a lead byte. -/
theorem lineByte_lead {n : Nat} {s : State} (outside : standsOutside s n = true) :
    lineByte n leadByte s = setReceiving n (insideFrame (nowOf s) []) s := by
  have gone : (if dueNow (nowOf s) (lineAt s n).gapDue then none else (lineAt s n).rx) = none := by
    simp only [standsOutside, Bool.or_eq_true, Option.isNone_iff_eq_none] at outside
    rcases outside with none | due
    · rw [none, ite_self]
    · rw [if_pos due]
  simp only [lineByte, gone, if_true]

/-- A receiver that stands inside a frame takes the next byte into it: its gap, just started, is not due. -/
theorem lineByte_inside {n : Nat} {s : State} (inside : n < s.lines.length) (l : List Byte) (b : Byte) :
    lineByte n b (setReceiving n (insideFrame (nowOf s) l) s) =
      byteInside n (l ++ [b]) (setReceiving n (insideFrame (nowOf s) l) s) := by
  have quiet : dueNow (nowOf s) (some (deadlineAt (nowOf s) (nowOf s + Config.gapLimit))) = false := by
    simp [dueNow, isDue, deadlineAt]
  have now : nowOf (setReceiving n (insideFrame (nowOf s) l) s) = nowOf s := rfl
  simp only [lineByte, now, lineAt_setReceiving _ inside, insideFrame, quiet, Bool.false_eq_true, if_false]

/-- The length byte of a frame that is not the bytes' last keeps the receiver inside, one byte further. -/
theorem byteInside_gathers {n : Nat} {s : State} {l : List Byte} {len : Byte} {rest : List Byte} (shape : l = len :: rest)
    (low : 3 ≤ len.toNat) (high : len.toNat ≤ 40) (short : l.length < len.toNat + 3) (before : List Byte) :
    byteInside n l (setReceiving n (insideFrame (nowOf s) before) s) = setReceiving n (insideFrame (nowOf s) l) s := by
  subst shape
  have formed : ¬ (len.toNat < 3 ∨ 40 < len.toNat) := by omega
  have now : nowOf (setReceiving n (insideFrame (nowOf s) before) s) = nowOf s := rfl
  simp only [byteInside, formed, if_false, if_pos short, now]
  rw [setReceiving_setReceiving]
  rfl

/-- The last byte ends the frame: what was gathered is read, and the receiver stands outside. -/
theorem byteInside_ends {n : Nat} {s : State} {len : Byte} {body : List Byte} (low : 3 ≤ len.toNat) (high : len.toNat ≤ 40)
    (size : body.length = len.toNat + 2) (before : List Byte) :
    byteInside n (len :: body) (setReceiving n (insideFrame (nowOf s) before) s) =
      byteInside n (len :: body) (setReceiving n outsideFrame s) := by
  have formed : ¬ (len.toNat < 3 ∨ 40 < len.toNat) := by omega
  have last : ¬ (len :: body).length < len.toNat + 3 := by rw [List.length_cons, size]; omega
  simp only [byteInside, formed, if_false, if_neg last, setReceiving_setReceiving]
  rfl

theorem byteInside_good {n : Nat} {s : State} {len : Byte} {body : List Byte} {f : Frame} (low : 3 ≤ len.toNat) (high : len.toNat ≤ 40)
    (size : body.length = len.toNat + 2) (read : frameOfBytes (len :: body) = some f) :
    byteInside n (len :: body) s = goodFrame n f (setReceiving n outsideFrame s) := by
  have formed : ¬ (len.toNat < 3 ∨ 40 < len.toNat) := by omega
  have last : ¬ (len :: body).length < len.toNat + 3 := by rw [List.length_cons, size]; omega
  simp only [byteInside, formed, if_false, if_neg last, read]

theorem byteInside_bad {n : Nat} {s : State} {len : Byte} {body : List Byte} (low : 3 ≤ len.toNat) (high : len.toNat ≤ 40)
    (size : body.length = len.toNat + 2) (broken : frameOfBytes (len :: body) = none) :
    byteInside n (len :: body) s = emit (.answer n nakByte) (setReceiving n outsideFrame s) := by
  have formed : ¬ (len.toNat < 3 ∨ 40 < len.toNat) := by omega
  have last : ¬ (len :: body).length < len.toNat + 3 := by rw [List.length_cons, size]; omega
  simp only [byteInside, formed, if_false, if_neg last, broken]

/-- The bytes still to come of what a length byte asks for, taken by a receiver inside a frame. -/
theorem lineBytes_gathers {n : Nat} {s : State} {len : Byte} {body : List Byte} (low : 3 ≤ len.toNat) (high : len.toNat ≤ 40)
    (size : body.length = len.toNat + 2) (inside : n < s.lines.length) (rest : List Byte) :
    ∀ l : List Byte, l ++ rest = len :: body → rest ≠ [] →
      lineBytes n rest (setReceiving n (insideFrame (nowOf s) l) s) = byteInside n (len :: body) (setReceiving n outsideFrame s) := by
  induction rest with
  | nil => exact fun _ _ none => absurd rfl none
  | cons b more ih =>
    intro l whole _
    rw [lineBytes, lineByte_inside inside]
    cases more with
    | nil => rw [lineBytes, whole, byteInside_ends low high size]
    | cons c more =>
      have short : (l ++ [b]).length < len.toNat + 3 := by
        have total := congrArg List.length whole
        simp only [List.length_append, List.length_cons, size] at total ⊢
        simp only [List.length_nil]
        omega
      obtain ⟨begun, shape⟩ : ∃ begun, l ++ [b] = len :: begun := by
        cases l with
        | nil => exact ⟨[], congrArg (fun x => [x]) (List.cons.inj whole).1⟩
        | cons a l => exact ⟨l ++ [b], congrArg (· :: (l ++ [b])) (List.cons.inj whole).1⟩
      rw [byteInside_gathers shape low high short]
      exact ih (l ++ [b]) (by rw [List.append_assoc]; exact whole) (List.cons_ne_nil _ _)

/-- A lead byte at a receiver outside a frame, and all that its length byte asks for. -/
theorem lineBytes_frame {n : Nat} {s : State} {len : Byte} {body : List Byte} (low : 3 ≤ len.toNat) (high : len.toNat ≤ 40)
    (size : body.length = len.toNat + 2) (inside : n < s.lines.length) (outside : standsOutside s n = true) :
    lineBytes n (leadByte :: len :: body) s = byteInside n (len :: body) (setReceiving n outsideFrame s) := by
  rw [lineBytes, lineByte_lead outside]
  exact lineBytes_gathers low high size inside _ [] rfl (List.cons_ne_nil _ _)

/-- R86: a frame that arrives is taken as its bytes are, whatever the receiver's state. -/
theorem frameArrives_eq_bytes {n : Nat} {s : State} (inside : n < s.lines.length) (f : Frame) (low : 1 ≤ f.payload.length)
    (high : f.payload.length ≤ 38) : frameArrives n f s = bytesArrive n (frameBytes f) s := by
  by_cases listens : lineListens s = true
  · by_cases outside : standsOutside s n = true
    · have value : (BitVec.ofNat 8 (f.payload.length + 2) : Byte).toNat = f.payload.length + 2 := by
        rw [BitVec.toNat_ofNat]; omega
      have size : (f.kind :: f.tag :: f.payload ++ [sumOf (frameBody f), xorOf (frameBody f)]).length =
          (BitVec.ofNat 8 (f.payload.length + 2) : Byte).toNat + 2 := by
        rw [value, List.length_append]; rfl
      have taken : lineBytes n (frameBytes f) s = byteInside n (frameBytes f).tail (setReceiving n outsideFrame s) :=
        lineBytes_frame (by omega) (by omega) size inside outside
      have read : byteInside n (frameBytes f).tail (setReceiving n outsideFrame s) =
          goodFrame n f (setReceiving n outsideFrame (setReceiving n outsideFrame s)) :=
        byteInside_good (by omega) (by omega) size (frameOfBytes_frameBytes f)
      rw [bytesArrive, if_pos listens, taken, read, setReceiving_setReceiving]
      simp only [frameArrives, listens, outside, low, high, Bool.not_true, Bool.false_eq_true, if_false, and_self, if_true]
      rfl
    · simp [frameArrives, bytesArrive, listens, outside]
  · simp [frameArrives, bytesArrive, listens]

/-- Settles O45: the sum catches a changed byte before the check bytes, the comparison one of them; the receiver is followed byte by
byte along the frame. -/
theorem framesAreReadBackFromTheirBytes : Obligations.FramesAreReadBackFromTheirBytes := by
  unfold Obligations.FramesAreReadBackFromTheirBytes
  refine ⟨fun f _ _ => ⟨frameBytes_eq f, frameOfBytes_frameBytes f, fun _ _ => frameOfBytes_changed⟩, ?_⟩
  intro s n tag a b code tail payload lines six four low high
  have inside : n.val < s.lines.length := n.isLt.trans_eq lines.symm
  have eleven : (a :: code ++ tail).length = 11 := by simp [six, four]
  have arrives : ∀ f : Frame, 1 ≤ f.payload.length → f.payload.length ≤ 38 →
      (.next (frameArrives n f s) : Host.Outcome State Fault Refusal) = .next (bytesArrive n (frameBytes f) s) :=
    fun f low high => congrArg _ (frameArrives_eq_bytes inside f low high)
  exact ⟨arrives _ (Nat.le_refl 1) (by simp), arrives _ (by simp) (eleven.trans_le (by decide)), arrives _ (Nat.le_refl 1) (by simp),
    arrives _ (Nat.le_refl 1) (by simp), arrives _ (Nat.le_refl 1) (by simp), arrives _ (Nat.le_refl 1) (by simp), arrives _ low high⟩

end Sys2Proof.Machine
end

section
/-! What the events of a terminal line are made of: a good frame taken by a receiver outside a frame, a stray frame, a factor raised in
a kiosk cell, and the closing of a payment record (R86, R87, R96). -/

namespace Sys2Proof.Machine

theorem next_congr {s t : State} (same : s = t) : (.next s : Host.Outcome State Fault Refusal) = .next t := congrArg _ same

/-! ### The receiver outside a frame -/

theorem listens_of_configured {s : State} (configured : s.config ≠ none) : lineListens s = true := Option.isSome_iff_ne_none.mpr configured

theorem updAt_unchanged {α : Type} {l : List α} {n : Nat} {f : α → α} {d : α} (same : f (l.getD n d) = l.getD n d) : updAt l n f = l := by
  rw [updAt_eq_set _ _ _ d, same]
  by_cases inside : n < l.length
  · rw [List.getD_eq_getElem _ _ inside, List.set_getElem_self]
  · exact List.set_eq_of_length_le (Nat.le_of_not_lt inside)

theorem setReceiving_outside {n : Nat} {s : State} (outside : Outside n s) : setReceiving n outsideFrame s = s := by
  have same : outsideFrame (lineAt s n) = lineAt s n := by
    obtain ⟨rx, gap⟩ := outside
    rw [outsideFrame, ← rx, ← gap]
  rw [setReceiving, updAt_unchanged same]

/-- R86: a good frame at a receiver outside a frame is acknowledged and taken. -/
theorem frameArrives_taken {n : Nat} {s : State} (configured : s.config ≠ none) (outside : Outside n s) {f : Frame}
    (low : 1 ≤ f.payload.length) (high : f.payload.length ≤ 38) : frameArrives n f s = frameTaken n f (acked n s) := by
  have stands : standsOutside s n = true := by rw [standsOutside, outside.1]; rfl
  rw [frameArrives, listens_of_configured configured, stands, setReceiving_outside outside]
  simp only [low, high, Bool.not_true, Bool.false_eq_true, if_false, and_self, if_true]
  rfl

/-- R85: an idle receiver takes an answer byte as the line's answer. -/
theorem bytesArrive_ack {n : Nat} {s : State} (configured : s.config ≠ none) (outside : Outside n s) :
    bytesArrive n [ackByte] s = ackReceived n s := by
  have gone : (if dueNow (nowOf s) (lineAt s n).gapDue then none else (lineAt s n).rx) = none := by simp [outside.1]
  rw [bytesArrive, if_pos (listens_of_configured configured)]
  simp only [lineBytes, lineByte, gone]
  rw [if_neg (by decide), if_pos trivial, setReceiving_outside outside]

theorem bytesArrive_nak {n : Nat} {s : State} (configured : s.config ≠ none) (outside : Outside n s) :
    bytesArrive n [nakByte] s = resend n s := by
  have gone : (if dueNow (nowOf s) (lineAt s n).gapDue then none else (lineAt s n).rx) = none := by simp [outside.1]
  rw [bytesArrive, if_pos (listens_of_configured configured)]
  simp only [lineBytes, lineByte, gone]
  rw [if_neg (by decide), if_neg (by decide), if_pos trivial, setReceiving_outside outside]

/-- R87: a stray frame that was acknowledged. -/
theorem strayFrame_acked {s : State} (n : Nat) (canonical : sparseWf (0 : Nat) s.stats) : StrayFrame n s (strayFrame n (acked n s)) := by
  have place : 0x210 + 20 * n = statLine n 4 := by rw [statLine]; omega
  rw [StrayFrame, place]
  exact ⟨rfl, statAt_addStat_self _ _ (s := acked n s) canonical,
    fun o apart => statAt_addStat_other _ _ _ (s := acked n s) canonical apart.symm, rfl⟩

/-! ### A factor raised in a kiosk cell -/

theorem kioskCell_val (k : Fin 12) : kioskCell k = .kiosk k := congrArg CellId.kiosk (Fin.ofNat_val_eq_self k)

theorem raiseKiosk_spec (k : Fin 12) (f : FactorSet) (s : State) (kiosks : s.station.kiosks.length = 12) :
    let t := raiseFactor (.kiosk k) f s
    kioskAt t k = { (kioskAt s k) with factors := (kioskAt s k).factors ||| f, changes := bump (kioskAt s k).changes } ∧
    (∀ j, j ≠ k.val → kioskAt t j = kioskAt s j) ∧ (∃ more, t.wire = s.wire ++ more ∧ ∀ o ∈ more, o = .interrupt) ∧
    t = { s with
      wire := t.wire, board := { s.board with attention := t.board.attention }
      station := { s.station with kiosks := t.station.kiosks } } := by
  have low : k.val < s.station.kiosks.length := k.isLt.trans_eq kiosks.symm
  intro t
  have whole : t = _ := raiseFactor_written (.kiosk k) f s
  rw [whole]
  refine ⟨?_, fun j apart => ?_, ⟨_, rfl, fun o mem => ?_⟩, rfl⟩
  · show (s.station.kiosks.set k _).getD k _ = _
    rw [List.getD_eq_getElem?_getD, List.getElem?_set_self low]
    rfl
  · show (s.station.kiosks.set k _).getD j _ = _
    rw [List.getD_eq_getElem?_getD, List.getElem?_set_ne apart.symm, ← List.getD_eq_getElem?_getD, kioskAt]
  · rw [message] at mem
    split at mem
    · exact List.mem_singleton.mp mem
    · cases mem

theorem factorsOf_raiseKiosk (k : Fin 12) (f : FactorSet) (s : State) (kiosks : s.station.kiosks.length = 12) (cell : CellId) :
    factorsOf (raiseFactor (.kiosk k) f s) cell = if cell = .kiosk k then factorsOf s cell ||| f else factorsOf s cell := by
  obtain ⟨self, others, -, frame⟩ := raiseKiosk_spec k f s kiosks
  have station := congrArg (fun t => t.station) frame
  cases cell with
  | kiosk j =>
    by_cases same : j = k
    · subst same
      rw [if_pos rfl]
      exact (congrArg Kiosk.factors self).trans rfl
    · rw [if_neg (by simpa using same)]
      exact congrArg Kiosk.factors (others j (fun eq => same (Fin.ext eq)))
  | counter m =>
    rw [if_neg (by simp)]
    exact congrArg (fun u : StationUnit => (u.counters.getD m .initial).factors) station |>.trans rfl
  | foyer =>
    rw [if_neg (by simp)]
    exact congrArg (fun u : StationUnit => u.foyer.factors) station |>.trans rfl

/-! ### A record closed (R96) -/

/-- R96, step (4): the count of an outcome. -/
theorem statAt_countOutcome (n : Nat) (o : PayOutcome) {s : State} (canonical : sparseWf (0 : Nat) s.stats) (off : Nat) :
    statAt (countOutcome n o s) off =
      if (o = .approved ∧ off = 24 * n + 8) ∨ (o = .declined ∧ off = 24 * n + 12) ∨ (o = .timedOut ∧ off = 24 * n + 16) ∨
        (o = .unresolved ∧ off = 24 * n + 20) then min (statAt s off + 1) 4294967295 else statAt s off := by
  have counted : ∀ at' : Nat, statAt (addStat at' 1 s) off = if off = at' then min (statAt s off + 1) 4294967295 else statAt s off := by
    intro at'
    split
    case isTrue same => rw [same, statAt_addStat_self _ _ _ canonical]
    case isFalse apart => exact statAt_addStat_other _ _ _ _ canonical (Ne.symm apart)
  cases o <;> simp [countOutcome, counted, statKiosk]

/-- R96, steps (1) and (2): the record's part of a closing. -/
def closesAs (o : PayOutcome) (code : Option (List Byte)) (tail : Option Nat) (order : Nat) (r : PayRecord) : PayRecord :=
  { r with phase := .closed, outcome := some o, code := code, tail := tail, cancelSlots := [], closedOrder := order }

/-- R96, steps (2) and (3): the line's part of a closing. -/
def leavesExchange (now tag order : Nat) (dest : LineState) (x : Line) : Line :=
  enterState now dest (stopWaits { x with lastClosed := some tag, closes := order + 1 })

theorem closedLine_eq (now i : Nat) (o : PayOutcome) (code : Option (List Byte)) (tail : Option Nat) {dest : LineState} (x : Line)
    (rests : dest = .idle ∨ dest = .fault) :
    leavesExchange now (x.records.getD i .empty).tag x.closes dest (recordsWith i (closesAs o code tail x.closes) x) =
      restingLine now dest (withRecord i { (x.records.getD i .empty) with
        phase := .closed, outcome := some o, code := code, tail := tail, cancelSlots := [], closedOrder := x.closes
        changes := bump (x.records.getD i .empty).changes }
        { x with lastClosed := some (x.records.getD i .empty).tag, closes := x.closes + 1 }) := by
  rw [recordsWith_eq]
  rcases rests with rfl | rfl <;> rfl

/-- The line out of its exchange, before the factor, the count and the basket unit. -/
def exchangeOver (n i : Nat) (o : PayOutcome) (code : Option (List Byte)) (tail : Option Nat) (dest : LineState) (s : State) : State :=
  updLine n (leavesExchange (nowOf s) (recordAt s n i).tag (lineAt s n).closes dest)
    (updRecord n i (closesAs o code tail (lineAt s n).closes) s)

/-- R92: TERMINAL_FAULT raised for FAULT alone. -/
def faultRaised (n : Nat) (dest : LineState) (s : State) : State := if dest = .fault then raiseFactor (kioskCell n) kfTerminalFault s else s

/-- R96, step (5): the outcome handed to the basket unit. -/
def outcomeHanded (w : OutcomeReport) (s : State) : State :=
  { s with basketUnit := { s.basketUnit with outcomes := s.basketUnit.outcomes ++ [w] } }

/-- R96 before the answers to CANCEL_PAY. -/
def recordClosed (n i : Nat) (o : PayOutcome) (code : Option (List Byte)) (tail : Option Nat) (dest : LineState) (s : State) : State :=
  outcomeHanded { basket := (recordAt s n i).basket, outcome := o, code := code.getD [], tail := tail }
    (countOutcome n o (faultRaised n dest (exchangeOver n i o code tail dest s)))

theorem closeRecord_eq (n i : Nat) (o : PayOutcome) (code : Option (List Byte)) (tail : Option Nat) (dest : LineState) (s : State) :
    closeRecord n i o code tail dest s = answerCancels (recordAt s n i) o (recordClosed n i o code tail dest s) := by
  cases o <;> rfl

theorem countOutcome_frame (n : Nat) (o : PayOutcome) (s : State) :
    countOutcome n o s = { s with stats := (countOutcome n o s).stats } := by cases o <;> rfl

theorem faultRaised_spec (n : Fin 12) (dest : LineState) (s : State) (kiosks : s.station.kiosks.length = 12) :
    (∀ cell, factorsOf (faultRaised n dest s) cell =
      if dest = .fault ∧ cell = kioskCell n then factorsOf s cell ||| kfTerminalFault else factorsOf s cell) ∧
    (dest ≠ .fault → faultRaised n dest s = s) ∧
    faultRaised n dest s = { s with
      wire := (faultRaised n dest s).wire
      board := { s.board with attention := (faultRaised n dest s).board.attention }
      station := { s.station with kiosks := (faultRaised n dest s).station.kiosks } } := by
  by_cases fault : dest = .fault
  · obtain ⟨-, -, -, frame⟩ := raiseKiosk_spec n kfTerminalFault s kiosks
    have raised : faultRaised n dest s = raiseFactor (.kiosk n) kfTerminalFault s := by rw [← kioskCell_val]; exact if_pos fault
    rw [raised, kioskCell_val]
    exact ⟨fun cell => by simp only [factorsOf_raiseKiosk n _ _ kiosks, fault, true_and], absurd fault, frame⟩
  · have kept : faultRaised n dest s = s := if_neg fault
    rw [kept]
    exact ⟨fun cell => by simp only [fault, false_and, if_false], fun _ => rfl, rfl⟩

/-- What an update of a line derives in the kiosk cells raises no factor. -/
theorem factorsOf_lineStep {n : Nat} {f : Line → Line} {sent : List Output} {s t : State} (step : LineStep n f sent s t)
    (cell : CellId) : factorsOf t cell = factorsOf s cell := by
  cases cell with
  | kiosk k => exact (congrArg Kiosk.factors (step.kiosks k).1).trans rfl
  | counter m => exact congrArg (fun u : State => (u.station.counters.getD m .initial).factors) step.frame |>.trans rfl
  | foyer => exact congrArg (fun u : State => u.station.foyer.factors) step.frame |>.trans rfl

theorem recordClosed_spec {s : State} (n : Fin 12) (i : Nat) (o : PayOutcome) (code : Option (List Byte)) (tail : Option Nat)
    {dest : LineState} (rests : dest = .idle ∨ dest = .fault) (lines : s.lines.length = 12) (kiosks : s.station.kiosks.length = 12)
    (canonical : sparseWf (0 : Nat) s.stats) : RecordClosed n i o code tail dest s (recordClosed n i o code tail dest s) := by
  have inside : n.val < s.lines.length := n.isLt.trans_eq lines.symm
  have step := (LineStep.updRecord n i (closesAs o code tail (lineAt s n).closes) s).trans
    (.updLine n (leavesExchange (nowOf s) (recordAt s n i).tag (lineAt s n).closes dest) _)
  have kiosks' : (exchangeOver n i o code tail dest s).station.kiosks.length = 12 := by
    simp [exchangeOver, Machine.updLine, Machine.updRecord, updKiosk, updAt_length, kiosks]
  obtain ⟨raised, quiet, frame⟩ := faultRaised_spec n dest (exchangeOver n i o code tail dest s) kiosks'
  have counted := countOutcome_frame n o (faultRaised n dest (exchangeOver n i o code tail dest s))
  have lines' : (recordClosed n i o code tail dest s).lines = (exchangeOver n i o code tail dest s).lines :=
    (congrArg State.lines counted :).trans (congrArg State.lines frame :)
  have station : (recordClosed n i o code tail dest s).station = (faultRaised n dest (exchangeOver n i o code tail dest s)).station :=
    (congrArg State.station counted :)
  have stats : (faultRaised n dest (exchangeOver n i o code tail dest s)).stats = s.stats := (congrArg State.stats frame :)
  refine ⟨?_, fun m apart => ?_, fun cell => ?_, fun idle => ?_, fun off => ?_, ?_, ?_⟩
  · rw [lineAt, lines']
    exact (step.lineAt_self inside).trans (closedLine_eq _ _ _ _ _ _ rests)
  · rw [lineAt, lines']
    exact step.lineAt_other apart
  · have cells : factorsOf (recordClosed n i o code tail dest s) cell =
        factorsOf (faultRaised n dest (exchangeOver n i o code tail dest s)) cell := by
      cases cell <;> simp only [factorsOf, kioskAt, counterAt, station]
    rw [cells, raised, ← factorsOf_lineStep step cell]
    rfl
  · have kept := quiet (by rw [idle]; decide)
    exact ⟨(congrArg State.wire counted :).trans (congrArg State.wire kept :), (congrArg State.board counted :).trans (congrArg State.board kept :)⟩
  · refine (statAt_countOutcome n o (s := faultRaised n dest (exchangeOver n i o code tail dest s)) (stats ▸ canonical) off).trans ?_
    rw [statAt, stats, statAt]
  · show ({ (countOutcome n o _).basketUnit with outcomes := _ } : BasketUnit) = _
    rw [counted, frame]
    rfl
  · rw [recordClosed, outcomeHanded, counted, frame]
    rfl

end Sys2Proof.Machine
end

section
/-! The receiver's faults and discards (R85 to R87, R93). -/

namespace Sys2Proof.Machine

/-- A count raised beside a line's update does not disturb what the update moves. -/
theorem LineMoved.counted {n : Nat} {x : Line} {sent : List Output} {s t : State} (moved : LineMoved n x sent s t)
    (stats : List (Nat × Nat)) : LineMoved n x sent { s with stats := stats } { t with stats := stats } := by
  obtain ⟨self, others, wire, kiosks, frame⟩ := moved
  refine ⟨self, others, wire, kiosks, ?_⟩
  rw [frame]

/-! ### Byte faults -/

theorem canFault_iff {s : State} {n : Nat} {kind : ByteFault} : canFault (lineParity s n) kind = true ↔
    (kind = .parity → ∃ p, (cfgOf s).lines[n]? = some p ∧ p.parity ≠ 0) := by
  cases kind with
  | parity =>
    cases line : (cfgOf s).lines[n]? <;> simp [canFault, lineParity, line]
  | framing => simp [canFault]
  | overrun => simp [canFault]

/-- R85: what a faulted byte writes into the line record. -/
def faultCounted (kind : ByteFault) (x : Line) : Line :=
  outsideFrame (match kind with
    | .parity => { x with parityFaults := satCount x.parityFaults }
    | .framing => { x with framingFaults := satCount x.framingFaults }
    | .overrun => { x with overruns := satCount x.overruns })

theorem satCount_eq (n : Nat) : satCount n = min 65535 (n + 1) := Nat.min_comm ..

theorem faultCounted_eq (kind : ByteFault) (x : Line) : faultCounted kind x = { x with
    rx := none, gapDue := none
    parityFaults := if kind = .parity then min 65535 (x.parityFaults + 1) else x.parityFaults
    framingFaults := if kind = .framing then min 65535 (x.framingFaults + 1) else x.framingFaults
    overruns := if kind = .overrun then min 65535 (x.overruns + 1) else x.overruns } := by
  cases kind <;> simp [faultCounted, outsideFrame, satCount_eq]

theorem lineFault_none {s : State} {n : Nat} {kind : ByteFault} (impossible : ¬ canFault (lineParity s n) kind = true) :
    lineFaultOp n kind s = s := by
  rw [lineFaultOp, if_pos (by simp [impossible])]

theorem lineFault_counted {s : State} {n : Nat} {kind : ByteFault} (configured : s.config ≠ none)
    (possible : canFault (lineParity s n) kind = true) :
    lineFaultOp n kind s = addStat (statLine n (byteFaultIndex kind)) 1 (updLine n (faultCounted kind) s) := by
  rw [lineFaultOp, if_neg (by simp [listens_of_configured configured, possible])]
  rfl

/-! ### Bad frames -/

theorem badFrameFormed_cases {bytes : List Byte} (formed : badFrameFormed bytes = true) :
    ∃ len rest, bytes = leadByte :: len :: rest ∧
      ((len.toNat < 3 ∨ 40 < len.toNat) ∧ rest = [] ∨
       3 ≤ len.toNat ∧ len.toNat ≤ 40 ∧ rest.length = len.toNat + 2 ∧ frameOfBytes (len :: rest) = none) := by
  match bytes with
  | lead :: len :: rest =>
    obtain ⟨isLead, body⟩ := Bool.and_eq_true_iff.mp formed
    refine ⟨len, rest, by rw [eq_of_beq isLead], ?_⟩
    by_cases bad : len.toNat < 3 ∨ 40 < len.toNat
    · rw [if_pos bad] at body
      exact .inl ⟨bad, List.isEmpty_iff.mp body⟩
    · rw [if_neg bad] at body
      obtain ⟨size, broken⟩ := Bool.and_eq_true_iff.mp body
      exact .inr ⟨by omega, by omega, eq_of_beq size, Option.isNone_iff_eq_none.mp broken⟩

/-- R86: a bad frame is answered NAK when its bytes end it. -/
theorem bytesArrive_bad {s : State} {n : Nat} (inside : n < s.lines.length) (configured : s.config ≠ none) (outside : Outside n s)
    {bytes : List Byte} (formed : badFrameFormed bytes = true) : bytesArrive n bytes s = { s with wire := s.wire ++ [.answer n 0x15] } := by
  have stands : standsOutside s n = true := by rw [standsOutside, outside.1]; rfl
  rw [bytesArrive, if_pos (listens_of_configured configured)]
  obtain ⟨len, rest, rfl, ⟨bad, rfl⟩ | ⟨low, high, size, broken⟩⟩ := badFrameFormed_cases formed
  · rw [lineBytes, lineBytes, lineBytes, lineByte_lead stands, lineByte_inside inside, List.nil_append]
    simp only [byteInside, if_pos bad, setReceiving_setReceiving]
    exact congrArg (emit (.answer n nakByte)) (setReceiving_outside outside)
  · rw [lineBytes_frame low high size inside stands, byteInside_bad low high size broken,
      setReceiving_outside outside, setReceiving_outside outside]
    rfl

/-- R87: a frame of a kind or a length the terminal does not send is stray. -/
theorem frameTaken_unknown {f : Frame} (unknown : payloadLength f.kind ≠ some f.payload.length) (n : Nat) (s : State) :
    frameTaken n f s = strayFrame n s := if_neg unknown

/-- R93: a line of an unconfigured part takes no byte. -/
theorem bytesArrive_unconfigured {s : State} (none : s.config = none) (n : Nat) (bytes : List Byte) : bytesArrive n bytes s = s := by
  simp [bytesArrive, lineListens, running, none]

theorem frameArrives_unconfigured {s : State} (none : s.config = none) (n : Nat) (f : Frame) : frameArrives n f s = s := by
  simp [frameArrives, lineListens, running, none]

/-- Settles O46. -/
theorem receiverCountsDiscardsAndAnswers : Obligations.ReceiverCountsDiscardsAndAnswers := by
  unfold Obligations.ReceiverCountsDiscardsAndAnswers
  refine ⟨?_, ?_, ?_⟩
  · intro s n lines canonical configured x
    have inside : n.val < s.lines.length := n.isLt.trans_eq lines.symm
    refine ⟨fun kind => ?_, fun outside bytes formed => ?_, fun outside kind tag payload formed => ?_⟩
    · intro possible
      refine ⟨fun impossible => congrArg _ (lineFault_none (fun can => impossible (canFault_iff.mp can))), fun can => ?_⟩
      refine ⟨_, next_congr (lineFault_counted configured (canFault_iff.mpr can)), ?_, ?_⟩
      · intro off
        have place : off = statLine n (byteFaultIndex kind) := by cases kind <;> rfl
        rw [place]
        exact statAt_addStat_of_stats_eq (u := updLine n (faultCounted kind) s) rfl canonical _ 1
      · rw [← faultCounted_eq]
        exact ((LineStep.updLine n (faultCounted kind) s).moved inside).counted _
    · exact ⟨_, next_congr (bytesArrive_bad inside configured outside formed), rfl⟩
    · simp only [unknownFormed, Bool.and_eq_true, decide_eq_true_eq, bne_iff_ne] at formed
      obtain ⟨⟨low, high⟩, unknown⟩ := formed
      refine ⟨_, next_congr (frameArrives_taken configured outside (f := ⟨kind, tag, payload⟩) low high), ?_⟩
      rw [frameTaken_unknown unknown]
      exact strayFrame_acked n canonical
  · intro s n d lines present due set
    have inside : n.val < s.lines.length := n.isLt.trans_eq lines.symm
    have now : dueNow (nowOf s) (lineAt s n).gapDue = true := by rw [present]; exact isDue_iff.mpr ⟨due, set⟩
    refine ⟨_, next_congr (if_pos now), lineAt_setReceiving _ inside, fun m apart => updAt_getD_other _ _ _ _ _ apart.symm, rfl⟩
  · intro s n c none which
    rcases which with ⟨kind, rfl⟩ | ⟨bytes, rfl⟩ | rfl | rfl | ⟨tag, a, rfl⟩ | ⟨tag, v, code, tail, rfl⟩ | ⟨tag, a, rfl⟩ |
      ⟨tag, a, rfl⟩ | ⟨tag, a, rfl⟩ | ⟨tag, a, rfl⟩ | ⟨kind, tag, payload, rfl⟩
    · have deaf : lineFaultOp n kind s = s := by simp [lineFaultOp, lineListens, running, none]
      exact congrArg _ deaf
    · exact next_congr (bytesArrive_unconfigured none ..)
    · exact next_congr (bytesArrive_unconfigured none ..)
    · exact next_congr (bytesArrive_unconfigured none ..)
    all_goals exact next_congr (frameArrives_unconfigured none ..)

end Sys2Proof.Machine
end

section
/-! Exchanges of a terminal line (R88, R92, R97 to R100): the ABORT sent, the line into FAULT, the awaited frame delivered or sent
again. -/

namespace Sys2Proof.Machine

/-- A line updated while something is sent. -/
theorem LineStep.sends (n : Nat) (f : Line → Line) (o : Output) (s : State) : LineStep n f [o] s (Machine.updLine n f (emit o s)) where
  lines := rfl
  wire := rfl
  kiosks := fun k => updKiosk_like n k id (fun _ => ⟨rfl, rfl, rfl⟩) _
  frame := rfl

/-! ### A completion beside a line's update -/

theorem sendInterrupt_beside (lines : List Line) (station : StationUnit) (s : State) :
    sendInterrupt { s with lines := lines, station := station } = { sendInterrupt s with lines := lines, station := station } := by
  simp only [sendInterrupt]
  split <;> rfl

theorem serveNotice_beside (lines : List Line) (station : StationUnit) (s : State) :
    serveNotice { s with lines := lines, station := station } = { serveNotice s with lines := lines, station := station } := by
  have config : cfgOf { s with lines := lines, station := station } = cfgOf s := rfl
  have set : ∀ b : Board, setCompletions { s with board := b, lines := lines, station := station } =
      { setCompletions { s with board := b } with lines := lines, station := station } :=
    fun b => sendInterrupt_beside _ _ { s with board := { b with completions := true, coalescing := none } }
  simp only [serveNotice, config, set]
  repeat' split
  all_goals rfl

theorem completeSlot_updLine (slot : Nat) (code : ResultCode) (fields : List Byte) (n : Nat) (f : Line → Line) (s : State) :
    completeSlot slot code fields (updLine n f s) = updLine n f (completeSlot slot code fields s) := by
  have apart : (completeSlot slot code fields s).lines = s.lines ∧ (completeSlot slot code fields s).station = s.station := by simp
  simp only [Machine.updLine, updKiosk, apart]
  exact serveNotice_beside _ _ (writeCompletion slot code fields s)

/-! ### ABORT (R98, R99) -/

theorem abortFrame_eq (tag : Nat) (cause : AbortCause) : abortFrame tag cause = abortOf tag cause := by cases cause <;> rfl

/-- The line's part of an ABORT. -/
def abortsExchange (now i tag : Nat) (cause : AbortCause) (x : Line) : Line :=
  { enterState now .aborting (recordsWith i (fun r => { r with phase := .aborting, cause := some cause }) x) with
    authDue := none, abortDue := some ⟨now + 10000, now⟩, awaiting := sentAt now (abortFrame tag cause) }

theorem LineStep.startAbort (n i : Nat) (cause : AbortCause) (s : State) :
    LineStep n (abortsExchange (nowOf s) i (recordAt s n i).tag cause) [.frame n (abortFrame (recordAt s n i).tag cause)] s
      (Machine.startAbort n i cause s) :=
  ((LineStep.updRecord n i (fun r => { r with phase := .aborting, cause := some cause }) s).trans
    (.updLine n (fun x => { enterState (nowOf s) .aborting x with
      authDue := none, abortDue := some (deadlineAt (nowOf s) (nowOf s + Config.abortWait)) }) _)).trans
    (.sendFrame n (abortFrame (recordAt s n i).tag cause) _)

theorem abortsExchange_eq (now i : Nat) (cause : AbortCause) (x : Line) :
    abortsExchange now i (x.records.getD i .empty).tag cause x = abortingLine now i cause (x.records.getD i .empty) x := by
  rw [abortsExchange, recordsWith_eq, abortFrame_eq]
  rfl

/-! ### FAULT (R92) -/

theorem enterFault_open {n i : Nat} {s : State} (found : openRecord s n = some i) (code : ResultCode) :
    enterFault n code s = answerCancels (recordAt s n i) .unresolved (recordClosed n i .unresolved none none .fault s) := by
  rw [enterFault, found]
  exact closeRecord_eq ..

theorem enterFault_quiet {n : Nat} {s : State} (inside : n < s.lines.length) (no : openRecord s n = none)
    (idle : (lineAt s n).reversing = none) (code : ResultCode) :
    ∃ u, enterFault n code s = raiseFactor (kioskCell n) kfTerminalFault u ∧
      LineMoved n (restingLine (nowOf s) .fault (lineAt s n)) [] s u := by
  refine ⟨updLine n (fun x => enterState (nowOf s) .fault (stopWaits x)) s, ?_, (LineStep.updLine n _ s).moved inside⟩
  simp only [enterFault, no, endReverse, idle]

theorem enterFault_reversing {n slot tag : Nat} {s : State} (inside : n < s.lines.length) (no : openRecord s n = none)
    (reverses : (lineAt s n).reversing = some (slot, tag)) (code : ResultCode) :
    ∃ u, enterFault n code s = raiseFactor (kioskCell n) kfTerminalFault u ∧
      LineMoved n (restingLine (nowOf s) .fault (lineAt s n)) [] (completeSlot slot code [] s) u := by
  have kept : (completeSlot slot code [] s).lines = s.lines := by simp
  have step := (LineStep.updLine n (fun x => { x with reversing := none, reverseDue := none }) (completeSlot slot code [] s)).trans
    (.updLine n (fun x => enterState (nowOf s) .fault (stopWaits x)) _)
  have moved := step.moved (kept ▸ inside)
  rw [lineAt, kept] at moved
  refine ⟨_, ?_, moved⟩
  simp only [enterFault, no, endReverse, reverses, finish, completeSlot_updLine]

/-! ### Answers (R88) -/

theorem ackReceived_none {n : Nat} {s : State} (none : (lineAt s n).awaiting = none) : ackReceived n s = s := by
  simp only [ackReceived, none]

theorem resend_none {n : Nat} {s : State} (none : (lineAt s n).awaiting = none) : resend n s = s := by simp only [resend, none]

theorem ackWait_none {n : Nat} {s : State} (none : (lineAt s n).awaiting = none) : ackWaitOp n s = s := by
  simp only [ackWaitOp, none]

theorem ackWait_due {n : Nat} {s : State} {a : Awaiting} (awaits : (lineAt s n).awaiting = some a)
    (due : a.due.value ≤ s.showUnit.runTime) (set : a.due.setAt < s.showUnit.runTime) : ackWaitOp n s = resend n s := by
  have now : isDue (nowOf s) a.due = true := isDue_iff.mpr ⟨due, set⟩
  simp only [ackWaitOp, awaits, now, if_true]

theorem ackReceived_delivers {n : Nat} {s : State} {a : Awaiting} (awaits : (lineAt s n).awaiting = some a)
    (other : openRecord s n = none ∨ ∃ i, openRecord s n = some i ∧ (recordAt s n i).phase ≠ .awaitAck) :
    ackReceived n s = updLine n (fun x => { x with awaiting := none }) s := by
  rcases other with none | ⟨i, found, phase⟩
  · simp only [ackReceived, awaits]
    rw [show openRecord s n = _ from none]
  · simp only [ackReceived, awaits, found, phase, if_false]

theorem ackReceived_auth {n i : Nat} {s : State} {a : Awaiting} (awaits : (lineAt s n).awaiting = some a)
    (found : openRecord s n = some i) (phase : (recordAt s n i).phase = .awaitAck) (cause : (recordAt s n i).cause = none) :
    ackReceived n s = updRecord n i (fun r => { r with phase := .authorizing }) (updLine n (fun x => { x with awaiting := none }) s) := by
  simp only [ackReceived, awaits, found, phase, cause, if_true]

theorem ackReceived_abort {n i : Nat} {s : State} {a : Awaiting} {c : AbortCause} (awaits : (lineAt s n).awaiting = some a)
    (found : openRecord s n = some i) (phase : (recordAt s n i).phase = .awaitAck) (cause : (recordAt s n i).cause = some c) :
    ackReceived n s = startAbort n i c (updLine n (fun x => { x with awaiting := none }) s) := by
  simp only [ackReceived, awaits, found, phase, cause, if_true]

theorem resend_again {n : Nat} {s : State} {a : Awaiting} (awaits : (lineAt s n).awaiting = some a) (few : a.sendings < 3) :
    resend n s = addStat (statLine n 3) 1 (updLine n (fun x => { x with awaiting := some { a with
      sendings := a.sendings + 1, due := ⟨s.showUnit.runTime + 300, s.showUnit.runTime⟩ } }) (emit (.frame n a.frame) s)) := by
  have more : a.sendings < Config.maxSendings := few
  simp only [resend, awaits, more, if_true]
  rfl

theorem resend_fails {n : Nat} {s : State} {a : Awaiting} (awaits : (lineAt s n).awaiting = some a) (many : 3 ≤ a.sendings) :
    resend n s = enterFault n .timedOut s := by
  have last : ¬ a.sendings < Config.maxSendings := Nat.not_lt.mpr many
  simp only [resend, awaits, last, if_false]

/-- Settles O47. -/
theorem framesAreDeliveredOrResent : Obligations.FramesAreDeliveredOrResent := by
  unfold Obligations.FramesAreDeliveredOrResent
  intro s n lines kiosks counters canonical configured outside x now
  have inside : n.val < s.lines.length := n.isLt.trans_eq lines.symm
  have stats : sparseWf (0 : Nat) s.stats := canonical.stats
  have ack : exec (.ack n) s = .next (ackReceived n s) := next_congr (bytesArrive_ack configured outside)
  have nak : exec (.nak n) s = .next (resend n s) := next_congr (bytesArrive_nak configured outside)
  refine ⟨fun none => ⟨ack.trans (next_congr (ackReceived_none none)), nak.trans (next_congr (resend_none none)),
    next_congr (ackWait_none none)⟩, fun a awaits => ⟨fun other => ?_, fun i found phase => ?_, fun c which => ?_⟩⟩
  · exact ⟨_, ack.trans (next_congr (ackReceived_delivers awaits other)), (LineStep.updLine n _ s).moved inside⟩
  · refine ⟨fun cause => ?_, fun c cause => ?_⟩
    · refine ⟨_, ack.trans (next_congr (ackReceived_auth awaits found phase cause)), ?_⟩
      have moved := ((LineStep.updLine n (fun x => { x with awaiting := none }) s).trans
        (.updRecord n i (fun r => { r with phase := .authorizing }) _)).moved inside
      rw [recordsWith_eq] at moved
      exact moved
    · refine ⟨_, ack.trans (next_congr (ackReceived_abort awaits found phase cause)), ?_⟩
      have first := LineStep.updLine n (fun x => { x with awaiting := none }) s
      have same : recordAt (updLine n (fun x => { x with awaiting := none }) s) n i = recordAt s n i :=
        congrArg (fun x : Line => x.records.getD i .empty) (first.lineAt_self inside) |>.trans rfl
      have moved := (first.trans (.startAbort n i c _)).moved inside
      rw [same, abortFrame_eq] at moved
      have line := abortsExchange_eq now i c { x with awaiting := none }
      exact (congrArg (fun y => LineMoved n y _ s _) line).mp moved
  · have run : exec c s = .next (resend n s) := by
      rcases which with rfl | ⟨rfl, due, set⟩
      · exact nak
      · exact next_congr (ackWait_due awaits due set)
    refine ⟨fun few => ?_, fun many => ⟨fun i found => ?_, fun slot tag no reverses => ?_⟩⟩
    · refine ⟨_, run.trans (next_congr (resend_again awaits few)), ?_, ?_⟩
      · have place : 0x20C + 20 * n.val = statLine n 3 := by rw [statLine]; omega
        rw [place]
        exact statAt_addStat_of_stats_eq rfl stats _ 1
      · exact ((LineStep.sends n _ _ s).moved inside).counted _
    · exact ⟨_, recordClosed_spec n i .unresolved none none (.inr rfl) lines kiosks stats,
        run.trans (next_congr ((resend_fails awaits many).trans (enterFault_open found _)))⟩
    · obtain ⟨u, faulted, moved⟩ := enterFault_reversing inside no reverses .timedOut
      exact ⟨u, run.trans (next_congr ((resend_fails awaits many).trans faulted)), moved⟩

end Sys2Proof.Machine
end

section
/-! CARD and RESULT (R97, R101, R102): which record a tag names, what the bytes of a RESULT say, and what each does. -/

namespace Sys2Proof.Machine

/-! ### The record a tag names -/

theorem findIdx?_eq_some_getD {α : Type} {p : α → Bool} {l : List α} {i : Nat} (d : α) :
    l.findIdx? p = some i ↔ i < l.length ∧ p (l.getD i d) = true ∧ ∀ j < i, ¬ p (l.getD j d) = true := by
  rw [List.findIdx?_eq_some_iff_getElem]
  constructor
  · rintro ⟨inside, here, before⟩
    refine ⟨inside, by rwa [List.getD_eq_getElem _ _ inside], fun j lower => ?_⟩
    rw [List.getD_eq_getElem _ _ (lower.trans inside)]
    exact before j lower
  · rintro ⟨inside, here, before⟩
    refine ⟨inside, by rwa [List.getD_eq_getElem _ _ inside] at here, fun j lower => ?_⟩
    have free := before j lower
    rwa [List.getD_eq_getElem _ _ (lower.trans inside)] at free

theorem findIdx?_eq_none_getD {α : Type} {p : α → Bool} {l : List α} (d : α) :
    l.findIdx? p = none ↔ ∀ i < l.length, ¬ p (l.getD i d) = true := by
  rw [List.findIdx?_eq_none_iff]
  constructor
  · intro no i inside
    rw [List.getD_eq_getElem _ _ inside, no _ (List.getElem_mem inside)]
    decide
  · intro no x listed
    obtain ⟨i, inside, rfl⟩ := List.mem_iff_getElem.mp listed
    have free := no i inside
    rw [List.getD_eq_getElem _ _ inside] at free
    exact Bool.eq_false_iff.mpr free

theorem openRecord_iff {s : State} {n i : Nat} (four : (lineAt s n).records.length = 4) : openRecord s n = some i ↔
    i < 4 ∧ ((recordAt s n i).tag ≠ 0 ∧ (recordAt s n i).phase ≠ .closed) ∧
      ∀ j < i, ¬ ((recordAt s n j).tag ≠ 0 ∧ (recordAt s n j).phase ≠ .closed) := by
  rw [openRecord, findIdx?_eq_some_getD .empty, four]
  simp only [recordAt, Bool.and_eq_true, bne_iff_ne]

theorem openRecord_none_iff {s : State} {n : Nat} (four : (lineAt s n).records.length = 4) : openRecord s n = none ↔
    ∀ i < 4, ¬ ((recordAt s n i).tag ≠ 0 ∧ (recordAt s n i).phase ≠ .closed) := by
  rw [openRecord, findIdx?_eq_none_getD .empty, four]
  simp only [recordAt, Bool.and_eq_true, bne_iff_ne]

theorem recordWithTag_iff {s : State} {n tag i : Nat} (four : (lineAt s n).records.length = 4) : recordWithTag s n tag = some i ↔
    i < 4 ∧ (tag ≠ 0 ∧ (recordAt s n i).tag = tag) ∧ ∀ j < i, ¬ (tag ≠ 0 ∧ (recordAt s n j).tag = tag) := by
  by_cases zero : tag = 0
  · simp [recordWithTag, zero]
  · rw [recordWithTag, if_neg zero, findIdx?_eq_some_getD .empty, four]
    simp only [recordAt, beq_iff_eq, ne_eq, zero, not_false_eq_true, true_and]

theorem recordWithTag_none_iff {s : State} {n tag : Nat} (four : (lineAt s n).records.length = 4) : recordWithTag s n tag = none ↔
    ∀ i < 4, ¬ (tag ≠ 0 ∧ (recordAt s n i).tag = tag) := by
  by_cases zero : tag = 0
  · simp [recordWithTag, zero]
  · rw [recordWithTag, if_neg zero, findIdx?_eq_none_getD .empty, four]
    simp only [recordAt, beq_iff_eq, ne_eq, zero, not_false_eq_true, true_and]

/-! ### The verdict of a RESULT (R89) -/

theorem digitsValue_digits {l : List Nat} (digits : ∀ d ∈ l, d < 10) :
    digitsValue l < 10 ^ l.length ∧ digitsOf l.length (digitsValue l) = l := by
  induction l using List.reverseRecOn with
  | nil => exact ⟨by decide, rfl⟩
  | append_singleton l d ih =>
    obtain ⟨low, back⟩ := ih fun x listed => digits x (List.mem_append_left _ listed)
    have digit : d < 10 := digits d (List.mem_append_right _ (List.mem_singleton_self d))
    have upper : (10 * digitsValue l + d) / 10 = digitsValue l := by omega
    have lower : (10 * digitsValue l + d) % 10 = d := by omega
    rw [digitsValue_concat, List.length_append, List.length_singleton, Nat.pow_succ, digitsOf, upper, lower, back]
    exact ⟨by omega, rfl⟩

/-- Characters that are digits are those of a number of their length. -/
theorem allDigits_iff {l : List Byte} {n : Nat} (size : l.length = n) : l.all isDigit = true ↔
    ∃ d < 10 ^ n, digitsValue (charDigits l) = d ∧ l = (digitsOf n d).map digitChar := by
  subst size
  constructor
  · intro all
    have range : ∀ b ∈ l, 0x30 ≤ b.toNat ∧ b.toNat ≤ 0x39 := fun b listed => isDigit_iff.mp (List.all_eq_true.mp all b listed)
    have digits : ∀ d ∈ charDigits l, d < 10 := by
      intro d listed
      obtain ⟨b, mem, rfl⟩ := List.mem_map.mp listed
      have := range b mem
      omega
    obtain ⟨low, back⟩ := digitsValue_digits digits
    rw [charDigits, List.length_map, ← charDigits] at low back
    refine ⟨_, low, rfl, ?_⟩
    have same : ∀ b ∈ l, digitChar (b.toNat - 0x30) = b := by
      intro b mem
      have := range b mem
      rw [digitChar, Nat.add_sub_cancel' this.1, BitVec.ofNat_toNat, BitVec.setWidth_eq]
    rw [back, charDigits, List.map_map]
    exact ((List.map_congr_left (g := id) same).trans (List.map_id l)).symm
  · rintro ⟨d, -, -, shape⟩
    rw [shape, List.all_map, List.all_eq_true]
    exact fun x listed => isDigit_digitChar (lt_ten_of_mem_digitsOf listed)

theorem allDigits_digitChars (n d : Nat) : ((digitsOf n d).map digitChar).all isDigit = true := by
  rw [List.all_map, List.all_eq_true]
  exact fun x listed => isDigit_digitChar (lt_ten_of_mem_digitsOf listed)

theorem allSpaces_iff {l : List Byte} (four : l.length = 4) : l.all (fun b => b == 0x20) = true ↔ l = [0x20, 0x20, 0x20, 0x20] := by
  have spaces : ([0x20, 0x20, 0x20, 0x20] : List Byte) = List.replicate 4 0x20 := rfl
  rw [spaces, List.eq_replicate_iff, List.all_eq_true]
  simp [four]

/-- R89: the bytes of an approval, with its tail absent or four digits. -/
def Approves (a : Byte) (code tail : List Byte) (tv : Option Nat) : Prop :=
  a = 0x01 ∧ (∀ b ∈ code, 0x20 ≤ b.toNat ∧ b.toNat ≤ 0x7E) ∧
    (tv = none ∧ tail = [0x20, 0x20, 0x20, 0x20] ∨ ∃ d < 10000, tv = some d ∧ tail = (digitsOf 4 d).map digitChar)

section
variable {a : Byte} {code tail : List Byte} (six : code.length = 6) (four : tail.length = 4)
include six four

theorem verdictOf_eq : verdictOf (a :: code ++ tail) =
    if a = 0x02 then some .declined
    else if a = 0x01 then
      if !code.all isPrintable then none
      else if tail.all (fun b => b == 0x20) then some (.approved code none)
      else if tail.all isDigit then some (.approved code (some (digitsValue (charDigits tail))))
      else none
    else none := by
  have code' : (code ++ tail).take 6 = code := by rw [← six, List.take_left]
  have tail' : ((code ++ tail).drop 6).take 4 = tail := by rw [← six, List.drop_left, ← four, List.take_length]
  have head : ((a :: code ++ tail).drop 1).take 6 = code := code'
  have rest : ((a :: code ++ tail).drop 7).take 4 = tail := tail'
  rw [verdictOf, head, rest]
  rfl

theorem verdictOf_declined (declines : a = 0x02) : verdictOf (a :: code ++ tail) = some .declined := by
  rw [verdictOf_eq six four, if_pos declines]

theorem verdictOf_approved_iff {tv : Option Nat} : verdictOf (a :: code ++ tail) = some (.approved code tv) ↔ Approves a code tail tv := by
  rw [verdictOf_eq six four, Approves, ← all_isPrintable_iff]
  by_cases declines : a = 0x02
  · simp [declines]
  rw [if_neg declines]
  by_cases approves : a = 0x01
  case neg => exact ⟨fun same => (by rw [if_neg approves] at same; cases same), fun h => absurd h.1 approves⟩
  rw [if_pos approves]
  by_cases printable : code.all isPrintable = true
  case neg => exact ⟨fun same => (by simp [printable] at same), fun h => absurd h.2.1 printable⟩
  simp only [approves, printable, true_and, Bool.not_true, Bool.false_eq_true, if_false]
  by_cases spaces : tail.all (fun b => b == 0x20) = true
  · have shape := (allSpaces_iff four).mp spaces
    have undigited : ∀ d, tail ≠ (digitsOf 4 d).map digitChar := by
      intro d same
      have digits : tail.all isDigit = true := same ▸ allDigits_digitChars 4 d
      rw [shape] at digits
      exact absurd digits (by decide)
    rw [if_pos spaces]
    constructor
    · rintro ⟨⟩
      exact .inl ⟨rfl, shape⟩
    · rintro (⟨rfl, -⟩ | ⟨d, -, -, same⟩)
      · rfl
      · exact absurd same (undigited d)
  · rw [if_neg spaces]
    constructor
    · intro same
      by_cases digits : tail.all isDigit = true
      · obtain ⟨d, low, value, shape⟩ := (allDigits_iff four).mp digits
        rw [if_pos digits, value] at same
        cases same
        exact .inr ⟨d, low, rfl, shape⟩
      · rw [if_neg digits] at same
        cases same
    · rintro (⟨-, shape⟩ | ⟨d, low, rfl, shape⟩)
      · exact absurd ((allSpaces_iff four).mpr shape) spaces
      · have digits : tail.all isDigit = true := shape ▸ allDigits_digitChars 4 d
        rw [if_pos digits, shape, charDigits_map_digitChar fun x => lt_ten_of_mem_digitsOf, digitsValue_digitsOf,
          Nat.mod_eq_of_lt (show d < 10 ^ 4 from low)]

theorem approves_of_verdict {c : List Byte} {tv : Option Nat} (verdict : verdictOf (a :: code ++ tail) = some (.approved c tv)) :
    Approves a code tail tv := by
  have same : c = code := by
    rw [verdictOf_eq six four] at verdict
    split_ifs at verdict <;> cases verdict <;> rfl
  exact (verdictOf_approved_iff six four).mp (same ▸ verdict)

/-- What is no approval and no decline breaks the conditions of R89. -/
theorem verdictOf_none (no : ∀ tv, ¬ Approves a code tail tv) (other : a ≠ 0x02) : verdictOf (a :: code ++ tail) = none := by
  cases verdict : verdictOf (a :: code ++ tail) with
  | none => rfl
  | some v =>
    cases v with
    | approved c tv => exact absurd (approves_of_verdict six four verdict) (no tv)
    | declined =>
      rw [verdictOf_eq six four, if_neg other] at verdict
      split_ifs at verdict <;> cases verdict

end

/-! ### The frames -/

theorem exec_card {s : State} {n : Fin 12} (configured : s.config ≠ none) (outside : Outside n s) (tag a : Byte) :
    exec (.card n tag a) s = .next (cardFrame n tag.toNat a (acked n s)) :=
  next_congr (frameArrives_taken configured outside (f := ⟨fkCard, tag, [a]⟩) (Nat.le_refl 1) (by simp))

theorem exec_result {s : State} {n : Fin 12} (configured : s.config ≠ none) (outside : Outside n s) (tag a : Byte)
    {code tail : List Byte} (six : code.length = 6) (four : tail.length = 4) :
    exec (.result n tag a code tail) s = .next (resultFrame n tag.toNat (a :: code ++ tail) (acked n s)) := by
  have eleven : (a :: code ++ tail).length = 11 := by simp [six, four]
  have taken : frameTaken n ⟨fkResult, tag, a :: code ++ tail⟩ (acked n s) =
      resultFrame n tag.toNat (a :: code ++ tail) (acked n s) := by
    simp only [frameTaken]
    rw [eleven]
    rfl
  exact next_congr ((frameArrives_taken configured outside (by rw [eleven]; decide) (by rw [eleven]; decide)).trans taken)

theorem cardFrame_open {s : State} {n i tag : Nat} (found : openRecord s n = some i) (same : (recordAt s n i).tag = tag) (kind : Byte) :
    cardFrame n tag kind s = raiseFactor (kioskCell n) kfCardPresented
      (updRecord n i (fun r => { r with cardPresented := true, cardKind := some kind.toNat }) s) := by
  simp only [cardFrame, found, same, if_true]

theorem cardFrame_stray {s : State} {n tag : Nat} (other : ∀ i, openRecord s n = some i → (recordAt s n i).tag ≠ tag) (kind : Byte) :
    cardFrame n tag kind s = strayFrame n s := by
  cases found : openRecord s n with
  | none => simp only [cardFrame, found]
  | some i => simp only [cardFrame, found, other i found, if_false]

theorem resultFrame_approved {s : State} {n i tag : Nat} {payload code : List Byte} {tv : Option Nat} (found : openRecord s n = some i)
    (same : (recordAt s n i).tag = tag) (verdict : verdictOf payload = some (.approved code tv)) :
    resultFrame n tag payload s = closeRecord n i .approved (some code) tv .idle s := by
  simp only [resultFrame, found, same, verdict, if_true]

theorem resultFrame_declined {s : State} {n i tag : Nat} {payload : List Byte} (found : openRecord s n = some i)
    (same : (recordAt s n i).tag = tag) (verdict : verdictOf payload = some .declined) :
    resultFrame n tag payload s = closeRecord n i .declined none none .idle s := by
  simp only [resultFrame, found, same, verdict, if_true]

theorem resultFrame_broken {s : State} {n i tag : Nat} {payload : List Byte} (found : openRecord s n = some i)
    (same : (recordAt s n i).tag = tag) (verdict : verdictOf payload = none) : resultFrame n tag payload s = strayFrame n s := by
  simp only [resultFrame, found, same, verdict, if_true]

theorem resultFrame_late {s : State} {n tag : Nat} (other : ∀ i, openRecord s n = some i → (recordAt s n i).tag ≠ tag)
    (payload : List Byte) : resultFrame n tag payload s = lateOrStray n tag (verdictOf payload) s := by
  cases found : openRecord s n with
  | none => simp only [resultFrame, found]
  | some i => simp only [resultFrame, found, other i found, if_false]

theorem lateOrStray_stray {s : State} {n tag : Nat} {v : Option Verdict} (other : ∀ code tv, v ≠ some (.approved code tv)) :
    lateOrStray n tag v s = strayFrame n s := by
  match v with
  | none => rfl
  | some .declined => rfl
  | some (.approved code tv) => exact absurd rfl (other code tv)

section
variable {s : State} {n tag i : Nat} {code : List Byte} {tv : Option Nat}

theorem any_late_iff (l : List Late) : l.any (fun e => e.tag == tag) = true ↔ ∃ e ∈ l, e.tag = tag := by
  simp [List.any_eq_true]

theorem lateOrStray_useless (useless : recordWithTag s n tag = none ∨ (lineAt s n).lastClosed ≠ some tag ∨
      (∃ e ∈ (lineAt s n).late, e.tag = tag) ∨ ∃ i, recordWithTag s n tag = some i ∧
        ((recordAt s n i).phase ≠ .closed ∨ (recordAt s n i).outcome = some .approved)) :
    lateOrStray n tag (some (.approved code tv)) s = strayFrame n s := by
  cases found : recordWithTag s n tag with
  | none => simp only [lateOrStray, found]
  | some i =>
    simp only [lateOrStray, found]
    by_cases last : (lineAt s n).lastClosed = some tag ∧ (recordAt s n i).phase = .closed ∧ (recordAt s n i).outcome ≠ some .approved
    · rw [if_pos last, if_pos]
      rcases useless with no | other | listed | ⟨j, at', open'⟩
      · rw [found] at no; cases no
      · exact absurd last.1 other
      · exact (any_late_iff _).mpr listed
      · rw [found] at at'
        cases at'
        exact open'.elim (absurd last.2.1) (fun yes => absurd yes last.2.2)
    · rw [if_neg last]

variable (found : recordWithTag s n tag = some i) (last : (lineAt s n).lastClosed = some tag) (closed : (recordAt s n i).phase = .closed)
  (other : (recordAt s n i).outcome ≠ some .approved) (fresh : ∀ e ∈ (lineAt s n).late, e.tag ≠ tag)
include found last closed other fresh

theorem lateOrStray_joins (room : (lineAt s n).late.length < 4) : lateOrStray n tag (some (.approved code tv)) s =
    raiseFactor (kioskCell n) kfLateApproval (updLine n (fun x => { x with
      late := x.late ++ [{ tag := tag, amount := (recordAt s n i).amount, code := code, tail := tv }] }) s) := by
  have unlisted : ¬ (lineAt s n).late.any (fun e => e.tag == tag) = true := by
    rw [any_late_iff]; rintro ⟨e, mem, same⟩; exact fresh e mem same
  simp only [lateOrStray, found]
  rw [if_pos ⟨last, closed, other⟩, if_neg unlisted, if_pos room]

theorem lateOrStray_overflow (full : 4 ≤ (lineAt s n).late.length) : lateOrStray n tag (some (.approved code tv)) s =
    raiseFactor (kioskCell n) kfLateOverflow (updLine n (fun x => { x with lateOverflow := satCount x.lateOverflow }) s) := by
  have unlisted : ¬ (lineAt s n).late.any (fun e => e.tag == tag) = true := by
    rw [any_late_iff]; rintro ⟨e, mem, same⟩; exact fresh e mem same
  simp only [lateOrStray, found]
  rw [if_pos ⟨last, closed, other⟩, if_neg unlisted, if_neg (Nat.not_lt.mpr full)]

end

/-- Settles O48. -/
theorem cardAndResultMeetTheOpenRecordOrTheLateList : Obligations.CardAndResultMeetTheOpenRecordOrTheLateList := by
  unfold Obligations.CardAndResultMeetTheOpenRecordOrTheLateList
  refine ⟨fun s n tag four => ⟨fun i => openRecord_iff four, openRecord_none_iff four, fun i => recordWithTag_iff four,
    recordWithTag_none_iff four⟩, ?_⟩
  intro s n tag a code tail lines kiosks counters canonical configured outside six four x printable approval strayResult
  have inside : n.val < (acked n s).lines.length := n.isLt.trans_eq lines.symm
  have stats : sparseWf (0 : Nat) s.stats := canonical.stats
  have card := exec_card configured outside tag a
  have result := exec_result configured outside tag a six four
  have stray : StrayFrame n s (strayFrame n (acked n s)) := strayFrame_acked n stats
  have closes := fun i o code tv => recordClosed_spec (s := acked n s) n i o code tv (.inl rfl) lines kiosks stats
  refine ⟨fun i found same => ⟨?_, fun tv approves => ?_, fun declines => ?_, fun no other => ?_⟩,
    fun other => ⟨?_, fun no => ?_, fun tv approves => ⟨fun i found last closed unapproved fresh => ⟨fun room => ?_, fun full => ?_⟩,
      fun useless => ?_⟩⟩⟩
  · refine ⟨_, card.trans (next_congr (cardFrame_open (s := acked n s) found same a)), ?_⟩
    have moved := (LineStep.updRecord n i (fun r => { r with cardPresented := true, cardKind := some a.toNat }) (acked n s)).moved inside
    rw [recordsWith_eq] at moved
    exact moved
  · exact ⟨_, closes i .approved (some code) tv, result.trans (next_congr ((resultFrame_approved (s := acked n s) found same
      ((verdictOf_approved_iff six four).mpr approves)).trans (closeRecord_eq ..)))⟩
  · exact ⟨_, closes i .declined none none, result.trans (next_congr ((resultFrame_declined (s := acked n s) found same
      (verdictOf_declined six four declines)).trans (closeRecord_eq ..)))⟩
  · exact ⟨_, result.trans (next_congr (resultFrame_broken (s := acked n s) found same (verdictOf_none six four no other))), stray⟩
  · exact ⟨_, card.trans (next_congr (cardFrame_stray (s := acked n s) other a)), stray⟩
  · refine ⟨_, result.trans (next_congr ((resultFrame_late (s := acked n s) other _).trans (lateOrStray_stray ?_))), stray⟩
    exact fun c tv verdict => no tv (approves_of_verdict six four verdict)
  · exact ⟨_, result.trans (next_congr ((resultFrame_late (s := acked n s) other _).trans (by
      rw [(verdictOf_approved_iff six four).mpr approves]
      exact lateOrStray_joins (s := acked n s) found last closed unapproved fresh room))), (LineStep.updLine n _ _).moved inside⟩
  · refine ⟨_, result.trans (next_congr ((resultFrame_late (s := acked n s) other _).trans (by
      rw [(verdictOf_approved_iff six four).mpr approves]
      exact lateOrStray_overflow (s := acked n s) found last closed unapproved fresh full))), ?_⟩
    have moved := (LineStep.updLine n (fun x => { x with lateOverflow := satCount x.lateOverflow }) (acked n s)).moved inside
    rw [satCount_eq] at moved
    exact moved
  · exact ⟨_, result.trans (next_congr ((resultFrame_late (s := acked n s) other _).trans (by
      rw [(verdictOf_approved_iff six four).mpr approves]
      exact lateOrStray_useless (s := acked n s) useless))), stray⟩

end Sys2Proof.Machine
end

section
/-! Aborts, reversals and liveness of a terminal line (R90 to R92, R98 to R100, R103, R104). -/

namespace Sys2Proof.Machine

theorem LineMoved.trans {n : Nat} {x y : Line} {sent sent' : List Output} {s t u : State} (first : LineMoved n x sent s t)
    (second : LineMoved n y sent' t u) : LineMoved n y (sent ++ sent') s u := by
  obtain ⟨-, others, wire, kiosks, frame⟩ := first
  obtain ⟨self', others', wire', kiosks', frame'⟩ := second
  exact ⟨self', fun m apart => (others' m apart).trans (others m apart), by rw [wire', wire, List.append_assoc],
    fun k => kioskLike_trans (kiosks' k) (kiosks k), by rw [frame', frame]⟩

theorem dueNow_some {now : Nat} {d : Deadline} {x : Option Deadline} (present : x = some d) (due : d.value ≤ now) (set : d.setAt < now) :
    dueNow now x = true := by rw [present]; exact isDue_iff.mpr ⟨due, set⟩

/-! ### CANCEL_PAY (R99) -/

theorem exec_cancelPay {s : State} {r : Request} (handed : Handed .cancelPay r s) :
    exec .cancelPay s = .next (cancelPayOp r (taken r s)) := next_congr (withRequest_handed handed _)

theorem abortingLine_withRecord (now i : Nat) (cause : AbortCause) (r r' : PayRecord) (x : Line) :
    abortingLine now i cause r (withRecord i r' x) = abortingLine now i cause r x := by
  simp only [abortingLine, withRecord, List.set_set]

/-- An ABORT sent for a record that was updated in the same event. -/
theorem startAbort_updated {n i : Nat} {s : State} (inside : n < s.lines.length) (found : i < (lineAt s n).records.length)
    (f : PayRecord → PayRecord) (cause : AbortCause) (tag : (f (recordAt s n i)).tag = (recordAt s n i).tag) :
    LineMoved n (abortingLine (nowOf s) i cause { f (recordAt s n i) with changes := bump (recordAt s n i).changes } (lineAt s n))
      [.frame n (abortOf (recordAt s n i).tag cause)] s (startAbort n i cause (updRecord n i f s)) := by
  have first := LineStep.updRecord n i f s
  have held : (recordsWith i f (lineAt s n)).records.getD i .empty =
      { f (recordAt s n i) with changes := bump (recordAt s n i).changes } := updAt_getD_self _ _ _ _ found
  have written : recordAt (updRecord n i f s) n i = { f (recordAt s n i) with changes := bump (recordAt s n i).changes } := by
    rw [recordAt, first.lineAt_self inside, held]
  have sameTag : (recordAt (updRecord n i f s) n i).tag = (recordAt s n i).tag := by rw [written]; exact tag
  have heldTag : ((recordsWith i f (lineAt s n)).records.getD i .empty).tag = (recordAt s n i).tag := by rw [held]; exact tag
  have moved := (first.trans (.startAbort n i cause _)).moved inside
  rw [sameTag, abortFrame_eq] at moved
  have line : abortsExchange (nowOf s) i (recordAt s n i).tag cause (recordsWith i f (lineAt s n)) = abortingLine (nowOf s) i cause
      { f (recordAt s n i) with changes := bump (recordAt s n i).changes } (lineAt s n) := by
    rw [← heldTag, abortsExchange_eq, held, recordsWith_eq, abortingLine_withRecord]
  exact (congrArg (fun y => LineMoved n y _ s _) line).mp moved

section
variable {r : Request} {s : State} {n tag i : Nat}

theorem cancelPay_beyond (beyond : 24 ≤ param1 r 0) : cancelPayOp r s = completeSlot r.slot .badParameter [] s := if_pos beyond

variable (inside : param1 r 0 < 24)
include inside

theorem cancelPay_unpaid (unpaid : (basketAt s (param1 r 0)).payRef = none) :
    cancelPayOp r s = completeSlot r.slot .wrongState [] s := by
  simp only [cancelPayOp, Nat.not_le.mpr inside, if_false, unpaid]
  rfl

variable (paid : (basketAt s (param1 r 0)).payRef = some (n, tag))
include paid

theorem cancelPay_lost (lost : recordWithTag s n tag = none) : cancelPayOp r s = completeSlot r.slot .wrongState [] s := by
  simp only [cancelPayOp, Nat.not_le.mpr inside, if_false, paid, lost]
  rfl

variable (found : recordWithTag s n tag = some i)
include found

theorem cancelPay_closed (phase : (recordAt s n i).phase = .closed) : cancelPayOp r s = completeSlot r.slot .tooLate [] s := by
  simp only [cancelPayOp, Nat.not_le.mpr inside, if_false, paid, found, phase]
  rfl

theorem cancelPay_aborting (phase : (recordAt s n i).phase = .aborting) : cancelPayOp r s = completeSlot r.slot .wrongState [] s := by
  simp only [cancelPayOp, Nat.not_le.mpr inside, if_false, paid, found, phase]
  rfl

theorem cancelPay_held (phase : (recordAt s n i).phase = .awaitAck) : cancelPayOp r s = updRecord n i (fun x => { x with
    cause := if x.cause = some .timeout then some .timeout else some .customer
    cancelSlots := x.cancelSlots ++ [r.slot] }) s := by
  simp only [cancelPayOp, Nat.not_le.mpr inside, if_false, paid, found, phase]

theorem cancelPay_aborts (phase : (recordAt s n i).phase = .authorizing) : cancelPayOp r s =
    startAbort n i .customer (updRecord n i (fun x => { x with cancelSlots := x.cancelSlots ++ [r.slot] }) s) := by
  simp only [cancelPayOp, Nat.not_le.mpr inside, if_false, paid, found, phase]

end

theorem recordWithTag_lt {s : State} {n tag i : Nat} (found : recordWithTag s n tag = some i) : i < (lineAt s n).records.length := by
  rw [recordWithTag] at found
  split at found
  · cases found
  · exact findIdx?_lt found

/-! ### The waits of an abort (R98, R100) -/

theorem authTimeout_held {s : State} {n i : Nat} (due : dueNow (nowOf s) (lineAt s n).authDue = true) (found : openRecord s n = some i)
    (phase : (recordAt s n i).phase = .awaitAck) : authTimeoutOp n s = updLine n (fun x => { x with authDue := none })
      (updRecord n i (fun r => { r with cause := some (r.cause.getD .timeout) }) s) := by
  simp only [authTimeoutOp, due, found, phase, if_true]

theorem authTimeout_aborts {s : State} {n i : Nat} (due : dueNow (nowOf s) (lineAt s n).authDue = true) (found : openRecord s n = some i)
    (phase : (recordAt s n i).phase ≠ .awaitAck) : authTimeoutOp n s = startAbort n i .timeout s := by
  simp only [authTimeoutOp, due, found, phase, if_true, if_false]

theorem abortWait_closes {s : State} {n i : Nat} (due : dueNow (nowOf s) (lineAt s n).abortDue = true) (found : openRecord s n = some i) :
    abortWaitOp n s = closeRecord n i .unresolved none none .fault s := by
  simp only [abortWaitOp, due, found, if_true]

theorem exec_abortDone {s : State} {n : Fin 12} (configured : s.config ≠ none) (outside : Outside n s) (tag a : Byte) :
    exec (.abortDone n tag a) s = .next (abortDoneFrame n tag.toNat (acked n s)) :=
  next_congr (frameArrives_taken configured outside (f := ⟨fkAbortDone, tag, [a]⟩) (Nat.le_refl 1) (by simp))

theorem abortDone_closes {s : State} {n i tag : Nat} (found : openRecord s n = some i) (same : (recordAt s n i).tag = tag)
    (phase : (recordAt s n i).phase = .aborting) : abortDoneFrame n tag s =
      closeRecord n i (if (recordAt s n i).cause = some .timeout then .timedOut else .cancelled) none none .idle s := by
  simp only [abortDoneFrame, found]
  exact if_pos ⟨same, phase⟩

theorem abortDone_stray {s : State} {n i tag : Nat} (found : openRecord s n = some i)
    (other : (recordAt s n i).tag ≠ tag ∨ (recordAt s n i).phase ≠ .aborting) : abortDoneFrame n tag s = strayFrame n s := by
  simp only [abortDoneFrame, found]
  exact if_neg (not_and_or.mpr other)

theorem abortDone_none {s : State} {n tag : Nat} (none : openRecord s n = none) : abortDoneFrame n tag s = strayFrame n s := by
  simp only [abortDoneFrame, none]

/-- Settles O49. -/
theorem abortsEndTheRecordOneWay : Obligations.AbortsEndTheRecordOneWay := by
  unfold Obligations.AbortsEndTheRecordOneWay
  refine ⟨?_, ?_, ?_⟩
  · intro s r handed lines baskets b refused
    have run := exec_cancelPay handed
    refine ⟨fun beyond => run.trans (next_congr (cancelPay_beyond beyond)),
      fun low unpaid => run.trans (next_congr (cancelPay_unpaid (s := taken r s) low unpaid)), fun n tag low line paid => ?_⟩
    have inside : n < (taken r s).lines.length := line.trans_eq lines.symm
    refine ⟨fun lost => run.trans (next_congr (cancelPay_lost (s := taken r s) low paid lost)), fun i found => ?_⟩
    intro p x
    refine ⟨fun phase => run.trans (next_congr (cancelPay_closed (s := taken r s) low paid found phase)),
      fun phase => run.trans (next_congr (cancelPay_aborting (s := taken r s) low paid found phase)), fun phase => ?_, fun phase => ?_⟩
    · refine ⟨_, run.trans (next_congr (cancelPay_held (s := taken r s) low paid found phase)), ?_⟩
      have moved := (LineStep.updRecord n i (fun x => { x with
        cause := if x.cause = some .timeout then some .timeout else some .customer
        cancelSlots := x.cancelSlots ++ [r.slot] }) (taken r s)).moved inside
      rw [recordsWith_eq] at moved
      exact moved
    · exact ⟨_, run.trans (next_congr (cancelPay_aborts (s := taken r s) low paid found phase)),
        startAbort_updated (s := taken r s) inside (recordWithTag_lt found)
          (fun x => { x with cancelSlots := x.cancelSlots ++ [r.slot] }) .customer rfl⟩
  · intro s n i lines kiosks counters canonical found r x now
    have inside : n.val < s.lines.length := n.isLt.trans_eq lines.symm
    have stats : sparseWf (0 : Nat) s.stats := canonical.stats
    refine ⟨fun d present due set => ⟨fun phase => ?_, fun phase => ?_⟩, fun d present due set => ?_,
      fun tag a configured outside => ⟨fun same phase => ?_, fun other => ?_⟩⟩
    · refine ⟨_, next_congr (authTimeout_held (dueNow_some present due set) found phase), ?_⟩
      have moved := ((LineStep.updRecord n i (fun r => { r with cause := some (r.cause.getD .timeout) }) s).trans
        (.updLine n (fun x => { x with authDue := none }) _)).moved inside
      rw [recordsWith_eq] at moved
      exact moved
    · refine ⟨_, next_congr (authTimeout_aborts (dueNow_some present due set) found phase), ?_⟩
      have moved := (LineStep.startAbort n i .timeout s).moved inside
      rw [abortFrame_eq] at moved
      exact (congrArg (fun y => LineMoved n y _ s _) (abortsExchange_eq (nowOf s) i .timeout (lineAt s n))).mp moved
    · exact ⟨_, recordClosed_spec n i .unresolved none none (.inr rfl) lines kiosks stats,
        next_congr ((abortWait_closes (dueNow_some present due set) found).trans (closeRecord_eq ..))⟩
    · intro o
      exact ⟨_, recordClosed_spec (s := acked n s) n i o none none (.inl rfl) lines kiosks stats,
        (exec_abortDone configured outside tag a).trans
          (next_congr ((abortDone_closes (s := acked n s) found same phase).trans (closeRecord_eq ..)))⟩
    · exact ⟨_, (exec_abortDone configured outside tag a).trans (next_congr (abortDone_stray (s := acked n s) found other)),
        strayFrame_acked n stats⟩
  · intro s n tag a lines stats configured outside none
    exact ⟨_, (exec_abortDone configured outside tag a).trans (next_congr (abortDone_none (s := acked n s) none)), strayFrame_acked n stats⟩

end Sys2Proof.Machine
end

section
/-! REVERSE and its end, and the liveness of a terminal line (R90 to R92, R103, R104). -/

namespace Sys2Proof.Machine

/-! ### REVERSE (R103) -/

theorem exec_reverse {s : State} {r : Request} (handed : Handed .reverse r s) :
    exec .reverse s = .next (reverseOp r (taken r s)) := next_congr (withRequest_handed handed _)

section
variable {r : Request} {s : State}

theorem reverse_refused (no : 12 ≤ param1 r 0 ∨ 4 ≤ param1 r 1 ∨ (lineAt s (param1 r 0)).late[param1 r 1]? = none) :
    reverseOp r s = completeSlot r.slot .badParameter [] s := by
  by_cases beyond : 12 ≤ param1 r 0 ∨ 4 ≤ param1 r 1
  · exact if_pos beyond
  · have missing : (lineAt s (param1 r 0)).late[param1 r 1]? = none := by
      rcases no with high | high | missing
      · exact absurd (.inl high) beyond
      · exact absurd (.inr high) beyond
      · exact missing
    simp only [reverseOp, beyond, if_false, missing]
    rfl

variable {y : Late} (kiosk : param1 r 0 < 12) (entry : param1 r 1 < 4) (late : (lineAt s (param1 r 0)).late[param1 r 1]? = some y)
include kiosk entry late

theorem reverse_busy (busy : (lineAt s (param1 r 0)).state ≠ .idle) : reverseOp r s = completeSlot r.slot .wrongState [] s := by
  have within : ¬ (12 ≤ param1 r 0 ∨ 4 ≤ param1 r 1) := by omega
  simp only [reverseOp, within, if_false, late, busy, ne_eq, not_false_eq_true, if_true]
  rfl

theorem reverse_sends (idle : (lineAt s (param1 r 0)).state = .idle) : reverseOp r s = sendFrame (param1 r 0) (reverseFrame y)
    (updLine (param1 r 0) (fun x => { enterState (nowOf s) .reversing x with
      reverseDue := some (deadlineAt (nowOf s) (nowOf s + Config.reverseWait)), reversing := some (r.slot, y.tag) }) s) := by
  have within : ¬ (12 ≤ param1 r 0 ∨ 4 ≤ param1 r 1) := by omega
  simp only [reverseOp, within, if_false, late, idle, ne_eq, not_true_eq_false]

end

/-! ### REVERSE_DONE (R104) -/

theorem exec_reverseDone {s : State} {n : Fin 12} (configured : s.config ≠ none) (outside : Outside n s) (tag a : Byte) :
    exec (.reverseDone n tag a) s = .next (reverseDoneFrame n tag.toNat a (acked n s)) :=
  next_congr (frameArrives_taken configured outside (f := ⟨fkReverseDone, tag, [a]⟩) (Nat.le_refl 1) (by simp))

theorem reverseDone_ends {s : State} {n slot tag : Nat} {verdict : Byte} (reverses : (lineAt s n).reversing = some (slot, tag))
    (state : (lineAt s n).state = .reversing) (known : verdict = 0x01 ∨ verdict = 0x02) :
    reverseDoneFrame n tag verdict s = completeSlot slot (if verdict = 0x01 then .ok else .declined) []
      (updLine n (fun x => enterState (nowOf s) .idle (stopWaits
        { x with late := if verdict = 0x01 then x.late.filter (fun e => e.tag != tag) else x.late })) s) := by
  simp only [reverseDoneFrame, reverses, state, known, and_self, if_true]
  rfl

theorem reverseDone_stray {s : State} {n slot late tag : Nat} {verdict : Byte} (reverses : (lineAt s n).reversing = some (slot, late))
    (other : (lineAt s n).state ≠ .reversing ∨ late ≠ tag ∨ (verdict ≠ 0x01 ∧ verdict ≠ 0x02)) :
    reverseDoneFrame n tag verdict s = strayFrame n s := by
  simp only [reverseDoneFrame, reverses]
  exact if_neg fun all => by
    obtain ⟨state, same, known⟩ := all
    rcases other with no | no | ⟨no, no'⟩
    · exact no state
    · exact no same
    · exact known.elim no no'

theorem reverseDone_idle {s : State} {n tag : Nat} (idle : (lineAt s n).reversing = none) (verdict : Byte) :
    reverseDoneFrame n tag verdict s = strayFrame n s := by simp only [reverseDoneFrame, idle]

/-- Settles O50. -/
theorem reverseTakesBackALateApproval : Obligations.ReverseTakesBackALateApproval := by
  unfold Obligations.ReverseTakesBackALateApproval
  refine ⟨?_, ?_, ?_⟩
  · intro s r handed lines k e x now refused
    have run := exec_reverse handed
    refine ⟨fun no => run.trans (next_congr (reverse_refused (s := taken r s) no)), fun y kiosk entry late =>
      ⟨fun busy => run.trans (next_congr (reverse_busy (s := taken r s) kiosk entry late busy)), fun idle => ?_⟩⟩
    intro frame
    refine ⟨_, run.trans (next_congr (reverse_sends (s := taken r s) kiosk entry late idle)), ?_⟩
    exact ((LineStep.updLine _ _ (taken r s)).trans (.sendFrame _ _ _)).moved (show _ < s.lines.length from kiosk.trans_eq lines.symm)
  · intro s n slot late lines stats configured reverses x now
    have inside : n.val < s.lines.length := n.isLt.trans_eq lines.symm
    refine ⟨fun tag verdict outside => ⟨fun state same known => ?_, fun other => ?_⟩, fun d present due set no => ?_⟩
    · subst same
      exact ⟨_, (exec_reverseDone configured outside tag verdict).trans
        (next_congr (reverseDone_ends (s := acked n s) reverses state known)), (LineStep.updLine n _ (acked n s)).moved inside⟩
    · exact ⟨_, (exec_reverseDone configured outside tag verdict).trans
        (next_congr (reverseDone_stray (s := acked n s) reverses other)), strayFrame_acked n stats⟩
    · obtain ⟨u, faulted, moved⟩ := enterFault_reversing inside no reverses .timedOut
      exact ⟨u, next_congr ((if_pos (dueNow_some present due set)).trans faulted), moved⟩
  · intro s n tag verdict lines stats configured idle outside
    exact ⟨_, (exec_reverseDone configured outside tag verdict).trans (next_congr (reverseDone_idle (s := acked n s) idle verdict)),
      strayFrame_acked n stats⟩

/-! ### PONG, FAULT and the PING timer (R91, R92) -/

theorem downOrFault_iff {x : Line} : downOrFault x = true ↔ x.state = .down ∨ x.state = .fault := by
  simp [downOrFault]

theorem exec_pong {s : State} {n : Fin 12} (configured : s.config ≠ none) (outside : Outside n s) (tag a : Byte) :
    exec (.pong n tag a) s = .next (pongFrame n (acked n s)) :=
  next_congr (frameArrives_taken configured outside (f := ⟨fkPong, tag, [a]⟩) (Nat.le_refl 1) (by simp))

theorem exec_fault {s : State} {n : Fin 12} (configured : s.config ≠ none) (outside : Outside n s) (tag a : Byte) :
    exec (.fault n tag a) s = .next (faultFrame n a (acked n s)) :=
  next_congr (frameArrives_taken configured outside (f := ⟨fkFault, tag, [a]⟩) (Nat.le_refl 1) (by simp))

theorem pongFrame_wakes {s : State} {n : Nat} (down : (lineAt s n).state = .down ∨ (lineAt s n).state = .fault) :
    pongFrame n s = updLine n (enterState (nowOf s) .idle) s := if_pos (downOrFault_iff.mpr down)

theorem pongFrame_idle {s : State} {n : Nat} (idle : (lineAt s n).state = .idle) :
    pongFrame n s = updLine n (fun y => { y with pings := 0 }) s := by
  simp [pongFrame, downOrFault, idle]

theorem pongFrame_useless {s : State} {n : Nat} (busy : (lineAt s n).state = .authorizing ∨ (lineAt s n).state = .aborting ∨
    (lineAt s n).state = .reversing) : pongFrame n s = strayFrame n s := by
  rcases busy with busy | busy | busy <;> simp [pongFrame, downOrFault, busy]

/-- R92: the state with the line's fault code written. -/
def faultCoded (n : Nat) (a : Byte) (s : State) : State := updLine n (fun x => { x with faultCode := some a.toNat }) s

theorem faultFrame_down {s : State} {n : Nat} (down : (lineAt s n).state = .down ∨ (lineAt s n).state = .fault) (a : Byte) :
    faultFrame n a s = faultCoded n a s := if_pos (downOrFault_iff.mpr down)

theorem faultFrame_up {s : State} {n : Nat} (up : (lineAt s n).state ≠ .down) (whole : (lineAt s n).state ≠ .fault) (a : Byte) :
    faultFrame n a s = enterFault n .terminalFault (faultCoded n a s) :=
  if_neg fun down => (downOrFault_iff.mp down).elim up whole

theorem pingTimer_down {s : State} {n : Nat} (due : dueNow (nowOf s) (lineAt s n).pingDue = true)
    (down : (lineAt s n).state = .down ∨ (lineAt s n).state = .fault) : pingTimerOp n s =
      updLine n (fun y => { y with pingDue := some ⟨nowOf s + 5000, nowOf s⟩ }) (emit (.frame n (pingFrame n)) s) := by
  simp only [pingTimerOp, due, downOrFault_iff.mpr down, if_true]
  rfl

theorem pingTimer_counts {s : State} {n : Nat} (due : dueNow (nowOf s) (lineAt s n).pingDue = true) (idle : (lineAt s n).state = .idle)
    (few : (lineAt s n).pings < 3) : pingTimerOp n s =
      updLine n (fun y => { y with pings := y.pings + 1, pingDue := some ⟨nowOf s + 5000, nowOf s⟩ })
        (emit (.frame n (pingFrame n)) s) := by
  have up : downOrFault (lineAt s n) = false := by simp [downOrFault, idle]
  simp only [pingTimerOp, due, up, idle, few, if_true, Bool.false_eq_true, if_false]
  rfl

theorem pingTimer_fails {s : State} {n : Nat} (due : dueNow (nowOf s) (lineAt s n).pingDue = true) (idle : (lineAt s n).state = .idle)
    (many : 3 ≤ (lineAt s n).pings) : pingTimerOp n s = sendPing n (enterFault n .terminalFault s) := by
  have up : downOrFault (lineAt s n) = false := by simp [downOrFault, idle]
  simp only [pingTimerOp, due, up, idle, Nat.not_lt.mpr many, if_true, Bool.false_eq_true, if_false]

/-- Settles O51. -/
theorem livenessMovesTheLine : Obligations.LivenessMovesTheLine := by
  unfold Obligations.LivenessMovesTheLine
  intro s n lines kiosks counters canonical x now ping
  have inside : n.val < s.lines.length := n.isLt.trans_eq lines.symm
  have stats : sparseWf (0 : Nat) s.stats := canonical.stats
  refine ⟨fun tag a configured outside => ?_, fun d present due set => ?_⟩
  · have pong := exec_pong configured outside tag a
    have fault := exec_fault configured outside tag a
    have coded : LineStep n (fun x => { x with faultCode := some a.toNat }) [] (acked n s) (faultCoded n a (acked n s)) := .updLine n _ _
    have line := coded.lineAt_self inside
    have inside' : n.val < (faultCoded n a (acked n s)).lines.length := inside.trans_eq coded.length.symm
    have open' : openRecord (faultCoded n a (acked n s)) n = openRecord s n := by
      rw [openRecord, line]; rfl
    refine ⟨fun down => ?_, fun idle => ?_, fun busy => ?_, fun down => ?_, fun up whole => ⟨fun no idle => ?_, fun slot late no reverses => ?_,
      fun i found => ?_⟩⟩
    · exact ⟨_, pong.trans (next_congr (pongFrame_wakes (s := acked n s) down)), (LineStep.updLine n _ (acked n s)).moved inside⟩
    · exact ⟨_, pong.trans (next_congr (pongFrame_idle (s := acked n s) idle)), (LineStep.updLine n _ (acked n s)).moved inside⟩
    · exact ⟨_, pong.trans (next_congr (pongFrame_useless (s := acked n s) busy)), strayFrame_acked n stats⟩
    · exact ⟨_, fault.trans (next_congr (faultFrame_down (s := acked n s) down a)), coded.moved inside⟩
    · obtain ⟨u, faulted, moved⟩ := enterFault_quiet inside' (open'.trans no) ((congrArg Line.reversing line).trans idle) .terminalFault
      rw [line] at moved
      exact ⟨u, fault.trans (next_congr ((faultFrame_up (s := acked n s) up whole a).trans faulted)), (coded.moved inside).trans moved⟩
    · obtain ⟨u, faulted, moved⟩ := enterFault_reversing inside' (open'.trans no) ((congrArg Line.reversing line).trans reverses)
        .terminalFault
      rw [line, faultCoded, completeSlot_updLine] at moved
      have size : n.val < (completeSlot slot .terminalFault [] (acked n s)).lines.length := by
        rw [completeSlot_frame]; exact inside
      exact ⟨u, fault.trans (next_congr ((faultFrame_up (s := acked n s) up whole a).trans faulted)),
        ((LineStep.updLine n _ _).moved size).trans moved⟩
    · have closed := recordClosed_spec (s := faultCoded n a (acked n s)) n i .unresolved none none (.inr rfl)
        (coded.length.trans lines) ((updAt_length ..).trans kiosks) stats
      have rec' : recordAt (faultCoded n a (acked n s)) n i = recordAt s n i := by rw [recordAt, line]; rfl
      refine ⟨_, _, ?_, coded.moved inside, closed⟩
      rw [← rec']
      exact fault.trans (next_congr ((faultFrame_up (s := acked n s) up whole a).trans (enterFault_open (open'.trans found) _)))
  · have due' : dueNow (nowOf s) (lineAt s n).pingDue = true := dueNow_some present due set
    refine ⟨fun down => ?_, fun idle few => ?_, fun idle many no quiet => ?_⟩
    · exact ⟨_, next_congr (pingTimer_down due' down), (LineStep.sends n _ ping s).moved inside⟩
    · exact ⟨_, next_congr (pingTimer_counts due' idle few), (LineStep.sends n _ ping s).moved inside⟩
    · obtain ⟨u, faulted, moved⟩ := enterFault_quiet inside no quiet .terminalFault
      exact ⟨u, moved, next_congr ((pingTimer_fails due' idle many).trans (congrArg (sendPing n) faulted))⟩

end Sys2Proof.Machine
end

section
/-! A counter's receiver (R139, R140). -/

namespace Sys2Proof.Machine

/-! ### What each byte makes of the receiver -/

section
variable {s : State} {m : Fin 4}

theorem counterListens_iff : counterListens s m = true ↔ s.config ≠ none ∧ (counterAt s m).enabled = true := by
  rw [counterListens, Bool.and_eq_true, running, Option.isSome_iff_ne_none]

theorem counterByte_deaf (deaf : s.config = none ∨ (counterAt s m).enabled = false) (b : Byte) : counterByteOp m b s = s := by
  rw [counterByteOp, if_pos]
  rcases deaf with deaf | deaf <;> simp [counterListens, running, deaf]

theorem counterFault_deaf (deaf : s.config = none ∨ (counterAt s m).enabled = false) (kind : ByteFault) : counterFaultOp m kind s = s := by
  rw [counterFaultOp, if_pos]
  rcases deaf with deaf | deaf <;> simp [counterListens, running, deaf]

theorem counterCanFault_iff {kind : ByteFault} : canFault (counterParity s m) kind = true ↔
    (kind = .parity → ∃ p, (cfgOf s).counters[m.val]? = some p ∧ p.1.parity ≠ 0) := by
  cases kind with
  | parity => cases line : (cfgOf s).counters[m.val]? <;> simp [canFault, counterParity, line]
  | framing => simp [canFault]
  | overrun => simp [canFault]

theorem counterFault_none {kind : ByteFault} (impossible : ¬ canFault (counterParity s m) kind = true) : counterFaultOp m kind s = s := by
  rw [counterFaultOp, if_pos (by simp [impossible])]

variable (listens : counterListens s m = true)
include listens

theorem counterFault_counted {kind : ByteFault} (possible : canFault (counterParity s m) kind = true) : counterFaultOp m kind s =
    setReceiver m (fun r => startGap (nowOf s) { emptyCode r with discard := true, silence := true })
      (addStat (statCounter m (2 + byteFaultIndex kind)) 1 s) := by
  rw [counterFaultOp, if_neg (by simp [listens, possible])]

theorem counterByte_lf :
    counterByteOp m 0x0A s = setReceiver m (fun _ => startGap (nowOf s) (gapDiscards (nowOf s) (receiverAt s m))) s := by
  simp only [counterByteOp, listens, Bool.not_true, Bool.false_eq_true, if_false, if_true]

theorem counterByte_char {b : Byte} (lf : b ≠ 0x0A) (cr : b ≠ 0x0D) : counterByteOp m b s =
    setReceiver m (fun _ => startGap (nowOf s) (takeChar b (gapDiscards (nowOf s) (receiverAt s m)))) s := by
  simp only [counterByteOp, listens, Bool.not_true, Bool.false_eq_true, if_false, lf, cr]

variable {x : Receiver} (gathered : x = gapDiscards (nowOf s) (receiverAt s m))
include gathered

theorem counterByte_cr_nothing (nothing : x.silence = true ∨ (x.discard = false ∧ x.chars = [])) :
    counterByteOp m 0x0D s = setReceiver m (fun _ => emptyCode x) s := by
  subst gathered
  have apart : (0x0D : Byte) ≠ 0x0A := by decide
  simp only [counterByteOp, listens, Bool.not_true, Bool.false_eq_true, if_false, apart, if_true]
  rcases nothing with silence | ⟨kept, empty⟩
  · rw [if_pos silence]
  · simp only [kept, empty, if_true, Bool.false_eq_true, if_false, ite_self]

theorem counterByte_cr_scanned (heard : x.silence = false) (kept : x.discard = false) (some' : x.chars ≠ []) (good : x.bad = false) :
    counterByteOp m 0x0D s = setReceiver m (fun y => { y with scanned := y.scanned ++ [x.chars] }) (setReceiver m (fun _ => emptyCode x) s) := by
  subst gathered
  have apart : (0x0D : Byte) ≠ 0x0A := by decide
  simp only [counterByteOp, listens, Bool.not_true, Bool.false_eq_true, if_false, apart, if_true, heard, kept, some', good]

theorem counterByte_cr_bad (heard : x.silence = false) (bad : x.discard = true ∨ (x.chars ≠ [] ∧ x.bad = true)) :
    counterByteOp m 0x0D s = counterAnswer m x.chars .badCode none none (setReceiver m (fun _ => emptyCode x) s) := by
  subst gathered
  have apart : (0x0D : Byte) ≠ 0x0A := by decide
  simp only [counterByteOp, listens, Bool.not_true, Bool.false_eq_true, if_false, apart, if_true, heard]
  rcases bad with discarded | ⟨some', bad⟩
  · rw [if_pos discarded]
  · rw [if_neg some', if_pos bad, ite_self]

end

theorem startGap_held {now : Nat} {r : Receiver} (held : r.chars ≠ [] ∨ r.discard = true) :
    startGap now r = { r with gapDue := some ⟨now + 101, now⟩ } := by
  have runs : ¬ (r.chars = [] ∧ (!r.discard) = true) := by
    rintro ⟨empty, kept⟩
    rcases held with some' | discarded
    · exact some' empty
    · simp [discarded] at kept
  rw [startGap, if_neg runs]
  rfl

theorem startGap_eq (now : Nat) (r : Receiver) :
    startGap now r = { r with gapDue := if r.chars = [] ∧ r.discard = false then none else some ⟨now + 101, now⟩ } := by
  simp only [startGap, Bool.not_eq_true']
  rfl

theorem takeChar_discarded {r : Receiver} (discarded : r.discard = true) (b : Byte) : takeChar b r = r := if_pos discarded

theorem takeChar_room {r : Receiver} (kept : r.discard = false) (room : r.chars.length < 16) (b : Byte) :
    takeChar b r = { r with chars := r.chars ++ [b], bad := r.bad || !isDigit b } := by
  rw [takeChar, if_neg (by simp [kept]), if_pos room]

theorem takeChar_full {r : Receiver} (kept : r.discard = false) (full : 16 ≤ r.chars.length) (b : Byte) :
    takeChar b r = { r with discard := true } := by
  rw [takeChar, if_neg (by simp [kept]), if_neg (Nat.not_lt.mpr full)]

/-- A receiver written is the whole of what moves. -/
theorem receiver_written {s : State} {m : Fin 4} (receivers : s.voucherUnit.receivers.length = 4) (f : Receiver → Receiver) :
    receiverAt (setReceiver m f s) m = f (receiverAt s m) ∧
      (∀ j, j ≠ m.val → receiverAt (setReceiver m f s) j = receiverAt s j) ∧
      setReceiver m f s = { s with voucherUnit := { s.voucherUnit with receivers := (setReceiver m f s).voucherUnit.receivers } } :=
  ⟨receiverAt_setReceiver_self s m f (by omega), fun j apart => receiverAt_setReceiver_other s m j f apart.symm, rfl⟩

/-- Settles O56. -/
theorem counterCodesAreGathered : Obligations.CounterCodesAreGathered := by
  unfold Obligations.CounterCodesAreGathered
  intro s m receivers counters canonical now r emptied running receives
  have gathers : ∀ {c : Instr} {f : Receiver → Receiver} {x : Receiver}, exec c s = .next (setReceiver m f s) → f r = x → receives c x := by
    intro c f x run value
    obtain ⟨self, others, frame⟩ := receiver_written (m := m) receivers f
    exact ⟨_, run, self.trans value, others, frame⟩
  refine ⟨fun deaf => ⟨fun b => next_congr (counterByte_deaf deaf b), fun kind => next_congr (counterFault_deaf deaf kind)⟩,
    fun configured enabled => ?_, fun d present due set => ?_⟩
  · have listens : counterListens s m = true := counterListens_iff.mpr ⟨configured, enabled⟩
    refine ⟨fun kind => ?_, fun x gathered => ?_⟩
    · intro possible
      refine ⟨fun impossible => next_congr (counterFault_none fun can => impossible (counterCanFault_iff.mp can)), fun can => ?_⟩
      obtain ⟨self, others, frame⟩ := receiver_written (s := addStat (statCounter m (2 + byteFaultIndex kind)) 1 s) (m := m) receivers
        (fun r => startGap (nowOf s) { emptyCode r with discard := true, silence := true })
      refine ⟨_, next_congr (counterFault_counted listens (counterCanFault_iff.mpr can)), self.trans (startGap_held (.inr rfl)), others, ?_, frame⟩
      intro off
      have place : off = statCounter m (2 + byteFaultIndex kind) := by
        cases kind <;> simp [off, statCounter, byteFaultIndex] <;> omega
      rw [place]
      exact statAt_addStat_of_stats_eq rfl canonical.stats _ 1
    · have x_eq : x = gapDiscards (nowOf s) (receiverAt s m) := gathered
      have scanned : x.scanned = r.scanned := by rw [gathered]; split <;> rfl
      have cleared : emptyCode x = emptied := by simp only [emptyCode, scanned]; rfl
      refine ⟨gathers (next_congr (counterByte_lf listens)) ((x_eq ▸ startGap_eq (nowOf s) x)), fun b lf cr => ?_, fun nothing => ?_,
        fun heard kept some' good => ?_, fun heard bad => ?_⟩
      · have run : exec (.counterByte m b) s = _ := next_congr (counterByte_char listens lf cr)
        rw [← x_eq] at run
        refine ⟨fun discarded => gathers run ?_, fun kept room => gathers run ?_, fun kept full => gathers run ?_⟩
        · rw [takeChar_discarded discarded, startGap_held (.inr discarded)]
          rfl
        · rw [takeChar_room kept room, startGap_held (.inl (by simp))]
          rfl
        · rw [takeChar_full kept full, startGap_held (.inr rfl)]
          rfl
      · exact gathers (next_congr (counterByte_cr_nothing listens x_eq nothing)) cleared
      · obtain ⟨self, others, -⟩ := receiver_written (m := m) receivers (fun _ => emptyCode x)
        obtain ⟨self', others', frame'⟩ := receiver_written (s := setReceiver m (fun _ => emptyCode x) s) (m := m)
          ((updAt_length ..).trans receivers) (fun y => { y with scanned := y.scanned ++ [x.chars] })
        refine ⟨_, next_congr (counterByte_cr_scanned listens x_eq heard kept some' good), self'.trans ?_,
          fun j apart => (others' j apart).trans (others j apart), frame'⟩
        rw [self, cleared]
      · obtain ⟨self, others, frame⟩ := receiver_written (m := m) receivers (fun _ => emptyCode x)
        exact ⟨_, _, next_congr (counterByte_cr_bad listens x_eq heard bad),
          answered_counterAnswer _ _ _ _ _ counters canonical.stats, self.trans cleared, others, frame⟩
  · have now' : dueNow (nowOf s) r.gapDue = true := dueNow_some present due set
    exact gathers (f := gapDiscards (nowOf s)) rfl (if_pos now')

end Sys2Proof.Machine
end

section
/-! Refunds (R39, R83, R137, R150 to R153): the checks of REFUND, its two steps, and the amount written. -/

namespace Sys2Proof.Machine

/-! ### What a canonical store lists -/

theorem sparse_keys {α : Type} [DecidableEq α] {d : α} {l : List (Nat × α)} (wf : sparseWf d l) (p : Nat × α → Bool) :
    ((l.filter p).map Prod.fst).Pairwise (· < ·) ∧
      ∀ i, i ∈ (l.filter p).map Prod.fst ↔ sparseGet d l i ≠ d ∧ p (i, sparseGet d l i) = true := by
  refine ⟨List.pairwise_map.mpr (wf.1.filter _), fun i => ?_⟩
  rw [List.mem_map]
  constructor
  · rintro ⟨⟨j, v⟩, listed, rfl⟩
    obtain ⟨member, holds⟩ := List.mem_filter.mp listed
    obtain ⟨value, used⟩ := (sparse_mem_iff d l wf j v).mp member
    rw [value]
    exact ⟨used, holds⟩
  · rintro ⟨used, holds⟩
    exact ⟨(i, _), List.mem_filter.mpr ⟨(sparse_mem_iff d l wf i _).mpr ⟨rfl, used⟩, holds⟩, rfl⟩

theorem pairwise_lt_nodup {l : List Nat} (rising : l.Pairwise (· < ·)) : l.Nodup := rising.imp fun lower => Nat.ne_of_lt lower

/-- R127, R135: the entries of a sale, in table order. -/
theorem vouchersOf_spec {s : State} (canonical : sparseWf Voucher.empty s.voucherUnit.entries) (serial : Nat) :
    (vouchersOf s serial).Pairwise (· < ·) ∧ ∀ i, i ∈ vouchersOf s serial ↔
      (voucherAt s i).state ≠ none ∧ (voucherAt s i).state ≠ some .pending ∧ (voucherAt s i).owner = some serial := by
  obtain ⟨rising, listed⟩ := sparse_keys canonical
    (fun e => e.2.state != some .pending && e.2.state.isSome && e.2.owner == some serial)
  refine ⟨rising, fun i => (listed i).trans ?_⟩
  simp only [Bool.and_eq_true, bne_iff_ne, Option.isSome_iff_ne_none, beq_iff_eq, voucherAt]
  constructor
  · rintro ⟨-, ⟨paid, used⟩, owned⟩
    exact ⟨used, paid, owned⟩
  · rintro ⟨used, paid, owned⟩
    exact ⟨fun empty => used (by rw [empty]; rfl), ⟨paid, used⟩, owned⟩

theorem vouchersIn_spec {s : State} (canonical : sparseWf Voucher.empty s.voucherUnit.entries) (serial : Nat) {st : VoucherState}
    (paid : st ≠ .pending) : (vouchersIn s serial st).Nodup ∧
      ∀ i, i ∈ vouchersIn s serial st ↔ (voucherAt s i).state = some st ∧ (voucherAt s i).owner = some serial := by
  obtain ⟨rising, listed⟩ := vouchersOf_spec canonical serial
  refine ⟨(pairwise_lt_nodup rising).filter _, fun i => ?_⟩
  rw [vouchersIn, List.mem_filter, listed, beq_iff_eq]
  constructor
  · rintro ⟨⟨-, -, owned⟩, state⟩
    exact ⟨state, owned⟩
  · rintro ⟨state, owned⟩
    exact ⟨⟨by rw [state]; exact Option.some_ne_none _, by rw [state]; exact fun same => paid (Option.some.inj same), owned⟩, state⟩

/-! ### REFUND (R150, R152, R153) -/

theorem saleInFlight_iff {s : State} {serial : Nat} : saleInFlight s serial = true ↔
    (∃ q ∈ s.print.printers, (∃ x ∈ q.queue, x.serial = serial) ∨ ∃ c, q.check = some c ∧ c.serial = serial) ∨
    ∃ c ∈ s.basketUnit.baskets, c.state = .printing ∧ c.serial = some serial ∧ c.cursor < c.plan.length := by
  rw [saleInFlight, Bool.or_eq_true, saleQueued_iff]
  refine or_congr_right ?_
  simp only [planUnqueued, List.any_eq_true, Bool.and_eq_true, beq_iff_eq, decide_eq_true_eq, and_assoc]

theorem param3_lt (r : Request) (n : Nat) : param3 r n < 16777216 := by
  have first := (r.params.getD n 0).isLt
  have second := (r.params.getD (n + 1) 0).isLt
  have third := (r.params.getD (n + 2) 0).isLt
  rw [param3_eq]
  omega

theorem exec_refund {s : State} {r : Request} (handed : Handed .refund r s) : exec .refund s = .next (refundTake r (taken r s)) :=
  next_congr (withRequest_handed handed _)

section
variable {s : State} {serial : Nat}

theorem refundRefusal_unset (unset : s.showUnit.clock.isSet = false) : refundRefusal s serial = some .clockUnset := by
  simp [refundRefusal, unset]

variable (set : s.showUnit.clock.isSet = true)
include set

theorem refundRefusal_zero (zero : serial = 0) : refundRefusal s serial = some .badParameter := by
  simp [refundRefusal, set, zero]

variable (positive : serial ≠ 0) (inRange : serial < 16777216)
include positive inRange

theorem refundRefusal_unknown (unknown : saleplace s serial = none) : refundRefusal s serial = some .unknownSale := by
  have formed : ¬ (serial < 1 ∨ 16777215 < serial) := by omega
  simp only [refundRefusal, set, formed, findSale, unknown, Bool.not_true, Bool.false_eq_true, if_false, Option.map_none]

theorem refundRefusal_found {p : Nat} (found : saleplace s serial = some p) : refundRefusal s serial =
    (if (saleAt s p).refunded then some .wrongState
      else if !instantBefore s.showUnit.clock.now (showAt s (saleAt s p).sh).start then some .showStarted
      else if saleInFlight s serial then some .basketBusy
      else none) := by
  have formed : ¬ (serial < 1 ∨ 16777215 < serial) := by omega
  simp only [refundRefusal, set, formed, findSale, found, Bool.not_true, Bool.false_eq_true, if_false, Option.map_some]

end

theorem refundOp_refused {r : Request} {s : State} {code : ResultCode} (why : refundRefusal s (param3 r 0) = some code) :
    refundOp r s = completeSlot r.slot code [] s := by
  simp only [refundOp, why]
  rfl

theorem updSale_found {s : State} {serial p : Nat} (found : saleplace s serial = some p) (f : Sale → Sale) :
    updSale serial f s = setSale p (f (saleAt s p)) s := by
  simp only [updSale, found]

theorem refundOp_begins {r : Request} {s : State} {p : Nat} (passes : refundRefusal s (param3 r 0) = none)
    (found : saleplace s (param3 r 0) = some p) : refundOp r s =
      let t := setSale p { (saleAt s p) with changes := stepCount (saleAt s p).changes } s
      { t with salesUnit := { t.salesUnit with
          refunds := t.salesUnit.refunds ++ [{ slot := r.slot, serial := param3 r 0, seatsFreed := none, vouchers := none }] } } := by
  simp only [refundOp, passes, updSale_found found]

/-! ### The steps (R39, R137) -/

theorem refundOf_updRefund {s : State} {serial : Nat} {f : Refund} (g : Refund → Refund) (kept : ∀ x, (g x).serial = x.serial)
    (found : refundOf s serial = some f) :
    (updRefund serial g s).salesUnit.refunds.find? (fun y => y.serial == serial) = some (g f) ∧
      ∀ k, k ≠ serial → (updRefund serial g s).salesUnit.refunds.find? (fun y => y.serial == k) =
        s.salesUnit.refunds.find? (fun y => y.serial == k) := by
  have same : ∀ k, (fun y : Refund => y.serial == k) ∘ (fun x => if x.serial = serial then g x else x) = (fun y => y.serial == k) := by
    intro k
    funext x
    simp only [Function.comp]
    split
    · rw [kept]
    · rfl
  simp only [updRefund, List.find?_map, same]
  refine ⟨?_, fun k apart => ?_⟩
  · have at' : f.serial = serial := by simpa using List.find?_some found
    rw [show s.salesUnit.refunds.find? (fun y => y.serial == serial) = some f from found, Option.map_some, if_pos at']
  · cases here : s.salesUnit.refunds.find? (fun y => y.serial == k) with
    | none => rfl
    | some x =>
      have at' : x.serial = k := by simpa using List.find?_some here
      rw [Option.map_some, if_neg (by rw [at']; exact apart)]

theorem saleShow_eq {s : State} {serial p : Nat} (found : saleplace s serial = some p) : saleShow s serial = (saleAt s p).sh := by
  simp only [saleShow, findSale, found, Option.map_some]

/-- R39: the sale's SOLD cells of a show, by pool index and by seat index. -/
theorem soldCells_spec {s : State} (canonical : sparseWf Seat.spare s.seats) (w : ShowRec) (serial : Nat) :
    (∀ c, c ∈ soldCells s w serial ↔
      w.seatBase ≤ c ∧ c < w.seatBase + w.seatCount ∧ (seatAt s c).state = .sold ∧ (seatAt s c).owner = some serial) ∧
    (soldCells s w serial).length = ((List.range w.seatCount).filter (fun i =>
      (seatAt s (w.seatBase + i)).state == .sold && (seatAt s (w.seatBase + i)).owner == some serial)).length := by
  obtain ⟨rising, listed⟩ := sparse_keys canonical (fun e => decide (w.seatBase ≤ e.1) && decide (e.1 < w.seatBase + w.seatCount)
    && e.2.state == .sold && e.2.owner == some serial)
  have members : ∀ c, c ∈ soldCells s w serial ↔
      w.seatBase ≤ c ∧ c < w.seatBase + w.seatCount ∧ (seatAt s c).state = .sold ∧ (seatAt s c).owner = some serial := by
    refine fun c => (listed c).trans ?_
    simp only [Bool.and_eq_true, decide_eq_true_eq, beq_iff_eq, seatAt, and_assoc]
    refine ⟨And.right, fun all => ⟨fun spare => ?_, all⟩⟩
    rw [spare] at all
    exact absurd all.2.2.1 (by decide)
  refine ⟨members, ?_⟩
  have once : (((List.range w.seatCount).filter (fun i => (seatAt s (w.seatBase + i)).state == .sold &&
      (seatAt s (w.seatBase + i)).owner == some serial)).map (w.seatBase + ·)).Nodup :=
    (List.nodup_range.filter _).map fun _ _ same => Nat.add_left_cancel same
  have perm := (List.perm_ext_iff_of_nodup (pairwise_lt_nodup rising) once).mpr fun c => by
    rw [show (c ∈ List.map Prod.fst _ ↔ _) from members c]
    simp only [List.mem_map, List.mem_filter, List.mem_range, Bool.and_eq_true, beq_iff_eq]
    constructor
    · rintro ⟨low, high, state, owner⟩
      exact ⟨c - w.seatBase, ⟨by omega, by rwa [Nat.add_sub_cancel' low], by rwa [Nat.add_sub_cancel' low]⟩, Nat.add_sub_cancel' low⟩
    · rintro ⟨i, ⟨inside, state, owner⟩, rfl⟩
      exact ⟨Nat.le_add_right _ _, by omega, state, owner⟩
  exact perm.length_eq.trans (List.length_map _)

/-- R23, R28: a seat event on pool cells. -/
theorem cellEvent_spec {s : State} (sh : Nat) (cells : List Nat) (st : SeatState) (owner : Option Nat) (counts : ShowRec → ShowRec)
    (canonical : sparseWf Seat.spare s.seats) (inside : sh < s.showUnit.shows.length) :
    let t := cellEvent sh cells st owner counts s
    (∀ c ∈ cells, seatAt t c = ⟨st, (seatAt s c).tier, owner⟩) ∧ (∀ c, c ∉ cells → seatAt t c = seatAt s c) ∧
    showAt t sh = (if cells = [] then showAt s sh else { counts (showAt s sh) with changes := bump (showAt s sh).changes }) ∧
    (∀ n, n ≠ sh → showAt t n = showAt s n) ∧ t = { s with seats := t.seats, showUnit := { s.showUnit with shows := t.showUnit.shows } } := by
  cases cells with
  | nil => exact ⟨fun _ no => absurd no List.not_mem_nil, fun _ _ => rfl, rfl, fun _ _ => rfl, rfl⟩
  | cons a l =>
    obtain ⟨-, frame, written, others⟩ := writeCells_spec (a :: l) st owner s canonical
    have same : (writeCells (a :: l) st owner s).showUnit = s.showUnit := by rw [frame]
    have shows : ∀ n, showAt (writeCells (a :: l) st owner s) n = showAt s n := fun n => by simp only [showAt, same]
    refine ⟨written, others, ?_, fun n apart => ?_, ?_⟩
    · rw [if_neg (List.cons_ne_nil _ _), ← shows]
      exact showAt_updShow_self _ _ _ (by rw [same]; exact inside)
    · rw [← shows n]
      exact showAt_updShow_other _ _ _ _ apart.symm
    · simp only [cellEvent, updShow, setShow]
      rw [frame]

theorem refundFreeing_frees {s : State} {serial p : Nat} {f : Refund} (found : refundOf s serial = some f) (new : f.seatsFreed = none)
    (place : saleplace s serial = some p) : refundFreeingOp serial s =
      updRefund serial (fun x => { x with seatsFreed := some (freeSold (saleAt s p).sh serial s).2 })
        (freeSold (saleAt s p).sh serial s).1 := by
  simp only [refundFreeingOp, found, new, saleShow_eq place, Option.isSome_none, Bool.false_eq_true, if_false]

theorem refundVoucher_answers {s : State} {serial : Nat} {f : Refund} (found : refundOf s serial = some f) (new : f.vouchers = none) :
    refundVoucherOp serial s = updRefund serial (fun x => { x with vouchers := some (refundVouchers serial s).2 })
      (refundVouchers serial s).1 := by
  simp only [refundVoucherOp, found, new, Option.isSome_none, Bool.false_eq_true, if_false]

/-- R137: entries voided in turn. -/
theorem voidEach_spec (l : List Nat) (once : l.Nodup) (s : State) (canonical : sparseWf Voucher.empty s.voucherUnit.entries) :
    let t := forEach l (fun i => updVoucher i (fun v => { v with state := some .voided })) s
    (∀ i ∈ l, voucherAt t i = { (voucherAt s i) with state := some .voided, changes := bump (voucherAt s i).changes }) ∧
    (∀ i, i ∉ l → voucherAt t i = voucherAt s i) ∧
    t = { s with voucherUnit := { s.voucherUnit with entries := t.voucherUnit.entries } } := by
  induction l generalizing s with
  | nil => exact ⟨fun _ no => absurd no List.not_mem_nil, fun _ _ => rfl, rfl⟩
  | cons n l ih =>
    obtain ⟨fresh, once'⟩ := List.nodup_cons.mp once
    intro t
    have canonical' : sparseWf Voucher.empty (updVoucher n (fun v => { v with state := some .voided }) s).voucherUnit.entries :=
      sparsePut_wf _ _ _ _ canonical
    obtain ⟨written, others, frame⟩ := ih once' _ canonical'
    have whole : t = forEach l (fun i => updVoucher i (fun v => { v with state := some .voided }))
      (updVoucher n (fun v => { v with state := some .voided }) s) := rfl
    refine ⟨fun i listed => ?_, fun i unlisted => ?_, ?_⟩
    · rcases List.mem_cons.mp listed with rfl | listed
      · rw [whole, others i fresh, voucherAt_updVoucher_self canonical _ _]
      · have apart : i ≠ n := fun same => fresh (same ▸ listed)
        rw [whole, written i listed, voucherAt_updVoucher_other canonical _ _ apart]
    · obtain ⟨apart, unlisted⟩ := not_or.mp (mt List.mem_cons.mpr unlisted)
      rw [whole, others i unlisted, voucherAt_updVoucher_other canonical _ _ apart]
    · rw [whole, frame]
      rfl

/-! ### The refund written (R151) -/

theorem refundWrite_writes {s : State} {serial p n : Nat} {f : Refund} {a : VoucherAnswer} (found : refundOf s serial = some f)
    (freed : f.seatsFreed = some n) (answered : f.vouchers = some a) (place : saleplace s serial = some p) :
    refundWrite serial s =
      let amount := (saleAt s p).gross - a.sum
      let t := setSale p { (saleAt s p) with refunded := true, refundAmount := some amount, changes := stepCount (saleAt s p).changes } s
      completeSlot f.slot .ok (leBytes 3 amount ++ leBytes 1 a.redeemed ++ leBytes 1 a.voided ++ leBytes 1 n)
        { t with salesUnit := { t.salesUnit with refunds := t.salesUnit.refunds.filter (fun x => x.serial != serial) } } := by
  simp only [refundWrite, found, freed, answered, findSale, place, Option.map_some, refundAmountOf, updSale_found place]

/-- Settles O57. -/
theorem refundFreesVoidsAndPaysBack : Obligations.RefundFreesVoidsAndPaysBack := by
  unfold Obligations.RefundFreesVoidsAndPaysBack
  refine ⟨fun s serial => saleInFlight_iff, ?_, ?_⟩
  · intro s r handed canonical serial refused
    have run := exec_refund handed
    refine ⟨fun waits => ?_, fun free => ?_⟩
    · have busy' : busy (taken r s) (.sale serial) = true := busy_iff.mpr waits
      exact run.trans (next_congr (whenFree_busy busy' _ _))
    · have free' : busy (taken r s) (.sale serial) = false := by
        rw [Bool.eq_false_iff, ne_eq, busy_iff]
        rintro ⟨f, listed, same⟩
        exact free f listed same
      have run' : exec .refund s = .next (refundOp r (taken r s)) := run.trans (next_congr (whenFree_free free' _ _))
      have refuses : ∀ {code}, refundRefusal (taken r s) serial = some code → refused code := fun why =>
        run'.trans (next_congr (refundOp_refused why))
      refine ⟨fun unset => refuses (refundRefusal_unset (s := taken r s) unset), fun set => ⟨fun zero =>
        refuses (refundRefusal_zero (s := taken r s) set zero), fun positive unknown =>
        refuses (refundRefusal_unknown (s := taken r s) set positive (param3_lt r 0) unknown), fun p found => ?_⟩⟩
      have positive : serial ≠ 0 := fun zero => by
        rw [saleplace, if_pos zero] at found
        cases found
      intro x before
      have chain : refundRefusal (taken r s) serial = if x.refunded then some .wrongState else if !before then some .showStarted
          else if saleInFlight s serial then some .basketBusy else none :=
        refundRefusal_found (s := taken r s) set positive (param3_lt r 0) found
      refine ⟨fun refunded => refuses (chain.trans (if_pos refunded)), fun whole late => refuses (chain.trans ?_),
        fun whole early flight => refuses (chain.trans ?_), fun whole early landed => ?_⟩
      · rw [whole, late]
        rfl
      · rw [whole, early, flight]
        rfl
      · have passes : refundRefusal (taken r s) serial = none := by
          rw [chain, whole, early, landed]
          rfl
        exact ⟨_, run'.trans (next_congr (refundOp_begins passes found)), saleAt_setSale_self _ _ _ canonical.sales,
          fun j apart => saleAt_setSale_other _ _ _ _ canonical.sales apart.symm, rfl, rfl⟩
  · intro s serial p f canonical shows found place low x w inUse
    refine ⟨fun new => ?_, fun new => ?_, fun n a freed answered quiet quiet' => ?_⟩
    · intro mine n
      obtain ⟨members, count⟩ := soldCells_spec canonical.seats w serial
      obtain ⟨written, others, self, apart, frame⟩ := cellEvent_spec x.sh (soldCells s w serial) .free none
        (fun y => { y with sold := y.sold - (soldCells s w serial).length, free := y.free + (soldCells s w serial).length })
        canonical.seats (low.trans_eq shows.symm)
      have kept : refundOf (freeSold x.sh serial s).1 serial = some f := by
        rw [refundOf, show (freeSold x.sh serial s).1 = _ from frame]
        exact found
      have same : (freeSold x.sh serial s).1.salesUnit = s.salesUnit := by rw [show (freeSold x.sh serial s).1 = _ from frame]
      obtain ⟨here, elsewhere⟩ := refundOf_updRefund (fun y => { y with seatsFreed := some (freeSold x.sh serial s).2 }) (fun _ => rfl) kept
      rw [same] at elsewhere
      refine ⟨_, next_congr (refundFreeing_frees found new place), ⟨?_, elsewhere⟩,
        fun c => ⟨fun yes => written c ((members c).mpr yes), fun no => others c fun yes => no ((members c).mp yes)⟩, ?_, apart, ?_⟩
      · have number : n = (freeSold x.sh serial s).2 := count.symm
        rw [number]
        exact here
      · have number : n = (soldCells s w serial).length := count.symm
        have counted : ∀ y : ShowRec, y = (if soldCells s w serial = [] then w else { w with
              sold := w.sold - (soldCells s w serial).length, free := w.free + (soldCells s w serial).length, changes := bump w.changes }) →
            y = { w with sold := w.sold - n, free := w.free + n, changes := y.changes } := by
          intro y eq
          rw [number]
          split at eq
          case isTrue empty => rw [eq, empty]; rfl
          case isFalse => rw [eq]
        exact counted _ self
      · rw [updRefund, show (freeSold x.sh serial s).1 = _ from frame]
    · obtain ⟨once, voids⟩ := vouchersIn_spec canonical.entries serial (st := .active) (by decide)
      obtain ⟨once', pays⟩ := vouchersIn_spec canonical.entries serial (st := .redeemed) (by decide)
      obtain ⟨written, others, frame⟩ := voidEach_spec (vouchersIn s serial .active) once s canonical.entries
      have same : (refundVouchers serial s).1.salesUnit = s.salesUnit := by rw [show (refundVouchers serial s).1 = _ from frame]
      have kept : refundOf (refundVouchers serial s).1 serial = some f := by rw [refundOf, same]; exact found
      obtain ⟨here, elsewhere⟩ := refundOf_updRefund (fun y => { y with vouchers := some (refundVouchers serial s).2 }) (fun _ => rfl) kept
      rw [same] at elsewhere
      refine ⟨_, _, _, next_congr (refundVoucher_answers found new), ⟨here, elsewhere⟩, once, once', voids, pays, written, others, ?_⟩
      rw [updRefund, show (refundVouchers serial s).1 = _ from frame]
    · have written := refundWrite_writes found freed answered place
      have waits : (refundWrite serial s).waiting = s.waiting := by
        rw [written]
        simp [setSale]
      have quietAfter : ∀ r, NoneWaits r s → NoneWaits r (refundWrite serial s) := fun r none e listed => none e (waits ▸ listed)
      have closed : refundCompleteClose serial s = refundWrite serial s := by
        rw [refundCompleteClose, drain_quiet (quietAfter _ quiet)]
        exact forEach_induct (p := fun t => t = refundWrite serial s)
          (fun k t same => by rw [same, drain_quiet (quietAfter _ (quiet' k))]) _ rfl
      refine ⟨_, next_congr (closed.trans written), saleAt_setSale_self _ _ _ canonical.sales,
        fun j apart => saleAt_setSale_other _ _ _ _ canonical.sales apart.symm, rfl, rfl⟩

end Sys2Proof.Machine
end

section
/-! Sense lines (R160 to R162): a level accepted, the filter, and SET_SENSE. -/

namespace Sys2Proof.Machine

/-! ### A condition derived anew (R163) -/

/-- R163: the condition reads the kiosk's service flag, current basket and first sense line, its printer, the baskets and the low mark. -/
theorem conditionOf_congr {s t : State} {k : Nat} (service : (kioskAt t k).service = (kioskAt s k).service)
    (current : (kioskAt t k).current = (kioskAt s k).current) (senses : (kioskAt t k).senses = (kioskAt s k).senses)
    (printers : printerAt t k = printerAt s k) (baskets : t.basketUnit.baskets = s.basketUnit.baskets)
    (low : t.station.foyer.low = s.station.foyer.low) : conditionOf t k = conditionOf s k := by
  simp only [conditionOf, senseAt, basketAt, service, current, senses, printers, baskets, low] <;> rfl

theorem kioskAt_refreshKiosk_self {s : State} {k : Nat} (inside : k < s.station.kiosks.length) :
    kioskAt (refreshKiosk k s) k = { (kioskAt s k) with
      condition := conditionOf s k
      green := refreshLamp ((kioskBinding s (conditionOf s k)).map Binding.green) (kioskAt s k).green
      red := refreshLamp ((kioskBinding s (conditionOf s k)).map Binding.red) (kioskAt s k).red
      changes := bump (kioskAt s k).changes } := kioskAt_updKiosk_self _ _ _ inside

theorem kioskAt_refreshKiosk_other {s : State} {k j : Nat} (apart : j ≠ k) : kioskAt (refreshKiosk k s) j = kioskAt s j :=
  kioskAt_updKiosk_other _ _ _ _ apart.symm

/-- A condition derived anew stays the condition. -/
theorem conditionOf_refreshKiosk (s : State) (k : Nat) : conditionOf (refreshKiosk k s) k = conditionOf s k := by
  have like := (refreshKiosk_like k k s).1
  exact conditionOf_congr (by rw [like]) (by rw [like]) (by rw [like]) rfl rfl rfl

theorem condition_refreshKiosk {s : State} {k : Nat} (inside : k < s.station.kiosks.length) :
    (kioskAt (refreshKiosk k s) k).condition = conditionOf (refreshKiosk k s) k := by
  rw [conditionOf_refreshKiosk, kioskAt_refreshKiosk_self inside]

/-! ### Sense records -/

/-- R157: one sense record updated. -/
theorem senseWritten_updSense {s : State} {k l : Nat} (kiosk : k < s.station.kiosks.length) (line : l < (kioskAt s k).senses.length)
    (f : Sense → Sense) : SenseWritten k l (f (senseAt s k l)) s (updSense k l f s) := by
  have self : kioskAt (updSense k l f s) k = { (kioskAt s k) with
    senses := updAt (kioskAt s k).senses l f, changes := bump (kioskAt s k).changes } := kioskAt_updKiosk_self _ _ _ kiosk
  refine ⟨?_, fun j apart => ?_, fun j apart => kioskAt_updKiosk_other _ _ _ _ apart.symm, ?_, rfl⟩
  · rw [senseAt, self]
    exact updAt_getD_self _ _ _ _ line
  · rw [senseAt, self]
    exact updAt_getD_other _ _ _ _ _ apart.symm
  · rw [self]

theorem senses_length_updSense {s : State} {k l : Nat} (kiosk : k < s.station.kiosks.length) (f : Sense → Sense) :
    (kioskAt (updSense k l f s) k).senses.length = (kioskAt s k).senses.length := by
  rw [show kioskAt (updSense k l f s) k = _ from kioskAt_updKiosk_self _ _ _ kiosk]
  exact updAt_length _ _ _

/-! ### A level accepted (R161) -/

theorem raiseFactor_kiosks_length (cell : CellId) (f : FactorSet) (s : State) :
    (raiseFactor cell f s).station.kiosks.length = s.station.kiosks.length := by
  rw [raiseFactor_written]
  cases cell with
  | kiosk => exact List.length_set
  | counter => rfl
  | foyer => rfl

/-- R161: the factor of an accepted edge. -/
def edgeRaised (k l : Nat) (fits : Bool) (s : State) : State := if fits then raiseFactor (kioskCell k) (kfSense l) s else s

/-- R161: the internal use of S1. -/
def serviceTurned (k l : Nat) (level : Bool) (s : State) : State := if l = 1 then updKiosk k (fun c => { c with service := level }) s else s

/-- R161: the internal use of S2. -/
def chuteTold (k l : Nat) (level : Bool) (s : State) : State :=
  if l = 2 ∧ !level then { s with basketUnit := { s.basketUnit with chutes := s.basketUnit.chutes ++ [k] } } else s

theorem acceptEdge_eq (k l : Nat) (s : State) : acceptEdge k l s =
    refreshKiosk k (chuteTold k l (senseAt s k l).present (serviceTurned k l (senseAt s k l).present
      (edgeRaised k l (edgeMatches (senseAt s k l).edge (senseAt s k l).present)
        (updSense k l (fun x => { x with accepted := x.present, deadline := none }) s)))) := rfl

section
variable (k : Fin 12) (l : Nat) (s : State) (kiosks : s.station.kiosks.length = 12)
include kiosks

theorem edgeRaised_spec (fits : Bool) :
    let t := edgeRaised k l fits s
    kioskAt t k = { (kioskAt s k) with
      factors := if fits then (kioskAt s k).factors ||| kfSense l else (kioskAt s k).factors, changes := (kioskAt t k).changes } ∧
    (∀ j, j ≠ k.val → kioskAt t j = kioskAt s j) ∧ (fits = false → t = s) ∧ t.station.kiosks.length = 12 ∧
    t = { s with
      wire := t.wire, board := { s.board with attention := t.board.attention }
      station := { s.station with kiosks := t.station.kiosks } } := by
  intro t
  cases fits with
  | false => exact ⟨rfl, fun _ _ => rfl, fun _ => rfl, kiosks, rfl⟩
  | true =>
    obtain ⟨self, others, -, frame⟩ := raiseKiosk_spec k (kfSense l) s kiosks
    rw [← kioskCell_val] at self others frame
    refine ⟨?_, others, nofun, ?_, frame⟩
    · rw [show kioskAt t k = _ from self]
      rfl
    · exact (raiseFactor_kiosks_length _ _ _).trans kiosks

theorem serviceTurned_spec (level : Bool) :
    let t := serviceTurned k l level s
    kioskAt t k = { (kioskAt s k) with service := if l = 1 then level else (kioskAt s k).service, changes := (kioskAt t k).changes } ∧
    (∀ j, j ≠ k.val → kioskAt t j = kioskAt s j) ∧ t.station.kiosks.length = 12 ∧
    t = { s with station := { s.station with kiosks := t.station.kiosks } } := by
  intro t
  by_cases one : l = 1
  · have turned : t = updKiosk k (fun c => { c with service := level }) s := if_pos one
    rw [turned]
    refine ⟨?_, fun j apart => kioskAt_updKiosk_other _ _ _ _ apart.symm, (updAt_length ..).trans kiosks, rfl⟩
    rw [kioskAt_updKiosk_self _ _ _ (k.isLt.trans_eq kiosks.symm), if_pos one]
  · have kept : t = s := if_neg one
    rw [kept, if_neg one]
    exact ⟨rfl, fun _ _ => rfl, kiosks, rfl⟩

end

theorem chuteTold_frame (k l : Nat) (level : Bool) (s : State) : chuteTold k l level s = { s with
    basketUnit := { s.basketUnit with chutes := s.basketUnit.chutes ++ (if l = 2 ∧ level = false then [k] else []) } } := by
  by_cases told : l = 2 ∧ level = false
  · rw [chuteTold, if_pos (by simpa using told), if_pos told]
  · rw [chuteTold, if_neg (by simpa using told), if_neg told, List.append_nil]

theorem edgeMatches_iff {e : EdgeSelect} {level : Bool} : edgeMatches e level = true ↔
    (match e with | .none => False | .rising => level = true | .falling => level = false | .both => True) := by
  cases e <;> simp [edgeMatches]

theorem acceptEdge_accepts (k : Fin 12) (l : Nat) (s : State) (kiosks : s.station.kiosks.length = 12)
    (line : l < (kioskAt s k).senses.length) : EdgeAccepted k l s (acceptEdge k l s) := by
  have inside : k.val < s.station.kiosks.length := k.isLt.trans_eq kiosks.symm
  obtain ⟨self, senses, others, written, frame⟩ :=
    senseWritten_updSense inside line (fun x => { x with accepted := x.present, deadline := none })
  have size : (updSense k l (fun x => { x with accepted := x.present, deadline := none }) s).station.kiosks.length = 12 :=
    (updAt_length ..).trans kiosks
  rw [acceptEdge_eq]
  generalize updSense k l (fun x => { x with accepted := x.present, deadline := none }) s = t at *
  obtain ⟨self', others', quiet, size', frame'⟩ := edgeRaised_spec k l t size (edgeMatches (senseAt s k l).edge (senseAt s k l).present)
  generalize edgeRaised k l (edgeMatches (senseAt s k l).edge (senseAt s k l).present) t = u at *
  obtain ⟨self'', others'', size'', frame''⟩ := serviceTurned_spec k l u size' (senseAt s k l).present
  generalize serviceTurned k l (senseAt s k l).present u = v at *
  have told := chuteTold_frame k l (senseAt s k l).present v
  have size3 : (chuteTold k l (senseAt s k l).present v).station.kiosks.length = 12 := by rw [told]; exact size''
  have kiosk3 : ∀ j, kioskAt (chuteTold k l (senseAt s k l).present v) j = kioskAt v j := by rw [told]; exact fun _ => rfl
  generalize chuteTold k l (senseAt s k l).present v = w at *
  have inside3 : k.val < w.station.kiosks.length := k.isLt.trans_eq size3.symm
  have fresh := kioskAt_refreshKiosk_self inside3
  have sensesKept : (kioskAt (refreshKiosk k w) k).senses = (kioskAt t k).senses := by rw [fresh, kiosk3, self'', self']
  have reading : ∀ j, senseAt (refreshKiosk k w) k j = senseAt t k j := fun j => by rw [senseAt, sensesKept, senseAt]
  have like : lampLike (kioskAt (refreshKiosk k w) k).green (kioskAt s k).green ∧
      lampLike (kioskAt (refreshKiosk k w) k).red (kioskAt s k).red := by
    rw [fresh, kiosk3, self'', self', written]
    exact ⟨rfl, rfl⟩
  refine ⟨(reading l).trans self, fun j apart => (reading j).trans (senses j apart), fun j apart => ?_, ?_, ?_, ?_,
    condition_refreshKiosk inside3, like.1, like.2, fun fits => ?_, fun misfits => ?_, ?_, ?_⟩
  · rw [kioskAt_refreshKiosk_other apart, kiosk3, others'' j apart, others' j apart, others j apart]
  · rw [fresh, kiosk3, self'', self', written]
  · rw [fresh, kiosk3, self'', self', written]
  · rw [fresh, kiosk3, self'', self', written]
  · rw [fresh, kiosk3, self'', self', edgeMatches_iff.mpr fits, written]
    rfl
  · have no : edgeMatches (senseAt s k l).edge (senseAt s k l).present = false := Bool.eq_false_iff.mpr (mt edgeMatches_iff.mp misfits)
    have wire : u.wire = s.wire := by rw [quiet no, frame]
    have board : u.board = s.board := by rw [quiet no, frame]
    refine ⟨?_, ?_, ?_⟩
    · rw [fresh, kiosk3, self'', self', no, written]
      rfl
    · rw [refreshKiosk_frame, told, frame'']
      exact wire
    · rw [refreshKiosk_frame, told, frame'']
      exact board
  · have unit : v.basketUnit = s.basketUnit := by rw [frame'', frame', frame]
    rw [refreshKiosk_frame, told, unit]
  · rw [refreshKiosk_frame, told, frame'', frame', frame]

/-! ### The filter (R160) -/

theorem senseChange_same {s : State} {k l : Nat} {level : Bool} (same : (senseAt s k l).present = level) : senseChange k l level s = s :=
  if_pos same

theorem senseChange_back {s : State} {k l : Nat} {level : Bool} (moves : level ≠ (senseAt s k l).present)
    (back : level = (senseAt s k l).accepted) : senseChange k l level s =
      updSense k l (fun x => { x with deadline := none }) (updSense k l (fun x => { x with present := level }) s) := by
  simp only [senseChange]
  rw [if_neg moves.symm, if_pos back]

theorem senseChange_off {s : State} {k l : Nat} {level : Bool} (moves : level ≠ (senseAt s k l).present)
    (away : level ≠ (senseAt s k l).accepted) (off : (senseAt s k l).width = .off) : senseChange k l level s =
      acceptEdge k l (updSense k l (fun x => { x with present := level }) s) := by
  simp only [senseChange]
  rw [if_neg moves.symm, if_neg away, if_pos off]

theorem senseChange_filters {s : State} {k l : Nat} {level : Bool} (moves : level ≠ (senseAt s k l).present)
    (away : level ≠ (senseAt s k l).accepted) (on : (senseAt s k l).width ≠ .off) : senseChange k l level s =
      updSense k l (fun x => { x with deadline := some ⟨nowOf s + widthMs (senseAt s k l).width, nowOf s⟩ })
        (updSense k l (fun x => { x with present := level }) s) := by
  simp only [senseChange]
  rw [if_neg moves.symm, if_neg away, if_neg on]
  rfl

/-- Two updates of one sense record in one event. -/
theorem senseWritten_twice {s : State} {k l : Nat} (kiosk : k < s.station.kiosks.length) (line : l < (kioskAt s k).senses.length)
    (f g : Sense → Sense) : SenseWritten k l (f (senseAt s k l)) s (updSense k l f s) ∧
      SenseWritten k l (g (f (senseAt s k l))) (updSense k l f s) (updSense k l g (updSense k l f s)) := by
  have first := senseWritten_updSense kiosk line f
  have second := senseWritten_updSense (s := updSense k l f s) (f := g) (kiosk.trans_eq (updAt_length ..).symm)
    (line.trans_eq (senses_length_updSense kiosk f).symm)
  rw [first.1] at second
  exact ⟨first, second⟩

/-! ### SET_SENSE (R162) -/

theorem exec_setSense {s : State} {r : Request} (handed : Handed .setSense r s) : exec .setSense s = .next (setSenseOp r (taken r s)) :=
  next_congr (withRequest_handed handed _)

theorem widthOf_none {b : Nat} (high : 4 ≤ b) : widthOf b = none := by
  rw [widthOf, if_neg (by omega), if_neg (by omega), if_neg (by omega), if_neg (by omega)]

theorem edgeOf_none {b : Nat} (high : 4 ≤ b) : edgeOf b = none := by
  rw [edgeOf, if_neg (by omega), if_neg (by omega), if_neg (by omega), if_neg (by omega)]

theorem setSense_refused {r : Request} {s : State} (no : 12 ≤ param1 r 0 ∨ 4 ≤ param1 r 1 ∨ 4 ≤ param1 r 2 ∨ 4 ≤ param1 r 3) :
    setSenseOp r s = completeSlot r.slot .badParameter [] s := by
  simp only [setSenseOp]
  cases width : widthOf (param1 r 2) with
  | none => rfl
  | some w =>
    cases edge : edgeOf (param1 r 3) with
    | none => rfl
    | some e =>
      have unplaced : ¬ (param1 r 0 < 12 ∧ param1 r 1 < 4) := by
        rintro ⟨kiosk, line⟩
        rcases no with high | high | high | high
        · omega
        · omega
        · rw [widthOf_none high] at width; cases width
        · rw [edgeOf_none high] at edge; cases edge
      exact if_neg unplaced

theorem widthOf_some {b : Nat} {w : FilterWidth} (listed : (b, w) ∈ [(0, FilterWidth.off), (1, .ms2), (2, .ms8), (3, .ms32)]) :
    widthOf b = some w := by
  simp only [List.mem_cons, Prod.mk.injEq, List.not_mem_nil, or_false] at listed
  rcases listed with ⟨rfl, rfl⟩ | ⟨rfl, rfl⟩ | ⟨rfl, rfl⟩ | ⟨rfl, rfl⟩ <;> rfl

theorem edgeOf_some {b : Nat} {e : EdgeSelect} (listed : (b, e) ∈ [(0, EdgeSelect.none), (1, .rising), (2, .falling), (3, .both)]) :
    edgeOf b = some e := by
  simp only [List.mem_cons, Prod.mk.injEq, List.not_mem_nil, or_false] at listed
  rcases listed with ⟨rfl, rfl⟩ | ⟨rfl, rfl⟩ | ⟨rfl, rfl⟩ | ⟨rfl, rfl⟩ <;> rfl

/-- R162: what SET_SENSE does with a running filter. -/
def filterReset (k l : Nat) (w : FilterWidth) (now : Nat) (s : State) : State :=
  if w = .off then acceptEdge k l s else updSense k l (fun x => { x with deadline := some ⟨now + widthMs w, now⟩ }) s

theorem setSense_sets {r : Request} {s : State} {w : FilterWidth} {e : EdgeSelect} (width : widthOf (param1 r 2) = some w)
    (edge : edgeOf (param1 r 3) = some e) (kiosk : param1 r 0 < 12) (line : param1 r 1 < 4) : setSenseOp r s =
      completeSlot r.slot .ok [] (if (senseAt s (param1 r 0) (param1 r 1)).deadline = none
        then updSense (param1 r 0) (param1 r 1) (fun x => { x with width := w, edge := e }) s
        else filterReset (param1 r 0) (param1 r 1) w (nowOf s)
          (updSense (param1 r 0) (param1 r 1) (fun x => { x with width := w, edge := e }) s)) := by
  simp only [setSenseOp, width, edge]
  rw [if_pos ⟨kiosk, line⟩]
  cases running : (senseAt s (param1 r 0) (param1 r 1)).deadline with
  | none => rfl
  | some d => rfl

/-- Settles O58. -/
theorem senseLinesAreFilteredAndAccepted : Obligations.SenseLinesAreFilteredAndAccepted := by
  unfold Obligations.SenseLinesAreFilteredAndAccepted
  refine ⟨?_, ?_⟩
  · intro s k l kiosks four x now ms
    have inside : k.val < s.station.kiosks.length := k.isLt.trans_eq kiosks.symm
    have line : l.val < (kioskAt s k).senses.length := l.isLt.trans_eq four.symm
    have width : ms = widthMs x.width := by
      simp only [ms]
      cases x.width <;> rfl
    refine ⟨next_congr (senseChange_same rfl), fun level moves => ⟨fun back => ?_, fun away off => ?_, fun away on => ?_⟩,
      fun d present due set => ?_⟩
    · obtain ⟨first, second⟩ := senseWritten_twice inside line (fun x => { x with present := level }) (fun x => { x with deadline := none })
      exact ⟨_, _, next_congr (senseChange_back moves back), first, second⟩
    · exact ⟨_, _, next_congr (senseChange_off moves away off), senseWritten_updSense inside line _,
        acceptEdge_accepts k l _ ((updAt_length ..).trans kiosks) (line.trans_eq (senses_length_updSense inside _).symm)⟩
    · obtain ⟨first, second⟩ := senseWritten_twice inside line (fun x => { x with present := level })
        (fun y => { y with deadline := some ⟨nowOf s + widthMs x.width, nowOf s⟩ })
      rw [width]
      exact ⟨_, _, next_congr (senseChange_filters moves away on), first, second⟩
    · exact ⟨_, next_congr (if_pos (dueNow_some present due set)), acceptEdge_accepts k l s kiosks line⟩
  · intro s r handed kiosks k l x now
    have run := exec_setSense handed
    refine ⟨fun no => run.trans (next_congr (setSense_refused no)), fun w e kiosk line four isWidth isEdge => ?_⟩
    intro ms
    have width : ms = widthMs w := by cases w <;> rfl
    have inside : k < (taken r s).station.kiosks.length := kiosk.trans_eq kiosks.symm
    have within : l < (kioskAt (taken r s) k).senses.length := line.trans_eq four.symm
    have sets := run.trans (next_congr (setSense_sets (widthOf_some isWidth) (edgeOf_some isEdge) kiosk line))
    have first := senseWritten_updSense (s := taken r s) inside within (fun x => { x with width := w, edge := e })
    by_cases still : x.deadline = none
    · rw [if_pos (show (senseAt (taken r s) k l).deadline = none from still)] at sets
      exact ⟨_, _, sets, first, fun _ => rfl, absurd still, absurd still⟩
    · rw [if_neg (show ¬ (senseAt (taken r s) k l).deadline = none from still)] at sets
      refine ⟨_, _, sets, first, fun no => absurd no still, fun _ off => ?_, fun _ on => ?_⟩
      · rw [filterReset, if_pos off]
        exact acceptEdge_accepts ⟨k, kiosk⟩ l _ ((updAt_length ..).trans kiosks) (within.trans_eq (senses_length_updSense inside _).symm)
      · rw [filterReset, if_neg on, width]
        exact (senseWritten_twice (s := taken r s) inside within (fun x => { x with width := w, edge := e }) _).2

end Sys2Proof.Machine
end

section
/-! Lamps (R163 to R166, R168): what a lamp shows, the tables' functions, and the requests that move them. -/

namespace Sys2Proof.Machine

/-! ### What the bytes of 10.5 name -/

theorem functionOf_pattern {n : Nat} (low : n < 8) : functionOf (0x10 + n) = some (.pattern n) := by
  have named : 0x10 ≤ 0x10 + n ∧ 0x10 + n ≤ 0x17 := by omega
  rw [functionOf, if_neg (by omega), if_neg (by omega), if_pos named, Nat.add_sub_cancel_left]

theorem functionOf_none {b : Nat} (high : 1 < b) (unnamed : b < 0x10 ∨ 0x17 < b) : functionOf b = none := by
  rw [functionOf, if_neg (by omega), if_neg (by omega), if_neg (by omega)]

theorem colourOf_none {b : Nat} (high : 1 < b) : colourOf b = none := by
  rw [colourOf, if_neg (by omega), if_neg (by omega)]

theorem stationLamp_kiosk (k : Fin 12) (c : Colour) : stationLamp k.val c = some (.kiosk k c) := dif_pos k.isLt

theorem stationLamp_counter (m : Fin 4) (c : Colour) : stationLamp (0x10 + m.val) c = some (.counter m c) := by
  have beyond : ¬ 0x10 + m.val < 12 := by omega
  have named : 0x10 ≤ 0x10 + m.val ∧ 0x10 + m.val - 0x10 < 4 := by omega
  have same : (⟨0x10 + m.val - 0x10, named.2⟩ : Fin 4) = m := Fin.ext (Nat.add_sub_cancel_left ..)
  rw [stationLamp, dif_neg beyond, dif_pos named, same]

theorem stationLamp_none {b : Nat} (high : 12 ≤ b) (unnamed : b < 0x10 ∨ 0x13 < b) (c : Colour) : stationLamp b c = none := by
  rw [stationLamp, dif_neg (by omega), dif_neg (by omega)]

/-! ### One lamp written -/

/-- The lamp of a colour in a kiosk cell, and that lamp updated. -/
def kioskLamp (c : Colour) (x : Kiosk) : Lamp :=
  match c with
  | .green => x.green
  | .red => x.red

def withKioskLamp (c : Colour) (f : Lamp → Lamp) (x : Kiosk) : Kiosk :=
  match c with
  | .green => { x with green := f x.green }
  | .red => { x with red := f x.red }

/-- The lamp of a colour in a counter cell, and that lamp updated. -/
def counterLamp (c : Colour) (x : Counter) : Lamp :=
  match c with
  | .green => x.green
  | .red => x.red

def withCounterLamp (c : Colour) (f : Lamp → Lamp) (x : Counter) : Counter :=
  match c with
  | .green => { x with green := f x.green }
  | .red => { x with red := f x.red }

theorem lampAt_kiosk (s : State) (k : Fin 12) (c : Colour) : lampAt s (.kiosk k c) = kioskLamp c (kioskAt s k) := by cases c <;> rfl

theorem lampAt_counter (s : State) (m : Fin 4) (c : Colour) : lampAt s (.counter m c) = counterLamp c (counterAt s m) := by cases c <;> rfl

theorem updLamp_kiosk (k : Fin 12) (c : Colour) (f : Lamp → Lamp) (s : State) :
    updLamp (.kiosk k c) f s = updKiosk k (withKioskLamp c f) s := by cases c <;> rfl

theorem updLamp_counter (m : Fin 4) (c : Colour) (f : Lamp → Lamp) (s : State) :
    updLamp (.counter m c) f s = updCounter m (withCounterLamp c f) s := by cases c <;> rfl

theorem kioskLamp_written (c : Colour) (f : Lamp → Lamp) (x : Kiosk) (n : Nat) :
    kioskLamp c { withKioskLamp c f x with changes := n } = f (kioskLamp c x) ∧
      (∀ d, d ≠ c → kioskLamp d { withKioskLamp c f x with changes := n } = kioskLamp d x) ∧
      { withKioskLamp c f x with changes := n } = { x with
        green := (withKioskLamp c f x).green, red := (withKioskLamp c f x).red, changes := n } := by
  cases c <;> exact ⟨rfl, fun d other => (by cases d <;> simp_all [kioskLamp, withKioskLamp]), rfl⟩

theorem counterLamp_written (c : Colour) (f : Lamp → Lamp) (x : Counter) (n : Nat) :
    counterLamp c { withCounterLamp c f x with changes := n } = f (counterLamp c x) ∧
      (∀ d, d ≠ c → counterLamp d { withCounterLamp c f x with changes := n } = counterLamp d x) ∧
      { withCounterLamp c f x with changes := n } = { x with
        green := (withCounterLamp c f x).green, red := (withCounterLamp c f x).red, changes := n } := by
  cases c <;> exact ⟨rfl, fun d other => (by cases d <;> simp_all [counterLamp, withCounterLamp]), rfl⟩

/-- A lamp updated in its cell. -/
theorem lampWritten_updLamp {s : State} (kiosks : s.station.kiosks.length = 12) (counters : s.station.counters.length = 4) (l : LampId)
    (f : Lamp → Lamp) : LampWritten l (f (lampAt s l)) s (updLamp l f s) := by
  cases l with
  | kiosk k c =>
    have self := kioskAt_updKiosk_self s k (withKioskLamp c f) (k.isLt.trans_eq kiosks.symm)
    have other : ∀ j, j ≠ k.val → kioskAt (updKiosk k (withKioskLamp c f) s) j = kioskAt s j :=
      fun j apart => kioskAt_updKiosk_other _ _ _ _ apart.symm
    obtain ⟨written, kept, whole⟩ := kioskLamp_written c f (kioskAt s k) (bump (kioskAt s k).changes)
    rw [updLamp_kiosk]
    refine ⟨?_, fun j apart => ?_, fun j => ?_, fun _ => rfl, rfl⟩
    · rw [lampAt_kiosk, lampAt_kiosk, self, written]
    · cases j with
      | kiosk j d =>
        rw [lampAt_kiosk, lampAt_kiosk]
        by_cases same : j = k
        · subst same
          rw [self, kept d fun eq => apart (by rw [eq])]
        · rw [other j fun eq => same (Fin.ext eq)]
      | counter m d => rw [lampAt_counter, lampAt_counter]; rfl
    · by_cases same : j = k.val
      · subst same
        rw [self, whole]
      · rw [other j same]
  | counter m c =>
    have self := counterAt_updCounter_self s m (withCounterLamp c f) (m.isLt.trans_eq counters.symm)
    have other : ∀ j, j ≠ m.val → counterAt (updCounter m (withCounterLamp c f) s) j = counterAt s j :=
      fun j apart => counterAt_updCounter_other _ _ _ _ apart.symm
    obtain ⟨written, kept, whole⟩ := counterLamp_written c f (counterAt s m) (bump (counterAt s m).changes)
    rw [updLamp_counter]
    refine ⟨?_, fun j apart => ?_, fun _ => rfl, fun j => ?_, rfl⟩
    · rw [lampAt_counter, lampAt_counter, self, written]
    · cases j with
      | kiosk k d => rw [lampAt_kiosk, lampAt_kiosk]; rfl
      | counter j d =>
        rw [lampAt_counter, lampAt_counter]
        by_cases same : j = m
        · subst same
          rw [self, kept d fun eq => apart (by rw [eq])]
        · rw [other j fun eq => same (Fin.ext eq)]
    · by_cases same : j = m.val
      · subst same
        rw [self, whole]
      · rw [other j same]

theorem updLamp_lengths (l : LampId) (f : Lamp → Lamp) (s : State) :
    (updLamp l f s).station.kiosks.length = s.station.kiosks.length ∧
      (updLamp l f s).station.counters.length = s.station.counters.length := by
  cases l with
  | kiosk k c => rw [updLamp_kiosk]; exact ⟨updAt_length .., rfl⟩
  | counter m c => rw [updLamp_counter]; exact ⟨rfl, updAt_length ..⟩

theorem LampWritten.trans {l : LampId} {x y : Lamp} {s t u : State} (first : LampWritten l x s t) (second : LampWritten l y t u) :
    LampWritten l y s u := by
  obtain ⟨-, others, kiosks, counters, frame⟩ := first
  obtain ⟨self', others', kiosks', counters', frame'⟩ := second
  refine ⟨self', fun j apart => (others' j apart).trans (others j apart), fun k => ?_, fun m => ?_, by rw [frame', frame]⟩
  · rw [kiosks' k, kiosks k]
  · rw [counters' m, counters m]

/-- What a lamp's binding is read from does not move with the lamp. -/
theorem LampWritten.bindingFor {l : LampId} {x : Lamp} {s t : State} (h : LampWritten l x s t) (j : LampId) :
    bindingFor t j = bindingFor s j := by
  obtain ⟨-, -, kiosks, counters, frame⟩ := h
  have tables : t.station.kioskBindings = s.station.kioskBindings ∧ t.station.counterBindings = s.station.counterBindings := by
    rw [frame]; exact ⟨rfl, rfl⟩
  have conditions : ∀ k, (kioskAt t k).condition = (kioskAt s k).condition := fun k => by rw [kiosks k]
  have showings : ∀ m, (counterAt t m).showing = (counterAt s m).showing := fun m => by rw [counters m]
  match j with
  | .kiosk k .green => simp only [Machine.bindingFor, kioskBinding, tables.1, conditions]
  | .kiosk k .red => simp only [Machine.bindingFor, kioskBinding, tables.1, conditions]
  | .counter m .green => simp only [Machine.bindingFor, counterBinding, tables.2, showings]
  | .counter m .red => simp only [Machine.bindingFor, counterBinding, tables.2, showings]

/-- R165, R166: a lamp updated, and its function in force then taken anew. -/
theorem lampWritten_retaken {s : State} (kiosks : s.station.kiosks.length = 12) (counters : s.station.counters.length = 4) (l : LampId)
    (f : Lamp → Lamp) : LampWritten l (refreshLamp (bindingFor s l) (f (lampAt s l))) s (retakeLamp l (updLamp l f s)) := by
  have first := lampWritten_updLamp kiosks counters l f
  obtain ⟨kiosks', counters'⟩ := updLamp_lengths l f s
  have second := lampWritten_updLamp (s := updLamp l f s) (kiosks'.trans kiosks) (counters'.trans counters) l
    (refreshLamp (bindingFor (updLamp l f s) l))
  rw [first.bindingFor, first.1] at second
  rw [retakeLamp, first.bindingFor]
  exact first.trans second

/-! ### What a lamp's function reads -/

/-- The function in force is written over what was; what it is read from stays. -/
theorem refreshLamp_twice (binding binding' : Option LampFunction) (l : Lamp) :
    refreshLamp binding (refreshLamp binding' l) = refreshLamp binding l := rfl

/-! ### A function of a table replaced (R165) -/

/-- R165: the functions in force of the lamps of one colour taken anew where their kiosk has a condition. -/
theorem retakeKiosks_spec (n : Nat) (c : Colour) (l : List (Fin 12)) : ∀ {s : State}, s.station.kiosks.length = 12 →
    s.station.counters.length = 4 →
    let t := retakeWhere (hasCondition n) (l.map (fun k => .kiosk k c)) s
    (∀ k ∈ l, conditionNum (kioskAt s k).condition = n →
      lampAt t (.kiosk k c) = refreshLamp (bindingFor s (.kiosk k c)) (lampAt s (.kiosk k c))) ∧
    (∀ j, (∀ k ∈ l, conditionNum (kioskAt s k).condition = n → j ≠ .kiosk k c) → lampAt t j = lampAt s j) ∧
    (∀ k, kioskLike (kioskAt t k) (kioskAt s k)) ∧
    t = { s with station := { s.station with kiosks := t.station.kiosks } } := by
  induction l with
  | nil => exact fun _ _ => ⟨fun _ no => absurd no List.not_mem_nil, fun _ _ => rfl, fun _ => kioskLike_refl _, rfl⟩
  | cons k l ih =>
    intro s kiosks counters t
    by_cases shows : conditionNum (kioskAt s k).condition = n
    · have written := lampWritten_updLamp kiosks counters (.kiosk k c) (refreshLamp (bindingFor s (.kiosk k c)))
      have size := updLamp_lengths (.kiosk k c) (refreshLamp (bindingFor s (.kiosk k c))) s
      have like : ∀ j, kioskLike (kioskAt (updLamp (.kiosk k c) (refreshLamp (bindingFor s (.kiosk k c))) s) j) (kioskAt s j) := fun j => by
        rw [updLamp_kiosk]
        exact updKiosk_like _ _ _ (fun x => by cases c <;> exact ⟨rfl, rfl, rfl⟩) s
      have frame : updLamp (.kiosk k c) (refreshLamp (bindingFor s (.kiosk k c))) s = { s with station := { s.station with
          kiosks := (updLamp (.kiosk k c) (refreshLamp (bindingFor s (.kiosk k c))) s).station.kiosks } } := by
        rw [updLamp_kiosk]
        rfl
      have head : t = retakeWhere (hasCondition n) (l.map (fun k => .kiosk k c))
          (updLamp (.kiosk k c) (refreshLamp (bindingFor s (.kiosk k c))) s) := by
        have here : hasCondition n s (.kiosk k c) = true := beq_iff_eq.mpr shows
        simp only [t, retakeWhere, List.map_cons, List.foldl_cons, here, if_true, retakeLamp]
      rw [head]
      generalize updLamp (.kiosk k c) (refreshLamp (bindingFor s (.kiosk k c))) s = u at *
      obtain ⟨lamps, others, like', frame'⟩ := ih (size.1.trans kiosks) (size.2.trans counters)
      have bindings := written.bindingFor
      obtain ⟨self, apart, cells, -, -⟩ := written
      have conditions : ∀ j, (kioskAt u j).condition = (kioskAt s j).condition := fun j => by rw [cells j]
      refine ⟨fun j listed here => ?_, fun j other => ?_, fun j => kioskLike_trans (like' j) (like j), ?_⟩
      · by_cases again : j ∈ l
        · rw [lamps j again (by rw [conditions]; exact here), bindings]
          by_cases same : j = k
          · subst same
            rw [self, refreshLamp_twice]
          · rw [apart _ (by simpa using same)]
        · obtain rfl : j = k := (List.mem_cons.mp listed).resolve_right again
          rw [others _ (fun i there _ eq => again (by cases eq; exact there)), self]
      · rw [others j fun i there here => other i (List.mem_cons_of_mem _ there) (by rw [← conditions]; exact here),
          apart j (other k List.mem_cons_self shows)]
      · rw [frame', frame]
    · have head : t = retakeWhere (hasCondition n) (l.map (fun k => .kiosk k c)) s := by
        have here : hasCondition n s (.kiosk k c) = false := Bool.eq_false_iff.mpr (mt beq_iff_eq.mp shows)
        simp only [t, retakeWhere, List.map_cons, List.foldl_cons, here, Bool.false_eq_true, if_false]
      obtain ⟨lamps, others, like, frame⟩ := ih kiosks counters
      rw [head]
      exact ⟨fun j listed here => lamps j ((List.mem_cons.mp listed).resolve_left fun same => shows (same ▸ here)) here,
        fun j other => others j fun i there => other i (List.mem_cons_of_mem _ there), like, frame⟩

/-- R165: the functions in force of the lamps of one colour taken anew where their counter shows a showing. -/
theorem retakeCounters_spec (n : Nat) (c : Colour) (l : List (Fin 4)) : ∀ {s : State}, s.station.kiosks.length = 12 →
    s.station.counters.length = 4 →
    let t := retakeWhere (hasShowing n) (l.map (fun m => .counter m c)) s
    (∀ m ∈ l, showingNum (counterAt s m).showing = n →
      lampAt t (.counter m c) = refreshLamp (bindingFor s (.counter m c)) (lampAt s (.counter m c))) ∧
    (∀ j, (∀ m ∈ l, showingNum (counterAt s m).showing = n → j ≠ .counter m c) → lampAt t j = lampAt s j) ∧
    (∀ m, counterAt t m = { (counterAt s m) with
      green := (counterAt t m).green, red := (counterAt t m).red, changes := (counterAt t m).changes }) ∧
    t = { s with station := { s.station with counters := t.station.counters } } := by
  induction l with
  | nil => exact fun _ _ => ⟨fun _ no => absurd no List.not_mem_nil, fun _ _ => rfl, fun _ => rfl, rfl⟩
  | cons m l ih =>
    intro s kiosks counters t
    by_cases shows : showingNum (counterAt s m).showing = n
    · have written := lampWritten_updLamp kiosks counters (.counter m c) (refreshLamp (bindingFor s (.counter m c)))
      have size := updLamp_lengths (.counter m c) (refreshLamp (bindingFor s (.counter m c))) s
      have frame : updLamp (.counter m c) (refreshLamp (bindingFor s (.counter m c))) s = { s with station := { s.station with
          counters := (updLamp (.counter m c) (refreshLamp (bindingFor s (.counter m c))) s).station.counters } } := by
        rw [updLamp_counter]
        rfl
      have head : t = retakeWhere (hasShowing n) (l.map (fun m => .counter m c))
          (updLamp (.counter m c) (refreshLamp (bindingFor s (.counter m c))) s) := by
        have here : hasShowing n s (.counter m c) = true := beq_iff_eq.mpr shows
        simp only [t, retakeWhere, List.map_cons, List.foldl_cons, here, if_true, retakeLamp]
      rw [head]
      generalize updLamp (.counter m c) (refreshLamp (bindingFor s (.counter m c))) s = u at *
      obtain ⟨lamps, others, cells', frame'⟩ := ih (size.1.trans kiosks) (size.2.trans counters)
      have bindings := written.bindingFor
      obtain ⟨self, apart, -, cells, -⟩ := written
      have showings : ∀ j, (counterAt u j).showing = (counterAt s j).showing := fun j => by rw [cells j]
      refine ⟨fun j listed here => ?_, fun j other => ?_, fun j => ?_, ?_⟩
      · by_cases again : j ∈ l
        · rw [lamps j again (by rw [showings]; exact here), bindings]
          by_cases same : j = m
          · subst same
            rw [self, refreshLamp_twice]
          · rw [apart _ (by simpa using same)]
        · obtain rfl : j = m := (List.mem_cons.mp listed).resolve_right again
          rw [others _ (fun i there _ eq => again (by cases eq; exact there)), self]
      · rw [others j fun i there here => other i (List.mem_cons_of_mem _ there) (by rw [← showings]; exact here),
          apart j (other m List.mem_cons_self shows)]
      · rw [cells' j, cells j]
      · rw [frame', frame]
    · have head : t = retakeWhere (hasShowing n) (l.map (fun m => .counter m c)) s := by
        have here : hasShowing n s (.counter m c) = false := Bool.eq_false_iff.mpr (mt beq_iff_eq.mp shows)
        simp only [t, retakeWhere, List.map_cons, List.foldl_cons, here, Bool.false_eq_true, if_false]
      obtain ⟨lamps, others, cells, frame⟩ := ih kiosks counters
      rw [head]
      exact ⟨fun j listed here => lamps j ((List.mem_cons.mp listed).resolve_left fun same => shows (same ▸ here)) here,
        fun j other => others j fun i there => other i (List.mem_cons_of_mem _ there), cells, frame⟩

theorem getElem?_updAt_self {α : Type} (l : List α) (n : Nat) (f : α → α) : (updAt l n f)[n]? = (l[n]?).map f := by
  cases inside : l[n]? with
  | none => simp only [updAt, inside, Option.map_none]
  | some x =>
    have low : n < l.length := (List.getElem?_eq_some_iff.mp inside).1
    simp only [updAt, inside, List.getElem?_set_self low, Option.map_some]

theorem getElem?_updAt_other {α : Type} (l : List α) (f : α → α) {n m : Nat} (apart : m ≠ n) : (updAt l n f)[m]? = l[m]? := by
  cases inside : l[n]? with
  | none => simp only [updAt, inside]
  | some x => simp only [updAt, inside, List.getElem?_set_ne apart.symm]

/-- R165: one function of a kiosk table entry replaced. -/
def kioskTableSet (place : Nat) (c : Colour) (f : LampFunction) (s : State) : State :=
  { s with station := { s.station with kioskBindings := updAt s.station.kioskBindings place (setBindingColour c f) } }

theorem bindingFor_kioskTableSet {s : State} (c : Colour) (f : LampFunction) {place : Nat} (low : place < s.station.kioskBindings.length)
    {k : Fin 12} (here : conditionNum (kioskAt s k).condition = place) : bindingFor (kioskTableSet place c f s) (.kiosk k c) = some f := by
  have entry : (updAt s.station.kioskBindings place (setBindingColour c f))[conditionNum (kioskAt s k).condition]? =
      some (setBindingColour c f s.station.kioskBindings[place]) := by
    rw [here, getElem?_updAt_self, List.getElem?_eq_getElem low, Option.map_some]
  cases c with
  | green => exact (congrArg (Option.map Binding.green) entry).trans rfl
  | red => exact (congrArg (Option.map Binding.red) entry).trans rfl

theorem lampAt_kioskTableSet (place : Nat) (c : Colour) (f : LampFunction) (s : State) (j : LampId) :
    lampAt (kioskTableSet place c f s) j = lampAt s j := by
  cases j with
  | kiosk k d => cases d <;> rfl
  | counter m d => cases d <;> rfl

/-- R165: one function of a kiosk table entry replaced, and taken at once by the lamps it binds. -/
def kioskEntryReplaced (place : Nat) (c : Colour) (f : LampFunction) (s : State) : State :=
  retakeWhere (hasCondition place) (kioskLamps c) (kioskTableSet place c f s)

theorem kioskEntryReplaced_eq (place : Nat) (c : Colour) (f : LampFunction) (s : State) : kioskEntryReplaced place c f s =
    retakeWhere (hasCondition place) ((List.finRange 12).map (fun k => .kiosk k c)) (kioskTableSet place c f s) := rfl

theorem kioskEntryReplaced_spec {s : State} {place : Nat} (c : Colour) (f : LampFunction) (kiosks : s.station.kiosks.length = 12)
    (counters : s.station.counters.length = 4) (low : place < s.station.kioskBindings.length) :
    let u := kioskEntryReplaced place c f s
    u.station.kioskBindings = updAt s.station.kioskBindings place (setBindingColour c f) ∧
    (∀ k : Fin 12, lampAt u (.kiosk k c) = if conditionNum (kioskAt s k).condition = place
      then refreshLamp (some f) (lampAt s (.kiosk k c)) else lampAt s (.kiosk k c)) ∧
    (∀ j, (∀ k, j ≠ .kiosk k c) → lampAt u j = lampAt s j) ∧
    (∀ k, kioskLike (kioskAt u k) (kioskAt s k)) ∧
    u = { s with station := { s.station with kiosks := u.station.kiosks, kioskBindings := u.station.kioskBindings } } := by
  obtain ⟨lamps, others, like, frame⟩ :=
    retakeKiosks_spec place c (List.finRange 12) (s := kioskTableSet place c f s) kiosks counters
  rw [← kioskEntryReplaced_eq] at lamps others like frame
  generalize kioskEntryReplaced place c f s = u at *
  intro u
  have tables : u.station.kioskBindings = updAt s.station.kioskBindings place (setBindingColour c f) :=
    (congrArg (fun t : State => t.station.kioskBindings) frame :)
  refine ⟨tables, fun k => ?_, fun j other => ?_, like, ?_⟩
  · by_cases here : conditionNum (kioskAt s k).condition = place
    · rw [if_pos here, ← bindingFor_kioskTableSet c f low here, ← lampAt_kioskTableSet place c f s]
      exact lamps k (List.mem_finRange k) here
    · rw [if_neg here, ← lampAt_kioskTableSet place c f s]
      exact others (.kiosk k c) fun i _ there same => here (by cases same; exact there)
  · rw [← lampAt_kioskTableSet place c f s]
    exact others j fun i _ _ => other i
  · rw [tables]
    exact frame

/-- R165: one function of a counter table entry replaced. -/
def counterTableSet (place : Nat) (c : Colour) (f : LampFunction) (s : State) : State :=
  { s with station := { s.station with counterBindings := updAt s.station.counterBindings place (setBindingColour c f) } }

theorem bindingFor_counterTableSet {s : State} (c : Colour) (f : LampFunction) {place : Nat} (low : place < s.station.counterBindings.length)
    {m : Fin 4} (here : showingNum (counterAt s m).showing = place) : bindingFor (counterTableSet place c f s) (.counter m c) = some f := by
  have entry : (updAt s.station.counterBindings place (setBindingColour c f))[showingNum (counterAt s m).showing]? =
      some (setBindingColour c f s.station.counterBindings[place]) := by
    rw [here, getElem?_updAt_self, List.getElem?_eq_getElem low, Option.map_some]
  cases c with
  | green => exact (congrArg (Option.map Binding.green) entry).trans rfl
  | red => exact (congrArg (Option.map Binding.red) entry).trans rfl

theorem lampAt_counterTableSet (place : Nat) (c : Colour) (f : LampFunction) (s : State) (j : LampId) :
    lampAt (counterTableSet place c f s) j = lampAt s j := by
  cases j with
  | kiosk k d => cases d <;> rfl
  | counter m d => cases d <;> rfl

/-- R165: one function of a counter table entry replaced, and taken at once by the lamps it binds. -/
def counterEntryReplaced (place : Nat) (c : Colour) (f : LampFunction) (s : State) : State :=
  retakeWhere (hasShowing place) (counterLamps c) (counterTableSet place c f s)

theorem counterEntryReplaced_eq (place : Nat) (c : Colour) (f : LampFunction) (s : State) : counterEntryReplaced place c f s =
    retakeWhere (hasShowing place) ((List.finRange 4).map (fun m => .counter m c)) (counterTableSet place c f s) := rfl

theorem counterEntryReplaced_spec {s : State} {place : Nat} (c : Colour) (f : LampFunction) (kiosks : s.station.kiosks.length = 12)
    (counters : s.station.counters.length = 4) (low : place < s.station.counterBindings.length) :
    let u := counterEntryReplaced place c f s
    u.station.counterBindings = updAt s.station.counterBindings place (setBindingColour c f) ∧
    (∀ m : Fin 4, lampAt u (.counter m c) = if showingNum (counterAt s m).showing = place
      then refreshLamp (some f) (lampAt s (.counter m c)) else lampAt s (.counter m c)) ∧
    (∀ j, (∀ m, j ≠ .counter m c) → lampAt u j = lampAt s j) ∧
    (∀ m, counterAt u m = { (counterAt s m) with
      green := (counterAt u m).green, red := (counterAt u m).red, changes := (counterAt u m).changes }) ∧
    u = { s with station := { s.station with counters := u.station.counters, counterBindings := u.station.counterBindings } } := by
  obtain ⟨lamps, others, cells, frame⟩ :=
    retakeCounters_spec place c (List.finRange 4) (s := counterTableSet place c f s) kiosks counters
  rw [← counterEntryReplaced_eq] at lamps others cells frame
  generalize counterEntryReplaced place c f s = u at *
  intro u
  have tables : u.station.counterBindings = updAt s.station.counterBindings place (setBindingColour c f) :=
    (congrArg (fun t : State => t.station.counterBindings) frame :)
  refine ⟨tables, fun m => ?_, fun j other => ?_, cells, ?_⟩
  · by_cases here : showingNum (counterAt s m).showing = place
    · rw [if_pos here, ← bindingFor_counterTableSet c f low here, ← lampAt_counterTableSet place c f s]
      exact lamps m (List.mem_finRange m) here
    · rw [if_neg here, ← lampAt_counterTableSet place c f s]
      exact others (.counter m c) fun i _ there same => here (by cases same; exact there)
  · rw [← lampAt_counterTableSet place c f s]
    exact others j fun i _ _ => other i
  · rw [tables]
    exact frame

/-! ### SET_BINDING (R165) -/

theorem exec_setBinding {s : State} {r : Request} (handed : Handed .setBinding r s) :
    exec .setBinding s = .next (setBindingOp r (taken r s)) := next_congr (withRequest_handed handed _)

section
variable {r : Request} {s : State}

theorem setBinding_colourless (none : colourOf (param1 r 2) = none) : setBindingOp r s = completeSlot r.slot .badParameter [] s := by
  simp only [setBindingOp, none]
  rfl

variable {c : Colour} (colour : colourOf (param1 r 2) = some c)
include colour

theorem setBinding_kiosks {f : LampFunction} (form : param1 r 0 = 0) (named : functionOf (param1 r 3) = some f) (low : param1 r 1 < 9) :
    setBindingOp r s = completeSlot r.slot .ok [] (kioskEntryReplaced (param1 r 1) c f s) := by
  simp only [setBindingOp, colour, form, named, low, if_true]
  rfl

theorem setBinding_counters {f : LampFunction} (form : param1 r 0 = 1) (named : functionOf (param1 r 3) = some f) (low : param1 r 1 < 8) :
    setBindingOp r s = completeSlot r.slot .ok [] (counterEntryReplaced (param1 r 1) c f s) := by
  simp only [setBindingOp, colour, form, named, low, if_true, Nat.one_ne_zero, if_false]
  rfl

theorem setBinding_follow (k : Fin 12) (form : param1 r 0 = 2) (place : param1 r 1 = k.val) (line : param1 r 3 < 4 ∨ param1 r 3 = 255) :
    setBindingOp r s = completeSlot r.slot .ok [] (retakeLamp (.kiosk k c)
      (updLamp (.kiosk k c) (fun x => { x with follow := if param1 r 3 = 255 then none else some (param1 r 3) }) s)) := by
  have low : param1 r 1 < 12 := place.trans_lt k.isLt
  have kiosk : (⟨param1 r 1, low⟩ : Fin 12) = k := Fin.ext place
  simp only [setBindingOp, colour, form, if_false, if_true, OfNat.ofNat_ne_zero, OfNat.ofNat_ne_one, low, dif_pos, line, kiosk]
  rfl

theorem setBinding_refused (no : 3 ≤ param1 r 0 ∨ (param1 r 0 = 0 ∧ (9 ≤ param1 r 1 ∨ functionOf (param1 r 3) = none)) ∨
      (param1 r 0 = 1 ∧ (8 ≤ param1 r 1 ∨ functionOf (param1 r 3) = none)) ∨
      (param1 r 0 = 2 ∧ (12 ≤ param1 r 1 ∨ (4 ≤ param1 r 3 ∧ param1 r 3 ≠ 255)))) :
    setBindingOp r s = completeSlot r.slot .badParameter [] s := by
  simp only [setBindingOp, colour]
  rcases no with high | ⟨form, no⟩ | ⟨form, no⟩ | ⟨form, no⟩
  · rw [if_neg (by omega), if_neg (by omega), if_neg (by omega)]
    rfl
  · rw [if_pos form]
    cases named : functionOf (param1 r 3) with
    | none => rfl
    | some f => exact if_neg (Nat.not_lt.mpr (no.resolve_right (by rw [named]; exact Option.some_ne_none _)))
  · rw [if_neg (by omega), if_pos form]
    cases named : functionOf (param1 r 3) with
    | none => rfl
    | some f => exact if_neg (Nat.not_lt.mpr (no.resolve_right (by rw [named]; exact Option.some_ne_none _)))
  · rw [if_neg (by omega), if_neg (by omega), if_pos form]
    rcases no with high | ⟨low, other⟩
    · exact dif_neg (by omega)
    · split
      · exact if_neg (by omega)
      · rfl

end

/-! ### SET_LAMP (R166) -/

theorem exec_setLamp {s : State} {r : Request} (handed : Handed .setLamp r s) :
    exec .setLamp s = .next (setLampOp r (taken r s)) := next_congr (withRequest_handed handed _)

section
variable {r : Request} {s : State}

theorem setLamp_lampless (none : (colourOf (param1 r 1)).bind (stationLamp (param1 r 0)) = none) :
    setLampOp r s = completeSlot r.slot .badParameter [] s := by
  simp only [setLampOp, none]
  rfl

variable {lamp : LampId} (named : (colourOf (param1 r 1)).bind (stationLamp (param1 r 0)) = some lamp)
include named

theorem setLamp_clears (clear : param1 r 2 = 0x30) : setLampOp r s =
    completeSlot r.slot .ok [] (retakeLamp lamp (updLamp lamp (fun x => { x with override := none }) s)) := by
  simp only [setLampOp, named, clear, if_true]
  rfl

theorem setLamp_sets {f : LampFunction} (action : functionOf (param1 r 2) = some f) (short : param1 r 3 ≤ 60) : setLampOp r s =
    completeSlot r.slot .ok [] (retakeLamp lamp (updLamp lamp (fun x => { x with
      override := some (f, if param1 r 3 = 0 then none else some ⟨nowOf s + 1000 * param1 r 3, nowOf s⟩) }) s)) := by
  have other : param1 r 2 ≠ 0x30 := fun clear => by rw [clear] at action; cases action
  simp only [setLampOp, named, other, action, short, if_true, if_false]
  rfl

theorem setLamp_refused (other : param1 r 2 ≠ 0x30) (no : functionOf (param1 r 2) = none ∨ 60 < param1 r 3) :
    setLampOp r s = completeSlot r.slot .badParameter [] s := by
  simp only [setLampOp, named, other, if_false]
  cases action : functionOf (param1 r 2) with
  | none => rfl
  | some f => exact if_neg (Nat.not_le.mpr (no.resolve_left (by rw [action]; exact Option.some_ne_none _)))

end

/-! ### Pattern generators (R168) -/

theorem exec_setPattern {s : State} {r : Request} (handed : Handed .setPattern r s) :
    exec .setPattern s = .next (setPatternOp r (taken r s)) := next_congr (withRequest_handed handed _)

theorem stepsOf_spec (w : Nat) : (stepsOf w).length = 12 ∧ ∀ i < 12, (stepsOf w).getD i false = w.testBit i := by
  refine ⟨by simp [stepsOf], fun i low => ?_⟩
  simp [stepsOf, low]

/-- R164: a lamp's level is its function's, with the sense lines of its station. -/
theorem lampLit_eq (s : State) (lamp : LampId) : ∃ senses, lampLit s lamp = functionLit s senses (lampAt s lamp).function ∧
    ∀ k c, lamp = .kiosk k c → senses = (kioskAt s k).senses := by
  cases lamp with
  | kiosk k c => exact ⟨_, rfl, fun _ _ same => by cases same; rfl⟩
  | counter m c => exact ⟨_, rfl, nofun⟩

/-- Settles O59. -/
theorem lampsTakeTheirFunctionsInForce : Obligations.LampsTakeTheirFunctionsInForce := by
  unfold Obligations.LampsTakeTheirFunctionsInForce
  refine ⟨?lit, ⟨rfl, rfl, fun s c => ?binding⟩, ⟨rfl, rfl, fun n => functionOf_pattern, fun b => functionOf_none,
      ⟨rfl, rfl, fun b => colourOf_none⟩, fun c => ⟨fun k => stationLamp_kiosk k c, fun m => stationLamp_counter m c,
        fun b high unnamed => stationLamp_none high unnamed c⟩⟩,
    ?condition, ?force, ?setBinding, fun s r => ⟨fun handed no => (exec_setBinding handed).trans (next_congr (setBinding_colourless no)),
      fun handed no => (exec_setLamp handed).trans (next_congr (setLamp_lampless no))⟩, ?setLamp, ?override, ?setPattern, ?step⟩
  case lit =>
    intro s lamp f
    obtain ⟨senses, lit, own⟩ := lampLit_eq s lamp
    refine ⟨fun off => ?_, fun on => ?_, fun n g shows generator => ?_, fun k c line kiosk follows => ?_⟩
    · rw [lit, show (lampAt s lamp).function = _ from off]; rfl
    · rw [lit, show (lampAt s lamp).function = _ from on]; rfl
    · rw [lit, show (lampAt s lamp).function = _ from shows]
      simp only [functionLit, generator]
    · rw [lit, show (lampAt s lamp).function = _ from follows, own k c kiosk]
      rfl
  case binding =>
    cases c with
    | green => exact ⟨fun _ => rfl, fun _ => rfl⟩
    | red => exact ⟨fun _ => rfl, fun _ => rfl⟩
  case condition =>
    intro s k c p
    simp only [conditionOf, c]
    cases (kioskAt s k).current with
    | none => rfl
    | some b =>
      simp only [Option.map_some]
      cases (basketAt s b).state <;> rfl
  case force =>
    intro l binding
    refine ⟨fun line follows => ?_, fun f d free overridden => ?_, fun f free plain bound => ?_, fun free plain unbound => ?_⟩
    · simp only [refreshLamp, lampInForce, follows]
    · simp only [refreshLamp, lampInForce, free, overridden]
    · simp only [refreshLamp, lampInForce, free, plain, bound]
    · simp only [refreshLamp, lampInForce, free, plain, unbound]
  case setBinding =>
    intro s r c f handed kiosks counters nine eight place part colour
    have run := exec_setBinding handed
    refine ⟨fun form named low => ?_, fun form named low => ?_, fun k form at' line => ?_,
      fun no => run.trans (next_congr (setBinding_refused colour no))⟩
    · obtain ⟨table, lamps, others, like, frame⟩ :=
        kioskEntryReplaced_spec (s := taken r s) c f kiosks counters (low.trans_eq nine.symm)
      have run' := run.trans (next_congr (setBinding_kiosks (s := taken r s) colour form named low))
      generalize kioskEntryReplaced (param1 r 1) c f (taken r s) = u at *
      refine ⟨u, run', fun n apart => ?_, ?_, lamps, others, like, frame⟩
      · rw [table, getElem?_updAt_other _ _ apart]
        rfl
      · rw [table, getElem?_updAt_self]
        cases c <;> rfl
    · obtain ⟨table, lamps, others, cells, frame⟩ :=
        counterEntryReplaced_spec (s := taken r s) c f kiosks counters (low.trans_eq eight.symm)
      have run' := run.trans (next_congr (setBinding_counters (s := taken r s) colour form named low))
      generalize counterEntryReplaced (param1 r 1) c f (taken r s) = u at *
      refine ⟨u, run', fun n apart => ?_, ?_, lamps, others, cells, frame⟩
      · rw [table, getElem?_updAt_other _ _ apart]
        rfl
      · rw [table, getElem?_updAt_self]
        cases c <;> rfl
    · exact ⟨_, run.trans (next_congr (setBinding_follow (s := taken r s) colour k form at' line)),
        lampWritten_retaken (s := taken r s) kiosks counters (.kiosk k c) _⟩
  case setLamp =>
    intro s r lamp handed kiosks counters named now duration sets
    have run := exec_setLamp handed
    refine ⟨fun clear => ⟨_, run.trans (next_congr (setLamp_clears (s := taken r s) named clear)),
        lampWritten_retaken (s := taken r s) kiosks counters lamp _⟩,
      fun f action short => ⟨_, run.trans (next_congr (setLamp_sets (s := taken r s) named action short)),
        lampWritten_retaken (s := taken r s) kiosks counters lamp _⟩,
      fun ⟨other, no⟩ => run.trans (next_congr (setLamp_refused named other no))⟩
  case override =>
    intro s lamp f d kiosks counters overridden due set
    have now : overrideDue s lamp = true := by
      simp only [overrideDue, overridden]
      exact dueNow_some rfl due set
    exact ⟨_, next_congr (if_pos now), lampWritten_retaken kiosks counters lamp _⟩
  case setPattern =>
    intro s r handed eight n len width now sound
    have run := exec_setPattern handed
    have sound_iff : sound ↔ n < 8 ∧ (len = 8 ∨ len = 9 ∨ len = 10 ∨ len = 12) ∧ (width = 50 ∨ width = 100 ∨ width = 200 ∨ width = 400) := by
      simp only [sound, List.mem_cons, List.not_mem_nil, or_false]
    refine ⟨fun unsound => run.trans (next_congr (if_neg (mt sound_iff.mpr unsound))), fun yes => ?_⟩
    obtain ⟨length, steps⟩ := stepsOf_spec (param2 r 1)
    refine ⟨_, stepsOf (param2 r 1), run.trans (next_congr (if_pos (sound_iff.mp yes))), ?_, ⟨length, steps⟩,
      fun j apart => getElem?_updAt_other _ _ apart, rfl⟩
    have low : n < s.station.generators.length := yes.1.trans_eq eight.symm
    exact (getElem?_updAt_self _ _ _).trans (by rw [show (taken r s).station.generators[n]? = _ from List.getElem?_eq_getElem low]; rfl)
  case step =>
    intro s n g generator due set
    have now : isDue (nowOf s) g.stepDue = true := isDue_iff.mpr ⟨due, set⟩
    have steps : patternStepOp n s = updGenerator n (advanceStep (nowOf s)) s := by
      simp only [patternStepOp, generator, now, if_true]
    refine ⟨_, next_congr steps, ?_, fun j apart => getElem?_updAt_other _ _ apart, rfl⟩
    rw [show (updGenerator n (advanceStep (nowOf s)) s).station.generators[n.val]? = _ from getElem?_updAt_self _ _ _, generator]
    rfl

end Sys2Proof.Machine
end

section
/-! RESET_STATION in its three shares (R105, R125, R169). -/

namespace Sys2Proof.Machine

/-! ### The line's share (R105) -/

theorem exec_resetStation {s : State} {r : Request} (handed : Handed .resetStation r s) :
    exec .resetStation s = .next (resetStationOp r (taken r s)) := next_congr (withRequest_handed handed _)

theorem kioskPaying_iff {s : State} {k : Nat} : kioskPaying s k = true ↔
    ∃ c ∈ s.basketUnit.baskets, c.kiosk = k ∧ (c.state = .paying ∨ c.state = .unresolved) := by
  simp only [kioskPaying, List.any_eq_true, Bool.and_eq_true, Bool.or_eq_true, beq_iff_eq]

/-- R105: the line as its share leaves it. -/
def restartedLine (now : Nat) (x : Line) : Line :=
  { x with
    state := .down, pings := 0, parityFaults := 0, framingFaults := 0, overruns := 0, late := [], lateOverflow := 0
    pingDue := some ⟨now + 5000, now⟩, authDue := none, abortDue := none, reverseDue := none, awaiting := none
    reversing := none, rx := none, gapDue := none }

theorem lineShare_quiet {s : State} {k : Nat} (idle : (lineAt s k).reversing = none) :
    LineStep k (restartedLine (nowOf s)) [] s (lineShare k s) := by
  have share : lineShare k s = updLine k (restartedLine (nowOf s)) s := by
    simp only [lineShare, endReverse, idle]
    rfl
  rw [share]
  exact .updLine k _ s

theorem lineShare_reversing {s : State} {k slot late : Nat} (reverses : (lineAt s k).reversing = some (slot, late)) :
    LineStep k (restartedLine (nowOf s)) [] (completeSlot slot .terminalFault [] s) (lineShare k s) := by
  have share : lineShare k s = updLine k (restartedLine (nowOf s))
      (updLine k (fun x => { x with reversing := none, reverseDue := none }) (completeSlot slot .terminalFault [] s)) := by
    simp only [lineShare, endReverse, reverses, finish, completeSlot_updLine]
    rfl
  rw [share]
  exact (LineStep.updLine k (fun x => { x with reversing := none, reverseDue := none }) _).trans (.updLine k (restartedLine (nowOf s)) _)

theorem resetStation_begins {r : Request} {s : State} (kiosk : param1 r 0 < 12) (quiet : ¬ kioskPaying s (param1 r 0) = true) :
    resetStationOp r s = { lineShare (param1 r 0) s with station := { (lineShare (param1 r 0) s).station with
      resets := (lineShare (param1 r 0) s).station.resets ++ [{ slot := r.slot, kiosk := param1 r 0, printerDone := false }] } } := by
  simp only [resetStationOp]
  rw [if_neg (Nat.not_le.mpr kiosk), if_neg quiet]

/-! ### The printer's share (R125) -/

theorem requeueHead_kept {q : Printer} (rests : q.queue = [] ∨ ∃ y rest, q.queue = y :: rest ∧ y.state = .queued) :
    requeueHead q = { q with queueChanges := bump q.queueChanges } := by
  rcases rests with empty | ⟨y, rest, shape, queued⟩
  · simp only [requeueHead, empty]
  · simp only [requeueHead, shape, if_pos queued]

theorem requeueHead_active {q : Printer} {y : Item} {rest : List Item} (shape : q.queue = y :: rest) (active : y.state ≠ .queued) :
    requeueHead q = { q with
      queueChanges := bump q.queueChanges
      queue := placeItem { y with state := .queued, reprints := min 15 (y.reprints + 1) } rest } := by
  simp only [requeueHead, shape, requeued, if_neg active]
  rfl

/-- R125: a printer that is ABSENT, with a poll byte out. -/
def absented (q : Printer) : Printer :=
  { q with state := .absent, stallCause := none, cutDue := none, absentRun := 0, toSend := [], polled := true }

/-- R125: the printer as its share leaves it. -/
def restartedPrinter (q : Printer) : Printer := absented (requeueHead q)

theorem restartPrinter_spec {s : State} {p : Nat} (inside : p < s.print.printers.length) :
    let t := restartPrinter p s
    printerAt t p = restartedPrinter (printerAt s p) ∧ (∀ j, j ≠ p → printerAt t j = printerAt s j) ∧
    t.wire = s.wire ++ [.printerByte p false 0] ∧ (∀ j, kioskLike (kioskAt t j) (kioskAt s j)) ∧
    t = { s with
      print := { s.print with printers := t.print.printers }, wire := t.wire
      station := { s.station with kiosks := t.station.kiosks } } := by
  refine ⟨printerAt_updPrinter_self s p restartedPrinter inside, fun j apart => printerAt_updPrinter_other s p j restartedPrinter apart.symm,
    rfl, fun j => ?_, rfl⟩
  exact kioskLike_trans (refreshKiosk_like _ _ _) (updKiosk_like p j id (fun _ => kioskLike_refl _) _)

theorem printerReset_waits {s : State} {k : Nat} {x : StationReset} (due : printerShareDue s k = some x)
    (open' : (printerAt s k).check ≠ none) :
    printerResetOp k s = { s with waiting := s.waiting ++ [(.printer k, .printerReset k)] } := by
  rw [printerResetOp, due]
  have busy' : busy s (.printer k) = true := busy_iff.mpr open'
  exact whenFree_busy busy' _ _

theorem printerReset_restarts {s : State} {k : Nat} {x : StationReset} (due : printerShareDue s k = some x)
    (free : (printerAt s k).check = none) : printerResetOp k s = restartPrinter k { s with station := { s.station with
      resets := s.station.resets.map (fun y => if y = x then { y with printerDone := true } else y) } } := by
  have notBusy : busy s (.printer k) = false := Bool.eq_false_iff.mpr fun yes => busy_iff.mp yes free
  rw [printerResetOp, due]
  refine (whenFree_free notBusy _ _).trans ?_
  simp only [printerResetNow, due]

/-! ### The cell's share (R169) -/

/-- R169: what the cell's share writes before what is derived. -/
def settledKiosk (c : Kiosk) : Kiosk :=
  let senses := c.senses.map (fun x => { x with accepted := x.present, deadline := none })
  { c with
    factors := 0, senses := senses, service := (senses.getD 1 (.atLevel false)).accepted
    green := { c.green with override := none }, red := { c.red with override := none } }

theorem reportAttention_ceases (before : Bool) (s : State) : reportAttention before false s =
    { s with board := { s.board with attention := s.board.attention - (if before then 1 else 0) } } := by
  cases before <;> rfl

theorem stationShare_spec (k : Fin 12) {s : State} (kiosks : s.station.kiosks.length = 12) :
    let u := stationShare k s
    kioskLike (kioskAt u k) (settledKiosk (kioskAt s k)) ∧ (kioskAt u k).condition = conditionOf u k ∧
    (∀ j, j ≠ k.val → kioskAt u j = kioskAt s j) ∧
    u.board = { s.board with
      attention := s.board.attention - (if draws (kioskAt s k).factors (kioskAt s k).mask then 1 else 0) } ∧
    u = { s with board := u.board, station := { s.station with kiosks := u.station.kiosks } } := by
  have inside : k.val < s.station.kiosks.length := k.isLt.trans_eq kiosks.symm
  have share : stationShare k s = refreshKiosk k (updKiosk k settledKiosk { s with
      board := { s.board with attention := s.board.attention - (if draws (kioskAt s k).factors (kioskAt s k).mask then 1 else 0) } }) := by
    rw [stationShare]
    simp only [reportAttention_ceases, kioskCell_val]
    rfl
  rw [share]
  generalize settled : updKiosk k settledKiosk { s with
      board := { s.board with attention := s.board.attention - (if draws (kioskAt s k).factors (kioskAt s k).mask then 1 else 0) } } = w
  have size : k.val < w.station.kiosks.length := by rw [← settled]; exact inside.trans_eq (updAt_length ..).symm
  refine ⟨kioskLike_trans (refreshKiosk_like _ _ _) ?_, condition_refreshKiosk size, fun j apart => ?_, ?_, ?_⟩
  · have self : kioskAt w k = { settledKiosk (kioskAt s k) with changes := bump (kioskAt s k).changes } := by
      rw [← settled]
      exact kioskAt_updKiosk_self _ _ _ inside
    rw [self]
    exact ⟨rfl, rfl, rfl⟩
  · rw [kioskAt_refreshKiosk_other apart, ← settled]
    exact kioskAt_updKiosk_other _ _ _ _ apart.symm
  · rw [refreshKiosk_frame, ← settled]
    rfl
  · rw [refreshKiosk_frame, ← settled]
    rfl

/-- Settles O60: each share is one lemma about its unit. -/
theorem stationResetIsMadeInThreeShares : Obligations.StationResetIsMadeInThreeShares := by
  unfold Obligations.StationResetIsMadeInThreeShares
  refine ⟨?_, ?_⟩
  · intro s r handed lines k x now paying refused share
    have run := exec_resetStation handed
    have begun : ∀ {v : State}, k < 12 → ¬ paying → LineStep k (restartedLine now) [] v (lineShare k (taken r s)) →
        v.lines = s.lines → v.station.resets = s.station.resets → share v := by
      intro v kiosk quiet step same kept
      have inside : k < v.lines.length := by rw [same, lines]; exact kiosk
      have line : lineAt v k = x := congrArg (fun l : List Line => l.getD k .initial) same
      refine ⟨lineShare k (taken r s), line ▸ step.moved inside, run.trans (next_congr ?_)⟩
      have resets : (lineShare (param1 r 0) (taken r s)).station.resets = s.station.resets :=
        (congrArg (fun t => t.station.resets) step.frame :).trans kept
      rw [show resetStationOp r (taken r s) = _ from resetStation_begins kiosk (mt kioskPaying_iff.mp quiet)]
      simp only [resets]
      rfl
    refine ⟨fun beyond => run.trans (next_congr (if_pos beyond)), fun kiosk busy => run.trans (next_congr ?_),
      fun kiosk quiet idle => begun kiosk quiet (lineShare_quiet (s := taken r s) idle) rfl rfl,
      fun slot late kiosk quiet reverses => begun kiosk quiet (lineShare_reversing (s := taken r s) reverses) (by simp; rfl) (by simp; rfl)⟩
    exact (if_neg (Nat.not_le.mpr kiosk)).trans (if_pos (kioskPaying_iff.mpr busy))
  · intro s k x printers kiosks q
    have inside : k.val < s.print.printers.length := k.isLt.trans_eq printers.symm
    refine ⟨fun due open' => next_congr (printerReset_waits due open'), fun due free => ?_, fun done => ?_⟩
    · obtain ⟨self, others, wire, like, frame⟩ := restartPrinter_spec (p := k.val) (s := { s with station := { s.station with
        resets := s.station.resets.map (fun y => if y = x then { y with printerDone := true } else y) } }) inside
      have run := next_congr (printerReset_restarts due free)
      generalize restartPrinter k.val { s with station := { s.station with
        resets := s.station.resets.map (fun y => if y = x then { y with printerDone := true } else y) } } = t at *
      refine ⟨t, run, ?_, others, wire, by rw [frame], like, by rw [frame]⟩
      intro cleared
      refine ⟨fun rests => ?_, fun y rest shape active => ?_⟩
      · exact self.trans (congrArg absented (requeueHead_kept rests))
      · exact self.trans (congrArg absented (requeueHead_active shape active))
    · intro c
      obtain ⟨like, condition, others, board, frame⟩ := stationShare_spec k (s := { s with station := { s.station with
        resets := s.station.resets.erase x } }) kiosks
      refine ⟨_, next_congr ?_, like, condition, others, board, frame⟩
      simp only [stationCellResetOp, done]
      rfl

end Sys2Proof.Machine
end

section
/-! The basket requests that another unit serves: their refusals, the call they open, and the wait for a call open already. -/

namespace Sys2Proof.Machine

/-! ### The requests, once handed on -/

theorem exec_holdSeats {r : Request} {s : State} (handed : Handed .holdSeats r s) :
    exec .holdSeats s = .next (basketRequest r (holdSeatsNow r) (taken r s)) := by
  show Host.Outcome.next (withRequest .holdSeats (fun r => basketRequest r (holdSeatsNow r)) s) = _
  rw [withRequest_handed handed]

theorem exec_releaseSeats {r : Request} {s : State} (handed : Handed .releaseSeats r s) :
    exec .releaseSeats s = .next (basketRequest r (releaseSeatsNow r) (taken r s)) := by
  show Host.Outcome.next (withRequest .releaseSeats (fun r => basketRequest r (releaseSeatsNow r)) s) = _
  rw [withRequest_handed handed]

theorem exec_addVoucher {r : Request} {s : State} (handed : Handed .addVoucher r s) :
    exec .addVoucher s = .next (basketRequest r (addVoucherNow r) (taken r s)) := by
  show Host.Outcome.next (withRequest .addVoucher (fun r => basketRequest r (addVoucherNow r)) s) = _
  rw [withRequest_handed handed]

theorem exec_dropVoucher {r : Request} {s : State} (handed : Handed .dropVoucher r s) :
    exec .dropVoucher s = .next (basketRequest r (dropVoucherNow r) (taken r s)) := by
  show Host.Outcome.next (withRequest .dropVoucher (fun r => basketRequest r (dropVoucherNow r)) s) = _
  rw [withRequest_handed handed]

/-! ### What each request answers (R29, R35, R53, R54) -/

section
variable {r : Request} {s : State}

/-- The list of a request, when its count byte gives one of its length. -/
theorem paramSeats_of_short (short : param1 r 1 ≤ 10) :
    paramSeats r 1 = some ((List.range (param1 r 1)).map (fun i => param2 r (2 + 2 * i))) :=
  (paramSeats_iff _ _).mpr ⟨by omega, rfl⟩

theorem holdSeats_badLength (bad : 24 ≤ param1 r 0 ∨ param1 r 1 = 0 ∨ 10 < param1 r 1) :
    holdSeatsNow r s = completeSlot r.slot .badParameter [] s := by
  cases given : paramSeats r 1 with
  | none => simp only [holdSeatsNow, given]; rfl
  | some list =>
    have length := paramSeats_length given
    simp only [holdSeatsNow, given]
    exact if_pos (by omega)

theorem holdSeats_inRange {list : List Nat} (given : paramSeats r 1 = some list) (inside : param1 r 0 < 24) (low : 1 ≤ list.length)
    (high : list.length ≤ 10) : holdSeatsNow r s =
      if (basketAt s (param1 r 0)).state ≠ .selecting then finish r.slot .wrongState s
      else openCall (param1 r 0) (.hold r.slot list) s := by
  simp only [holdSeatsNow, given]
  exact if_neg (by omega)

theorem firstFailing_contains_eq_none {before list : List Nat} :
    firstFailing (fun before x => before.contains x) before list = none ↔ list.Nodup ∧ ∀ x ∈ list, x ∉ before := by
  induction list generalizing before with
  | nil => simp [firstFailing]
  | cons x list ih =>
    rw [firstFailing]
    by_cases stands : x ∈ before
    · simp [stands]
    · simp only [List.contains_iff_mem, stands, if_false, ih, List.nodup_cons, List.mem_append, not_or, List.mem_cons,
        List.not_mem_nil, or_false, forall_eq_or_imp, not_false_eq_true, true_and]
      constructor
      · exact fun ⟨once, apart⟩ => ⟨⟨fun again => (apart x again).2 rfl, once⟩, fun y hy => (apart y hy).1⟩
      · exact fun ⟨⟨new, once⟩, apart⟩ => ⟨once, fun y hy => ⟨apart y hy, fun same => new (same ▸ hy)⟩⟩

theorem repeats_iff {list : List Nat} : repeats list = true ↔ ¬ list.Nodup := by
  rw [repeats, Option.isSome_iff_ne_none, Ne, firstFailing_contains_eq_none]
  simp

theorem releaseSeats_badList (bad : 24 ≤ param1 r 0 ∨ param1 r 1 = 0 ∨ 10 < param1 r 1 ∨
      ¬ ((List.range (param1 r 1)).map (fun i => param2 r (2 + 2 * i))).Nodup) :
    releaseSeatsNow r s = completeSlot r.slot .badParameter [] s := by
  cases given : paramSeats r 1 with
  | none => simp only [releaseSeatsNow, given]; rfl
  | some list =>
    have length := paramSeats_length given
    have entries : list = (List.range (param1 r 1)).map (fun i => param2 r (2 + 2 * i)) := ((paramSeats_iff _ _).mp given).2
    simp only [releaseSeatsNow, given]
    rw [← entries] at bad
    refine if_pos ?_
    rw [repeats_iff, length]
    exact bad.imp_right (Or.imp_left (by omega))

theorem releaseSeats_inRange {list : List Nat} (given : paramSeats r 1 = some list) (inside : param1 r 0 < 24) (low : 1 ≤ list.length)
    (high : list.length ≤ 10) (once : list.Nodup) : releaseSeatsNow r s =
      if (basketAt s (param1 r 0)).state ≠ .selecting then finish r.slot .wrongState s
      else match list.find? (fun x => !(basketAt s (param1 r 0)).seats.contains x) with
        | some x => completeSlot r.slot .badParameter (leBytes 2 x) s
        | none => openCall (param1 r 0) (.release r.slot list) s := by
  simp only [releaseSeatsNow, given]
  refine if_neg ?_
  rw [repeats_iff]
  simp only [once, not_true, or_false]
  omega

theorem releaseSeats_unlisted {list : List Nat} {i : Nat} (given : paramSeats r 1 = some list) (inside : param1 r 0 < 24)
    (low : 1 ≤ list.length) (high : list.length ≤ 10) (once : list.Nodup) (selling : (basketAt s (param1 r 0)).state = .selecting)
    (found : list.find? (fun j => decide (j ∉ (basketAt s (param1 r 0)).seats)) = some i) :
    releaseSeatsNow r s = completeSlot r.slot .badParameter (leBytes 2 i) s := by
  have found' : list.find? (fun x => !(basketAt s (param1 r 0)).seats.contains x) = some i := by
    simpa only [List.contains_eq_mem, decide_not] using found
  rw [releaseSeats_inRange given inside low high once, if_neg (not_not_intro selling), found']

/-- R53: the refusals of ADD_VOUCHER, in order. -/
theorem addRefusal_some {b kind : Nat} {code : ResultCode}
    (why : s.showUnit.clock.isSet = false ∧ code = .clockUnset ∨
       s.showUnit.clock.isSet = true ∧ (24 ≤ b ∨ 16 ≤ kind) ∧ code = .badParameter ∨
       s.showUnit.clock.isSet = true ∧ b < 24 ∧ kind < 16 ∧ (basketAt s b).state ≠ .selecting ∧ code = .wrongState ∨
       s.showUnit.clock.isSet = true ∧ b < 24 ∧ kind < 16 ∧ (basketAt s b).state = .selecting ∧
         (showAt s (basketAt s b).sh).state ≠ .onSale ∧ code = .saleClosed ∨
       s.showUnit.clock.isSet = true ∧ b < 24 ∧ kind < 16 ∧ (basketAt s b).state = .selecting ∧
         (showAt s (basketAt s b).sh).state = .onSale ∧ 6 ≤ (basketAt s b).vouchers.length ∧ code = .basketFull) :
    addRefusal s b kind = some code := by
  rw [addRefusal]
  obtain ⟨unset, rfl⟩ | ⟨set, beyond, rfl⟩ | ⟨set, inside, low, other, rfl⟩ | ⟨set, inside, low, selling, closed, rfl⟩ |
    ⟨set, inside, low, selling, onSale, full, rfl⟩ := why
  · rw [if_pos (by simp [unset])]
  · rw [if_neg (by simp [set]), if_pos beyond]
  all_goals rw [if_neg (by simp [set]), if_neg (by omega)]
  · rw [if_pos other]
  · rw [if_neg (not_not_intro selling), if_pos closed]
  · rw [if_neg (not_not_intro selling), if_neg (not_not_intro onSale), if_pos full]

theorem addRefusal_none {b kind : Nat} (set : s.showUnit.clock.isSet = true) (inside : b < 24) (low : kind < 16)
    (selling : (basketAt s b).state = .selecting) (onSale : (showAt s (basketAt s b).sh).state = .onSale)
    (room : (basketAt s b).vouchers.length < 6) : addRefusal s b kind = none := by
  rw [addRefusal, if_neg (by simp [set]), if_neg (by omega), if_neg (not_not_intro selling), if_neg (not_not_intro onSale),
    if_neg (Nat.not_le.mpr room)]

/-- R54: the refusals of DROP_VOUCHER, in order. -/
theorem dropRefusal_some {b position : Nat} {code : ResultCode}
    (why : (24 ≤ b ∨ 5 < position) ∧ code = .badParameter ∨
       b < 24 ∧ position ≤ 5 ∧ (basketAt s b).state ≠ .selecting ∧ code = .wrongState ∨
       b < 24 ∧ position ≤ 5 ∧ (basketAt s b).state = .selecting ∧ (basketAt s b).vouchers.length ≤ position ∧ code = .badParameter) :
    dropRefusal s b position = some code := by
  rw [dropRefusal]
  obtain ⟨beyond, rfl⟩ | ⟨inside, low, other, rfl⟩ | ⟨inside, low, selling, past, rfl⟩ := why
  · rw [if_pos beyond]
  · rw [if_neg (by omega), if_pos other]
  · rw [if_neg (by omega), if_neg (not_not_intro selling), if_pos past]

theorem dropRefusal_none {b position : Nat} (inside : b < 24) (low : position ≤ 5) (selling : (basketAt s b).state = .selecting)
    (listed : position < (basketAt s b).vouchers.length) : dropRefusal s b position = none := by
  rw [dropRefusal, if_neg (by omega), if_neg (not_not_intro selling), if_neg (Nat.not_le.mpr listed)]

theorem addVoucher_refused {code : ResultCode} (why : addRefusal s (param1 r 0) (param1 r 1) = some code) :
    addVoucherNow r s = completeSlot r.slot code [] s := by
  simp only [addVoucherNow, why]
  rfl

theorem addVoucher_opens (passed : addRefusal s (param1 r 0) (param1 r 1) = none) :
    addVoucherNow r s = openCall (param1 r 0) (.issue r.slot (param1 r 1)) s := by
  simp only [addVoucherNow, passed]

theorem dropVoucher_refused {code : ResultCode} (why : dropRefusal s (param1 r 0) (param1 r 1) = some code) :
    dropVoucherNow r s = completeSlot r.slot code [] s := by
  simp only [dropVoucherNow, why]
  rfl

theorem dropVoucher_opens (passed : dropRefusal s (param1 r 0) (param1 r 1) = none) :
    dropVoucherNow r s = openCall (param1 r 0) (.removal r.slot (param1 r 1)) s := by
  simp only [dropVoucherNow, passed]

end

/-! ### The call they open -/

theorem openCall_spec {s : State} {b : Nat} (call : Call) (inside : b < s.basketUnit.baskets.length) :
    let t := openCall b call s
    basketAt t b = { (basketAt s b) with call := some call, changes := stepCount (basketAt s b).changes } ∧
    (∀ n, n ≠ b → basketAt t n = basketAt s n) ∧
    t = { s with basketUnit := { s.basketUnit with baskets := t.basketUnit.baskets } } :=
  ⟨basketAt_setBasket_self _ _ _ inside, fun _ apart => basketAt_setBasket_other _ _ _ _ apart.symm, rfl⟩

/-- The four requests that pass their checks open the call. -/
theorem exec_opens {s : State} {r : Request} {c : Instr} {call : Call} (free : (basketAt s (param1 r 0)).call = none)
    (inside : param1 r 0 < 24) (selling : (basketAt s (param1 r 0)).state = .selecting)
    (passes : (Handed .holdSeats r s ∧ c = .holdSeats ∧ ∃ list, paramSeats r 1 = some list ∧ 1 ≤ list.length ∧ list.length ≤ 10 ∧
        call = .hold r.slot list) ∨
     (Handed .releaseSeats r s ∧ c = .releaseSeats ∧ ∃ list, paramSeats r 1 = some list ∧ 1 ≤ list.length ∧ list.length ≤ 10 ∧
        list.Nodup ∧ (∀ i ∈ list, i ∈ (basketAt s (param1 r 0)).seats) ∧ call = .release r.slot list) ∨
     (Handed .addVoucher r s ∧ c = .addVoucher ∧ s.showUnit.clock.isSet = true ∧ param1 r 1 < 16 ∧
        (showAt s (basketAt s (param1 r 0)).sh).state = .onSale ∧ (basketAt s (param1 r 0)).vouchers.length < 6 ∧
        call = .issue r.slot (param1 r 1)) ∨
     (Handed .dropVoucher r s ∧ c = .dropVoucher ∧ param1 r 1 ≤ 5 ∧ param1 r 1 < (basketAt s (param1 r 0)).vouchers.length ∧
        call = .removal r.slot (param1 r 1))) :
    exec c s = .next (openCall (param1 r 0) call (taken r s)) := by
  have still : (basketAt (taken r s) (param1 r 0)).state = .selecting := selling
  obtain ⟨handed, rfl, list, given, low, high, rfl⟩ | ⟨handed, rfl, list, given, low, high, once, listed, rfl⟩ |
    ⟨handed, rfl, set, kind, onSale, room, rfl⟩ | ⟨handed, rfl, position, listed, rfl⟩ := passes
  · rw [exec_holdSeats handed, basketRequest_free free, holdSeats_inRange given inside low high, if_neg (not_not_intro still)]
  · have all : list.find? (fun x => !(basketAt (taken r s) (param1 r 0)).seats.contains x) = none :=
      List.find?_eq_none.mpr fun i hi => by simpa using (show i ∈ (basketAt (taken r s) (param1 r 0)).seats from listed i hi)
    rw [exec_releaseSeats handed, basketRequest_free free, releaseSeats_inRange given inside low high once,
      if_neg (not_not_intro still), all]
  · rw [exec_addVoucher handed, basketRequest_free free, addVoucher_opens (s := taken r s) (addRefusal_none set inside kind still onSale room)]
  · rw [exec_dropVoucher handed, basketRequest_free free, dropVoucher_opens (s := taken r s) (dropRefusal_none inside position still listed)]

/-- Settles O32, request by request. -/
theorem basketRequestsOpenACallOrWait : Obligations.BasketRequestsOpenACallOrWait := by
  unfold Obligations.BasketRequestsOpenACallOrWait
  refine ⟨?_, ?_, ?_⟩
  · intro s r length b n x list free
    refine ⟨fun handed code why => ?_, fun handed code seat why => ?_, fun handed code why => ?_, fun handed code why => ?_⟩
    · rw [exec_holdSeats handed, basketRequest_free free]
      refine next_congr ?_
      obtain ⟨bad, rfl⟩ | ⟨inside, low, high, other, rfl⟩ := why
      · exact holdSeats_badLength bad
      · rw [holdSeats_inRange (paramSeats_of_short high) inside (by simpa using low) (by simpa using high)]
        exact if_pos other
    · rw [exec_releaseSeats handed, basketRequest_free free]
      refine next_congr ?_
      obtain ⟨bad, rfl, rfl⟩ | ⟨inside, low, high, once, other, rfl, rfl⟩ | ⟨inside, low, high, once, selling, ⟨i, found, rfl⟩, rfl⟩ := why
      · exact releaseSeats_badList bad
      · rw [releaseSeats_inRange (paramSeats_of_short high) inside (by simpa using low) (by simpa using high) once]
        exact if_pos other
      · exact releaseSeats_unlisted (s := taken r s) (paramSeats_of_short high) inside (by simpa using low) (by simpa using high) once selling found
    · rw [exec_addVoucher handed, basketRequest_free free]
      exact next_congr (addVoucher_refused (addRefusal_some (s := taken r s) why))
    · rw [exec_dropVoucher handed, basketRequest_free free]
      exact next_congr (dropVoucher_refused (dropRefusal_some (s := taken r s) why))
  · intro s r k c named handed open'
    simp only [List.mem_cons, Prod.mk.injEq, List.not_mem_nil, or_false] at named
    obtain ⟨rfl, rfl⟩ | ⟨rfl, rfl⟩ | ⟨rfl, rfl⟩ | ⟨rfl, rfl⟩ | ⟨rfl, rfl⟩ | ⟨rfl, rfl⟩ | ⟨rfl, rfl⟩ | ⟨rfl, rfl⟩ | ⟨rfl, rfl⟩ := named
    · rw [exec_holdSeats handed, basketRequest_busy open']
    · rw [exec_releaseSeats handed, basketRequest_busy open']
    · rw [exec_addVoucher handed, basketRequest_busy open']
    · rw [exec_dropVoucher handed, basketRequest_busy open']
    · rw [exec_quote handed, basketRequest_busy open']
    · rw [exec_pay handed, basketRequest_busy open']
    · rw [exec_settle handed, basketRequest_busy open']
    · rw [exec_abandon handed, basketRequest_busy open']
    · rw [exec_retire handed, basketRequest_busy open']
  · intro s r c call length b x inside selling passes free
    have opened := exec_opens (c := c) (call := call) free inside selling passes
    obtain ⟨self, others, frame⟩ := openCall_spec (s := taken r s) call (length ▸ inside : b < s.basketUnit.baskets.length)
    exact ⟨_, opened, self, others, frame⟩

end Sys2Proof.Machine
end

section
/-! The answers to the basket's calls: the hold event, the release event, and the voucher removal. -/

namespace Sys2Proof.Machine

/-! ### An answer applied: the call closed and the quote taken anew (R29, R47) -/

theorem noneWaits_congr {s t : State} {r : Resource} (same : t.waiting = s.waiting) (quiet : NoneWaits r s) : NoneWaits r t :=
  fun e waits => quiet e (same ▸ waits)

theorem closeCall_spec {s : State} {b : Nat} (f : Basket → Basket) (inside : b < s.basketUnit.baskets.length) :
    let t := closeCall b f s
    basketAt t b = { f (basketAt s b) with call := none, changes := stepCount (basketAt s b).changes } ∧
    (∀ n, n ≠ b → basketAt t n = basketAt s n) ∧
    t = { s with basketUnit := { s.basketUnit with baskets := t.basketUnit.baskets } } :=
  ⟨basketAt_setBasket_self _ _ _ inside, fun _ apart => basketAt_setBasket_other _ _ _ _ apart.symm, rfl⟩

/-- An answer that changes the basket: the call closed, and the quote that of the basket as it then stands. -/
theorem requote_closeCall_spec {s : State} {b : Nat} (f : Basket → Basket) (inside : b < s.basketUnit.baskets.length) :
    let t := requote b (closeCall b f s)
    basketAt t b = { f (basketAt s b) with
      call := none, changes := stepCount (basketAt s b).changes, quote := basketQuote s (f (basketAt s b)) } ∧
    (∀ n, n ≠ b → basketAt t n = basketAt s n) ∧
    t = { s with basketUnit := { s.basketUnit with baskets := t.basketUnit.baskets } } := by
  obtain ⟨self, others, -⟩ := closeCall_spec f inside
  refine ⟨?_, fun n apart => (basketAt_setBasket_other _ _ _ _ apart.symm).trans (others n apart), rfl⟩
  refine (basketAt_setBasket_self _ _ _ (inside.trans_eq (updAt_length ..).symm)).trans ?_
  rw [self]
  rfl

/-! ### The hold event's checks (R30) -/

/-- R30, check (3): an entry past the show's seats, one that stands before it in the list, or one the basket lists already. -/
def badHold (count : Nat) (own before : List Nat) (i : Nat) : Bool := decide (count ≤ i) || before.contains i || own.contains i

theorem badHold_iff {count i : Nat} {own before : List Nat} : badHold count own before i = true ↔ count ≤ i ∨ i ∈ before ∨ i ∈ own := by
  simp [badHold, or_assoc]

/-- A list whose entries all pass in turn, and one whose first bad entry is known. -/
theorem firstFailing_of_pass {fails : List Nat → Nat → Bool} {list : List Nat}
    (pass : ∀ front x back, list = front ++ x :: back → fails front x = false) : firstFailing fails [] list = none := by
  have all := firstFailing_append (before := []) (passed := list) (rest := []) (by simpa using pass)
  simpa [firstFailing] using all

theorem firstFailing_of_split {fails : List Nat → Nat → Bool} {before after : List Nat} {i : Nat} (bad : fails before i = true)
    (pass : ∀ front x back, before = front ++ x :: back → fails front x = false) :
    firstFailing fails [] (before ++ i :: after) = some i := by
  rw [firstFailing_append (before := []) (by simpa using pass), List.nil_append, firstFailing, if_pos bad]

theorem badHold_passes {count : Nat} {own list : List Nat} (once : list.Nodup) (good : ∀ i ∈ list, i < count ∧ i ∉ own) :
    firstFailing (badHold count own) [] list = none := by
  refine firstFailing_of_pass fun front i back split => ?_
  subst split
  have new : i ∉ front := fun again => (List.nodup_append.mp once).2.2 i again i (by simp) rfl
  obtain ⟨low, other⟩ := good i (by simp)
  rw [Bool.eq_false_iff, Ne, badHold_iff, not_or, not_or]
  exact ⟨Nat.not_le.mpr low, new, other⟩

section
variable {s : State} {b : Nat} {list : List Nat}

theorem holdRefusal_inRange (onSale : (showAt s (basketAt s b).sh).state = .onSale)
    (room : (basketAt s b).seats.length + list.length ≤ 10) : holdRefusal s b list =
    match firstFailing (badHold (showAt s (basketAt s b).sh).seatCount (basketAt s b).seats) [] list with
    | some x => some (.badParameter, some x)
    | none =>
      match list.find? (fun x => (seatOf s (basketAt s b).sh x).state != .free) with
      | some x => some (notFreeCode (seatOf s (basketAt s b).sh x).state, some x)
      | none => if (showAt s (basketAt s b).sh).gapRule then (firstGap s (basketAt s b).sh list).map (fun x => (.gapLeft, some x))
        else none := by
  simp only [holdRefusal]
  rw [if_neg (not_not_intro onSale), if_neg (Nat.not_lt.mpr room)]
  rfl

/-- The seats of the list that are all FREE. -/
theorem find?_notFree_none {sh : Nat} (free : ∀ i ∈ list, (seatOf s sh i).state = .free) :
    list.find? (fun x => (seatOf s sh x).state != .free) = none :=
  List.find?_eq_none.mpr fun i hi => by simp [free i hi]

theorem holdRefusal_none (onSale : (showAt s (basketAt s b).sh).state = .onSale)
    (room : (basketAt s b).seats.length + list.length ≤ 10) (once : list.Nodup)
    (good : ∀ i ∈ list, i < (showAt s (basketAt s b).sh).seatCount ∧ i ∉ (basketAt s b).seats ∧
      (seatOf s (basketAt s b).sh i).state = .free)
    (gaps : (showAt s (basketAt s b).sh).gapRule = true → firstGap s (basketAt s b).sh list = none) : holdRefusal s b list = none := by
  rw [holdRefusal_inRange onSale room, badHold_passes once fun i hi => ⟨(good i hi).1, (good i hi).2.1⟩]
  simp only [find?_notFree_none fun i hi => (good i hi).2.2]
  split
  · next rule => rw [gaps rule]; rfl
  · rfl

/-- R30's refusals, in order, each with the seat it names. -/
theorem holdRefusal_some {code : ResultCode} {seat : List Byte}
    (why : let c := basketAt s b
      let w := showAt s c.sh
      let bad := fun (before : List Nat) i => w.seatCount ≤ i ∨ i ∈ before ∨ i ∈ c.seats
      w.state ≠ .onSale ∧ code = .saleClosed ∧ seat = [] ∨
       w.state = .onSale ∧ 10 < c.seats.length + list.length ∧ code = .basketFull ∧ seat = [] ∨
       w.state = .onSale ∧ c.seats.length + list.length ≤ 10 ∧ (∃ before i after, list = before ++ i :: after ∧ bad before i ∧
         (∀ l j r', before = l ++ j :: r' → ¬ bad l j) ∧ code = .badParameter ∧ seat = leBytes 2 i) ∨
       w.state = .onSale ∧ c.seats.length + list.length ≤ 10 ∧ list.Nodup ∧ (∀ i ∈ list, i < w.seatCount ∧ i ∉ c.seats) ∧
         (∃ i, list.find? (fun j => (seatOf s c.sh j).state != .free) = some i ∧ seat = leBytes 2 i ∧
           code = if (seatOf s c.sh i).state = .blocked then .seatBlocked else .seatTaken) ∨
       w.state = .onSale ∧ c.seats.length + list.length ≤ 10 ∧ list.Nodup ∧
         (∀ i ∈ list, i < w.seatCount ∧ i ∉ c.seats ∧ (seatOf s c.sh i).state = .free) ∧ w.gapRule = true ∧
         (∃ i, firstGap s c.sh list = some i ∧ code = .gapLeft ∧ seat = leBytes 2 i)) :
    ∃ named, holdRefusal s b list = some (code, named) ∧ namedSeat named = seat := by
  obtain ⟨closed, rfl, rfl⟩ | ⟨onSale, full, rfl, rfl⟩ | ⟨onSale, room, before, i, after, rfl, bad, pass, rfl, rfl⟩ |
    ⟨onSale, room, once, good, i, found, rfl, rfl⟩ | ⟨onSale, room, once, good, rule, i, found, rfl, rfl⟩ := why
  · exact ⟨none, by rw [holdRefusal]; exact if_pos closed, rfl⟩
  · exact ⟨none, by simp only [holdRefusal]; rw [if_neg (not_not_intro onSale), if_pos full], rfl⟩
  · refine ⟨some i, ?_, rfl⟩
    rw [holdRefusal_inRange onSale room, firstFailing_of_split (badHold_iff.mpr bad)]
    exact fun front x back split => Bool.eq_false_iff.mpr fun stops => pass front x back split (badHold_iff.mp stops)
  · refine ⟨some i, ?_, rfl⟩
    rw [holdRefusal_inRange onSale room, badHold_passes once good]
    simp only [found]
    rfl
  · refine ⟨some i, ?_, rfl⟩
    rw [holdRefusal_inRange onSale room, badHold_passes once fun i hi => ⟨(good i hi).1, (good i hi).2.1⟩]
    simp only [find?_notFree_none fun i hi => (good i hi).2.2, rule, found, if_true]
    rfl

end

/-! ### The hold event (R30, R32, R33) -/

theorem holdCells_spec {s : State} {sh : Nat} (b : Nat) (list : List Nat) (canonical : Canonical s) (inside : sh < s.showUnit.shows.length) :
    let t := holdCells sh b list s
    CellsMoved sh list .held (some b) s t ∧
      showAt t sh = { (showAt s sh) with
        free := (showAt s sh).free - list.length, held := (showAt s sh).held + list.length, changes := (showAt t sh).changes } ∧
      (∀ n, n ≠ sh → showAt t n = showAt s n) ∧
      t = { s with seats := t.seats, showUnit := { s.showUnit with shows := t.showUnit.shows } } := by
  obtain ⟨cells, self, others, frame⟩ := seatEvent_spec sh list .held (some b)
    (fun w => { w with free := w.free - list.length, held := w.held + list.length }) s canonical.seats inside
  refine ⟨cells, ?_, others, frame⟩
  rw [holdCells, self]
  split
  · next empty => rw [empty]; rfl
  · rfl

/-- R22: a seat event leaves every tier. -/
theorem CellsMoved.tier {sh : Nat} {list : List Nat} {st : SeatState} {owner : Option Nat} {s t : State}
    (moved : CellsMoved sh list st owner s t) (c : Nat) : (seatAt t c).tier = (seatAt s c).tier := by
  by_cases listed : ∃ i ∈ list, c = (showAt s sh).seatBase + i
  · obtain ⟨i, hi, rfl⟩ := listed
    rw [moved.1 i hi]
  · rw [moved.2 c fun i hi same => listed ⟨i, hi, same⟩]

/-- R71: a seat event leaves the quote: neither the counts of a show nor the states of its seats enter it. -/
theorem basketQuote_of_cells {s t : State} {sh : Nat} {list : List Nat} {st : SeatState} {owner : Option Nat} {c : Basket}
    (moved : CellsMoved sh list st owner s t) (priceList : (showAt t c.sh).priceList = (showAt s c.sh).priceList)
    (base : (showAt t c.sh).seatBase = (showAt s c.sh).seatBase)
    (frame : t = { s with seats := t.seats, showUnit := { s.showUnit with shows := t.showUnit.shows } }) :
    basketQuote t c = basketQuote s c := by
  have terms : cfgOf t = cfgOf s := by rw [frame]; rfl
  have prices : ∀ n, listAt t n = listAt s n := fun n => by rw [frame]; rfl
  have kinds : ∀ n, kindAt t n = kindAt s n := fun n => by rw [frame]; rfl
  have entries : ∀ n, voucherAt t n = voucherAt s n := fun n => by rw [frame]; rfl
  simp only [basketQuote, terms, prices, kinds, entries, poolIndex, priceList, base, moved.tier]

theorem extendedDeadline_eq {s : State} {c : Basket} {d : Deadline} (present : c.deadline = some d) :
    extendedDeadline s c = some (if d.value < candidateDeadline s c then ⟨candidateDeadline s c, s.showUnit.runTime⟩ else d) := by
  simp only [extendedDeadline, present]
  split <;> rfl

theorem exec_holdEvent {s : State} {b : Fin 24} {slot : Nat} {list : List Nat} (open' : (basketAt s b).call = some (.hold slot list))
    (quiet : NoneWaits (.basket b) (holdEventNow b slot list s)) : exec (.holdEvent b) s = .next (holdEventNow b slot list s) := by
  have taken' : holdEventOp b s = holdEventNow b slot list s := by simp only [holdEventOp, open']
  show Host.Outcome.next (drain (.basket b) (holdEventOp b s)) = _
  rw [taken', drain_quiet quiet]

theorem holdEventNow_refused {s : State} {b slot : Nat} {list : List Nat} {code : ResultCode} {named : Option Nat}
    (refusal : holdRefusal s b list = some (code, named)) :
    holdEventNow b slot list s = completeSlot slot code (namedSeat named) (closeCall b id s) := by
  simp only [holdEventNow, refusal]

/-- R32: the basket with the seats behind its own and the later deadline. -/
def heldBasket (s : State) (list : List Nat) (c : Basket) : Basket :=
  { c with seats := c.seats ++ list, deadline := extendedDeadline s c }

theorem heldBasket_eq {s : State} {list : List Nat} {c : Basket} {d : Deadline} (present : c.deadline = some d) :
    heldBasket s list c = { c with
      seats := c.seats ++ list
      deadline := some (if d.value < candidateDeadline s c then ⟨candidateDeadline s c, s.showUnit.runTime⟩ else d) } := by
  rw [heldBasket, extendedDeadline_eq present]

theorem holdEventNow_takes {s : State} {b slot : Nat} {list : List Nat} (passed : holdRefusal s b list = none) :
    let u := requote b (closeCall b (heldBasket s list) (holdCells (basketAt s b).sh b list s))
    holdEventNow b slot list s = completeSlot slot .ok
      (leBytes 1 (basketAt u b).seats.length ++ deadlineBytes (basketAt u b).deadline ++ quoteBytes (basketAt u b).quote) u := by
  simp only [holdEventNow, passed]
  rfl

/-- Settles O33. -/
theorem holdEventTakesAllListedSeatsOrNone : Obligations.HoldEventTakesAllListedSeatsOrNone := by
  unfold Obligations.HoldEventTakesAllListedSeatsOrNone
  refine ⟨fun _ _ _ => rfl, ?_⟩
  intro s b slot list canonical baskets shows open' quiet c w bad
  have inside : b.val < s.basketUnit.baskets.length := b.isLt.trans_eq baskets.symm
  refine ⟨?_, fun code seat why => ?_⟩
  · intro d show' onSale room once present good gaps cand d' q
    obtain ⟨cells, counts, others, frame⟩ := holdCells_spec b.val list canonical (show'.trans_eq shows.symm)
    have now := holdEventNow_takes (slot := slot) (holdRefusal_none onSale room once good gaps)
    generalize holdCells (basketAt s b).sh b list s = t at cells counts others frame now
    have unit : t.basketUnit = s.basketUnit := by rw [frame]
    obtain ⟨self, rest, whole⟩ := requote_closeCall_spec (s := t) (heldBasket s list) (by rw [unit]; exact inside)
    have same : ∀ n, basketAt t n = basketAt s n := fun n => basketAt_of_baskets (by rw [unit]) n
    have quote : basketQuote t (heldBasket s list c) = q := by
      refine (basketQuote_of_cells cells ?_ ?_ frame).trans rfl <;> exact (congrArg _ counts :)
    rw [same, show heldBasket s list (basketAt s b) = _ from heldBasket_eq present, ← heldBasket_eq present, quote, heldBasket_eq present] at self
    generalize requote b.val (closeCall b (heldBasket s list) t) = u at self rest whole now
    have basket : basketAt u b = { c with
      seats := c.seats ++ list, deadline := some d', quote := q, call := none, changes := stepCount c.changes } := self
    refine ⟨u, ?_, ?_, ?_, ?_, basket, fun n apart => (rest n apart).trans (same n), ?_⟩
    · rw [exec_holdEvent open' (by rw [now]; exact noneWaits_congr (by rw [completeSlot_frame, whole, frame]) quiet), now, basket]
      simp only [List.length_append, deadlineBytes]
      rfl
    · rw [whole]
      exact cells
    · rw [whole]
      exact counts
    · rw [whole]
      exact others
    · rw [whole, frame]
  · obtain ⟨named, refusal, rfl⟩ := holdRefusal_some why
    have now := holdEventNow_refused (slot := slot) refusal
    refine ⟨closeCall b id s, ?_, closeCall_spec id inside⟩
    rw [exec_holdEvent open' (by rw [now]; exact noneWaits_congr (by simp) quiet), now]

/-! ### The release event and the voucher removal (R36, R54, R134) -/

/-- R36: the basket without the listed seats. -/
def releasedBasket (list : List Nat) (c : Basket) : Basket := { c with seats := c.seats.filter (fun x => !list.contains x) }

/-- R54: the basket without the voucher at a position. -/
def shortenedBasket (position : Nat) (c : Basket) : Basket := { c with vouchers := c.vouchers.eraseIdx position }

theorem exec_releaseEvent {s : State} {b : Fin 24} {slot : Nat} {list : List Nat}
    (open' : (basketAt s b).call = some (.release slot list)) (quiet : NoneWaits (.basket b) (releaseEventNow b slot list s)) :
    exec (.releaseEvent b) s = .next (releaseEventNow b slot list s) := by
  have taken' : releaseEventOp b s = releaseEventNow b slot list s := by simp only [releaseEventOp, open']
  show Host.Outcome.next (drain (.basket b) (releaseEventOp b s)) = _
  rw [taken', drain_quiet quiet]

theorem exec_voucherRemoval {s : State} {b : Fin 24} {slot position : Nat}
    (open' : (basketAt s b).call = some (.removal slot position)) (quiet : NoneWaits (.basket b) (removalEventNow b slot position s)) :
    exec (.voucherRemoval b) s = .next (removalEventNow b slot position s) := by
  have taken' : voucherRemovalOp b s = removalEventNow b slot position s := by simp only [voucherRemovalOp, open']
  show Host.Outcome.next (drain (.basket b) (voucherRemovalOp b s)) = _
  rw [taken', drain_quiet quiet]

theorem releaseEventNow_eq (b slot : Nat) (list : List Nat) (s : State) :
    let u := requote b (closeCall b (releasedBasket list) (releaseCells (basketAt s b).sh list s))
    releaseEventNow b slot list s =
      completeSlot slot .ok (leBytes 1 (basketAt u b).seats.length ++ quoteBytes (basketAt u b).quote) u := rfl

theorem removalEventNow_eq {b position i : Nat} {s : State} (slot : Nat) (at' : (basketAt s b).vouchers[position]? = some i) :
    let u := requote b (closeCall b (shortenedBasket position) (removeVouchers [i] s))
    removalEventNow b slot position s =
      completeSlot slot .ok (leBytes 1 (basketAt u b).vouchers.length ++ quoteBytes (basketAt u b).quote) u := by
  rw [removalEventNow, at']
  rfl

/-- Settles O34. -/
theorem releaseAndRemovalShortenTheBasket : Obligations.ReleaseAndRemovalShortenTheBasket := by
  unfold Obligations.ReleaseAndRemovalShortenTheBasket
  intro s b slot canonical baskets shows quiet show' c w quote
  have inside : b.val < s.basketUnit.baskets.length := b.isLt.trans_eq baskets.symm
  refine ⟨fun list open' some' once => ?_, fun position i open' at' => ?_⟩
  · obtain ⟨cells, counts, others, frame⟩ := seatEvent_spec c.sh list .free none
      (fun w => { w with held := w.held - list.length, free := w.free + list.length }) s canonical.seats (show'.trans_eq shows.symm)
    rw [if_neg some'] at counts
    have now := releaseEventNow_eq b.val slot list s
    rw [releaseCells] at now
    generalize seatEvent (basketAt s b).sh list .free none _ s = t at cells counts others frame now
    have unit : t.basketUnit = s.basketUnit := by rw [frame]
    obtain ⟨self, rest, whole⟩ := requote_closeCall_spec (s := t) (releasedBasket list) (by rw [unit]; exact inside)
    have same : ∀ n, basketAt t n = basketAt s n := fun n => basketAt_of_baskets (by rw [unit]) n
    have taken' : basketQuote t (releasedBasket list c) = basketQuote s (releasedBasket list c) := by
      refine basketQuote_of_cells cells ?_ ?_ frame <;> exact (congrArg _ counts :)
    rw [same, show basketQuote t (releasedBasket list (basketAt s b)) = _ from taken'] at self
    generalize requote b.val (closeCall b (releasedBasket list) t) = u at self rest whole now
    have quoted' : quote u = basketQuote s (releasedBasket list c) := by
      have entries : ∀ n, voucherAt u n = voucherAt s n := fun n => by rw [whole, frame]; rfl
      simp only [quote, self, entries]
      rfl
    refine ⟨u, ?_, ?_, ?_, ?_, self.trans (by rw [quoted']; rfl), fun n apart => (rest n apart).trans (same n), ?_⟩
    · rw [exec_releaseEvent open' (by rw [now]; exact noneWaits_congr (by rw [completeSlot_frame, whole, frame]) quiet), now]
    · rw [whole]
      exact cells
    · rw [whole]
      exact counts
    · rw [whole]
      exact others
    · rw [whole, frame]
  · obtain ⟨-, removed, frame⟩ := removeVouchers_spec [i] s canonical.entries
    have now := removalEventNow_eq slot at'
    generalize removeVouchers [i] s = t at removed frame now
    have unit : t.basketUnit = s.basketUnit := by rw [frame]
    obtain ⟨self, rest, whole⟩ := requote_closeCall_spec (s := t) (shortenedBasket position) (by rw [unit]; exact inside)
    have same : ∀ n, basketAt t n = basketAt s n := fun n => basketAt_of_baskets (by rw [unit]) n
    rw [same] at self
    generalize requote b.val (closeCall b (shortenedBasket position) t) = u at self rest whole now
    have quoted' : quote u = basketQuote t (shortenedBasket position c) := by
      have entries : ∀ n, voucherAt u n = voucherAt t n := fun n => by rw [whole]; rfl
      simp only [quote, self, entries]
      rw [frame]
      rfl
    have shorter : (basketAt u b).vouchers.length = c.vouchers.length - 1 := by
      rw [self]
      exact List.length_eraseIdx_of_lt (List.getElem?_eq_some_iff.mp at').1
    refine ⟨u, ?_, ?_, self.trans (by rw [quoted']; rfl), fun n apart => (rest n apart).trans (same n), ?_⟩
    · rw [exec_voucherRemoval open' (by rw [now]; exact noneWaits_congr (by rw [completeSlot_frame, whole, frame]) quiet), now, shorter]
    · rw [whole]
      exact removed
    · rw [whole, frame]

end Sys2Proof.Machine
end

section
/-! The voucher table: lookups along the chains, the day's sequence, and the issue of a voucher (R130 to R133). -/

namespace Sys2Proof.Machine

/-! ### A lookup finds a code exactly where an entry carries it (R130) -/

/-- A walk along a list of entries, each linked to the next, searches the list. -/
theorem walkChain_list {s : State} {l : List Nat} (test : Nat → Bool)
    (links : ∀ j i, l[j]? = some i → (voucherAt s i).link = l[j + 1]?) {n : Nat} (enough : l.length ≤ n) :
    walkChain s test n l.head? = l.find? test := by
  induction l generalizing n with
  | nil => cases n <;> rfl
  | cons i l ih =>
    cases n with
    | zero => exact absurd enough (Nat.not_le.mpr (Nat.succ_pos _))
    | succ n =>
      have next : (voucherAt s i).link = l.head? := by simpa [List.head?_eq_getElem?] using links 0 i rfl
      have rest := ih (fun j x at' => by simpa using links (j + 1) x (by simpa using at')) (Nat.le_of_succ_le_succ enough)
      rw [List.head?_cons, walkChain, next, rest, List.find?_cons]
      cases test i <;> rfl

/-- R127: the chains are no longer than the table. -/
theorem chain_length {s : State} {bucket : Nat} {l : List Nat} (chain : ChainOf s bucket l)
    (table : ∀ i, 1024 ≤ i → voucherAt s i = Voucher.empty) : l.length ≤ Config.voucherCount := by
  have inside : l ⊆ List.range 1024 := fun i listed => by
    rw [List.mem_range]
    by_contra beyond
    have stands := ((chain.members i).mp listed).1
    rw [table i (Nat.not_lt.mp beyond)] at stands
    exact stands rfl
  simpa [Config.voucherCount] using (chain.once.subperm inside).length_le

theorem bucketOf_lt (code : Nat) : bucketOf code < 256 := Nat.mod_lt _ (by decide)

theorem walkChain_chain {s : State} {bucket : Nat} {l : List Nat} (chain : ChainOf s bucket l)
    (table : ∀ i, 1024 ≤ i → voucherAt s i = Voucher.empty) (test : Nat → Bool) :
    walkChain s test Config.voucherCount (headAt s bucket) = l.find? test := by
  rw [chain.head, walkChain_list test chain.links (chain_length chain table)]

theorem lookupCode_iff {s : State} (law : HouseLaw s) (code i : Nat) :
    lookupCode s code = some i ↔ (voucherAt s i).state ≠ none ∧ (voucherAt s i).code = code := by
  obtain ⟨l, chain⟩ := law.chains _ (bucketOf_lt code)
  rw [lookupCode, walkChain_chain chain law.table]
  constructor
  · intro found
    exact ⟨((chain.members i).mp (List.mem_of_find?_eq_some found)).1, by simpa using List.find?_some found⟩
  · rintro ⟨stands, rfl⟩
    have listed : i ∈ l := (chain.members i).mpr ⟨stands, rfl⟩
    cases found : l.find? (fun j => (voucherAt s j).code == (voucherAt s i).code) with
    | none => exact absurd (List.find?_eq_none.mp found i listed) (by simp)
    | some j =>
      have other := ((chain.members j).mp (List.mem_of_find?_eq_some found)).1
      exact congrArg some (law.codes j i other stands (by simpa using List.find?_some found))

/-! ### The lowest empty place of a table -/

theorem le_lowestFree {α : Type} (n : Nat) (l : List (Nat × α)) : n ≤ lowestFree n l := by
  induction l generalizing n with
  | nil => exact Nat.le_refl n
  | cons e l ih =>
    rw [lowestFree]
    split
    · exact Nat.le_of_succ_le (ih (n + 1))
    · split
      · exact ih n
      · exact Nat.le_refl n

/-- The place found is empty. -/
theorem sparseGet_lowestFree {α : Type} [DecidableEq α] {d : α} {l : List (Nat × α)} (canonical : sparseWf d l) (n : Nat) :
    sparseGet d l (lowestFree n l) = d := by
  by_contra taken'
  have listed := (sparse_mem_iff _ _ canonical (lowestFree n l) _).mpr ⟨rfl, taken'⟩
  have rising : (l.map Prod.fst).Pairwise (· < ·) := by
    simpa using (sparse_keys canonical fun _ => true).1
  generalize sparseGet d l (lowestFree n l) = v at listed
  clear taken' canonical
  induction l generalizing n with
  | nil => cases listed
  | cons e l ih =>
    obtain ⟨k, w⟩ := e
    rw [List.map_cons, List.pairwise_cons] at rising
    have above := fun m => le_lowestFree m l
    rw [lowestFree] at listed
    split at listed
    · next here =>
      rcases List.mem_cons.mp listed with same | rest
      · have := above (n + 1)
        have : lowestFree (n + 1) l = k := (congrArg Prod.fst same :)
        omega
      · exact ih (n + 1) rising.2 rest
    · split at listed
      · next low =>
        rcases List.mem_cons.mp listed with same | rest
        · have := above n
          have : lowestFree n l = k := (congrArg Prod.fst same :)
          omega
        · exact ih n rising.2 rest
      · next apart high =>
        rcases List.mem_cons.mp listed with same | rest
        · have : n = k := (congrArg Prod.fst same :)
          exact apart this.symm
        · have := rising.1 n (List.mem_map.mpr ⟨_, rest, rfl⟩)
          have : k < n := this
          exact high this

theorem lowestFree_le {α : Type} [DecidableEq α] {d : α} {l : List (Nat × α)} {i : Nat} (canonical : sparseWf d l)
    (empty : sparseGet d l i = d) : lowestFree 0 l ≤ i := by
  classical
  have some' : ∃ k, sparseGet d l k = d := ⟨i, empty⟩
  obtain ⟨k, first, lower⟩ : ∃ k, sparseGet d l k = d ∧ ∀ j < k, sparseGet d l j ≠ d :=
    ⟨Nat.find some', Nat.find_spec some', fun j below => Nat.find_min some' below⟩
  rw [lowestFree_spec d l 0 k canonical (Nat.zero_le _) first (fun j _ below => lower j below) fun _ _ => Nat.zero_le _]
  exact Nat.not_lt.mp fun below => lower i below empty

/-! ### The day's sequence (R132, R133) -/

theorem takeDay_eq (day : Nat × Nat) (s : State) : takeDay day s = { s with voucherUnit := { s.voucherUnit with
    seqDay := some day, nextSeq := if s.voucherUnit.seqDay = some day then s.voucherUnit.nextSeq else 0 } } := by
  rw [takeDay]
  split
  · next same => rw [← same]
  · rfl

theorem freeSequence_eq_none {s : State} {day site : Nat} (left seq : Nat) : freeSequence s day site left seq = none ↔
    ∀ n, seq ≤ n → n < seq + left → lookupCode s (composeCode day n site) ≠ none := by
  induction left generalizing seq with
  | zero => exact iff_of_true rfl fun n low high => absurd high (by omega)
  | succ left ih =>
    rw [freeSequence]
    cases here : lookupCode s (composeCode day seq site) with
    | none => exact iff_of_false (by simp) fun all => all seq (Nat.le_refl _) (by omega) here
    | some i =>
      refine (ih (seq + 1)).trans ⟨?_, ?_⟩
      · intro rest n low high
        rcases Nat.eq_or_lt_of_le low with rfl | later
        · simp [here]
        · exact rest n later (by omega)
      · exact fun all n low high => all n (by omega) (by omega)

theorem freeSequence_eq_some {s : State} {day site left first seq : Nat} (low : first ≤ seq) (high : seq < first + left)
    (carried : ∀ n, first ≤ n → n < seq → lookupCode s (composeCode day n site) ≠ none)
    (free : lookupCode s (composeCode day seq site) = none) : freeSequence s day site left first = some seq := by
  induction left generalizing first with
  | zero => omega
  | succ left ih =>
    rw [freeSequence]
    rcases Nat.eq_or_lt_of_le low with rfl | later
    · rw [free]
    · obtain ⟨i, here⟩ := Option.ne_none_iff_exists'.mp (carried first (Nat.le_refl _) later)
      rw [here]
      exact ih later (by omega) fun n above below => carried n (by omega) below

/-! ### The issue (R133) -/

section
variable {kind b sh : Nat} {s : State}

/-- The sequence record as an issue finds it: brought up to the day. -/
def dayTaken (s : State) : State := takeDay (s.showUnit.clock.now.year, s.showUnit.clock.now.day) s

/-- R132: the first sequence number of an issue. -/
def firstSequence (s : State) : Nat :=
  if s.voucherUnit.seqDay = some (s.showUnit.clock.now.year, s.showUnit.clock.now.day) then s.voucherUnit.nextSeq else 0

theorem dayTaken_eq (s : State) : dayTaken s = { s with voucherUnit := { s.voucherUnit with
    seqDay := some (s.showUnit.clock.now.year, s.showUnit.clock.now.day), nextSeq := firstSequence s } } := takeDay_eq _ _

theorem lookupCode_dayTaken (s : State) (code : Nat) : lookupCode (dayTaken s) code = lookupCode s code :=
  lookupCode_congr (by rw [dayTaken_eq]) (by rw [dayTaken_eq]) code

/-- R133: the code of a sequence number today. -/
def codeToday (s : State) (n : Nat) : Nat := composeCode s.showUnit.clock.now.day n (cfgOf s).site

theorem freeSequence_today (s : State) (left seq : Nat) :
    freeSequence (dayTaken s) s.showUnit.clock.now.day (cfgOf (dayTaken s)).site left seq =
      freeSequence s s.showUnit.clock.now.day (cfgOf s).site left seq := by
  have site : (cfgOf (dayTaken s)).site = (cfgOf s).site := by rw [dayTaken_eq]; rfl
  rw [site]
  induction left generalizing seq with
  | zero => rfl
  | succ left ih => simp only [freeSequence, lookupCode_dayTaken, ih]

/-- R133: an entry written into the table and put at the head of its chain. -/
def entered (index : Nat) (v : Voucher) (s : State) : State :=
  bumpChain (setHead (bucketOf v.code) (some index) (setVoucher index v s))

theorem entered_spec {v : Voucher} {index : Nat} {s : State} (entries : sparseWf Voucher.empty s.voucherUnit.entries)
    (heads : sparseWf none s.voucherUnit.heads) :
    voucherAt (entered index v s) index = v ∧ (∀ i, i ≠ index → voucherAt (entered index v s) i = voucherAt s i) ∧
    (∀ n, headAt (entered index v s) n = if n = bucketOf v.code then some index else headAt s n) ∧
    entered index v s = { s with voucherUnit := { s.voucherUnit with
      entries := (entered index v s).voucherUnit.entries, heads := (entered index v s).voucherUnit.heads
      chainChanges := (entered index v s).voucherUnit.chainChanges } } := by
  refine ⟨voucherAt_setVoucher_self s index v entries, fun i apart => voucherAt_setVoucher_other s index i v entries apart.symm,
    fun n => ?_, rfl⟩
  show sparseGet none (sparsePut none s.voucherUnit.heads (bucketOf v.code) (some index)) n = _
  split
  · next same => rw [same, sparseGet_put_self _ _ _ _ heads]
  · next apart => rw [sparseGet_put_other _ _ _ _ _ (Ne.symm apart) heads]; rfl

/-- R133: the entry an issue writes. -/
def newVoucher (kind b sh code : Nat) (link : Option Nat) (changes : Nat) : Voucher :=
  { state := some .pending, code := code, kind := kind, sh := sh, owner := some b, redeemedAt := none, link := link, changes := changes }

/-- R132: the sequence number after the one given. -/
def setNextSeq (n : Nat) (s : State) : State := { s with voucherUnit := { s.voucherUnit with nextSeq := n } }

/-- R133: the issue, from the checks to the entry, in the terms of the state before it. -/
theorem issueVoucher_eq : issueVoucher kind b sh s =
    if (kindAt s kind).name = [] then (dayTaken s, .refused .badParameter)
    else if 1024 ≤ lowestFree 0 s.voucherUnit.entries then (dayTaken s, .refused .tableFull)
    else if firstSequence s = 100000 then (dayTaken s, .refused .sequenceSpent)
    else match freeSequence s s.showUnit.clock.now.day (cfgOf s).site (100000 - firstSequence s) (firstSequence s) with
      | none => (setNextSeq 100000 (dayTaken s), .refused .sequenceSpent)
      | some seq =>
        let index := lowestFree 0 s.voucherUnit.entries
        (setNextSeq (seq + 1) (entered index (newVoucher kind b sh (codeToday s seq) (headAt s (bucketOf (codeToday s seq)))
          (bump (voucherAt s index).changes)) (dayTaken s)), .issued index (codeToday s seq)) := by
  have taken' : (takeDay (s.showUnit.clock.now.year, s.showUnit.clock.now.day) s) = dayTaken s := rfl
  have place : lowestFree 0 (dayTaken s).voucherUnit.entries = lowestFree 0 s.voucherUnit.entries := by rw [dayTaken_eq]
  have next : (dayTaken s).voucherUnit.nextSeq = firstSequence s := by rw [dayTaken_eq]
  have kinds : kindAt (dayTaken s) kind = kindAt s kind := by rw [dayTaken_eq]; rfl
  have site : cfgOf (dayTaken s) = cfgOf s := by rw [dayTaken_eq]; rfl
  have heads : ∀ n, headAt (dayTaken s) n = headAt s n := fun n => by rw [dayTaken_eq]; rfl
  have at' : ∀ n, voucherAt (dayTaken s) n = voucherAt s n := fun n => by rw [dayTaken_eq]; rfl
  have free := freeSequence_today s (100000 - firstSequence s) (firstSequence s)
  rw [site] at free
  simp only [issueVoucher, taken', place, next, kinds, site, heads, at', free]
  rfl

/-- R133, steps (2) to (5): the refusals, in order; a spent sequence is left spent. -/
theorem issueVoucher_refused (canonical : Canonical s) {code : ResultCode}
    (why : (kindAt s kind).name = [] ∧ code = .badParameter ∨
      (kindAt s kind).name ≠ [] ∧ (¬ ∃ i < 1024, voucherAt s i = Voucher.empty) ∧ code = .tableFull ∨
      (kindAt s kind).name ≠ [] ∧ (∃ i < 1024, voucherAt s i = Voucher.empty) ∧
        (∀ n, firstSequence s ≤ n → n < 100000 → lookupCode s (codeToday s n) ≠ none) ∧ code = .sequenceSpent) :
    issueVoucher kind b sh s = ({ s with voucherUnit := { s.voucherUnit with
      seqDay := some (s.showUnit.clock.now.year, s.showUnit.clock.now.day)
      nextSeq := if code = .sequenceSpent then 100000 else firstSequence s } }, .refused code) := by
  have emptyPlace : voucherAt s (lowestFree 0 s.voucherUnit.entries) = Voucher.empty := sparseGet_lowestFree canonical.entries 0
  rw [issueVoucher_eq]
  obtain ⟨unnamed, rfl⟩ | ⟨named, full, rfl⟩ | ⟨named, ⟨i, inside, empty⟩, spent, rfl⟩ := why
  · rw [if_pos unnamed, dayTaken_eq]
    rfl
  · have beyond : 1024 ≤ lowestFree 0 s.voucherUnit.entries := Nat.not_lt.mp fun room => full ⟨_, room, emptyPlace⟩
    rw [if_neg named, if_pos beyond, dayTaken_eq]
    rfl
  · have low : ¬ 1024 ≤ lowestFree 0 s.voucherUnit.entries := by
      have := lowestFree_le (d := Voucher.empty) canonical.entries empty
      omega
    rw [if_neg named, if_neg low]
    split
    · next last => rw [dayTaken_eq, last]; rfl
    · have none' : freeSequence s s.showUnit.clock.now.day (cfgOf s).site (100000 - firstSequence s) (firstSequence s) = none :=
        (freeSequence_eq_none _ _).mpr fun n low high => spent n low (by omega)
      simp only [none', dayTaken_eq]
      rfl

/-- R133, step (5): an issue that passes. -/
theorem issueVoucher_issued {seq index : Nat} (canonical : Canonical s) (named : (kindAt s kind).name ≠ []) (inside : index < 1024)
    (empty : voucherAt s index = Voucher.empty) (lower : ∀ i < index, voucherAt s i ≠ Voucher.empty) (first : firstSequence s ≤ seq)
    (last : seq < 100000) (carried : ∀ n, firstSequence s ≤ n → n < seq → lookupCode s (codeToday s n) ≠ none)
    (free : lookupCode s (codeToday s seq) = none) :
    ∃ u, issueVoucher kind b sh s = (u, .issued index (codeToday s seq)) ∧
      voucherAt u index = { state := some .pending, code := codeToday s seq, kind := kind, sh := sh, owner := some b
                            redeemedAt := none, link := headAt s (bucketOf (codeToday s seq)), changes := 2 } ∧
      (∀ i, i ≠ index → voucherAt u i = voucherAt s i) ∧
      (∀ n, headAt u n = if n = bucketOf (codeToday s seq) then some index else headAt s n) ∧
      u.voucherUnit.seqDay = some (s.showUnit.clock.now.year, s.showUnit.clock.now.day) ∧ u.voucherUnit.nextSeq = seq + 1 ∧
      u = { s with voucherUnit := { u.voucherUnit with receivers := s.voucherUnit.receivers } } := by
  have place : lowestFree 0 s.voucherUnit.entries = index := lowestFree_spec Voucher.empty _ 0 index canonical.entries (Nat.zero_le _) empty
    (fun j _ below => lower j below) fun _ _ => Nat.zero_le _
  have found := freeSequence_eq_some (left := 100000 - firstSequence s) first (by omega) carried free
  rw [issueVoucher_eq, if_neg named, place, if_neg (Nat.not_le.mpr inside), if_neg (by omega), found]
  have entries : (dayTaken s).voucherUnit.entries = s.voucherUnit.entries := by rw [dayTaken_eq]
  have heads : (dayTaken s).voucherUnit.heads = s.voucherUnit.heads := by rw [dayTaken_eq]
  have day : (dayTaken s).voucherUnit.seqDay = some (s.showUnit.clock.now.year, s.showUnit.clock.now.day) := by rw [dayTaken_eq]
  have rest : dayTaken s = { s with voucherUnit := { (dayTaken s).voucherUnit with receivers := s.voucherUnit.receivers } } := by
    rw [dayTaken_eq]
  obtain ⟨self, others, head, frame⟩ := entered_spec (index := index) (v := newVoucher kind b sh (codeToday s seq)
    (headAt s (bucketOf (codeToday s seq))) (bump (voucherAt s index).changes)) (s := dayTaken s)
    (by rw [entries]; exact canonical.entries) (by rw [heads]; exact canonical.heads)
  have at' : ∀ i, voucherAt (dayTaken s) i = voucherAt s i := fun i => by rw [voucherAt, entries]; rfl
  have head' : ∀ n, headAt (dayTaken s) n = headAt s n := fun n => by rw [headAt, heads]; rfl
  simp only [head', empty] at head self frame others ⊢
  generalize entered index _ (dayTaken s) = v at *
  generalize dayTaken s = t at *
  refine ⟨setNextSeq (seq + 1) v, rfl, self, fun i apart => (others i apart).trans (at' i), head, ?_, rfl, ?_⟩
  · show v.voucherUnit.seqDay = _
    rw [frame]
    exact day
  · rw [setNextSeq, frame, rest]

end

/-- An entry just put at the head of its chain is what a lookup of its code finds. -/
theorem lookupCode_of_head {s : State} {code index : Nat} (head : headAt s (bucketOf code) = some index)
    (carries : (voucherAt s index).code = code) : lookupCode s code = some index := by
  rw [lookupCode, head, Config.voucherCount, walkChain, if_pos (by simp [carries])]

/-! ### Codes in bytes (10.6) -/

theorem bcdBytes_length (l : List Nat) : (bcdBytes l).length = l.length / 2 := by
  induction l using bcdBytes.induct with
  | case1 a b l ih =>
    simp only [bcdBytes, List.length_cons, ih]
    omega
  | case2 l short =>
    match l, short with
    | [], _ => rfl
    | [a], _ => simp [bcdBytes]
    | a :: b :: l, short => exact absurd rfl (short a b l)

theorem bcdBytes_getD {l : List Nat} {i : Nat} (inside : 2 * i + 1 < l.length) :
    (bcdBytes l).getD i 0 = BitVec.ofNat 8 (16 * l.getD (2 * i) 0 + l.getD (2 * i + 1) 0) := by
  induction l using bcdBytes.induct generalizing i with
  | case1 a b l ih =>
    cases i with
    | zero => rfl
    | succ i => exact ih (i := i) (by simp only [List.length_cons] at inside; omega)
  | case2 l short =>
    match l, short with
    | [], _ => exact absurd inside (by simp)
    | [a], _ => exact absurd inside (by simp)
    | a :: b :: l, short => exact absurd rfl (short a b l)

theorem codeBytes_length (code : Nat) : (codeBytes code).length = 6 := by
  rw [codeBytes, bcdBytes_length, digitsOf_length]

theorem codeBytes_getD {code i : Nat} (inside : i < 6) : (codeBytes code).getD i 0 =
    BitVec.ofNat 8 (16 * (digitsOf 12 code).getD (2 * i) 0 + (digitsOf 12 code).getD (2 * i + 1) 0) :=
  bcdBytes_getD (by rw [digitsOf_length]; omega)

/-! ### The issue for an open call (R53, R133) -/

theorem exec_voucherIssue {s : State} {b : Fin 24} {slot kind : Nat} (open' : (basketAt s b).call = some (.issue slot kind))
    (quiet : NoneWaits (.basket b) (issueEventNow b slot kind s)) : exec (.voucherIssue b) s = .next (issueEventNow b slot kind s) := by
  have taken' : voucherIssueOp b s = issueEventNow b slot kind s := by simp only [voucherIssueOp, open']
  show Host.Outcome.next (drain (.basket b) (voucherIssueOp b s)) = _
  rw [taken', drain_quiet quiet]

theorem issueEventNow_refused {s t : State} {b slot kind : Nat} {code : ResultCode}
    (issue : issueVoucher kind b (basketAt s b).sh s = (t, .refused code)) :
    issueEventNow b slot kind s = completeSlot slot code [] (closeCall b id t) := by
  simp only [issueEventNow, issue]
  rfl

/-- R53: the basket with a voucher behind its own and the later deadline. -/
def issuedBasket (t : State) (index : Nat) (c : Basket) : Basket :=
  { c with vouchers := c.vouchers ++ [index], deadline := extendedDeadline t c }

theorem issueEventNow_issued {s t : State} {b slot kind index code : Nat}
    (issue : issueVoucher kind b (basketAt s b).sh s = (t, .issued index code)) :
    let u := requote b (closeCall b (issuedBasket t index) t)
    issueEventNow b slot kind s = completeSlot slot .ok
      (codeBytes code ++ leBytes 1 (basketAt t b).vouchers.length ++ quoteBytes (basketAt u b).quote) u := by
  simp only [issueEventNow, issue]
  rfl

/-- R132: a day change. -/
theorem exec_dayChange {s : State} {d : Nat × Nat} {rest : List (Nat × Nat)} (first : s.showUnit.dayChanges = d :: rest) :
    exec .dayChange s = .next { s with
      showUnit := { s.showUnit with dayChanges := rest }
      voucherUnit := { s.voucherUnit with seqDay := some d, nextSeq := if s.voucherUnit.seqDay = some d then s.voucherUnit.nextSeq else 0 } } := by
  show Host.Outcome.next (dayChangeOp s) = _
  rw [dayChangeOp, first]
  exact next_congr (takeDay_eq _ _)

/-- Settles O38. -/
theorem voucherIssueFillsTheLowestEmptyEntry : Obligations.VoucherIssueFillsTheLowestEmptyEntry := by
  unfold Obligations.VoucherIssueFillsTheLowestEmptyEntry
  refine ⟨fun s law => lookupCode_iff law, fun code => ⟨codeBytes_length code, fun i => codeBytes_getD⟩, ?_,
    fun s d rest => exec_dayChange, ?_⟩
  · intro s b slot kind code canonical baskets open' quiet c now first named room why
    have refused := issueVoucher_refused (b := b) (sh := (basketAt s b).sh) canonical (code := code)
      (why.imp (fun x => ⟨not_not.mp x.1, x.2⟩) id)
    have now' := issueEventNow_refused (slot := slot) refused
    have inside : b.val < s.basketUnit.baskets.length := b.isLt.trans_eq baskets.symm
    obtain ⟨self, others, frame⟩ := closeCall_spec (s := { s with voucherUnit := { s.voucherUnit with
      seqDay := some (s.showUnit.clock.now.year, s.showUnit.clock.now.day)
      nextSeq := if code = .sequenceSpent then 100000 else firstSequence s } }) id inside
    generalize closeCall b id _ = u at self others frame now'
    refine ⟨u, ?_, self, others, by rw [frame]; rfl, by rw [frame]⟩
    rw [exec_voucherIssue open' (by rw [now']; exact noneWaits_congr (by rw [completeSlot_frame, frame]) quiet), now']
  · intro s b slot kind index seq d canonical baskets open' present quiet c now first codeOf named inside empty lower low high carried free cand
    obtain ⟨t, issue, entry, others, heads, day, next, frame⟩ := issueVoucher_issued (b := b) (sh := c.sh) canonical named inside empty lower
      low high carried free
    have now' := issueEventNow_issued (slot := slot) issue
    have unit : t.basketUnit = s.basketUnit := by rw [frame]
    have same : ∀ n, basketAt t n = basketAt s n := fun n => basketAt_of_baskets (by rw [unit]) n
    have deadline : extendedDeadline t c = some (if d.value < cand then ⟨cand, s.showUnit.runTime⟩ else d) := by
      rw [extendedDeadline_eq present, frame]
      rfl
    obtain ⟨self, rest, whole⟩ := requote_closeCall_spec (s := t) (issuedBasket t index)
      (by rw [unit]; exact b.isLt.trans_eq baskets.symm)
    rw [same] at self
    have basket : issuedBasket t index (basketAt s b) = { c with
      vouchers := c.vouchers ++ [index], deadline := some (if d.value < cand then ⟨cand, s.showUnit.runTime⟩ else d) } := by
      rw [issuedBasket, show extendedDeadline t (basketAt s b) = _ from deadline]
    generalize requote b.val (closeCall b (issuedBasket t index) t) = u at self rest whole now'
    have vouchers : ∀ i, voucherAt u i = voucherAt t i := fun i => by rw [whole]; rfl
    refine ⟨u, ?_, ?_, fun i apart => (vouchers i).trans (others i apart), ?_, ?_, ?_, ?_, ?_, fun n apart => (rest n apart).trans (same n), ?_⟩
    · rw [exec_voucherIssue open' (by rw [now']; exact noneWaits_congr (by rw [completeSlot_frame, whole, frame]) quiet), now', same]
      rfl
    · rw [vouchers]
      exact entry
    · rw [whole]
      exact heads
    · rw [whole]
      exact lookupCode_of_head ((heads _).trans (if_pos rfl)) (congrArg Voucher.code entry :)
    · rw [whole]
      exact day
    · rw [whole]
      exact next
    · rw [self, basket]
      have quoted' : basketQuote t (issuedBasket t index (basketAt s b)) =
          quoteOf (cfgOf s) (listAt s (showAt s c.sh).priceList) (c.seats.map (fun i => (seatOf s c.sh i).tier))
            ((c.vouchers ++ [index]).map (fun i => (kindAt s (voucherAt u i).kind).price)) := by
        simp only [vouchers]
        rw [basket, frame]
        rfl
      rw [← basket, quoted', basket]
    · rw [whole, frame]

end Sys2Proof.Machine
end

section
/-! The printer exchange (R107 to R110, R119 to R121): what each event of a printer does to its record, its kiosk's cell and the
statistics, and what a status byte does by the printer's state. -/

namespace Sys2Proof.Machine

/-! ### A printer touched by an event, before its kiosk is derived anew -/

/-- Of the units only the printers, the statistics, the notices, the attention count and the kiosk cells move. -/
def PrintFrame (s t : State) : Prop := t = { s with
  print := { s.print with printers := t.print.printers }, stats := t.stats, wire := t.wire
  board := { s.board with attention := t.board.attention }, station := { s.station with kiosks := t.station.kiosks } }

theorem PrintFrame.trans {s t u : State} (first : PrintFrame s t) (second : PrintFrame t u) : PrintFrame s u := by
  rw [PrintFrame, second, first]

/-- What the events of a printer leave until its kiosk's condition is derived anew (`PrinterMoved` but for the condition). -/
structure PrinterTouched (p : Fin 12) (x : Printer) (raised : FactorSet) (counts : List Nat) (s t : State) : Prop where
  printers : t.print.printers.length = 12
  cells : t.station.kiosks.length = 12
  canonical : sparseWf (0 : Nat) t.stats
  here : printerAt t p = x
  others : ∀ j, j ≠ p.val → printerAt t j = printerAt s j
  kiosk : kioskLike (kioskAt t p) { (kioskAt s p) with factors := (kioskAt s p).factors ||| raised }
  kiosks : ∀ k, k ≠ p.val → kioskAt t k = kioskAt s k
  stats : ∀ o, statAt t o = if o ∈ counts then min (statAt s o + 1) 4294967295 else statAt s o
  wire : ∃ more, t.wire = s.wire ++ more ∧ ∀ o ∈ more, o = .interrupt
  frame : PrintFrame s t

theorem PrinterTouched.refl {s : State} (p : Fin 12) (printers : s.print.printers.length = 12) (cells : s.station.kiosks.length = 12)
    (canonical : sparseWf (0 : Nat) s.stats) : PrinterTouched p (printerAt s p) 0 [] s s where
  printers := printers
  cells := cells
  canonical := canonical
  here := rfl
  others _ _ := rfl
  kiosk := by
    rw [show (kioskAt s p).factors ||| 0 = (kioskAt s p).factors from BitVec.or_zero]
    exact kioskLike_refl _
  kiosks _ _ := rfl
  stats _ := rfl
  wire := ⟨[], (List.append_nil _).symm, fun _ no => absurd no List.not_mem_nil⟩
  frame := rfl

namespace PrinterTouched

section
variable {p : Fin 12} {x : Printer} {raised : FactorSet} {counts : List Nat} {s t : State} (h : PrinterTouched p x raised counts s t)
include h

theorem inside : p.val < t.print.printers.length := p.isLt.trans_eq h.printers.symm

/-- The printer's record set without the kiosk cell. -/
theorem setPrinter (f : Printer → Printer) : PrinterTouched p (f x) raised counts s (setPrinter p f t) where
  printers := (updAt_length ..).trans h.printers
  cells := h.cells
  canonical := h.canonical
  here := (printerAt_setPrinter_self _ _ _ h.inside).trans (congrArg f h.here)
  others j apart := (printerAt_setPrinter_other _ _ _ _ apart.symm).trans (h.others j apart)
  kiosk := h.kiosk
  kiosks := h.kiosks
  stats := h.stats
  wire := h.wire
  frame := h.frame.trans rfl

/-- R108: the printer's record updated, under its kiosk cell's change count. -/
theorem updPrinter (f : Printer → Printer) : PrinterTouched p (f x) raised counts s (updPrinter p f t) where
  printers := (updAt_length ..).trans h.printers
  cells := (updAt_length ..).trans h.cells
  canonical := h.canonical
  here := (printerAt_updPrinter_self _ _ _ h.inside).trans (congrArg f h.here)
  others j apart := (printerAt_updPrinter_other _ _ _ _ apart.symm).trans (h.others j apart)
  kiosk := kioskLike_trans (updKiosk_like p p id (fun _ => kioskLike_refl _) (Machine.setPrinter p f t)) h.kiosk
  kiosks k apart := (kioskAt_updKiosk_other (Machine.setPrinter p f t) _ _ _ apart.symm).trans (h.kiosks k apart)
  stats := h.stats
  wire := h.wire
  frame := h.frame.trans rfl

/-- R159: a factor raised in the printer's kiosk cell. -/
theorem raise (f : FactorSet) : PrinterTouched p x (raised ||| f) counts s (raiseFactor (kioskCell p) f t) := by
  rw [kioskCell_val]
  obtain ⟨self, others, ⟨more, sent, notices⟩, frame⟩ := raiseKiosk_spec p f t h.cells
  obtain ⟨before, wire, quiet⟩ := h.wire
  refine ⟨?_, (raiseFactor_kiosks_length ..).trans h.cells, ?_, ?_, fun j apart => ?_, ?_, fun k apart => (others k apart).trans (h.kiosks k apart),
    fun o => ?_, ⟨before ++ more, by rw [sent, wire, List.append_assoc], fun o ho => ?_⟩, h.frame.trans ?_⟩
  · rw [frame]; exact h.printers
  · rw [frame]; exact h.canonical
  · rw [frame]; exact h.here
  · rw [frame]; exact h.others j apart
  · rw [self]
    obtain ⟨like, green, red⟩ := h.kiosk
    refine ⟨?_, green, red⟩
    rw [like]
    simp only [BitVec.or_assoc]
  · rw [frame]; exact h.stats o
  · exact (List.mem_append.mp ho).elim (quiet o) (notices o)
  · rw [PrintFrame, frame]

/-- R187: a count of the printer raised by one. -/
theorem count {o : Nat} (new : o ∉ counts) : PrinterTouched p x raised (o :: counts) s (addStat o 1 t) where
  printers := h.printers
  cells := h.cells
  canonical := sparsePut_wf _ _ _ _ h.canonical
  here := h.here
  others := h.others
  kiosk := h.kiosk
  kiosks := h.kiosks
  stats off := by
    by_cases same : off = o
    · subst same
      rw [statAt_addStat_self _ _ _ h.canonical, h.stats, if_neg new, if_pos List.mem_cons_self]
    · rw [statAt_addStat_other _ _ _ _ h.canonical (Ne.symm same), h.stats]
      simp [same]
  wire := h.wire
  frame := h.frame.trans rfl

/-- R163: the kiosk's condition derived anew. -/
theorem moved : PrinterMoved p x raised counts s (refreshKiosk p t) :=
  ⟨h.here, h.others, kioskLike_trans (refreshKiosk_like _ _ _) h.kiosk, condition_refreshKiosk (p.isLt.trans_eq h.cells.symm),
    fun k apart => (kioskAt_refreshKiosk_other apart).trans (h.kiosks k apart), h.stats, h.wire, h.frame.trans rfl⟩

/-- What a printer's event leaves may be set on both sides. -/
theorem withWaiting (w : List (Resource × WaitEvent)) : PrinterTouched p x raised counts { s with waiting := w } { t with waiting := w } where
  printers := h.printers
  cells := h.cells
  canonical := h.canonical
  here := h.here
  others := h.others
  kiosk := h.kiosk
  kiosks := h.kiosks
  stats := h.stats
  wire := h.wire
  frame := by rw [PrintFrame, h.frame]

theorem withUnits (b : BasketUnit) (u : SalesUnit) :
    PrinterTouched p x raised counts { s with basketUnit := b, salesUnit := u } { t with basketUnit := b, salesUnit := u } where
  printers := h.printers
  cells := h.cells
  canonical := h.canonical
  here := h.here
  others := h.others
  kiosk := h.kiosk
  kiosks := h.kiosks
  stats := h.stats
  wire := h.wire
  frame := by rw [PrintFrame, h.frame]

/-- R118: an item is rendered alike, whatever a printer's events move. -/
theorem rendering (item : Item) : rendering t item = rendering s item := by
  rw [h.frame]
  rfl

theorem now : nowOf t = nowOf s := by
  rw [h.frame]
  rfl

/-! ### The events of a printer -/

/-- R121: a stall. -/
theorem stall (c : StallCause) (new : 0x124 + 12 * p.val ∉ counts) :
    PrinterTouched p (stalledAs c x) (raised ||| kfPrinterStalled) ((0x124 + 12 * p) :: counts) s (stallPrinter p c t) := by
  have stalled := ((h.updPrinter (stalledAs c)).raise kfPrinterStalled).count new
  have place : statPrinter p 1 = 0x124 + 12 * p.val := by rw [statPrinter]; omega
  rw [stallPrinter, place]
  exact stalled

/-- R109: a loss. -/
theorem lose : PrinterTouched p (lostFrom x) (raised ||| kfPrinterAbsent) counts s (losePrinter p t) :=
  (h.updPrinter lostFrom).raise kfPrinterAbsent

/-- R120: the printer waits for the cut. -/
theorem finishing : PrinterTouched p (finishingAt s.showUnit.runTime x) raised counts s (enterFinishing p t) := by
  have finish := h.updPrinter (finishingAt (nowOf t))
  rw [h.now] at finish
  rw [enterFinishing, h.now]
  exact finish

theorem streamOn : PrinterTouched p (if x.toSend = [] then finishingAt s.showUnit.runTime x else x) raised counts s (streamOn p t) := by
  rw [Machine.streamOn, h.here]
  split
  · exact h.finishing
  · exact h

end

end PrinterTouched

theorem lastAllows_eq (o : Option Byte) : lastAllows o = o.any allowsByte := by
  cases o <;> rfl

/-! ### A READY printer (R119, R121) -/

section
variable {p : Fin 12} {x z : Printer} {raised : FactorSet} {counts : List Nat} {s t : State}

/-- R119: the head starts. -/
theorem PrinterTouched.start {i : Item} {rest : List Item} (h : PrinterTouched p x raised counts s t) (shape : x.queue = i :: rest)
    (queued : i.state = .queued) (ready : x.state = .ready) (allows : x.lastStatus.any allowsByte = true) :
    PrinterTouched p (startedFrom s i rest x) raised counts s (startItem p t) := by
  simp only [startItem, h.here, shape]
  rw [if_pos ⟨ready, queued, (lastAllows_eq _).trans allows⟩, h.rendering]
  have streams := h.updPrinter (fun y => { y with
    state := .streaming, toSend := Machine.rendering s i, queue := { i with state := .printing } :: rest, queueChanges := bump y.queueChanges })
  split
  · next spent =>
    have finish := streams.finishing
    simp only [spent] at finish
    simpa only [startedFrom, finishingAt, spent, if_true] using finish
  · next some' => simpa only [startedFrom, some', if_false] using streams

/-- R119: nothing starts. -/
theorem PrinterTouched.startItem_rests (h : PrinterTouched p x raised counts s t) (rests : x.queue = [] ∨
    (∃ i rest, x.queue = i :: rest ∧ i.state ≠ .queued) ∨ x.lastStatus.any allowsByte = false) : startItem p t = t := by
  simp only [startItem, h.here]
  split
  · rfl
  · next i rest shape =>
    refine if_neg fun starts => ?_
    obtain ⟨-, queued, allows⟩ := starts
    rw [lastAllows_eq] at allows
    rcases rests with empty | ⟨j, more, shape', active⟩ | refuses
    · rw [empty] at shape; cases shape
    · rw [shape'] at shape
      obtain ⟨rfl, -⟩ := List.cons.inj shape
      exact active queued
    · rw [allows] at refuses; cases refuses

/-- R119, R121: a status byte taken by a READY printer. -/
theorem PrinterTouched.ready (h : PrinterTouched p z raised counts s t) (b : Byte) (ready : z.state = .ready)
    (new : 0x124 + 12 * p.val ∉ counts) : ReadyMoved p b z raised counts s (refreshKiosk p (takeReady p b t)) := by
  refine ⟨fun c shown => ?_, fun clean => ⟨fun i rest shape queued allows => ?_, fun rests => ?_⟩⟩
  · simp only [takeReady, shown]
    exact (h.stall c new).moved
  · simp only [takeReady, clean]
    exact (h.start shape queued ready allows).moved
  · simp only [takeReady, clean]
    rw [h.startItem_rests rests]
    exact h.moved

/-! ### Ten absent bytes (R109) -/

theorem PrinterTouched.counts_congr {counts' : List Nat} (h : PrinterTouched p x raised counts s t) (same : ∀ o, o ∈ counts' ↔ o ∈ counts) :
    PrinterTouched p x raised counts' s t := { h with stats := fun o => by rw [h.stats]; simp only [same] }

theorem headIs_iff {q : Printer} {st : ItemState} : headIs q st = true ↔ ∃ x rest, q.queue = x :: rest ∧ x.state = st := by
  rw [headIs]
  split
  · next empty => simp [empty]
  · next y rest shape => simp [shape]

/-- R109, R119: a status byte with presence clear, where the queue's sale check does not hold it. -/
theorem PrinterTouched.absent (h : PrinterTouched p x 0 [] s t)
    (free : x.check = none ∨ x.absentRun ≠ 10 ∨ x.state = .absent ∨ ¬ ∃ i rest, x.queue = i :: rest ∧ i.state = .printing) :
    AbsenceMoved p x s (refreshKiosk p (moveAbsent p t)) := by
  have lost : ∀ c : FactorSet, 0 ||| c = c := fun c => BitVec.zero_or
  refine ⟨fun ten present => ?_, fun stays => ?_⟩
  · have takes : moveAbsent p t = losePrinter p t := by
      simp only [moveAbsent, h.here]
      rw [if_pos ⟨ten, present⟩]
      split
      · next printing =>
        refine whenFree_free ?_ _ _
        have unchecked : x.check = none := free.elim id fun rest =>
          rest.elim (absurd ten) fun rest => rest.elim (fun gone => absurd gone present) (absurd (headIs_iff.mp printing))
        simp only [busy, h.here, unchecked, Option.isSome_none]
      · rfl
    rw [takes, ← lost kfPrinterAbsent]
    exact h.lose.moved
  · have step : moveAbsent p t = if x.state = .streaming then Machine.streamOn p t else t := by
      simp only [moveAbsent, h.here]
      exact if_neg fun both => stays.elim (fun few => few both.1) fun gone => both.2 gone
    rw [step]
    by_cases streams : x.state = .streaming
    · simp only [streams, if_true, true_and]
      exact h.streamOn.moved
    · simp only [streams, if_false, false_and]
      exact h.moved

end

/-! ### Pulls (R114) -/

/-- R114: a basket that a printer may pull from. -/
def MayPull (s : State) (p n : Nat) : Prop := (basketAt s n).state = .printing ∧ (basketAt s n).printer = p ∧
  (basketAt s n).cursor < (basketAt s n).plan.length

theorem pullable_iff {p : Nat} {c : Basket} : pullable p c = true ↔ c.state = .printing ∧ c.printer = p ∧ c.cursor < c.plan.length := by
  simp [pullable, and_assoc]

theorem pullSource_none {p : Nat} {l : List Basket} (none' : ∀ c ∈ l, pullable p c = false) (i : Nat) : pullSource p i l = none := by
  induction l generalizing i with
  | nil => rfl
  | cons c l ih =>
    rw [pullSource, ih (fun c hc => none' c (List.mem_cons_of_mem _ hc))]
    simp only [none' c List.mem_cons_self, Bool.false_eq_true, if_false]

/-- What a search finds is the number and the serial of a basket of the list. -/
theorem pullSource_from {p i : Nat} {l : List Basket} {best : Nat × Nat} (found : pullSource p i l = some best) :
    ∃ (k : Nat) (c : Basket), l[k]? = some c ∧ pullable p c = true ∧ best = (i + k, c.serial.getD 0) := by
  induction l generalizing i best with
  | nil => cases found
  | cons c l ih =>
    rw [pullSource] at found
    split at found
    · split at found
      · next may => cases found; exact ⟨0, c, rfl, may, rfl⟩
      · cases found
    · next old rest =>
      split at found
      · next may => cases found; exact ⟨0, c, rfl, may.1, rfl⟩
      · cases found
        obtain ⟨k, d, at', may, serial⟩ := ih rest
        exact ⟨k + 1, d, at', may, by rw [serial, Nat.add_right_comm, Nat.add_assoc]⟩

theorem pullSource_some {p n : Nat} {l : List Basket} {c : Basket} (at' : l[n]? = some c) (may : pullable p c = true)
    (least : ∀ k d, k ≠ n → l[k]? = some d → pullable p d = true → c.serial.getD 0 < d.serial.getD 0) (i : Nat) :
    pullSource p i l = some (i + n, c.serial.getD 0) := by
  induction l generalizing i n with
  | nil => cases at'
  | cons e l ih =>
    cases n with
    | zero =>
      obtain rfl : e = c := by simpa using at'
      rw [pullSource]
      split
      · rw [if_pos may]; rfl
      · next best found =>
        obtain ⟨k, d, there, may', serial⟩ := pullSource_from found
        rw [if_pos ⟨may, by rw [serial]; exact least (k + 1) d (Nat.succ_ne_zero k) there may'⟩]
        rfl
    | succ n =>
      have rest := ih (by simpa using at') (fun k d apart there => least (k + 1) d (by omega) there) (i + 1)
      rw [pullSource, rest]
      simp only
      rw [if_neg fun both => Nat.lt_asymm both.2 (least 0 e (Nat.succ_ne_zero n).symm rfl both.1)]
      congr 2
      omega

section
variable {s : State} {p : Nat}

theorem mem_baskets_iff {c : Basket} {n : Nat} : s.basketUnit.baskets[n]? = some c ↔
    n < s.basketUnit.baskets.length ∧ basketAt s n = c := by
  rw [List.getElem?_eq_some_iff]
  constructor
  · rintro ⟨inside, rfl⟩
    exact ⟨inside, List.getD_eq_getElem _ _ inside⟩
  · rintro ⟨inside, rfl⟩
    exact ⟨inside, (List.getD_eq_getElem _ _ inside).symm⟩

theorem pullChoice_none (baskets : s.basketUnit.baskets.length = 24)
    (rests : (∀ n < 24, ¬ MayPull s p n) ∨ 16 ≤ (printerAt s p).queue.length) : pullChoice s p = none := by
  rw [pullChoice]
  split
  · next room =>
    rw [pullSource_none (fun c hc => ?_)]
    · rfl
    · obtain ⟨n, at'⟩ := List.mem_iff_getElem?.mp hc
      obtain ⟨inside, rfl⟩ := mem_baskets_iff.mp at'
      have quiet := rests.elim (fun all => all n (inside.trans_eq baskets)) fun full => absurd room (Nat.not_lt.mpr full)
      exact Bool.eq_false_iff.mpr fun may => quiet (pullable_iff.mp may)
  · rfl

theorem pullChoice_some {n m : Nat} {item : PlanItem} (baskets : s.basketUnit.baskets.length = 24)
    (room : (printerAt s p).queue.length < 16) (inside : n < 24) (may : MayPull s p n) (serial : (basketAt s n).serial = some m)
    (next : (basketAt s n).plan[(basketAt s n).cursor]? = some item)
    (least : ∀ k < 24, k ≠ n → MayPull s p k → ∃ l, (basketAt s k).serial = some l ∧ m < l) : pullChoice s p = some (n, item) := by
  have found := pullSource_some (p := p) (mem_baskets_iff.mpr ⟨inside.trans_eq baskets.symm, rfl⟩) (pullable_iff.mpr may)
    (fun k d apart at' may' => by
      obtain ⟨low, rfl⟩ := mem_baskets_iff.mp at'
      obtain ⟨l, other, less⟩ := least k (low.trans_eq baskets) apart (pullable_iff.mp may')
      rw [serial, other]
      exact less) 0
  rw [Nat.zero_add] at found
  rw [pullChoice, if_pos room, found]
  simp only [Option.bind_some, next, Option.map_some]

/-- R114: the pull made. -/
theorem pullNow_pulls {n : Nat} {item : PlanItem} (choice : pullChoice s p = some (n, item)) : pullNow p s =
    updBasket n (fun c => { c with cursor := c.cursor + 1 })
      (updQueue p (fun q => joinQueue q (plannedItem s n (basketAt s n) item)) s) := by
  simp only [pullNow, choice]

theorem pullNow_none (choice : pullChoice s p = none) : pullNow p s = s := by
  simp only [pullNow, choice]

theorem pullNow_units (p : Nat) (s : State) : (pullNow p s).basketUnit = { s.basketUnit with baskets := (pullNow p s).basketUnit.baskets } ∧
    (pullNow p s).basketUnit.baskets.length = s.basketUnit.baskets.length ∧ (pullNow p s).salesUnit = s.salesUnit := by
  rw [pullNow]
  split
  · exact ⟨rfl, rfl, rfl⟩
  · exact ⟨rfl, updAt_length .., rfl⟩

theorem templateFor_eq {kind : ItemKind} {voucher : Option Nat} {template : Nat} (ticket : kind = .ticket → template = 0)
    (receipt : kind = .receipt → template = 1)
    (slip : kind = .slip → ∃ i, voucher = some i ∧ template = (kindAt s (voucherAt s i).kind).template) :
    templateFor s kind voucher = template := by
  cases kind with
  | ticket => exact (ticket rfl).symm
  | receipt => exact (receipt rfl).symm
  | slip =>
    obtain ⟨i, rfl, rfl⟩ := slip rfl
    rfl

end

/-! ### The completion of an item (R120) -/

/-- R120: the basket as an item's completion tells it. -/
def toldBasket (s : State) (x : Item) (n : Nat) : Basket :=
  if x.source = .basket n then
    { (basketAt s n) with printed := (basketAt s n).printed + 1, changes := bump (basketAt s n).changes }
  else basketAt s n

theorem raiseReprints_unknown {s : State} {serial n : Nat} (unknown : saleplace s serial = none) : raiseReprints serial n s = s := by
  simp only [raiseReprints, findSale, unknown, Option.map_none]

theorem raiseReprints_found {s : State} {serial n q : Nat} (found : saleplace s serial = some q) : raiseReprints serial n s =
    if !(saleAt s q).refunded ∧ (saleAt s q).reprints < n
    then setSale q { (saleAt s q) with reprints := n, changes := bump (saleAt s q).changes } s else s := by
  simp only [raiseReprints, findSale, found, Option.map_some, updSale_found found]

/-- R120: what a completion tells depends on the baskets and the sale records alone, and moves them alone. -/
theorem reportPrinted_congr {s t : State} (x : Item) (baskets : t.basketUnit = s.basketUnit) (sales : t.salesUnit = s.salesUnit) :
    reportPrinted x t = { t with basketUnit := (reportPrinted x s).basketUnit, salesUnit := (reportPrinted x s).salesUnit } := by
  cases source : x.source with
  | basket b =>
    simp only [reportPrinted, source, updBasket, setBasket, ← baskets, ← sales]
  | reprint =>
    have place : saleplace t x.serial = saleplace s x.serial := by rw [saleplace, sales, saleplace]
    have records : ∀ q, saleAt t q = saleAt s q := fun q => by rw [saleAt, sales, saleAt]
    simp only [reportPrinted, source]
    cases found : saleplace s x.serial with
    | none => rw [raiseReprints_unknown found, raiseReprints_unknown (place.trans found), ← baskets, ← sales]
    | some q =>
      rw [raiseReprints_found found, raiseReprints_found (place.trans found), records]
      split <;> simp only [setSale, ← baskets, ← sales]

theorem reportPrinted_baskets {s : State} (x : Item) (baskets : s.basketUnit.baskets.length = 24) :
    (∀ n < 24, basketAt (reportPrinted x s) n = toldBasket s x n) ∧ (reportPrinted x s).basketUnit.baskets.length = 24 ∧
    (reportPrinted x s).basketUnit = { s.basketUnit with baskets := (reportPrinted x s).basketUnit.baskets } := by
  cases source : x.source with
  | basket b =>
    have told : reportPrinted x s = updBasket b (fun c => { c with printed := c.printed + 1 }) s := by simp only [reportPrinted, source]
    rw [told]
    refine ⟨fun n low => ?_, (updAt_length ..).trans baskets, rfl⟩
    rw [toldBasket, source]
    split
    · next same =>
      cases same
      exact basketAt_updBasket_self s b _ (low.trans_eq baskets.symm)
    · next apart => exact basketAt_updBasket_other s b n _ fun same => apart (by rw [same])
  | reprint =>
    have told : reportPrinted x s = raiseReprints x.serial x.reprints s := by simp only [reportPrinted, source]
    have unit : (raiseReprints x.serial x.reprints s).basketUnit = s.basketUnit := by simp
    rw [told, unit]
    refine ⟨fun n _ => ?_, baskets, rfl⟩
    rw [toldBasket, source, if_neg (by simp)]
    exact basketAt_of_baskets (by rw [unit]) n

theorem reportPrinted_sales {s : State} (x : Item) (canonical : sparseWf Sale.empty s.salesUnit.sales) :
    (reportPrinted x s).salesUnit = { s.salesUnit with sales := (reportPrinted x s).salesUnit.sales } ∧
    ∀ place, saleAt (reportPrinted x s) place =
      if x.source = .reprint ∧ saleplace s x.serial = some place ∧ (saleAt s place).refunded = false ∧ (saleAt s place).reprints < x.reprints
      then { (saleAt s place) with reprints := x.reprints, changes := bump (saleAt s place).changes } else saleAt s place := by
  cases source : x.source with
  | basket b =>
    have told : reportPrinted x s = updBasket b (fun c => { c with printed := c.printed + 1 }) s := by simp only [reportPrinted, source]
    rw [told]
    exact ⟨rfl, fun place => (if_neg (by simp)).symm⟩
  | reprint =>
    have told : reportPrinted x s = raiseReprints x.serial x.reprints s := by simp only [reportPrinted, source]
    rw [told]
    cases found : saleplace s x.serial with
    | none =>
      rw [raiseReprints_unknown found]
      exact ⟨rfl, fun place => (if_neg (by simp)).symm⟩
    | some q =>
      rw [raiseReprints_found found]
      split
      · next raises =>
        refine ⟨rfl, fun place => ?_⟩
        by_cases same : q = place
        · subst same
          rw [saleAt_setSale_self _ _ _ canonical, if_pos ⟨rfl, rfl, by simpa using raises.1, raises.2⟩]
        · rw [saleAt_setSale_other _ _ _ _ canonical same, if_neg fun all => same (Option.some.inj all.2.1)]
      · next stays =>
        refine ⟨rfl, fun place => (if_neg fun all => stays ?_).symm⟩
        obtain ⟨-, same, live, more⟩ := all
        obtain rfl := Option.some.inj same
        exact ⟨by simp [live], more⟩

section
variable {p : Fin 12} {y : Printer} {raised : FactorSet} {s t : State}

/-- R120: the printer once its head has left the queue. -/
def doneWith (rest : List Item) (y : Printer) : Printer :=
  { y with state := .ready, cutDue := none, toSend := [], queue := rest, queueChanges := bump y.queueChanges }

/-- R120, step (4): the counts of a completed item. -/
def printedCounts (p : Nat) (x : Item) : List Nat := (0x120 + 12 * p) :: (if 0 < x.reprints then [0x128 + 12 * p] else [])

theorem PrinterTouched.counted (h : PrinterTouched p y raised [] s t) (x : Item) :
    PrinterTouched p y raised (printedCounts p x) s (countPrinted p x t) := by
  have zero : statPrinter p 0 = 0x120 + 12 * p.val := rfl
  have two : statPrinter p 2 = 0x128 + 12 * p.val := by rw [statPrinter]; omega
  rw [countPrinted, zero, two, printedCounts]
  have items := h.count (o := 0x120 + 12 * p.val) List.not_mem_nil
  split
  · refine (items.count (o := 0x128 + 12 * p.val) ?_).counts_congr fun o => by simp [or_comm]
    simp only [List.mem_singleton]
    omega
  · exact items

/-- R120, steps (1) to (4). -/
theorem PrinterTouched.removeHead {x : Item} {rest : List Item} (h : PrinterTouched p y raised [] s t) (shape : y.queue = x :: rest) :
    PrinterTouched p (doneWith rest y) raised (printedCounts p x)
      { s with basketUnit := (reportPrinted x s).basketUnit, salesUnit := (reportPrinted x s).salesUnit } (removeHead p t) := by
  have baskets : t.basketUnit = s.basketUnit := by rw [h.frame]
  have sales : t.salesUnit = s.salesUnit := by rw [h.frame]
  have step : Machine.removeHead p t = countPrinted p x (reportPrinted x (Machine.updPrinter p (doneWith rest) t)) := by
    simp only [Machine.removeHead, h.here, shape]
    rfl
  rw [step, reportPrinted_congr (s := s) (t := Machine.updPrinter p (doneWith rest) t) x baskets sales]
  exact ((h.updPrinter (doneWith rest)).withUnits _ _).counted x

theorem toldBasket_plan (s : State) (x : Item) (n : Nat) : toldBasket s x n = { (basketAt s n) with
    printed := (toldBasket s x n).printed, changes := (toldBasket s x n).changes } := by
  rw [toldBasket]
  split <;> rfl

theorem mayPull_told {x : Item} {v : State} {n : Nat} (same : basketAt v n = toldBasket s x n) : MayPull v p n ↔ MayPull s p n := by
  rw [MayPull, same, toldBasket_plan, MayPull]

/-- R120: the completion where no plan item can be pulled. -/
theorem PrinterTouched.complete_alone {x : Item} {rest : List Item} (h : PrinterTouched p y raised [] s t) (shape : y.queue = x :: rest)
    (baskets : s.basketUnit.baskets.length = 24) (rests : (∀ n < 24, ¬ MayPull s p n) ∨ 16 ≤ rest.length) :
    completeItem p t = Machine.removeHead p t := by
  have removed := h.removeHead shape
  obtain ⟨told, all, -⟩ := reportPrinted_baskets x baskets
  have unit : (Machine.removeHead p t).basketUnit = (reportPrinted x s).basketUnit := by rw [removed.frame]
  have same : ∀ n < 24, basketAt (Machine.removeHead p t) n = toldBasket s x n := fun n low =>
    (basketAt_of_baskets (by rw [unit]) n).trans (told n low)
  refine pullNow_none (pullChoice_none (by rw [unit]; exact all) (rests.imp (fun none' n low may => ?_) fun full => ?_))
  · exact none' n low ((mayPull_told (same n low)).mp may)
  · rw [removed.here]
    exact full

/-- R120: the completion with the pull it makes room for: an update of its own of the queue and the basket (log entry 7). -/
theorem PrinterTouched.complete_pulls {x : Item} {rest : List Item} {n m template : Nat} {item : PlanItem}
    (h : PrinterTouched p y raised [] s t) (shape : y.queue = x :: rest) (baskets : s.basketUnit.baskets.length = 24)
    (inside : n < 24) (may : MayPull s p n) (serial : (basketAt s n).serial = some m)
    (next : (basketAt s n).plan[(basketAt s n).cursor]? = some item)
    (least : ∀ k < 24, k ≠ n → MayPull s p k → ∃ l, (basketAt s k).serial = some l ∧ m < l) (room : rest.length < 16)
    (ticket : item.kind = .ticket → template = 0) (receipt : item.kind = .receipt → template = 1)
    (slip : item.kind = .slip → ∃ i, (basketAt s n).vouchers[item.index]? = some i ∧ template = (kindAt s (voucherAt s i).kind).template) :
    let b := (updBasket n (fun c => { c with cursor := c.cursor + 1 }) (reportPrinted x s)).basketUnit
    PrinterTouched p { doneWith rest y with
        queue := placeItem ⟨item.kind, template, m, item.index, false, 0, .queued, .basket n, y.nextArrival⟩ rest
        nextArrival := (y.nextArrival + 1) % 65536, queueChanges := bump (bump y.queueChanges) } raised (printedCounts p x)
      { s with basketUnit := b, salesUnit := (reportPrinted x s).salesUnit } (completeItem p t) := by
  have removed := h.removeHead shape
  obtain ⟨told, all, -⟩ := reportPrinted_baskets x baskets
  have step : completeItem p t = pullNow p (Machine.removeHead p t) := rfl
  rw [step]
  generalize Machine.removeHead p t = v at removed
  have unit : v.basketUnit = (reportPrinted x s).basketUnit := by rw [removed.frame]
  have same : ∀ k < 24, basketAt v k = toldBasket s x k := fun k low => (basketAt_of_baskets (by rw [unit]) k).trans (told k low)
  have planned := toldBasket_plan s x n
  have choice : pullChoice v p = some (n, item) := by
    refine pullChoice_some (m := m) (by rw [unit]; exact all) (by rw [removed.here]; exact room) inside ((mayPull_told (same n inside)).mpr may) ?_ ?_
      fun k low apart may' => ?_
    · rw [same n inside, planned]; exact serial
    · rw [same n inside, planned]; exact next
    · obtain ⟨l, other, less⟩ := least k low apart ((mayPull_told (same k low)).mp may')
      refine ⟨l, ?_, less⟩
      rw [same k low, toldBasket_plan]
      exact other
  have entry : plannedItem v n (basketAt v n) item = ⟨item.kind, template, m, item.index, false, 0, .queued, .basket n, 0⟩ := by
    have template' : templateFor v item.kind ((basketAt v n).vouchers[item.index]?) = template := by
      refine templateFor_eq ticket receipt fun kind => ?_
      obtain ⟨i, listed, eq⟩ := slip kind
      refine ⟨i, ?_, ?_⟩
      · rw [same n inside, planned]; exact listed
      · rw [eq, removed.frame]
        rfl
    rw [plannedItem, template', same n inside, planned]
    simp only [serial, Option.getD_some]
  rw [pullNow_pulls choice, entry]
  have joined := (removed.setPrinter (fun q => { joinQueue q ⟨item.kind, template, m, item.index, false, 0, .queued, .basket n, 0⟩ with
    queueChanges := bump q.queueChanges })).withUnits
      (updBasket n (fun c => { c with cursor := c.cursor + 1 }) v).basketUnit (reportPrinted x s).salesUnit
  have sales : v.salesUnit = (reportPrinted x s).salesUnit := by rw [removed.frame]
  have moved' : (updBasket n (fun c => { c with cursor := c.cursor + 1 }) v).basketUnit =
      (updBasket n (fun c => { c with cursor := c.cursor + 1 }) (reportPrinted x s)).basketUnit := by
    simp only [updBasket, setBasket, unit]
  rw [moved'] at joined
  have pulled : updBasket n (fun c => { c with cursor := c.cursor + 1 }) (updQueue p (fun q =>
      joinQueue q ⟨item.kind, template, m, item.index, false, 0, .queued, .basket n, 0⟩) v) =
      { Machine.setPrinter p (fun q => { joinQueue q ⟨item.kind, template, m, item.index, false, 0, .queued, .basket n, 0⟩ with
          queueChanges := bump q.queueChanges }) v with
        basketUnit := (updBasket n (fun c => { c with cursor := c.cursor + 1 }) (reportPrinted x s)).basketUnit
        salesUnit := (reportPrinted x s).salesUnit } := by
    rw [← moved', ← sales]
    rfl
  rw [pulled]
  exact joined

/-- R120, R121, R119: the cut done, and the same byte taken by the printer then READY. -/
theorem PrinterTouched.cut {x : Item} {rest : List Item} (h : PrinterTouched p y raised [] s t) (shape : y.queue = x :: rest)
    (baskets : s.basketUnit.baskets.length = 24) (canonical : sparseWf Sale.empty s.salesUnit.sales) (b : Byte) :
    CutMoved p b y x rest raised s (refreshKiosk p (takeReady p b (completeItem p t))) := by
  obtain ⟨told, all, unit⟩ := reportPrinted_baskets x baskets
  obtain ⟨salesFrame, sales⟩ := reportPrinted_sales x canonical
  have new : 0x124 + 12 * p.val ∉ printedCounts p x := by
    rw [printedCounts]
    split <;> simp
  have keptBaskets : (refreshKiosk p (takeReady p b (completeItem p t))).basketUnit = (completeItem p t).basketUnit := by simp
  have keptSales : (refreshKiosk p (takeReady p b (completeItem p t))).salesUnit = (completeItem p t).salesUnit := by simp
  have removed := h.removeHead shape
  obtain ⟨pullFrame, pullLength, pullSales⟩ := pullNow_units p (Machine.removeHead p t)
  have step : pullNow p (Machine.removeHead p t) = completeItem p t := rfl
  rw [step, show (Machine.removeHead p t).basketUnit = (reportPrinted x s).basketUnit by rw [removed.frame]] at pullFrame pullLength
  rw [step, show (Machine.removeHead p t).salesUnit = (reportPrinted x s).salesUnit by rw [removed.frame]] at pullSales
  have ready : ∀ {z : Printer} {u : State}, PrinterTouched p z raised (printedCounts p x)
      { s with basketUnit := (completeItem p t).basketUnit, salesUnit := (reportPrinted x s).salesUnit } (completeItem p t) →
      z.state = .ready → u = refreshKiosk p (takeReady p b (completeItem p t)) →
      ReadyMoved p b z raised (printedCounts p x) { s with basketUnit := u.basketUnit, salesUnit := u.salesUnit } u := by
    rintro z u touched stands rfl
    rw [keptBaskets, keptSales, pullSales]
    exact touched.ready b stands new
  generalize whole : refreshKiosk p (takeReady p b (completeItem p t)) = u at *
  refine ⟨?_, ?_, fun rests => ?_, fun n m item template inside may serial next least room ticket receipt slip => ?_, ?_, fun place => ?_⟩
  · rw [keptBaskets, pullFrame, unit]
  · rw [keptBaskets, pullLength, all]
  · have touched := h.removeHead shape
    have same := h.complete_alone shape baskets rests
    have units : (completeItem p t).basketUnit = (reportPrinted x s).basketUnit := by rw [same, removed.frame]
    rw [← same, ← units] at touched
    refine ⟨ready touched rfl rfl, fun n low => ?_⟩
    exact (basketAt_of_baskets (by rw [keptBaskets, units]) n).trans (told n low)
  · have touched := h.complete_pulls shape baskets inside may serial next least room ticket receipt slip
    have units : (completeItem p t).basketUnit = (updBasket n (fun c => { c with cursor := c.cursor + 1 }) (reportPrinted x s)).basketUnit := by
      rw [touched.frame]
    simp only [← units] at touched
    have baskets' : ∀ k, basketAt u k = basketAt (updBasket n (fun c => { c with cursor := c.cursor + 1 }) (reportPrinted x s)) k :=
      basketAt_of_baskets (by rw [keptBaskets, units])
    refine ⟨ready touched rfl rfl, ?_, fun k low apart => ?_⟩
    · rw [baskets', basketAt_updBasket_self _ n _ (inside.trans_eq all.symm), told n inside]
      rfl
    · rw [baskets', basketAt_updBasket_other _ n k _ apart.symm, told k low]
      rfl
  · rw [keptSales, pullSales, salesFrame]
  · have same : saleAt u place = saleAt (reportPrinted x s) place := by rw [saleAt, keptSales, pullSales, saleAt]
    rw [same]
    exact sales place

end

/-! ### A status byte with presence set (R109, R110, R119 to R121) -/

section
variable {p : Fin 12} {y : Printer} {raised : FactorSet} {s t : State}

/-- R109: the end of an absence. -/
theorem endAbsence_present (h : PrinterTouched p y raised [] s t) (b : Byte) (present : y.state ≠ .absent) : endAbsence p b t = t := by
  rw [endAbsence, h.here, if_neg present]

theorem endAbsence_stalls (h : PrinterTouched p y raised [] s t) {b : Byte} (absent : y.state = .absent)
    (why : headIs y .incomplete = true ∨ (shownCause b).isSome = true) :
    endAbsence p b t = stallPrinter p ((shownCause b).getD .absence) t := by
  rw [endAbsence, h.here, if_pos absent, if_pos why]

theorem endAbsence_ready (h : PrinterTouched p y raised [] s t) {b : Byte} (absent : y.state = .absent)
    (clean : shownCause b = none) (whole : ¬ headIs y .incomplete = true) :
    endAbsence p b t = updPrinter p (fun q => { q with state := .ready }) t := by
  rw [endAbsence, h.here, if_pos absent, if_neg (by simp [clean, whole])]

/-- R109: a printer that stalls on its return takes nothing more from the same byte. -/
theorem present_stalls (h : PrinterTouched p y raised [] s t) {b : Byte} (absent : y.state = .absent)
    (why : headIs y .incomplete = true ∨ (shownCause b).isSome = true) :
    presentStatus p b (endAbsence p b t) = stallPrinter p ((shownCause b).getD .absence) t := by
  rw [endAbsence_stalls h absent why]
  simp only [presentStatus, (h.stall ((shownCause b).getD .absence) List.not_mem_nil).here]
  rfl

theorem headIs_incomplete_iff : (∀ x rest, y.queue = x :: rest → x.state ≠ .incomplete) ↔ ¬ headIs y .incomplete = true := by
  rw [headIs_iff]
  constructor
  · rintro none' ⟨x, rest, shape, state⟩
    exact none' x rest shape state
  · exact fun none' x rest shape state => none' ⟨x, rest, shape, state⟩

/-- A byte taken at once by a printer whose queue it reaches or not. -/
theorem PrinterTouched.present (h : PrinterTouched p y raised [] s t) (baskets : s.basketUnit.baskets.length = 24)
    (canonical : sparseWf Sale.empty s.salesUnit.sales) (b : Byte) :
    StatusMoved p b y raised s (refreshKiosk p (presentStatus p b (endAbsence p b t))) := by
  have stall : ∀ c, PrinterMoved p (stalledAs c y) (raised ||| kfPrinterStalled) [0x124 + 12 * p] s
      (refreshKiosk p (stallPrinter p c t)) := fun c => (h.stall c List.not_mem_nil).moved
  refine ⟨fun stalled => ?_, fun ready => ?_, fun absent => ⟨fun c shown => ?_, fun clean => ⟨fun incomplete => ?_, fun whole => ?_⟩⟩,
    fun streams => ?_, fun finishes => ?_⟩
  · rw [endAbsence_present h b (by simp [stalled])]
    simp only [presentStatus, h.here, stalled]
    exact h.moved
  · rw [endAbsence_present h b (by simp [ready])]
    simp only [presentStatus, h.here, ready]
    exact h.ready b ready List.not_mem_nil
  · rw [present_stalls h absent (.inr (by simp [shown])), shown]
    exact stall c
  · rw [present_stalls h absent (.inl (headIs_iff.mpr incomplete)), clean]
    exact stall .absence
  · rw [endAbsence_ready h absent clean (headIs_incomplete_iff.mp whole)]
    have back := h.updPrinter (fun q => { q with state := .ready })
    simp only [presentStatus, back.here]
    exact back.ready b rfl List.not_mem_nil
  · rw [endAbsence_present h b (by simp [streams])]
    refine ⟨fun c shown => ?_, fun clean => ?_⟩
    · simp only [presentStatus, h.here, streams, shown]
      exact stall c
    · simp only [presentStatus, h.here, streams, clean]
      exact h.streamOn.moved
  · rw [endAbsence_present h b (by simp [finishes])]
    refine ⟨fun uncut => ⟨fun c shown => ?_, fun clean => ?_⟩, fun cut x rest shape => ?_⟩
    · simp only [presentStatus, h.here, finishes, uncut, Bool.false_eq_true, if_false, shown]
      exact stall c
    · simp only [presentStatus, h.here, finishes, uncut, Bool.false_eq_true, if_false, clean]
      exact h.moved
    · simp only [presentStatus, h.here, finishes, cut, if_true]
      exact h.cut shape baskets canonical b

/-- R113: a byte is an event of the queue exactly where it starts, completes or interrupts an item. -/
theorem reachesQueue_iff {b : Byte} : reachesQueue y b = true ↔ OnQueue y b := by
  have cause : (shownCause b).isSome = true ↔ shownCause b ≠ none := Option.isSome_iff_ne_none
  have clean : (shownCause b).isNone = true ↔ shownCause b = none := Option.isNone_iff_eq_none
  have printing := headIs_iff (q := y) (st := .printing)
  have queued := headIs_iff (q := y) (st := .queued)
  rw [reachesQueue, OnQueue, ← printing, ← queued, ← cause, ← clean, ← lastAllows_eq]
  cases y.state <;> simp [and_assoc, and_comm, and_left_comm]

end

end Sys2Proof.Machine
end

section
/-! The printer exchange (R107, R108): the byte clocked out, the status byte recorded, and what of it waits for the queue. -/

namespace Sys2Proof.Machine

/-! ### What waits for a printer's queue (R124) -/

theorem stopWaiting_iff {s : State} {p : Nat} : stopWaiting s p = true ↔
    ∃ e ∈ s.waiting, e.2 = .absence p ∨ ∃ c, e.2 = .status p c ∨ e.2 = .returned p c := by
  rw [stopWaiting, List.any_eq_true]
  refine exists_congr fun e => and_congr_right fun _ => ?_
  cases e.2 <;> simp

theorem lossWaiting_iff {s : State} {p : Nat} : lossWaiting s p = true ↔
    ∃ e ∈ s.waiting, e.2 = .absence p ∨ ∃ c, e.2 = .returned p c := by
  rw [lossWaiting, List.any_eq_true]
  refine exists_congr fun e => and_congr_right fun _ => ?_
  cases e.2 <;> simp

/-! ### The byte clocked out (R107, R119) -/

/-- R107: the printer once its byte is out. -/
def clocked (sends : Bool) (q : Printer) : Printer := { q with polled := false, toSend := if sends then q.toSend.tail else q.toSend }

theorem sendsData_iff {s : State} {p : Nat} : sendsData s p = true ↔ (printerAt s p).state = .streaming ∧
    (printerAt s p).lastStatus.any allowsByte = true ∧ (printerAt s p).toSend ≠ [] ∧
    ∀ e ∈ s.waiting, e.2 ≠ .absence p ∧ ∀ c, e.2 ≠ .status p c ∧ e.2 ≠ .returned p c := by
  have quiet : (!stopWaiting s p) = true ↔ ∀ e ∈ s.waiting, e.2 ≠ .absence p ∧ ∀ c, e.2 ≠ .status p c ∧ e.2 ≠ .returned p c := by
    rw [Bool.not_eq_true', Bool.eq_false_iff, Ne, stopWaiting_iff]
    simp only [not_exists, not_and, not_or, ne_eq]
  rw [← quiet, ← lastAllows_eq]
  simp [sendsData, and_assoc]

/-- R107: what an exchange sends. -/
def exchanged (p : Nat) (sends : Bool) (s : State) : State := { s with wire := s.wire ++
  (if (printerAt s p).polled then [] else [.printerByte p sends (if sends then (printerAt s p).toSend.headD 0 else 0)]) }

theorem clockOut_touched {s : State} {p : Fin 12} {sends : Bool} (printers : s.print.printers.length = 12)
    (cells : s.station.kiosks.length = 12) (canonical : sparseWf (0 : Nat) s.stats)
    (data : sends = true ↔ (printerAt s p).polled = false ∧ sendsData s p = true) :
    PrinterTouched p (clocked sends (printerAt s p)) 0 [] (exchanged p sends s) (clockOut p s) := by
  cases polled : (printerAt s p).polled with
  | true =>
    have none' : sends = false := Bool.eq_false_iff.mpr fun yes => by simp [polled] at data; exact absurd yes (by simp [data])
    subst none'
    have same : exchanged p false s = s := by rw [exchanged, polled, if_pos rfl, List.append_nil]
    rw [same, clockOut, polled, if_pos rfl]
    exact (PrinterTouched.refl p printers cells canonical).setPrinter (clocked false)
  | false =>
    have touched := PrinterTouched.refl (s := exchanged p sends s) p printers cells canonical
    have sent : exchanged p sends s = emit (.printerByte p sends (if sends then (printerAt s p).toSend.headD 0 else 0)) s := by
      rw [exchanged, polled]
      rfl
    cases sends with
    | true =>
      have yes : sendsData s p = true := (data.mp rfl).2
      have out : clockOut p s = setPrinter p (fun y => { y with toSend := y.toSend.tail }) (exchanged p true s) := by
        simp only [clockOut, polled, Bool.false_eq_true, if_false, yes, if_true, sent]
        rfl
      have shape : clocked true (printerAt s p) = (fun y : Printer => { y with toSend := y.toSend.tail }) (printerAt (exchanged p true s) p) := by
        rw [clocked, ← polled]
        rfl
      rw [out, shape]
      exact touched.setPrinter (fun y => { y with toSend := y.toSend.tail })
    | false =>
      have no : ¬ sendsData s p = true := fun yes => by simpa using data.mpr ⟨polled, yes⟩
      have out : clockOut p s = exchanged p false s := by
        simp only [clockOut, polled, Bool.false_eq_true, if_false, no, sent]
      have shape : clocked false (printerAt s p) = printerAt s p := by
        generalize printerAt s p = q at polled
        cases q
        simp only at polled
        subst polled
        rfl
      rw [out, shape]
      exact touched

/-! ### The status byte recorded (R108, R109) -/

/-- R108: the printer with a status byte recorded. -/
def recorded (b : Byte) (q : Printer) : Printer :=
  { q with lastStatus := some b, absentRun := if stPresence b then 0 else min 10 (q.absentRun + 1) }

/-- R109: what a status byte raises after another: PAPER_LOW, when paper low appears. -/
def lowRaised (b : Byte) (before : Option Byte) : FactorSet :=
  if stPresence b && stPaperLow b && !before.any (fun l => stPresence l && stPaperLow l) then kfPaperLow else 0

theorem PrinterTouched.recordStatus {p : Fin 12} {x : Printer} {s t : State} (h : PrinterTouched p x 0 [] s t) (b : Byte) :
    PrinterTouched p (recorded b x) (lowRaised b x.lastStatus) [] s (recordStatus p b t) := by
  have shows : ∀ o, showsLow o = o.any (fun l => stPresence l && stPaperLow l) := fun o => by cases o <;> rfl
  have written := h.updPrinter (recorded b)
  simp only [Machine.recordStatus, h.here, shows, lowRaised, Option.any_some]
  split
  · have raised := written.raise kfPaperLow
    rw [show (0 : FactorSet) ||| kfPaperLow = kfPaperLow from BitVec.zero_or] at raised
    exact raised
  · exact written

/-! ### What waits for the queue (R109, R124) -/

theorem interruptHead_check (q : Printer) : (interruptHead q).check = q.check := by
  rw [interruptHead]
  split
  · rfl
  · split <;> rfl

/-- What a byte does on the queue of a printer it finds READY. -/
theorem onQueue_ready {y : Printer} {b : Byte} (last : y.lastStatus = some b) : OnQueue { y with state := .ready } b ↔
    shownCause b = none ∧ allowsByte b = true ∧ headIs y .queued = true ∨ (shownCause b ≠ none ∧ headIs y .printing = true) := by
  have printing := headIs_iff (q := y) (st := .printing)
  have queued := headIs_iff (q := y) (st := .queued)
  rw [OnQueue, printing, queued, last]
  simp [or_comm]

theorem PrinterTouched.unchecked_free {p : Fin 12} {y : Printer} {raised : FactorSet} {counts : List Nat} {s t : State}
    (h : PrinterTouched p y raised counts s t) (free : y.check = none) : busy t (.printer p) = false := by
  rw [busy, h.here, free]
  rfl

section
variable {p : Fin 12} {y : Printer} {raised : FactorSet} {s t : State} {b : Byte} (h : PrinterTouched p y raised [] s t)
include h

theorem PrinterTouched.waits (e : WaitEvent) : PrinterMoved p y raised []
    { s with waiting := s.waiting ++ [(.printer p, e)] } (refreshKiosk p (waitFor (.printer p) e t)) := by
  have waiting : t.waiting = s.waiting := by rw [h.frame]
  rw [waitFor, waiting]
  exact (h.withWaiting _).moved

theorem PrinterTouched.loss_iff : lossWaiting t p = true ↔ ∃ e ∈ s.waiting, e.2 = .absence p ∨ ∃ c, e.2 = .returned p c := by
  rw [lossWaiting_iff, show t.waiting = s.waiting by rw [h.frame]]

/-- What the end of an absence leaves is not on the queue, unless the byte starts the head of the printer it returns to READY. -/
theorem PrinterTouched.endAbsence_leaves (last : y.lastStatus = some b) : ∃ z more counts,
    PrinterTouched p z more counts s (endAbsence p b t) ∧ z.check = y.check ∧
    (OnQueue z b → OnQueue y b ∨ (y.state = .absent ∧ shownCause b = none ∧ allowsByte b = true ∧ headIs y .queued = true)) := by
  by_cases absent : y.state = .absent
  · by_cases stalls : headIs y .incomplete = true ∨ (shownCause b).isSome = true
    · rw [endAbsence_stalls h absent stalls]
      exact ⟨_, _, _, h.stall _ List.not_mem_nil, interruptHead_check y, fun reaches => by simp [OnQueue, stalledAs] at reaches⟩
    · have clean : shownCause b = none := by simpa using fun some' => stalls (.inr some')
      rw [endAbsence_ready h absent clean fun head => stalls (.inl head)]
      refine ⟨_, _, _, h.updPrinter fun q => { q with state := .ready }, rfl, fun reaches => ?_⟩
      rcases (onQueue_ready last).mp reaches with ⟨-, allows, head⟩ | ⟨shown, -⟩
      · exact .inr ⟨absent, clean, allows, head⟩
      · exact absurd clean shown
  · rw [endAbsence_present h b absent]
    exact ⟨_, _, _, h, rfl, .inl⟩

/-- R109, R124: a byte with presence set that no sale check holds. -/
theorem PrinterTouched.movePresent_taken (last : y.lastStatus = some b) (free : y.check = none ∨
    (¬ (∃ e ∈ s.waiting, e.2 = .absence p ∨ ∃ c, e.2 = .returned p c) ∧ ¬ OnQueue y b ∧
      ¬ (y.state = .absent ∧ shownCause b = none ∧ allowsByte b = true ∧ headIs y .queued = true))) :
    movePresent p b t = presentStatus p b (endAbsence p b t) := by
  obtain ⟨z, more, counts, after, check, reaches⟩ := h.endAbsence_leaves last
  rw [movePresent]
  rcases free with unchecked | ⟨noLoss, offQueue, noReturn⟩
  · have idle : busy t (.printer p) = false := h.unchecked_free unchecked
    rw [idle, Bool.false_and, if_neg (by simp)]
    simp only
    split
    · exact whenFree_free (after.unchecked_free (check.trans unchecked)) _ _
    · rfl
  · rw [if_neg (by rw [Bool.and_eq_true, h.loss_iff]; exact fun both => noLoss both.2)]
    simp only
    rw [after.here, if_neg (fun on => (reaches (reachesQueue_iff.mp on)).elim offQueue noReturn)]

variable (checked : y.check ≠ none)
include checked

theorem PrinterTouched.isBusy : busy t (.printer p) = true := by
  rw [busy, h.here]
  exact Option.isSome_iff_ne_none.mpr checked

theorem PrinterTouched.movePresent_behind (loss : ∃ e ∈ s.waiting, e.2 = .absence p ∨ ∃ c, e.2 = .returned p c) :
    movePresent p b t = waitFor (.printer p) (.returned p b) t := by
  rw [movePresent, if_pos (by rw [h.isBusy checked, h.loss_iff.mpr loss]; rfl)]

theorem PrinterTouched.moveAbsent_waits (ten : y.absentRun = 10) (stands : y.state ≠ .absent) (printing : headIs y .printing = true) :
    moveAbsent p t = waitFor (.printer p) (.absence p) t := by
  simp only [moveAbsent, h.here]
  rw [if_pos ⟨ten, stands⟩, if_pos printing]
  exact whenFree_busy (h.isBusy checked) _ _

variable (noLoss : ¬ ∃ e ∈ s.waiting, e.2 = .absence p ∨ ∃ c, e.2 = .returned p c)
include noLoss

theorem PrinterTouched.movePresent_onQueue (reaches : OnQueue y b) : movePresent p b t = waitFor (.printer p) (.status p b) t := by
  have present : y.state ≠ .absent := by
    rintro absent
    rcases reaches with ⟨state, -⟩ | ⟨state, -⟩ | ⟨state, -⟩ <;> simp [absent] at state
  have onQueue : reachesQueue (printerAt t p) b = true := by rw [h.here]; exact reachesQueue_iff.mpr reaches
  rw [movePresent, if_neg (by rw [Bool.and_eq_true, h.loss_iff]; exact fun both => noLoss both.2)]
  simp only [endAbsence_present h b present]
  rw [if_pos onQueue]
  exact whenFree_busy (h.isBusy checked) _ _

theorem PrinterTouched.movePresent_onReturn (last : y.lastStatus = some b) (absent : y.state = .absent) (clean : shownCause b = none)
    (allows : allowsByte b = true) (head : headIs y .queued = true) :
    movePresent p b t = waitFor (.printer p) (.status p b) (Machine.updPrinter p (fun q => { q with state := .ready }) t) := by
  have whole : ¬ headIs y .incomplete = true := fun incomplete => by
    obtain ⟨x, rest, shape, queued⟩ := headIs_iff.mp head
    obtain ⟨x', rest', shape', other⟩ := headIs_iff.mp incomplete
    rw [shape] at shape'
    obtain ⟨rfl, -⟩ := List.cons.inj shape'
    rw [queued] at other
    cases other
  have back := h.updPrinter (fun q => { q with state := .ready })
  have onQueue : reachesQueue (printerAt (Machine.updPrinter p (fun q => { q with state := .ready }) t) p) b = true := by
    rw [back.here]
    exact reachesQueue_iff.mpr ((onQueue_ready last).mpr (.inl ⟨clean, allows, head⟩))
  rw [movePresent, if_neg (by rw [Bool.and_eq_true, h.loss_iff]; exact fun both => noLoss both.2)]
  simp only [endAbsence_ready h absent clean whole]
  rw [if_pos onQueue]
  exact whenFree_busy (back.isBusy checked) _ _

end

/-! ### Status bits (R108, R121) -/

theorem shownCause_eq (c : Byte) : shownCause c = if c.getLsbD 7 = false then none else if c.getLsbD 6 then some .fault
    else if c.getLsbD 4 then some .headOpen else if c.getLsbD 3 then some .paperOut else none := by
  simp only [shownCause, stPresence, stFault, stHeadOpen, stPaperOut, Bool.not_eq_true'] <;> rfl

theorem allowsByte_iff (c : Byte) :
    allowsByte c = true ↔ c.getLsbD 7 = true ∧ c.getLsbD 0 = true ∧ c.getLsbD 1 = false ∧ shownCause c = none := by
  simp [allowsByte, stPresence, stReady, stBusy, and_assoc]

/-! ### The exchange whole -/

/-- R107, R108: what an exchange leaves before its byte moves the printer. -/
theorem exchange_touched {s : State} {p : Fin 12} {sends : Bool} (b : Byte) (printers : s.print.printers.length = 12)
    (cells : s.station.kiosks.length = 12) (canonical : sparseWf (0 : Nat) s.stats)
    (data : sends = true ↔ (printerAt s p).polled = false ∧ sendsData s p = true) :
    PrinterTouched p (recorded b (clocked sends (printerAt s p))) (lowRaised b (printerAt s p).lastStatus) [] (exchanged p sends s)
      (recordStatus p b (clockOut p s)) := (clockOut_touched printers cells canonical data).recordStatus b

theorem lowRaised_absent {b : Byte} (absent : stPresence b = false) (before : Option Byte) : lowRaised b before = 0 := by
  simp [lowRaised, absent]

theorem exec_statusByte {s : State} {p : Fin 12} {b : Byte} (configured : s.config ≠ none) : exec (.statusByte p b) s =
    .next (refreshKiosk p (if stPresence b then movePresent p b (recordStatus p b (clockOut p s))
      else moveAbsent p (recordStatus p b (clockOut p s)))) := by
  show Host.Outcome.next (statusByteOp p b s) = _
  rw [statusByteOp, if_pos (running_iff.mpr configured)]
  rfl

/-- Settles O52. -/
theorem printerFollowsItsStatusBytes : Obligations.PrinterFollowsItsStatusBytes := by
  unfold Obligations.PrinterFollowsItsStatusBytes
  refine ⟨fun c => ⟨rfl, rfl, rfl, rfl, shownCause_eq c, allowsByte_iff c⟩, ?_⟩
  intro s p b sends printers cells baskets canonical q now data y showed low r waits headIn startsOnReturn behindLoss
  have data' : sends = true ↔ (printerAt s p).polled = false ∧ sendsData s p = true := by
    rw [sendsData_iff]
    exact data
  have touched := exchange_touched b printers cells canonical.stats data'
  have queued : startsOnReturn ↔ (y.state = .absent ∧ shownCause b = none ∧ allowsByte b = true ∧ headIs y .queued = true) := by
    rw [headIs_iff]
  refine ⟨fun unset => ?_, fun configured => ⟨_, exec_statusByte configured, fun present => ?_, fun absent => ?_⟩, fun d finishing due value set => ?_⟩
  · show Host.Outcome.next (statusByteOp p b s) = _
    rw [statusByteOp, if_neg (by simp [running, unset])]
  · rw [if_pos present]
    generalize recordStatus p b (clockOut p s) = t at touched
    refine ⟨fun free => ?_, fun checked loss => ?_, fun checked noLoss reaches => ?_, fun checked noLoss starts => ?_⟩
    · rw [touched.movePresent_taken rfl (free.imp_right fun all => ⟨all.1, all.2.1, fun starts => all.2.2 (queued.mpr starts)⟩)]
      exact touched.present baskets canonical.sales b
    · rw [touched.movePresent_behind checked loss]
      exact touched.waits _
    · rw [touched.movePresent_onQueue checked noLoss reaches]
      exact touched.waits _
    · obtain ⟨gone, clean, allows, head⟩ := queued.mp starts
      rw [touched.movePresent_onReturn checked noLoss rfl gone clean allows head]
      exact (touched.updPrinter fun q => { q with state := .ready }).waits _
  · rw [if_neg (by simp [absent])]
    rw [lowRaised_absent absent] at touched
    generalize recordStatus p b (clockOut p s) = t at touched
    refine ⟨touched.absent, fun checked ten stands printing => ?_⟩
    rw [touched.moveAbsent_waits checked ten stands (headIs_iff.mpr printing)]
    exact touched.waits _
  · have due' : cutIsDue s p = true := by
      rw [cutIsDue, show (printerAt s p).state = .finishing from finishing, dueNow_some (now := nowOf s) (x := (printerAt s p).cutDue) due value set]
      rfl
    have taken' : exec (.cutDeadline p) s = .next (whenFree (.printer p) (.cutDeadline p) (cutDue p) s) := next_congr (if_pos due')
    rw [taken']
    have start := PrinterTouched.refl p printers cells canonical.stats
    refine ⟨fun free => ⟨_, next_congr (whenFree_free (start.unchecked_free free) _ _), ?_⟩,
      fun checked => next_congr (whenFree_busy (start.isBusy checked) _ _)⟩
    have stalled := (start.stall .cutTimeout List.not_mem_nil).moved
    rwa [show (0 : FactorSet) ||| kfPrinterStalled = kfPrinterStalled from BitVec.zero_or] at stalled

end Sys2Proof.Machine
end

section
/-! The printer queues (R111 to R113), pulls (R114), LOAD_TEMPLATE, RESUME_PRINTER and REDIRECT (R116, R122, R123). -/

namespace Sys2Proof.Machine

/-! ### The order of a queue (R112) -/

/-- R112: the place of a QUEUED item's class. -/
theorem itemRank_queued {x : Item} (queued : x.state = .queued) : itemRank x = if x.urgent then 1 else 2 := by
  rw [itemRank, if_neg (not_not_intro queued)]

theorem itemRank_active {x : Item} (active : x.state ≠ .queued) : itemRank x = 0 := if_pos active

theorem standsBefore_of_rank {x y : Item} (apart : itemRank x ≠ itemRank y) : standsBefore x y = decide (itemRank x < itemRank y) := by
  simp [standsBefore, apart]

theorem standsBefore_of_class {x y : Item} (same : itemRank x = itemRank y) : standsBefore x y = arrivedBefore x.arrival y.arrival := by
  simp [standsBefore, same]

/-- An item goes past those it does not stand before. -/
theorem placeItem_append {x : Item} {front : List Item} (back : List Item) (behind : ∀ y ∈ front, standsBefore x y = false) :
    placeItem x (front ++ back) = front ++ placeItem x back := by
  induction front with
  | nil => rfl
  | cons y front ih =>
    rw [List.cons_append, placeItem, if_neg (by simp [behind y List.mem_cons_self]), ih fun z hz => behind z (List.mem_cons_of_mem _ hz)]
    rfl

theorem placeItem_first {x : Item} {back : List Item} (before : ∀ y ∈ back, standsBefore x y = true) : placeItem x back = x :: back := by
  cases back with
  | nil => rfl
  | cons y back => rw [placeItem, if_pos (before y List.mem_cons_self)]

theorem placeItem_between {x : Item} {front back : List Item} (behind : ∀ y ∈ front, standsBefore x y = false)
    (before : ∀ y ∈ back, standsBefore x y = true) : placeItem x (front ++ back) = front ++ x :: back := by
  rw [placeItem_append back behind, placeItem_first before]

theorem arrivedBefore_iff {a b : Nat} : arrivedBefore a b = true ↔ a ≠ b ∧ (b + 65536 - a) % 65536 < 32768 := by
  simp [arrivedBefore]

/-- R112: fewer than half the numbers apart, the later arrival stands behind. -/
theorem arrivedBefore_later {a k : Nat} (number : a < 65536) (near : k < 32768) :
    arrivedBefore ((a + k) % 65536) a = false ∧ (0 < k → arrivedBefore a ((a + k) % 65536) = true) := by
  refine ⟨Bool.eq_false_iff.mpr fun before => ?_, fun later => arrivedBefore_iff.mpr ?_⟩
  · have := arrivedBefore_iff.mp before
    omega
  · omega

/-- R112: where an arriving item takes its place, class by class. -/
theorem placeItem_classes {active urgents normals : List Item} {x : Item} (queued : x.state = .queued)
    (actives : ∀ y ∈ active, y.state ≠ .queued) (firsts : ∀ y ∈ urgents, y.state = .queued ∧ y.urgent = true)
    (lasts : ∀ y ∈ normals, y.state = .queued ∧ y.urgent = false) :
    (x.urgent = true → (∀ y ∈ urgents, arrivedBefore x.arrival y.arrival = false) →
      placeItem x (active ++ urgents ++ normals) = active ++ (urgents ++ [x]) ++ normals) ∧
    (x.urgent = false → (∀ y ∈ normals, arrivedBefore x.arrival y.arrival = false) →
      placeItem x (active ++ urgents ++ normals) = active ++ urgents ++ (normals ++ [x])) ∧
    (x.urgent = true → (∀ y ∈ urgents, arrivedBefore x.arrival y.arrival = true) →
      placeItem x (active ++ urgents ++ normals) = active ++ (x :: urgents) ++ normals) ∧
    (x.urgent = false → (∀ y ∈ normals, arrivedBefore x.arrival y.arrival = true) →
      placeItem x (active ++ urgents ++ normals) = active ++ urgents ++ (x :: normals)) := by
  have rankActive : ∀ y ∈ active, itemRank y = 0 := fun y hy => itemRank_active (actives y hy)
  have rankUrgent : ∀ y ∈ urgents, itemRank y = 1 := fun y hy => by rw [itemRank_queued (firsts y hy).1, (firsts y hy).2]; rfl
  have rankNormal : ∀ y ∈ normals, itemRank y = 2 := fun y hy => by rw [itemRank_queued (lasts y hy).1, (lasts y hy).2]; rfl
  have past : ∀ {y : Item}, itemRank y < itemRank x → standsBefore x y = false := fun low => by
    rw [standsBefore_of_rank (by omega)]
    exact decide_eq_false (by omega)
  have front : ∀ {y : Item}, itemRank x < itemRank y → standsBefore x y = true := fun low => by
    rw [standsBefore_of_rank (by omega)]
    exact decide_eq_true low
  refine ⟨fun urgent later => ?_, fun normal later => ?_, fun urgent earlier => ?_, fun normal earlier => ?_⟩
  · have rank : itemRank x = 1 := by rw [itemRank_queued queued, urgent]; rfl
    rw [placeItem_between (fun y hy => ?_) fun y hy => front (by rw [rank, rankNormal y hy]; decide)]
    · simp
    · rcases List.mem_append.mp hy with hy | hy
      · exact past (by rw [rank, rankActive y hy]; decide)
      · rw [standsBefore_of_class (rank.trans (rankUrgent y hy).symm)]
        exact later y hy
  · have rank : itemRank x = 2 := by rw [itemRank_queued queued, normal]; rfl
    rw [← List.append_nil (active ++ urgents ++ normals), placeItem_between (fun y hy => ?_) (fun y no => absurd no List.not_mem_nil)]
    · simp
    · rcases List.mem_append.mp hy with hy | hy
      · rcases List.mem_append.mp hy with hy | hy
        · exact past (by rw [rank, rankActive y hy]; decide)
        · exact past (by rw [rank, rankUrgent y hy]; decide)
      · rw [standsBefore_of_class (rank.trans (rankNormal y hy).symm)]
        exact later y hy
  · have rank : itemRank x = 1 := by rw [itemRank_queued queued, urgent]; rfl
    rw [List.append_assoc, placeItem_between (fun y hy => past (by rw [rank, rankActive y hy]; decide)) fun y hy => ?_]
    · simp
    · rcases List.mem_append.mp hy with hy | hy
      · rw [standsBefore_of_class (rank.trans (rankUrgent y hy).symm)]
        exact earlier y hy
      · exact front (by rw [rank, rankNormal y hy]; decide)
  · have rank : itemRank x = 2 := by rw [itemRank_queued queued, normal]; rfl
    rw [placeItem_between (fun y hy => ?_) fun y hy => ?_]
    · rcases List.mem_append.mp hy with hy | hy
      · exact past (by rw [rank, rankActive y hy]; decide)
      · exact past (by rw [rank, rankUrgent y hy]; decide)
    · rw [standsBefore_of_class (rank.trans (rankNormal y hy).symm)]
      exact earlier y hy

/-- A NORMAL item that arrived after all the others stands last. -/
theorem placeItem_last {x : Item} {l : List Item} (queued : x.state = .queued) (normal : x.urgent = false)
    (later : ∀ y ∈ l, arrivedBefore x.arrival y.arrival = false) : placeItem x l = l ++ [x] := by
  have rank : itemRank x = 2 := by rw [itemRank_queued queued, normal]; rfl
  have placed := placeItem_between (x := x) (front := l) (back := []) (fun y hy => ?_) fun y no => absurd no List.not_mem_nil
  · rwa [List.append_nil] at placed
  · by_cases same : itemRank x = itemRank y
    · rw [standsBefore_of_class same]
      exact later y hy
    · rw [standsBefore_of_rank same]
      have high : itemRank y ≤ 2 := by
        rw [itemRank]
        split <;> [skip; split] <;> omega
      exact decide_eq_false (by omega)

/-! ### Pulls (R114, R124) -/

theorem exec_pull {s : State} {p : Fin 12} {choice : Nat × PlanItem} (may : pullChoice s p = some choice) :
    exec (.pull p) s = .next (whenFree (.printer p) (.pull p) (pullNow p) s) := next_congr (if_pos (by rw [may]; rfl))

theorem pullSource_ne_none {p : Nat} {l : List Basket} {c : Basket} (listed : c ∈ l) (may : pullable p c = true) (i : Nat) :
    pullSource p i l ≠ none := by
  induction l generalizing i with
  | nil => cases listed
  | cons d l ih =>
    rw [pullSource]
    rcases List.mem_cons.mp listed with rfl | behind
    · split
      · rw [if_pos may]; simp
      · split <;> simp
    · split
      · next none' => exact absurd none' (ih behind (i + 1))
      · split <;> simp

/-- R114: a printer with room and a basket to pull from has a pull to make. -/
theorem pullChoice_isSome {s : State} {p n : Nat} (room : (printerAt s p).queue.length < 16) (inside : n < s.basketUnit.baskets.length)
    (may : MayPull s p n) : ∃ choice, pullChoice s p = some choice := by
  have found : pullSource p 0 s.basketUnit.baskets ≠ none := fun none' => by
    have listed : basketAt s n ∈ s.basketUnit.baskets := List.mem_of_getElem? (mem_baskets_iff.mpr ⟨inside, rfl⟩)
    exact pullSource_ne_none listed (pullable_iff.mpr may) 0 none'
  obtain ⟨best, source⟩ := Option.ne_none_iff_exists'.mp found
  obtain ⟨k, c, at', may', rfl⟩ := pullSource_from source
  obtain ⟨-, rfl⟩ := mem_baskets_iff.mp at'
  obtain ⟨-, -, left⟩ := pullable_iff.mp may'
  refine ⟨(k, (basketAt s k).plan[(basketAt s k).cursor]), ?_⟩
  rw [pullChoice, if_pos room, source]
  simp [List.getElem?_eq_getElem left]

/-! ### A request for a busy queue waits (R124) -/

theorem exec_loadTemplate {r : Request} {s : State} (handed : Handed .loadTemplate r s) :
    exec .loadTemplate s = .next (loadTemplateOp r (taken r s)) := by
  show Host.Outcome.next (withRequest .loadTemplate (fun r => loadTemplateOp r) s) = _
  rw [withRequest_handed handed]

theorem exec_resumePrinter {r : Request} {s : State} (handed : Handed .resumePrinter r s) :
    exec .resumePrinter s = .next (resumeOp r (taken r s)) := by
  show Host.Outcome.next (withRequest .resumePrinter (fun r => resumeOp r) s) = _
  rw [withRequest_handed handed]

theorem exec_redirect {r : Request} {s : State} (handed : Handed .redirect r s) :
    exec .redirect s = .next (redirectOp r (taken r s)) := by
  show Host.Outcome.next (withRequest .redirect (fun r => redirectOp r) s) = _
  rw [withRequest_handed handed]

theorem busy_printer_iff {s : State} {p : Nat} : busy s (.printer p) = true ↔ (printerAt s p).check ≠ none :=
  Option.isSome_iff_ne_none

theorem busy_printer_false {s : State} {p : Nat} (free : (printerAt s p).check = none) : busy s (.printer p) = false :=
  Bool.eq_false_iff.mpr fun yes => busy_printer_iff.mp yes free

theorem loadTemplateOp_waits {r : Request} {s : State} {p : Nat} (inside : p < 12) (open' : (printerAt s p).check ≠ none)
    (lower : ∀ j < p, (printerAt s j).check = none) : loadTemplateOp r s = waitFor (.printer p) (.request r) s := by
  have found : (List.range 12).find? (fun p => busy s (.printer p)) = some p :=
    List.find?_range_eq_some.mpr ⟨busy_printer_iff.mpr open', List.mem_range.mpr inside, fun j low => by
      rw [busy_printer_false (lower j low)]; rfl⟩
  simp only [loadTemplateOp, found]

theorem loadTemplateOp_free {r : Request} {s : State} (free : ∀ q ∈ s.print.printers, q.check = none) :
    loadTemplateOp r s = loadTemplateNow r s := by
  have none' : (List.range 12).find? (fun p => busy s (.printer p)) = none := List.find?_eq_none.mpr fun p _ => by
    have idle : (printerAt s p).check = none := by
      by_cases inside : p < s.print.printers.length
      · rw [printerAt, List.getD_eq_getElem _ _ inside]
        exact free _ (List.getElem_mem inside)
      · rw [printerAt, List.getD_eq_default _ _ (Nat.not_lt.mp inside)]
        rfl
    simp [busy_printer_false idle]
  simp only [loadTemplateOp, none']

/-! ### LOAD_TEMPLATE (R116) -/

/-- A list updated at each of its first `n` places. -/
theorem getElem?_foldl_updAt {α : Type} (f : α → α) (l : List α) (n i : Nat) :
    ((List.range n).foldl (fun t k => updAt t k f) l)[i]? = if i < n then (l[i]?).map f else l[i]? := by
  induction n with
  | zero => rfl
  | succ n ih =>
    rw [List.range_succ, List.foldl_append, List.foldl_cons, List.foldl_nil]
    by_cases last : i = n
    · subst last
      rw [getElem?_updAt_self, ih, if_neg (Nat.lt_irrefl _), if_pos (Nat.lt_succ_self _)]
    · rw [getElem?_updAt_other _ _ last, ih]
      have same : i < n + 1 ↔ i < n := by omega
      simp only [same]

/-- R113: the check counted at every queue. -/
theorem checkQueues_eq {s : State} (printers : s.print.printers.length = 12) : checkQueues s = { s with print := { s.print with
    printers := s.print.printers.map (fun q => { q with queueChanges := bump q.queueChanges }) } } := by
  have whole : ∀ (l : List Nat) (t : State), forEach l (fun p => updQueue p id) t = { t with print := { t.print with
      printers := l.foldl (fun v k => updAt v k (fun q => { q with queueChanges := bump q.queueChanges })) t.print.printers } } := by
    intro l
    induction l with
    | nil => exact fun t => rfl
    | cons n l ih => exact fun t => ih _
  rw [checkQueues, whole]
  have list : (List.range 12).foldl (fun v k => updAt v k (fun q => { q with queueChanges := bump q.queueChanges })) s.print.printers =
      s.print.printers.map (fun q : Printer => { q with queueChanges := bump q.queueChanges }) := by
    refine List.ext_getElem? fun i => ?_
    rw [getElem?_foldl_updAt, List.getElem?_map]
    split
    · rfl
    · next beyond => rw [List.getElem?_eq_none (by omega)]; rfl
  rw [list]

theorem templateUsed_iff {s : State} {n : Nat} : templateUsed s n = true ↔ ∃ q ∈ s.print.printers, ∃ x ∈ q.queue, x.template = n := by
  simp [templateUsed]

theorem templateUsed_eq_false {s : State} {n : Nat} (unused : ∀ q ∈ s.print.printers, ∀ x ∈ q.queue, x.template ≠ n) :
    templateUsed s n = false :=
  Bool.eq_false_iff.mpr fun used => by
    obtain ⟨q, hq, x, hx, named⟩ := templateUsed_iff.mp used
    exact unused q hq x hx named

/-- R116: the bytes copied and the template's length. -/
def templateLoaded (n off len : Nat) (s : State) : State := { s with
  mem := memWriteAll s.mem (Config.templateBase + Config.templateSize * n) (stagingBytes s off len)
  print := { printers := s.print.printers.map (fun q => { q with queueChanges := bump q.queueChanges })
             templates := updAt s.print.templates n (fun e => { length := len, changes := bump e.changes }) } }

theorem templateLoaded_spec {n off len : Nat} {s : State} (templates : s.print.templates.length = 32) (canonical : Memory.wf s.mem)
    (inside : n < 32) :
    let u := templateLoaded n off len s
    (∀ i < len, memRead u.mem (0xA000 + 1024 * n + i) = memRead s.mem (0x8000 + off + i)) ∧
    (∀ a, (a < 0xA000 + 1024 * n ∨ 0xA000 + 1024 * n + len ≤ a) → memRead u.mem a = memRead s.mem a) ∧
    templateAt u n = ⟨len, bump (templateAt s n).changes⟩ ∧ (∀ j, j ≠ n → templateAt u j = templateAt s j) := by
  refine ⟨fun i low => ?_, fun a out => ?_, updAt_getD_self _ _ _ _ (inside.trans_eq templates.symm),
    fun j apart => updAt_getD_other _ _ _ _ _ apart.symm⟩
  · refine (memRead_writeAll_inside _ s.mem _ i canonical (by rw [stagingBytes, memReadAll_length]; exact low)).trans ?_
    exact memReadAll_getD s.mem _ low
  · refine memRead_writeAll_outside _ s.mem _ a canonical ?_
    rwa [stagingBytes, memReadAll_length]

theorem loadTemplateNow_refused {r : Request} {s : State}
    (bad : 32 ≤ param1 r 0 ∨ 1024 < param2 r 3 ∨ 8192 < param2 r 1 + param2 r 3) :
    loadTemplateNow r s = completeSlot r.slot .badParameter [] s := if_pos (bad.imp_right (Or.imp_right inStaging_eq_false.mpr))

theorem loadTemplateNow_inRange {r : Request} {s : State} (printers : s.print.printers.length = 12) (inside : param1 r 0 < 32)
    (short : param2 r 3 ≤ 1024) (staged : param2 r 1 + param2 r 3 ≤ 8192) : loadTemplateNow r s =
      if templateUsed s (param1 r 0) then completeSlot r.slot .templateInUse [] { s with print := { s.print with
        printers := s.print.printers.map (fun q => { q with queueChanges := bump q.queueChanges }) } }
      else completeSlot r.slot .ok [] (templateLoaded (param1 r 0) (param2 r 1) (param2 r 3) s) := by
  rw [loadTemplateNow]
  simp only
  rw [if_neg (by rw [inStaging_eq_false]; omega), checkQueues_eq printers]
  rfl

/-! ### RESUME_PRINTER (R122) -/

theorem requeueHead_length (q : Printer) : (requeueHead q).queue.length = q.queue.length := by
  rw [requeueHead]
  simp only
  split
  · next empty => rw [empty]
  · next y rest shape =>
    rw [shape]
    split
    · rfl
    · exact (placeItem_perm _ _).length_eq

theorem cleanStatus_iff {o : Option Byte} : cleanStatus o = true ↔
    ∃ b, o = some b ∧ stPresence b = true ∧ stReady b = true ∧ shownCause b = none := by
  cases o <;> simp [cleanStatus, and_assoc]

/-- R122: the checks of RESUME_PRINTER, in order. -/
theorem resumeRefusal_some {s : State} {p : Nat} {code : ResultCode} (why : 12 ≤ p ∧ code = .badParameter ∨
    p < 12 ∧ (printerAt s p).state = .absent ∧ code = .printerAbsent ∨
    p < 12 ∧ (printerAt s p).state ≠ .absent ∧
      ((printerAt s p).state ≠ .stalled ∨ ¬ cleanStatus (printerAt s p).lastStatus = true) ∧ code = .wrongState) :
    resumeRefusal s p = some code := by
  rw [resumeRefusal]
  obtain ⟨beyond, rfl⟩ | ⟨inside, absent, rfl⟩ | ⟨inside, present, other, rfl⟩ := why
  · rw [if_pos beyond]
  · rw [if_neg (by omega), if_pos absent]
  · rw [if_neg (by omega), if_neg present]
    by_cases stalled : (printerAt s p).state = .stalled
    · have dirty := other.resolve_left (not_not_intro stalled)
      rw [if_neg (not_not_intro stalled), if_pos (Bool.eq_false_iff.mpr dirty)]
    · rw [if_pos stalled]

theorem resumeRefusal_none {s : State} {p : Nat} (inside : p < 12) (stalled : (printerAt s p).state = .stalled)
    (clean : cleanStatus (printerAt s p).lastStatus = true) : resumeRefusal s p = none := by
  rw [resumeRefusal, if_neg (by omega), if_neg (by simp [stalled]), if_neg (not_not_intro stalled), if_neg (by simp [clean])]

/-- R122: the printer freed. -/
def resumedPrinter (q : Printer) : Printer := { requeueHead q with state := .ready, stallCause := none }

theorem resumeNow_refused {r : Request} {s : State} {code : ResultCode} (why : resumeRefusal s (param1 r 0) = some code) :
    resumeNow r s = completeSlot r.slot code [] s := by
  simp only [resumeNow, why]
  rfl

theorem printerAt_refreshKiosk (k : Nat) (s : State) (p : Nat) : printerAt (refreshKiosk k s) p = printerAt s p := rfl

theorem resumeNow_resumes {r : Request} {s : State} (printers : s.print.printers.length = 12) (inside : param1 r 0 < 12)
    (passes : resumeRefusal s (param1 r 0) = none) : resumeNow r s =
      completeSlot r.slot .ok (leBytes 1 (printerAt s (param1 r 0)).queue.length)
        (refreshKiosk (param1 r 0) (updPrinter (param1 r 0) resumedPrinter s)) := by
  have self := printerAt_updPrinter_self s (param1 r 0) resumedPrinter (inside.trans_eq printers.symm)
  have length : (printerAt (refreshKiosk (param1 r 0) (updPrinter (param1 r 0) resumedPrinter s)) (param1 r 0)).queue.length =
      (printerAt s (param1 r 0)).queue.length := by
    rw [printerAt_refreshKiosk, self]
    exact requeueHead_length _
  simp only [resumeNow, passes]
  rw [← length]
  rfl

theorem resumed_spec {s : State} {p : Nat} (inside : p < s.print.printers.length) :
    let u := refreshKiosk p (updPrinter p resumedPrinter s)
    printerAt u p = resumedPrinter (printerAt s p) ∧ (∀ j, j ≠ p → printerAt u j = printerAt s j) ∧ stationLike u s ∧
    u = { s with print := { s.print with printers := u.print.printers }, station := u.station } :=
  ⟨printerAt_updPrinter_self s p resumedPrinter inside, fun j apart => printerAt_updPrinter_other s p j resumedPrinter apart.symm,
    ⟨fun k => kioskLike_trans (refreshKiosk_like _ _ _) (updKiosk_like p k id (fun _ => kioskLike_refl _) _), rfl⟩, rfl⟩

/-! ### REDIRECT (R123) -/

/-- R123: the checks of REDIRECT, in order. -/
theorem redirectRefusal_some {s : State} {src dst : Nat} {code : ResultCode}
    (why : (12 ≤ src ∨ 12 ≤ dst ∨ src = dst) ∧ code = .badParameter ∨
      src < 12 ∧ dst < 12 ∧ src ≠ dst ∧ ((printerAt s src).state ≠ .stalled ∧ (printerAt s src).state ≠ .absent ∨
        (printerAt s dst).state = .stalled ∨ (printerAt s dst).state = .absent) ∧ code = .wrongState ∨
      src < 12 ∧ dst < 12 ∧ src ≠ dst ∧ ((printerAt s src).state = .stalled ∨ (printerAt s src).state = .absent) ∧
        (printerAt s dst).state ≠ .stalled ∧ (printerAt s dst).state ≠ .absent ∧ (printerAt s dst).queue.length ≤ 16 ∧
        16 < (printerAt s dst).queue.length + (printerAt s src).queue.length ∧ code = .queueFull) :
    redirectRefusal s src dst = some code := by
  rw [redirectRefusal]
  obtain ⟨bad, rfl⟩ | ⟨one, two, apart, states, rfl⟩ | ⟨one, two, apart, stopped, running', present, size, full, rfl⟩ := why
  · rw [if_pos bad]
  · rw [if_neg (by omega)]
    by_cases first : (printerAt s src).state ≠ .stalled ∧ (printerAt s src).state ≠ .absent
    · rw [if_pos first]
    · rw [if_neg first, if_pos (states.resolve_left first)]
  · rw [if_neg (by omega), if_neg fun both => stopped.elim both.1 both.2, if_neg fun either => either.elim running' present,
      if_pos (by rw [freePlaces, Config.queueCapacity]; omega)]

theorem redirectRefusal_none {s : State} {src dst : Nat} (one : src < 12) (two : dst < 12) (apart : src ≠ dst)
    (stopped : (printerAt s src).state = .stalled ∨ (printerAt s src).state = .absent) (running' : (printerAt s dst).state ≠ .stalled)
    (present : (printerAt s dst).state ≠ .absent)
    (room : (printerAt s dst).queue.length + (printerAt s src).queue.length ≤ 16) : redirectRefusal s src dst = none := by
  rw [redirectRefusal, if_neg (by omega), if_neg fun both => stopped.elim both.1 both.2, if_neg fun either => either.elim running' present,
    if_neg (by rw [freePlaces, Config.queueCapacity]; omega)]

/-- R111, R123: items that join a queue as new arrivals, one after the other. -/
theorem foldl_joinQueue (items : List Item) (q : Printer) :
    let d := items.foldl joinQueue q
    d = { q with queue := d.queue, nextArrival := d.nextArrival } ∧ d.queue.length = q.queue.length + items.length ∧
    (∀ x ∈ q.queue, x ∈ d.queue) ∧
    ∀ (j : Nat) (x : Item), items[j]? = some x → q.nextArrival < 65536 → { x with arrival := (q.nextArrival + j) % 65536 } ∈ d.queue := by
  induction items generalizing q with
  | nil => exact ⟨rfl, rfl, fun _ h => h, fun j x no => by simp at no⟩
  | cons i items ih =>
    obtain ⟨frame, length, kept, joined⟩ := ih (joinQueue q i)
    have perm := placeItem_perm { i with arrival := q.nextArrival } q.queue
    simp only [List.foldl_cons]
    refine ⟨?_, ?_, fun x hx => kept x (perm.mem_iff.mpr (List.mem_cons_of_mem _ hx)), fun j x at' number => ?_⟩
    · rw [frame]
      rfl
    · rw [length, show (joinQueue q i).queue.length = _ from perm.length_eq, List.length_cons, List.length_cons]
      omega
    · cases j with
      | zero =>
        obtain rfl : i = x := by simpa using at'
        rw [Nat.add_zero, Nat.mod_eq_of_lt number]
        exact kept _ (perm.mem_iff.mpr List.mem_cons_self)
      | succ j =>
        have next := joined j x (by simpa using at') (Nat.mod_lt _ (by decide))
        have number' : (q.nextArrival + (j + 1)) % 65536 = ((joinQueue q i).nextArrival + j) % 65536 := by
          show _ = ((q.nextArrival + 1) % 65536 + j) % 65536
          omega
        rw [number']
        exact next

/-- Baskets updated in turn, each once. -/
theorem forEach_updBasket {l : List Nat} (once : l.Nodup) (f : Basket → Basket) {s : State}
    (each : ∀ b ∈ l, b < s.basketUnit.baskets.length) :
    let t := forEach l (fun b => updBasket b f) s
    (∀ n, basketAt t n = if n ∈ l then { f (basketAt s n) with changes := bump (basketAt s n).changes } else basketAt s n) ∧
    t = { s with basketUnit := { s.basketUnit with baskets := t.basketUnit.baskets } } := by
  induction l generalizing s with
  | nil => exact ⟨fun n => (if_neg List.not_mem_nil).symm, rfl⟩
  | cons b l ih =>
    have inside := each b List.mem_cons_self
    obtain ⟨new, once'⟩ := List.nodup_cons.mp once
    obtain ⟨baskets, frame⟩ := ih once' (s := updBasket b f s) fun c hc =>
      (each c (List.mem_cons_of_mem _ hc)).trans_eq (updAt_length ..).symm
    simp only [forEach_cons]
    refine ⟨fun n => ?_, frame.trans rfl⟩
    rw [baskets]
    by_cases same : n = b
    · subst same
      rw [if_neg new, if_pos List.mem_cons_self]
      exact basketAt_updBasket_self s n f inside
    · rw [basketAt_updBasket_other s b n f (Ne.symm same)]
      simp [same]

theorem mem_printingOn {s : State} {p n : Nat} : n ∈ printingOn s p ↔ n < 24 ∧ (basketAt s n).state = .printing ∧ (basketAt s n).printer = p := by
  simp [printingOn]

/-- R123: the queue moved and the baskets reassigned. -/
def redirected (src dst : Nat) (s : State) : State :=
  forEach (printingOn s src) (assignPrinter dst)
    (updQueue dst (fun q => ((printerAt s src).queue.map requeued).foldl joinQueue q) (updQueue src (fun q => { q with queue := [] }) s))

theorem redirectNow_refused {r : Request} {s : State} {code : ResultCode} (why : redirectRefusal s (param1 r 0) (param1 r 1) = some code) :
    redirectNow r s = completeSlot r.slot code [] s := by
  simp only [redirectNow, why]
  rfl

theorem redirectNow_redirects {r : Request} {s : State} (passes : redirectRefusal s (param1 r 0) (param1 r 1) = none) :
    redirectNow r s = completeSlot r.slot .ok (leBytes 1 (printerAt s (param1 r 0)).queue.length ++
      leBytes 1 (printingOn s (param1 r 0)).length) (redirected (param1 r 0) (param1 r 1) s) := by
  simp only [redirectNow, passes]
  rfl

theorem redirected_spec {s : State} {src dst : Nat} (baskets : s.basketUnit.baskets.length = 24) (one : src < s.print.printers.length)
    (two : dst < s.print.printers.length) (apart : src ≠ dst) :
    let u := redirected src dst s
    let q := printerAt s src
    let d := (q.queue.map requeued).foldl joinQueue (printerAt s dst)
    printerAt u src = { q with queue := [], queueChanges := bump q.queueChanges } ∧
    printerAt u dst = { d with queueChanges := bump (printerAt s dst).queueChanges } ∧
    (∀ j, j ≠ src → j ≠ dst → printerAt u j = printerAt s j) ∧
    (∀ k, basketAt u k = if k ∈ printingOn s src then { (basketAt s k) with printer := dst, changes := bump (basketAt s k).changes }
      else basketAt s k) ∧
    u = { s with print := { s.print with printers := u.print.printers }, basketUnit := { s.basketUnit with baskets := u.basketUnit.baskets } } := by
  have emptied := printerAt_updQueue_self s src (fun q => { q with queue := [] }) one
  have others := fun j (apart : j ≠ src) => printerAt_updQueue_other s src j (fun q => { q with queue := [] }) apart.symm
  have length : (updQueue src (fun q => { q with queue := [] }) s).print.printers.length = s.print.printers.length := updAt_length ..
  generalize w : updQueue src (fun q => { q with queue := [] }) s = v at emptied others length
  have moved := printerAt_updQueue_self v dst (fun q => ((printerAt s src).queue.map requeued).foldl joinQueue q) (by rw [length]; exact two)
  have others' := fun j (apart : j ≠ dst) => printerAt_updQueue_other v dst j
    (fun q => ((printerAt s src).queue.map requeued).foldl joinQueue q) apart.symm
  rw [redirected, w]
  generalize x : updQueue dst (fun q => ((printerAt s src).queue.map requeued).foldl joinQueue q) v = t at moved others'
  have unit : t.basketUnit = s.basketUnit := by rw [← x, ← w]; rfl
  obtain ⟨assigned, frame⟩ := forEach_updBasket (s := t) (l := printingOn s src) (List.nodup_range.filter _)
    (fun c => { c with printer := dst }) fun b hb => by rw [unit, baskets]; exact (mem_printingOn.mp hb).1
  change (∀ n, basketAt (forEach (printingOn s src) (assignPrinter dst) t) n = _) at assigned
  change forEach (printingOn s src) (assignPrinter dst) t = _ at frame
  generalize forEach (printingOn s src) (assignPrinter dst) t = u at assigned frame
  have same : ∀ j, printerAt u j = printerAt t j := fun j => by rw [frame]; rfl
  refine ⟨?_, ?_, fun j left right => ?_, fun k => ?_, ?_⟩
  · rw [same, others' src apart, emptied]
  · rw [same, moved, others dst apart.symm]
  · rw [same, others' j right, others j left]
  · rw [assigned, basketAt_of_baskets (s := s) (by rw [unit])]
  · rw [frame, ← x, ← w]
    rfl

end Sys2Proof.Machine
end

section
/-! The texts of a rendering (R117, R118, R25, R82), and the statement about queues and templates. -/

namespace Sys2Proof.Machine

/-! ### Numbers and dates as text (R82, R118) -/

theorem digitsOf_succ_front (n v : Nat) : digitsOf (n + 1) v = v / 10 ^ n % 10 :: digitsOf n v := by
  rw [digitsOf_eq_map, digitsOf_eq_map, List.range_succ_eq_map, List.map_cons, List.map_map]
  refine congrArg₂ _ (by simp) (List.map_congr_left fun i _ => ?_)
  simp only [Function.comp_apply, Nat.succ_eq_add_one]
  congr 3
  omega

/-- The digits of a number that fits one digit fewer begin with 0. -/
theorem digitsOf_small {n v : Nat} (small : v < 10 ^ n) : digitsOf (n + 1) v = 0 :: digitsOf n v := by
  rw [digitsOf_succ_front, Nat.div_eq_of_lt small]

/-- R82: the digits without leading zeros. -/
def leadingDigits (n : Nat) : List Nat := (digitsOf 10 n).dropWhile (fun d => d == 0)

theorem decimal_eq (n : Nat) : decimal n = if leadingDigits n = [] then [0x30] else (leadingDigits n).map digitChar := by
  rw [decimal, leadingDigits]
  split
  · next empty => rw [empty, if_pos rfl]
  · next some' => exact (if_neg some').symm

theorem leadingDigits_digit {d : Nat} (digit : d < 10) : leadingDigits d = if d = 0 then [] else [d] := by
  have zeros : digitsOf 10 d = [0, 0, 0, 0, 0, 0, 0, 0, 0, d] := by
    simp [digitsOf, Nat.div_eq_of_lt digit, Nat.mod_eq_of_lt digit]
  rw [leadingDigits, zeros]
  by_cases zero : d = 0
  · simp [zero]
  · simp [zero]

theorem leadingDigits_step {n d : Nat} (digit : d < 10) (positive : 0 < n) (small : 10 * n + d < 10 ^ 10) :
    leadingDigits n ≠ [] ∧ leadingDigits (10 * n + d) = leadingDigits n ++ [d] := by
  have front : digitsOf 10 n = 0 :: digitsOf 9 n := digitsOf_small (by omega)
  have back : digitsOf 10 (10 * n + d) = digitsOf 9 n ++ [d] := by
    rw [digitsOf, show (10 * n + d) / 10 = n by omega, show (10 * n + d) % 10 = d by omega]
  have some' : (digitsOf 9 n).dropWhile (fun d => d == 0) ≠ [] := fun none' => by
    have zeros : ∀ x ∈ digitsOf 9 n, x = 0 := by simpa [List.dropWhile_eq_nil_iff] using none'
    have value : digitsValue (digitsOf 9 n) = 0 := by
      have all := List.eq_replicate_of_mem zeros
      rw [digitsOf_length] at all
      rw [all]
      rfl
    rw [digitsValue_digitsOf, Nat.mod_eq_of_lt (by omega)] at value
    omega
  have same : leadingDigits n = (digitsOf 9 n).dropWhile (fun d => d == 0) := by
    rw [leadingDigits, front]
    rfl
  refine ⟨same ▸ some', ?_⟩
  rw [same, leadingDigits, back, List.dropWhile_append]
  simp [some']

theorem decimal_digit {d : Nat} (digit : d < 10) : decimal d = [digitChar d] := by
  rw [decimal_eq, leadingDigits_digit digit]
  by_cases zero : d = 0
  · subst zero; rfl
  · simp [zero]

theorem decimal_step {n d : Nat} (digit : d < 10) (positive : 0 < n) (small : 10 * n + d < 10 ^ 10) :
    decimal (10 * n + d) = decimal n ++ [digitChar d] := by
  obtain ⟨some', step⟩ := leadingDigits_step digit positive small
  rw [decimal_eq, decimal_eq, step, if_neg some', if_neg (by simp), List.map_append]
  rfl

/-- R118: the day of a month, counted from the days of the months before. -/
theorem monthDay_eq {l : List Nat} {k day len : Nat} (m : Nat) (month : l[k]? = some len) (low : 1 ≤ day) (high : day ≤ len) :
    monthDay m l ((l.take k).sum + day) = (day, m + k) := by
  induction l generalizing m k with
  | nil => cases month
  | cons a l ih =>
    cases k with
    | zero =>
      obtain rfl : a = len := by simpa using month
      rw [List.take_zero, List.sum_nil, Nat.zero_add, monthDay, if_pos high]
      rfl
    | succ k =>
      rw [List.take_succ_cons, List.sum_cons, monthDay, if_neg (by omega), show a + (l.take k).sum + day - a = (l.take k).sum + day by omega,
        ih (m + 1) (by simpa using month), Nat.add_right_comm, Nat.add_assoc]

theorem dateText_eq {i : Instant} {month day : Nat} (first : 1 ≤ month) (last : month ≤ 12) (low : 1 ≤ day)
    (high : day ≤ (monthLengths i.year).getD (month - 1) 0)
    (which : i.day = ((monthLengths i.year).take (month - 1)).sum + day) :
    dateText i = (digitsOf 2 day).map digitChar ++ [0x2E] ++ (digitsOf 2 month).map digitChar ++ [0x2E] ++
      (digitsOf 4 i.year).map digitChar := by
  have inside : month - 1 < (monthLengths i.year).length := by simp only [monthLengths, List.length_cons, List.length_nil]; omega
  have found := monthDay_eq 1 (List.getElem?_eq_getElem inside) low (by rwa [List.getD_eq_getElem _ _ inside] at high)
  rw [← which, Nat.add_sub_cancel' first] at found
  rw [dateText]
  simp only [found]
  rfl

/-! ### The bytes of a template expanded (R117) -/

theorem expand_plain {field : Nat → List Byte} {b : Byte} (plain : b ≠ 0x1F) (rest : List Byte) :
    expand field (b :: rest) = b :: expand field rest := by
  cases rest with
  | nil => simpa [expand] using plain
  | cons n rest => rw [expand, if_neg plain]

theorem expand_marker (field : Nat → List Byte) (n : Byte) (rest : List Byte) :
    expand field (0x1F :: n :: rest) = field n.toNat ++ expand field rest := by
  rw [expand, if_pos rfl]

/-! ### The fields (R118) -/

/-- A sale's SOLD cells are its seats, in order of seat index. -/
theorem soldCells_eq {s : State} (canonical : Canonical s) (w : ShowRec) (serial : Nat) :
    soldCells s w serial = ((List.range w.seatCount).filter (fun i =>
      (seatAt s (w.seatBase + i)).state == .sold && (seatAt s (w.seatBase + i)).owner == some serial)).map (w.seatBase + ·) := by
  obtain ⟨rising, -⟩ := sparse_keys canonical.seats (fun e => decide (w.seatBase ≤ e.1) && decide (e.1 < w.seatBase + w.seatCount)
    && e.2.state == .sold && e.2.owner == some serial)
  have members := (soldCells_spec canonical.seats w serial).1
  have rising' : (((List.range w.seatCount).filter (fun i => (seatAt s (w.seatBase + i)).state == .sold &&
      (seatAt s (w.seatBase + i)).owner == some serial)).map (w.seatBase + ·)).Pairwise (· < ·) :=
    (List.pairwise_lt_range.filter _).map _ fun _ _ less => Nat.add_lt_add_left less _
  refine List.Perm.eq_of_pairwise (fun a b _ _ x y => absurd x (Nat.lt_asymm y)) rising rising'
    ((List.perm_ext_iff_of_nodup (pairwise_lt_nodup rising) (pairwise_lt_nodup rising')).mpr fun c => ?_)
  rw [show (c ∈ List.map Prod.fst _ ↔ _) from members c]
  simp only [List.mem_map, List.mem_filter, List.mem_range, Bool.and_eq_true, beq_iff_eq]
  constructor
  · rintro ⟨low, high, state, owner⟩
    exact ⟨c - w.seatBase, ⟨by omega, by rwa [Nat.add_sub_cancel' low], by rwa [Nat.add_sub_cancel' low]⟩, Nat.add_sub_cancel' low⟩
  · rintro ⟨i, ⟨inside, state, owner⟩, rfl⟩
    exact ⟨Nat.le_add_right _ _, by omega, state, owner⟩

/-- R118: the rank of a seat among its sale's. -/
theorem seatRank_eq {s : State} (canonical : Canonical s) (w : ShowRec) (serial i : Nat) :
    seatRank s w serial i = ((List.range w.seatCount).filter (fun j => decide (j < i) &&
      (seatAt s (w.seatBase + j)).state == .sold && (seatAt s (w.seatBase + j)).owner == some serial)).length := by
  rw [seatRank, soldCells_eq canonical, List.filter_map, List.length_map, List.filter_filter]
  congr 2
  funext j
  simp [poolIndex, Function.comp_apply, Bool.and_assoc]

theorem itemSeat_eq {s : State} {w : ShowRec} {x : Item} {i : Nat}
    (which : (∃ b, x.source = .basket b ∧ (basketAt s b).seats[x.index]? = some i) ∨
       (x.source = .reprint ∧ ((List.range w.seatCount).filter (fun j => (seatAt s (w.seatBase + j)).state == .sold &&
          (seatAt s (w.seatBase + j)).owner == some x.serial))[x.index]? = some i)) (canonical : Canonical s) :
    itemSeat s w x = some i := by
  rcases which with ⟨b, source, listed⟩ | ⟨source, ranked⟩
  · simp only [itemSeat, source, listed]
  · simp only [itemSeat, source, soldCells_eq canonical, List.getElem?_map, ranked, Option.map_some, Nat.add_sub_cancel_left]

theorem itemVoucher_eq {s : State} {x : Item} {v : Nat}
    (which : (∃ b, x.source = .basket b ∧ (basketAt s b).vouchers[x.index]? = some v) ∨
       (x.source = .reprint ∧ (vouchersOf s x.serial)[x.index]? = some v)) : itemVoucher s x = some v := by
  rcases which with ⟨b, source, listed⟩ | ⟨source, ranked⟩
  · simp only [itemVoucher, source, listed]
  · simp only [itemVoucher, source, ranked]

/-- R25: the label of a seat. -/
theorem seatLabel_eq {lengths : List Nat} {i row len : Nat} (stands : lengths[row]? = some len) (low : (lengths.take row).sum ≤ i)
    (high : i < (lengths.take row).sum + len) :
    seatLabel lengths i = (if row < 26 then [BitVec.ofNat 8 (0x41 + row)] else [0x41, BitVec.ofNat 8 (0x41 + (row - 26))]) ++
      decimal (i - (lengths.take row).sum + 1) := by
  rw [seatLabel, seatPlace_eq_some_iff.mpr ⟨stands, low, high, rfl⟩]
  rfl

theorem fieldText_slip {s : State} {x : Item} {n v : Nat} (own : n ∈ [5, 6, 7, 11, 12, 13]) (kind : x.kind = .slip) (voucher : itemVoucher s x = some v) : fieldText s x n = slipField s v n := by
  simp only [List.mem_cons, List.not_mem_nil, or_false] at own
  simp only [fieldText, kind, voucher]
  rw [if_pos own]

section
variable {s : State} {x : Item} {m : Sale} (found : findSale s x.serial = some m)
include found

/-- The fields that every item has. -/
theorem fieldText_common {n : Nat} (common : n ∉ [5, 6, 7, 11, 12, 13]) : fieldText s x n = commonField x m (showAt s m.sh) n := by
  simp only [List.mem_cons, List.not_mem_nil, or_false] at common
  simp only [fieldText, found, Option.getD_some]
  rw [if_neg common]

variable {n : Nat} (own : n ∈ [5, 6, 7, 11, 12, 13])
include own

theorem fieldText_ticket {i : Nat} (kind : x.kind = .ticket) (seat : itemSeat s (showAt s m.sh) x = some i) :
    fieldText s x n = ticketField s x (showAt s m.sh) i n := by
  simp only [List.mem_cons, List.not_mem_nil, or_false] at own
  simp only [fieldText, found, Option.getD_some, kind, seat]
  rw [if_pos own]

theorem fieldText_receipt (kind : x.kind = .receipt) : fieldText s x n = if n = 7 then amountText m.discount else [] := by
  simp only [List.mem_cons, List.not_mem_nil, or_false] at own
  simp only [fieldText, found, Option.getD_some, kind]
  rw [if_pos own]

end

/-! ### The statement -/

/-- R114: the pull made, in the terms of the statement. -/
theorem pull_spec {s : State} {p : Fin 12} {b m : Nat} {x : PlanItem} (printers : s.print.printers.length = 12)
    (baskets : s.basketUnit.baskets.length = 24) (free : (printerAt s p).check = none) (room : (printerAt s p).queue.length < 16)
    (inside : b < 24) (may : MayPull s p b) (serial : (basketAt s b).serial = some m)
    (next : (basketAt s b).plan[(basketAt s b).cursor]? = some x)
    (least : ∀ n < 24, n ≠ b → MayPull s p n → ∃ k, (basketAt s n).serial = some k ∧ m < k)
    (later : ∀ y ∈ (printerAt s p).queue, arrivedBefore (printerAt s p).nextArrival y.arrival = false) :
    ∃ t, exec (.pull p) s = .next t ∧
      printerAt t p = { (printerAt s p) with
        queue := (printerAt s p).queue ++ [⟨x.kind, templateFor s x.kind ((basketAt s b).vouchers[x.index]?), m, x.index, false, 0,
          .queued, .basket b, (printerAt s p).nextArrival⟩]
        nextArrival := ((printerAt s p).nextArrival + 1) % 65536, queueChanges := bump (printerAt s p).queueChanges } ∧
      (∀ j, j ≠ p.val → printerAt t j = printerAt s j) ∧
      basketAt t b = { (basketAt s b) with cursor := (basketAt s b).cursor + 1, changes := bump (basketAt s b).changes } ∧
      (∀ n, n ≠ b → basketAt t n = basketAt s n) ∧
      t = { s with print := { s.print with printers := t.print.printers }, basketUnit := { s.basketUnit with baskets := t.basketUnit.baskets } } := by
  have choice := pullChoice_some baskets room inside may serial next least
  have planned : plannedItem s b (basketAt s b) x = ⟨x.kind, templateFor s x.kind ((basketAt s b).vouchers[x.index]?), m, x.index, false, 0,
      .queued, .basket b, 0⟩ := by
    rw [plannedItem, serial]
    rfl
  have queue := printerAt_updQueue_self s p (fun q => joinQueue q (plannedItem s b (basketAt s b) x)) (p.isLt.trans_eq printers.symm)
  have others := fun j (apart : j ≠ p.val) => printerAt_updQueue_other s p j (fun q => joinQueue q (plannedItem s b (basketAt s b) x)) apart.symm
  generalize whole : updQueue p (fun q => joinQueue q (plannedItem s b (basketAt s b) x)) s = v at queue others
  have unit : v.basketUnit = s.basketUnit := by rw [← whole]; rfl
  refine ⟨updBasket b (fun c => { c with cursor := c.cursor + 1 }) v, ?_, queue.trans ?_, others, ?_, fun n apart => ?_, ?_⟩
  · rw [exec_pull choice, whenFree_free (busy_printer_false free), pullNow_pulls choice, whole]
  · rw [joinQueue, planned, placeItem_last rfl rfl later]
  · rw [basketAt_updBasket_self v b _ (by rw [unit, baskets]; exact inside), basketAt_of_baskets (s := s) (by rw [unit])]
  · rw [basketAt_updBasket_other v b n _ apart.symm, basketAt_of_baskets (s := s) (by rw [unit])]
  · rw [← whole]
    rfl

/-- R118: the fields that every item has, one by one. -/
theorem commonField_each (x : Item) (m : Sale) (w : ShowRec) :
    commonField x m w 0 = [] ∧ (∀ n, 17 < n → commonField x m w n = []) ∧ commonField x m w 1 = w.title ∧
    commonField x m w 2 = decimal w.auditorium ∧ commonField x m w 3 = dateText w.start ∧ commonField x m w 4 = timeText w.start ∧
    commonField x m w 8 = amountText m.tax ∧ commonField x m w 9 = amountText m.gross ∧ commonField x m w 10 = decimal x.serial ∧
    commonField x m w 14 = m.code.getD [] ∧
    commonField x m w 15 = m.tail.elim [] (fun t => (digitsOf 4 t).map digitChar) ∧
    commonField x m w 16 = (if x.reprints = 0 then [] else duplicateText ++ decimal x.reprints) ∧
    commonField x m w 17 = decimal m.kiosk := by
  refine ⟨by simp [commonField], fun n high => ?_, ?_⟩
  · have apart : ∀ k ≤ 17, n ≠ k := fun k low => by omega
    simp [commonField, apart]
  · have tail : commonField x m w 15 = m.tail.elim [] (fun t => (digitsOf 4 t).map digitChar) := by
      cases present : m.tail <;> simp [commonField, present]
    refine ⟨?_, ?_, ?_, ?_, ?_, ?_, ?_, ?_, tail, ?_, ?_⟩ <;> simp [commonField]

/-- R118: the fields of an item whose sale is found. -/
theorem fieldText_each {s : State} {x : Item} {m : Sale} (found : findSale s x.serial = some m) :
    let w := showAt s m.sh
    let text := fieldText s x
    text 0 = [] ∧ (∀ n, 17 < n → text n = []) ∧ text 1 = w.title ∧ text 2 = decimal w.auditorium ∧ text 3 = dateText w.start ∧
    text 4 = timeText w.start ∧
    text 8 = amountText m.tax ∧ text 9 = amountText m.gross ∧ text 10 = decimal x.serial ∧ text 14 = m.code.getD [] ∧
    text 15 = m.tail.elim [] (fun t => (digitsOf 4 t).map digitChar) ∧
    text 16 = (if x.reprints = 0 then [] else duplicateText ++ decimal x.reprints) ∧ text 17 = decimal m.kiosk := by
  intro w text
  have common : ∀ n, n ∉ [5, 6, 7, 11, 12, 13] → text n = commonField x m w n := fun n => fieldText_common found
  have high : ∀ n, 17 < n → text n = commonField x m w n := fun n high => common n (by
    simp only [List.mem_cons, List.not_mem_nil, or_false]
    omega)
  obtain ⟨zero, beyond, rest⟩ := commonField_each x m w
  refine ⟨(common 0 (by decide)).trans zero, fun n above => (high n above).trans (beyond n above), ?_⟩
  rw [common 1 (by decide), common 2 (by decide), common 3 (by decide), common 4 (by decide), common 8 (by decide), common 9 (by decide),
    common 10 (by decide), common 14 (by decide), common 15 (by decide), common 16 (by decide), common 17 (by decide)]
  exact rest

/-- R118: the fields of a ticket. -/
theorem ticketField_each (s : State) (x : Item) (w : ShowRec) (i : Nat) :
    let tier := (seatAt s (w.seatBase + i)).tier
    let l := listAt s w.priceList
    ticketField s x w i 5 = seatLabel w.rowLengths i ∧ ticketField s x w i 6 = l.names.getD tier [] ∧
    ticketField s x w i 7 = amountText (seatPrice (l.prices.getD tier 0) l.factor + l.fee) ∧
    ticketField s x w i 11 = decimal x.serial ++ [0x2D] ++ twoDigits (seatRank s w x.serial i) ∧
    ticketField s x w i 12 = [] ∧ ticketField s x w i 13 = [] := by
  refine ⟨?_, ?_, ?_, ?_, ?_, ?_⟩ <;> simp [ticketField, poolIndex, tierPrice]

/-- R118: the fields of a slip. -/
theorem slipField_each (s : State) (v : Nat) :
    slipField s v 7 = amountText (kindAt s (voucherAt s v).kind).price ∧
    slipField s v 12 = (digitsOf 12 (voucherAt s v).code).map digitChar ∧ slipField s v 13 = (kindAt s (voucherAt s v).kind).name ∧
    slipField s v 5 = [] ∧ slipField s v 6 = [] ∧ slipField s v 11 = [] := by
  refine ⟨?_, ?_, ?_, ?_, ?_, ?_⟩ <;> simp [slipField]

/-- Settles O53, part by part. -/
theorem queuesAndTemplatesMoveAsAsked : Obligations.QueuesAndTemplatesMoveAsAsked := by
  unfold Obligations.QueuesAndTemplatesMoveAsAsked
  refine ⟨?pull, ?pullWaits, ?waits, ?load, ?resume, ?redirect, ?order, ?rendered, ?expanded, ?fields, ?texts⟩
  case pull =>
    intro s p b m x printers baskets q c mayPull free room inside may serial next least later
    obtain ⟨t, run, queue, others, basket, rest, frame⟩ := pull_spec printers baskets free room inside may serial next least later
    refine ⟨t, _, run, fun kind => ?_, fun kind => ?_, fun i kind listed => ?_, queue, others, basket, rest, frame⟩
    · rw [kind]; rfl
    · rw [kind]; rfl
    · rw [kind, show c.vouchers[x.index]? = some i from listed]; rfl
  case pullWaits =>
    intro s p b baskets open' room inside printing mine left
    obtain ⟨choice, may⟩ := pullChoice_isSome room (inside.trans_eq baskets.symm) ⟨printing, mine, left⟩
    rw [exec_pull may, whenFree_busy (busy_printer_iff.mpr open')]
    rfl
  case waits =>
    intro s r p waits
    refine ⟨fun handed inside open' lower => ?_, fun handed named open' => ?_, fun handed named open' => ?_, fun handed named free open' => ?_⟩
    · rw [exec_loadTemplate handed, loadTemplateOp_waits (s := taken r s) inside open' lower]
      rfl
    · subst named
      rw [exec_resumePrinter handed, resumeOp, whenFree_busy (busy_printer_iff (s := taken r s).mpr open')]
      rfl
    · subst named
      rw [exec_redirect handed, redirectOp, whenFree_busy (busy_printer_iff (s := taken r s).mpr open')]
      rfl
    · subst named
      rw [exec_redirect handed, redirectOp, whenFree_free (busy_printer_false (s := taken r s) free),
        whenFree_busy (busy_printer_iff (s := taken r s).mpr open')]
      rfl
  case load =>
    intro s r handed printers templates canonical free n off len refused
    have run : exec .loadTemplate s = .next (loadTemplateNow r (taken r s)) := by
      rw [exec_loadTemplate handed, loadTemplateOp_free (s := taken r s) free]
    refine ⟨fun bad => run.trans (next_congr (loadTemplateNow_refused bad)), ?_⟩
    intro inside short staged counted
    have step := loadTemplateNow_inRange (s := taken r s) printers inside short staged
    refine ⟨fun used => run.trans (next_congr (step.trans (if_pos (templateUsed_iff.mpr used)))), fun unused => ?_⟩
    have free' : ¬ templateUsed (taken r s) n = true := by rw [templateUsed_eq_false (s := taken r s) unused]; decide
    obtain ⟨copied, rest, entry, others⟩ := templateLoaded_spec (s := taken r s) (off := off) (len := len) templates canonical inside
    exact ⟨_, run.trans (next_congr (step.trans (if_neg free'))), copied, rest, entry, others, rfl⟩
  case resume =>
    intro s r handed printers p q refused clean free
    have run : exec .resumePrinter s = .next (resumeNow r (taken r s)) := by
      rw [exec_resumePrinter handed, resumeOp, whenFree_free (busy_printer_false (s := taken r s) free)]
    have refuses : ∀ code, resumeRefusal (taken r s) p = some code → refused code := fun code why =>
      run.trans (next_congr (resumeNow_refused why))
    refine ⟨fun beyond => refuses _ (resumeRefusal_some (.inl ⟨beyond, rfl⟩)),
      fun inside absent => refuses _ (resumeRefusal_some (.inr (.inl ⟨inside, absent, rfl⟩))),
      fun inside present other => refuses _ (resumeRefusal_some (.inr (.inr ⟨inside, present, other.imp_right ?_, rfl⟩))),
      fun inside stalled shows => ?_⟩
    · exact fun dirty yes => dirty (cleanStatus_iff.mp yes)
    · have step := resumeNow_resumes (s := taken r s) printers inside (resumeRefusal_none inside stalled (cleanStatus_iff.mpr shows))
      obtain ⟨self, others, like, frame⟩ := resumed_spec (s := taken r s) (inside.trans_eq printers.symm)
      refine ⟨_, run.trans (next_congr step), fun rests => ?_, fun x rest shape active => ?_, others, like, frame⟩
      · rw [self, resumedPrinter, show requeueHead (printerAt (taken r s) (param1 r 0)) = _ from requeueHead_kept rests]
        rfl
      · rw [self, resumedPrinter, show requeueHead (printerAt (taken r s) (param1 r 0)) = _ from requeueHead_active shape active]
        rfl
  case redirect =>
    intro s r handed printers baskets src dst q d refused mine free free'
    have run : exec .redirect s = .next (redirectNow r (taken r s)) := by
      rw [exec_redirect handed, redirectOp, whenFree_free (busy_printer_false (s := taken r s) free),
        whenFree_free (busy_printer_false (s := taken r s) free')]
    have refuses : ∀ code, redirectRefusal (taken r s) src dst = some code → refused code := fun code why =>
      run.trans (next_congr (redirectNow_refused why))
    refine ⟨fun bad => refuses _ (redirectRefusal_some (.inl ⟨bad, rfl⟩)), fun one two apart =>
      ⟨fun states => refuses _ (redirectRefusal_some (.inr (.inl ⟨one, two, apart, states, rfl⟩))), fun stopped running' present size =>
      ⟨fun full => refuses _ (redirectRefusal_some (.inr (.inr ⟨one, two, apart, stopped, running', present, size, full, rfl⟩))),
      fun room => ?_⟩⟩⟩
    have step := redirectNow_redirects (r := r) (s := taken r s) (redirectRefusal_none one two apart stopped running' present room)
    obtain ⟨emptied, moved, others, assigned, frame⟩ := redirected_spec (s := taken r s) baskets (one.trans_eq printers.symm)
      (two.trans_eq printers.symm) apart
    obtain ⟨whole, length, kept, joined⟩ := foldl_joinQueue (q.queue.map requeued) d
    change printerAt _ dst = { (q.queue.map requeued).foldl joinQueue d with queueChanges := bump d.queueChanges } at moved
    generalize (q.queue.map requeued).foldl joinQueue d = e at moved whole length kept joined
    have rest := run.trans (next_congr step)
    generalize redirected src dst (taken r s) = u at emptied moved others assigned frame rest
    refine ⟨u, _, rest, rfl, emptied, ⟨?_, ?_, ?_, ?_⟩, others, fun k inside => ⟨fun yes => ?_, fun no => ?_⟩, frame⟩
    · rw [moved, whole]
    · rw [moved]
      exact length.trans (by rw [List.length_map])
    · rw [moved]
      exact kept
    · intro j x at' number
      rw [moved]
      have item := joined j (requeued x) (by rw [List.getElem?_map, at']; rfl) number
      rw [requeued] at item
      exact item
    · exact (assigned k).trans (if_pos (mem_printingOn.mpr ⟨inside, yes⟩))
    · exact (assigned k).trans (if_neg fun listed => no (mem_printingOn.mp listed).2)
  case order =>
    intro active urgents normals x queued single actives firsts lasts later earlier
    obtain ⟨one, two, three, four⟩ := placeItem_classes queued actives firsts lasts
    exact ⟨one, two, three, four, fun a number k near => arrivedBefore_later number near⟩
  case rendered =>
    exact fun s x => ⟨rfl, fun fits => List.take_of_length_le fits⟩
  case expanded =>
    exact fun field => ⟨by rw [expand], by rw [expand]; rfl, fun b rest plain => expand_plain plain rest, expand_marker field⟩
  case fields =>
    intro s x m found w text
    obtain ⟨zero, beyond, one, two, three, four, eight, nine, ten, fourteen, fifteen, sixteen, seventeen⟩ := fieldText_each found
    refine ⟨zero, beyond, one, two, three, four, eight, nine, ten, fourteen, fun absent => fifteen.trans (by rw [absent]; rfl),
      fun d present => fifteen.trans (by rw [present]; rfl), fun none' => sixteen.trans (if_pos none'), fun some' => sixteen.trans (if_neg some'),
      seventeen, ?_, ?_, ?_⟩
    · intro i kind which canonical tier l
      have ticket : ∀ n, n ∈ [5, 6, 7, 11, 12, 13] → text n = ticketField s x w i n := fun n own =>
        fieldText_ticket found own kind (itemSeat_eq which canonical)
      obtain ⟨label, name, price, rank, code, kindName⟩ := ticketField_each s x w i
      refine ⟨fun row len stands low high => ((ticket 5 (by decide)).trans label).trans (seatLabel_eq stands low high),
        (ticket 6 (by decide)).trans name, (ticket 7 (by decide)).trans price, ((ticket 11 (by decide)).trans rank).trans ?_,
        (ticket 12 (by decide)).trans code, (ticket 13 (by decide)).trans kindName⟩
      rw [seatRank_eq canonical]
      rfl
    · intro v kind which
      have slip : ∀ n, n ∈ [5, 6, 7, 11, 12, 13] → text n = slipField s v n := fun n own =>
        fieldText_slip own kind (itemVoucher_eq which)
      obtain ⟨price, code, name, five, six, eleven⟩ := slipField_each s v
      exact ⟨(slip 7 (by decide)).trans price, (slip 12 (by decide)).trans code, (slip 13 (by decide)).trans name,
        (slip 5 (by decide)).trans five, (slip 6 (by decide)).trans six, (slip 11 (by decide)).trans eleven⟩
    · intro kind
      refine ⟨(fieldText_receipt found (by decide) kind).trans (if_pos rfl), fun n listed => ?_⟩
      refine (fieldText_receipt found ?_ kind).trans (if_neg ?_)
      · simp only [List.mem_cons, List.not_mem_nil, or_false] at listed ⊢
        omega
      · rintro rfl
        exact absurd listed (by decide)
  case texts =>
    refine ⟨fun n d digit => ⟨decimal_digit digit, decimal_step digit⟩, fun a => rfl, ?_⟩
    intro i month day february before first last low high which
    have lengths : monthLengths i.year = before := by simp only [monthLengths, isLeap, beq_iff_eq]; rfl
    exact dateText_eq first last low (by rw [lengths]; exact high) (by rw [lengths]; exact which)

end Sys2Proof.Machine
end

section
/-! REPRINT (R124, R149): the sale check opened on a queue, its answer, and the items that enter. -/

namespace Sys2Proof.Machine

/-! ### The request (R124) -/

theorem selectorOf_iff {kind rank : Nat} {sel : Selector} : selectorOf kind rank = some sel ↔
    (kind = 0 ∧ rank ≤ 9 ∧ sel = .ticket rank) ∨ (kind = 1 ∧ rank ≤ 5 ∧ sel = .slip rank) ∨ (kind = 2 ∧ sel = .receipt) ∨
    (kind = 3 ∧ sel = .all) := by
  match kind with
  | 0 => by_cases low : rank ≤ 9 <;> simp [selectorOf, low, eq_comm]
  | 1 => by_cases low : rank ≤ 5 <;> simp [selectorOf, low, eq_comm]
  | 2 => simp [selectorOf, eq_comm]
  | 3 => simp [selectorOf, eq_comm]
  | kind + 4 => simp [selectorOf]

theorem exec_reprint {r : Request} {s : State} (handed : Handed .reprint r s) : exec .reprint s = .next (reprintOp r (taken r s)) := by
  show Host.Outcome.next (withRequest .reprint (fun r => reprintOp r) s) = _
  rw [withRequest_handed handed]

theorem freePlaces_lt_one {q : Printer} : freePlaces q < 1 ↔ 16 ≤ q.queue.length := by
  rw [freePlaces, Config.queueCapacity]
  omega

section
variable {r : Request} {s : State}

theorem reprintNow_badParameter (bad : selectorOf (param1 r 3) (param1 r 4) = none ∨ 12 ≤ param1 r 5) :
    reprintNow r s = completeSlot r.slot .badParameter [] s := by
  cases named : selectorOf (param1 r 3) (param1 r 4) with
  | none => simp only [reprintNow, named]; rfl
  | some sel =>
    have beyond := bad.resolve_left (by simp [named])
    simp only [reprintNow, named]
    exact if_pos beyond

theorem reprintNow_named {sel : Selector} (named : selectorOf (param1 r 3) (param1 r 4) = some sel) (inside : param1 r 5 < 12) :
    reprintNow r s =
      if (printerAt s (param1 r 5)).state = .absent then completeSlot r.slot .printerAbsent [] s
      else if sel ≠ .all ∧ 16 ≤ (printerAt s (param1 r 5)).queue.length then completeSlot r.slot .queueFull [] s
      else setPrinter (param1 r 5) (fun q => { q with
        check := some { slot := r.slot, serial := param3 r 0, selector := sel, answer := none } }) s := by
  simp only [reprintNow, named, freePlaces_lt_one]
  exact if_neg (Nat.not_le.mpr inside)

end

/-! ### The sale check (R149) -/

section
variable {s : State} {p : Fin 12} {c : Reprint} (open' : (printerAt s p).check = some c)
include open'

/-- A sale check whose record is in refund waits for it (R153). -/
theorem saleCheckOp_waits (fresh : c.answer = none) (refunding : ∃ f ∈ s.salesUnit.refunds, f.serial = c.serial) :
    saleCheckOp p s = waitFor (.sale c.serial) (.saleCheck p) s := by
  have busy' : busy s (.sale c.serial) = true := busy_iff.mpr refunding
  simp only [saleCheckOp, open', fresh, Option.isSome_none, Bool.false_eq_true, if_false]
  exact whenFree_busy busy' _ _

theorem saleCheckOp_taken (fresh : c.answer = none) (quiet : ∀ f ∈ s.salesUnit.refunds, f.serial ≠ c.serial) :
    saleCheckOp p s = match findSale s c.serial with
      | none => refuseReprint p c.slot .unknownSale s
      | some x => match saleCheckRefusal x c.selector with
        | some code => refuseReprint p c.slot code s
        | none => setPrinter p (fun q => { q with check := some { c with
            answer := some { reprints := x.reprints, seats := x.seatCount, vouchers := x.voucherCount } } }) s := by
  have free : busy s (.sale c.serial) = false := Bool.eq_false_iff.mpr fun yes => by
    obtain ⟨f, hf, same⟩ := busy_iff.mp yes
    exact quiet f hf same
  simp only [saleCheckOp, open', fresh, Option.isSome_none, Bool.false_eq_true, if_false]
  rw [whenFree_free free]
  simp only [saleCheckNow, open', fresh, Option.isSome_none, Bool.false_eq_true, if_false] <;> rfl

/-- R124: the items enter where there is room for them all. -/
theorem reprintEnterNow_eq {a : SaleAnswer} (answered : c.answer = some a) : reprintEnterNow p s =
    if freePlaces (printerAt s p) < (selectedItems (cfgOf s).receipts a c.selector).length then refuseReprint p c.slot .queueFull s
    else completeSlot c.slot .ok (leBytes 1 (selectedItems (cfgOf s).receipts a c.selector).length)
      (updQueue p (fun q => ((selectedItems (cfgOf s).receipts a c.selector).map (reprintItem s c.serial a.reprints)).foldl joinQueue
        { q with check := none }) s) := by
  simp only [reprintEnterNow, open', answered]

end

/-- R149: the checks of a sale check on its record, in order. -/
theorem saleCheckRefusal_refunded {x : Sale} (refunded : x.refunded = true) (sel : Selector) :
    saleCheckRefusal x sel = some .wrongState := by
  rw [saleCheckRefusal.eq_def, if_pos refunded]

theorem saleCheckRefusal_rank {x : Sale} {sel : Selector} (live : x.refunded = false)
    (past : ∃ k, sel = .ticket k ∧ x.seatCount ≤ k ∨ sel = .slip k ∧ x.voucherCount ≤ k) :
    saleCheckRefusal x sel = some .badParameter := by
  rw [saleCheckRefusal.eq_def, if_neg (by simp [live])]
  obtain ⟨k, ⟨rfl, high⟩ | ⟨rfl, high⟩⟩ := past
  · exact if_pos high
  · exact if_pos high

theorem saleCheckRefusal_none {x : Sale} {sel : Selector} (live : x.refunded = false) (seats : ∀ k, sel = .ticket k → k < x.seatCount)
    (slips : ∀ k, sel = .slip k → k < x.voucherCount) : saleCheckRefusal x sel = none := by
  rw [saleCheckRefusal.eq_def, if_neg (by simp [live])]
  cases sel with
  | ticket k => exact if_neg (Nat.not_le.mpr (seats k rfl))
  | slip k => exact if_neg (Nat.not_le.mpr (slips k rfl))
  | receipt => rfl
  | all => rfl

/-! ### What a close leaves (R124) -/

theorem setPrinter_spec {s : State} {p : Nat} (f : Printer → Printer) (inside : p < s.print.printers.length) :
    let u := setPrinter p f s
    printerAt u p = f (printerAt s p) ∧ (∀ j, j ≠ p → printerAt u j = printerAt s j) ∧
    u = { s with print := { s.print with printers := u.print.printers } } :=
  ⟨printerAt_setPrinter_self s p f inside, fun j apart => printerAt_setPrinter_other s p j f apart.symm, rfl⟩

/-- A command on a queue that ends in a completion finds nothing that waited for the queue. -/
theorem drain_completed {s u : State} {r : Resource} (quiet : NoneWaits r s) (same : u.waiting = s.waiting) (slot : Nat)
    (code : ResultCode) (fields : List Byte) : drain r (completeSlot slot code fields u) = completeSlot slot code fields u :=
  drain_quiet (noneWaits_congr (by rw [completeSlot_frame, same]) quiet)

/-- Settles O54, step by step. -/
theorem reprintAsksTheSaleAndQueuesUrgentItems : Obligations.ReprintAsksTheSaleAndQueuesUrgentItems := by
  unfold Obligations.ReprintAsksTheSaleAndQueuesUrgentItems
  refine ⟨fun s canonical serial => vouchersOf_spec canonical.entries serial, fun kind rank sel => selectorOf_iff, ?_, ?_⟩
  · intro s r handed printers serial p q refused
    refine ⟨fun open' => ?_, fun free => ?_⟩
    · rw [exec_reprint handed, reprintOp, whenFree_busy (busy_printer_iff (s := taken r s).mpr open')]
      rfl
    · have run : exec .reprint s = .next (reprintNow r (taken r s)) := by
        rw [exec_reprint handed, reprintOp, whenFree_free (busy_printer_false (s := taken r s) free)]
      refine ⟨fun bad => run.trans (next_congr (reprintNow_badParameter bad)), fun sel named inside => ?_⟩
      have step := reprintNow_named (s := taken r s) named inside
      refine ⟨fun absent => run.trans (next_congr (step.trans (if_pos absent))), fun present some' full => ?_, fun present room => ?_⟩
      · exact run.trans (next_congr ((step.trans (if_neg present)).trans (if_pos ⟨some', full⟩)))
      · have opens : ¬ (sel ≠ .all ∧ 16 ≤ q.queue.length) := fun both => room.elim both.1 fun low => absurd both.2 (Nat.not_le.mpr low)
        exact ⟨_, run.trans (next_congr ((step.trans (if_neg present)).trans (if_neg opens))),
          setPrinter_spec (s := taken r s) _ (inside.trans_eq printers.symm)⟩
  · intro s p c printers open' quiet q closes
    have inside : p.val < s.print.printers.length := p.isLt.trans_eq printers.symm
    have refuses : ∀ code, drain (.printer p) (refuseReprint p c.slot code s) =
        completeSlot c.slot code [] (setPrinter p (fun q => { q with check := none }) s) := fun code =>
      drain_completed (u := setPrinter p (fun q => { q with check := none }) s) quiet rfl c.slot code []
    refine ⟨fun fresh refunding => ?_, fun fresh live => ⟨fun unknown => ?_, fun x found => ⟨fun refunded => ?_, fun sold past => ?_,
      fun sold seats slips => ?_⟩⟩, ?_⟩
    · refine next_congr ((congrArg _ (saleCheckOp_waits open' fresh refunding)).trans (drain_quiet fun e waits => ?_))
      rcases List.mem_append.mp waits with before | last
      · exact quiet e before
      · rw [List.mem_singleton.mp last]
        simp
    · have taken' := saleCheckOp_taken open' fresh live
      rw [unknown] at taken'
      exact ⟨_, next_congr ((congrArg _ taken').trans (refuses _)), setPrinter_spec _ inside⟩
    · have taken' := saleCheckOp_taken open' fresh live
      simp only [found, saleCheckRefusal_refunded refunded] at taken'
      exact ⟨_, next_congr ((congrArg _ taken').trans (refuses _)), setPrinter_spec _ inside⟩
    · have taken' := saleCheckOp_taken open' fresh live
      simp only [found, saleCheckRefusal_rank sold past] at taken'
      exact ⟨_, next_congr ((congrArg _ taken').trans (refuses _)), setPrinter_spec _ inside⟩
    · have taken' := saleCheckOp_taken open' fresh live
      simp only [found, saleCheckRefusal_none sold seats slips] at taken'
      exact ⟨_, next_congr ((congrArg _ taken').trans (drain_quiet quiet)), setPrinter_spec _ inside⟩
    · intro a answered size items
      have same : items = selectedItems (cfgOf s).receipts a c.selector := by
        cases sel : c.selector <;> simp only [items, sel] <;> rfl
      have enters := reprintEnterNow_eq open' answered
      rw [← same] at enters
      have few : freePlaces (printerAt s p) < items.length ↔ 16 < q.queue.length + items.length := by
        show 16 - q.queue.length < _ ↔ _
        omega
      refine ⟨fun full => ?_, fun room => ?_⟩
      · rw [if_pos (few.mpr full)] at enters
        exact ⟨_, next_congr ((congrArg _ enters).trans (refuses _)), setPrinter_spec _ inside⟩
      · rw [if_neg (mt few.mp (Nat.not_lt.mpr room))] at enters
        have self := printerAt_updQueue_self s p (fun q => (items.map (reprintItem s c.serial a.reprints)).foldl joinQueue
          { q with check := none }) inside
        have others := fun j (apart : j ≠ p.val) => printerAt_updQueue_other s p j (fun q =>
          (items.map (reprintItem s c.serial a.reprints)).foldl joinQueue { q with check := none }) apart.symm
        obtain ⟨whole, length, kept, joined⟩ := foldl_joinQueue (items.map (reprintItem s c.serial a.reprints)) { q with check := none }
        have closed := next_congr ((congrArg (drain (.printer p)) enters).trans (drain_completed (u := updQueue p (fun q =>
          (items.map (reprintItem s c.serial a.reprints)).foldl joinQueue { q with check := none }) s) quiet (updQueue_waiting ..) _ _ _))
        have frame : updQueue p (fun q => (items.map (reprintItem s c.serial a.reprints)).foldl joinQueue { q with check := none }) s =
          { s with print := { s.print with printers := (updQueue p (fun q => (items.map (reprintItem s c.serial a.reprints)).foldl joinQueue
            { q with check := none }) s).print.printers } } := rfl
        generalize updQueue p (fun q => (items.map (reprintItem s c.serial a.reprints)).foldl joinQueue { q with check := none }) s = u
          at self others closed frame
        change printerAt u p = { (items.map (reprintItem s c.serial a.reprints)).foldl joinQueue { q with check := none } with
          queueChanges := bump q.queueChanges } at self
        generalize (items.map (reprintItem s c.serial a.reprints)).foldl joinQueue { q with check := none } = e at self whole length kept joined
        refine ⟨u, closed, ⟨?_, ?_, ?_, fun j k n at' number => ?_⟩, others, frame⟩
        · rw [self, whole]
        · rw [self]
          exact length.trans (by rw [List.length_map])
        · rw [self]
          exact kept
        · rw [self]
          refine ⟨_, joined j _ (by rw [List.getElem?_map, at']; rfl) number, rfl, fun kind => ?_, fun kind => ?_, fun i kind listed => ?_⟩
          · subst kind; rfl
          · subst kind; rfl
          · subst kind
            simp only [reprintItem, listed]
            rfl

end Sys2Proof.Machine
end

section
/-! What waits, and what does not read it: the events that end a call, a sale check or a refund do the same whatever waits (R29,
R124, R153), and what waited is then taken in turn. -/

namespace Sys2Proof.Machine

/-- A state with another list of waiting events. -/
def withWaits (w : List (Resource × WaitEvent)) (s : State) : State := { s with waiting := w }

/-! ### Events that do not read what waits -/

section
variable (w : List (Resource × WaitEvent)) (s : State)

theorem setCompletions_withWaits : setCompletions (withWaits w s) = withWaits w (setCompletions s) := by
  cases enabled : s.board.noticeEnable <;> simp only [setCompletions, sendInterrupt, withWaits, enabled] <;> rfl

theorem serveNotice_withWaits : serveNotice (withWaits w s) = withWaits w (serveNotice s) := by
  by_cases set : s.board.completions = true
  · rw [serveNotice, serveNotice, if_pos set, if_pos (show (withWaits w s).board.completions = true from set)]
    rfl
  · rw [serveNotice, serveNotice, if_neg set, if_neg (show ¬ (withWaits w s).board.completions = true from set)]
    by_cases many : (cfgOf s).threshold ≤ satCount s.board.unnoticed
    · rw [if_pos many, if_pos (show (cfgOf (withWaits w s)).threshold ≤ satCount (withWaits w s).board.unnoticed from many)]
      exact setCompletions_withWaits w { s with board := { s.board with unnoticed := satCount s.board.unnoticed } }
    · rw [if_neg many, if_neg (show ¬ (cfgOf (withWaits w s)).threshold ≤ satCount (withWaits w s).board.unnoticed from many)]
      by_cases first : s.board.unnoticed = 0
      · rw [if_pos first, if_pos (show (withWaits w s).board.unnoticed = 0 from first)]
        by_cases now : (cfgOf s).delay = 0
        · rw [if_pos now, if_pos (show (cfgOf (withWaits w s)).delay = 0 from now)]
          exact setCompletions_withWaits w { s with board := { s.board with unnoticed := satCount s.board.unnoticed } }
        · rw [if_neg now, if_neg (show ¬ (cfgOf (withWaits w s)).delay = 0 from now)]
          rfl
      · rw [if_neg first, if_neg (show ¬ (withWaits w s).board.unnoticed = 0 from first)]
        rfl

theorem completeSlot_withWaits (slot : Nat) (code : ResultCode) (fields : List Byte) :
    completeSlot slot code fields (withWaits w s) = withWaits w (completeSlot slot code fields s) :=
  serveNotice_withWaits w { s with
    mem := memWriteAll s.mem (slotBase slot + 0x60) (padTo 24 fields ++ [resultByte code])
    board := { s.board with
      slots := s.board.slots.set slot .done
      posting := s.board.posting.filter (fun n => n != slot)
      doneMark := s.board.doneMark.set slot true
      inflight := s.board.inflight.map (fun e => if e = some slot then none else e) } }

variable {w s} in
theorem completeSlot_of_withWaits {t : State} {given fields : List Byte} (same : t = withWaits w s) (result : given = fields)
    (slot : Nat) (code : ResultCode) : completeSlot slot code given t = withWaits w (completeSlot slot code fields s) := by
  rw [same, result, completeSlot_withWaits]

theorem forEach_withWaits {f : Nat → State → State} (each : ∀ n s, f n (withWaits w s) = withWaits w (f n s)) (l : List Nat) :
    forEach l f (withWaits w s) = withWaits w (forEach l f s) := by
  induction l generalizing s with
  | nil => rfl
  | cons n l ih => rw [forEach_cons, forEach_cons, each, ih]

theorem cellEvent_withWaits (sh : Nat) (cells : List Nat) (st : SeatState) (owner : Option Nat) (counts : ShowRec → ShowRec) :
    cellEvent sh cells st owner counts (withWaits w s) = withWaits w (cellEvent sh cells st owner counts s) := by
  cases cells with
  | nil => rfl
  | cons c cells =>
    simp only [cellEvent, writeCells]
    rw [forEach_withWaits w s (f := fun c => writeCell c st owner) (fun _ _ => rfl)]
    rfl

theorem seatEvent_withWaits (sh : Nat) (list : List Nat) (st : SeatState) (owner : Option Nat) (counts : ShowRec → ShowRec) :
    seatEvent sh list st owner counts (withWaits w s) = withWaits w (seatEvent sh list st owner counts s) :=
  cellEvent_withWaits w s sh (list.map (poolIndex (showAt s sh))) st owner counts

theorem walkChain_withWaits (f : Nat → Bool) (n : Nat) (at' : Option Nat) :
    walkChain (withWaits w s) f n at' = walkChain s f n at' := by
  induction n generalizing at' with
  | zero => rfl
  | succ n ih =>
    cases at' with
    | none => rfl
    | some i =>
      simp only [walkChain, ih]
      rfl

theorem lookupCode_withWaits (code : Nat) : lookupCode (withWaits w s) code = lookupCode s code := by
  simp only [lookupCode]
  exact walkChain_withWaits w s _ _ _

theorem unlinkVoucher_withWaits (i : Nat) : unlinkVoucher i (withWaits w s) = withWaits w (unlinkVoucher i s) := by
  have walked := walkChain_withWaits w s (fun j => (voucherAt s j).link == some i) Config.voucherCount
    (headAt s (bucketOf (voucherAt s i).code))
  simp only [unlinkVoucher]
  rw [show walkChain (withWaits w s) (fun j => (voucherAt (withWaits w s) j).link == some i) Config.voucherCount
    (headAt (withWaits w s) (bucketOf (voucherAt (withWaits w s) i).code)) = _ from walked]
  by_cases front : headAt s (bucketOf (voucherAt s i).code) = some i
  · rw [if_pos front, if_pos (show headAt (withWaits w s) (bucketOf (voucherAt (withWaits w s) i).code) = some i from front)]
    rfl
  · rw [if_neg front, if_neg (show ¬ headAt (withWaits w s) (bucketOf (voucherAt (withWaits w s) i).code) = some i from front)]
    cases walkChain s (fun j => (voucherAt s j).link == some i) Config.voucherCount (headAt s (bucketOf (voucherAt s i).code)) <;> rfl

theorem removeVouchers_withWaits (list : List Nat) : removeVouchers list (withWaits w s) = withWaits w (removeVouchers list s) := by
  cases list with
  | nil => rfl
  | cons i list =>
    simp only [removeVouchers]
    rw [forEach_withWaits w s (fun i s => unlinkVoucher_withWaits w s i)]
    rfl

theorem takeDay_withWaits (day : Nat × Nat) : takeDay day (withWaits w s) = withWaits w (takeDay day s) := by
  by_cases same : s.voucherUnit.seqDay = some day
  · rw [takeDay, takeDay, if_pos same, if_pos (show (withWaits w s).voucherUnit.seqDay = some day from same)]
  · rw [takeDay, takeDay, if_neg same, if_neg (show ¬ (withWaits w s).voucherUnit.seqDay = some day from same)]
    rfl

theorem freeSequence_withWaits (day site n seq : Nat) :
    freeSequence (withWaits w s) day site n seq = freeSequence s day site n seq := by
  induction n generalizing seq with
  | zero => rfl
  | succ n ih => simp only [freeSequence, lookupCode_withWaits, ih]

theorem issueVoucher_withWaits (kind b sh : Nat) : issueVoucher kind b sh (withWaits w s) =
    (withWaits w (issueVoucher kind b sh s).1, (issueVoucher kind b sh s).2) := by
  simp only [issueVoucher]
  rw [show (withWaits w s).showUnit = s.showUnit from rfl, takeDay_withWaits]
  generalize takeDay (s.showUnit.clock.now.year, s.showUnit.clock.now.day) s = t
  have found : freeSequence (withWaits w t) s.showUnit.clock.now.day (cfgOf (withWaits w t)).site
      (100000 - (withWaits w t).voucherUnit.nextSeq) (withWaits w t).voucherUnit.nextSeq = _ :=
    freeSequence_withWaits w t s.showUnit.clock.now.day (cfgOf t).site (100000 - t.voucherUnit.nextSeq) t.voucherUnit.nextSeq
  by_cases named : (kindAt t kind).name = []
  · rw [if_pos named, if_pos (show (kindAt (withWaits w t) kind).name = [] from named)]
  rw [if_neg named, if_neg (show ¬ (kindAt (withWaits w t) kind).name = [] from named)]
  by_cases full : Config.voucherCount ≤ lowestFree 0 t.voucherUnit.entries
  · rw [if_pos full, if_pos (show Config.voucherCount ≤ lowestFree 0 (withWaits w t).voucherUnit.entries from full)]
  rw [if_neg full, if_neg (show ¬ Config.voucherCount ≤ lowestFree 0 (withWaits w t).voucherUnit.entries from full)]
  by_cases spent : t.voucherUnit.nextSeq = 100000
  · rw [if_pos spent, if_pos (show (withWaits w t).voucherUnit.nextSeq = 100000 from spent)]
  rw [if_neg spent, if_neg (show ¬ (withWaits w t).voucherUnit.nextSeq = 100000 from spent), found]
  cases freeSequence t s.showUnit.clock.now.day (cfgOf t).site (100000 - t.voucherUnit.nextSeq) t.voucherUnit.nextSeq <;> rfl

theorem holdEventOp_withWaits (b : Nat) : holdEventOp b (withWaits w s) = withWaits w (holdEventOp b s) := by
  cases call : (basketAt s b).call with
  | none => simp only [holdEventOp, call, show (basketAt (withWaits w s) b).call = none from call]
  | some c =>
    cases c with
    | hold slot list =>
      simp only [holdEventOp, call, show (basketAt (withWaits w s) b).call = some (.hold slot list) from call, holdEventNow]
      rw [show holdRefusal (withWaits w s) b list = holdRefusal s b list from rfl]
      cases holdRefusal s b list with
      | some refusal => exact completeSlot_of_withWaits (s := closeCall b id s) rfl rfl slot refusal.1
      | none =>
        simp only [holdCells]
        rw [show (basketAt (withWaits w s) b).sh = (basketAt s b).sh from rfl, seatEvent_withWaits]
        refine completeSlot_of_withWaits ?_ ?_ _ _ <;> rfl
    | release | issue | removal => simp only [holdEventOp, call, show (basketAt (withWaits w s) b).call = _ from call]

theorem releaseEventOp_withWaits (b : Nat) : releaseEventOp b (withWaits w s) = withWaits w (releaseEventOp b s) := by
  cases call : (basketAt s b).call with
  | none => simp only [releaseEventOp, call, show (basketAt (withWaits w s) b).call = none from call]
  | some c =>
    cases c with
    | release slot list =>
      simp only [releaseEventOp, call, show (basketAt (withWaits w s) b).call = some (.release slot list) from call, releaseEventNow,
        releaseCells]
      rw [show (basketAt (withWaits w s) b).sh = (basketAt s b).sh from rfl, seatEvent_withWaits]
      refine completeSlot_of_withWaits ?_ ?_ _ _ <;> rfl
    | hold | issue | removal => simp only [releaseEventOp, call, show (basketAt (withWaits w s) b).call = _ from call]

theorem voucherIssueOp_withWaits (b : Nat) : voucherIssueOp b (withWaits w s) = withWaits w (voucherIssueOp b s) := by
  cases call : (basketAt s b).call with
  | none => simp only [voucherIssueOp, call, show (basketAt (withWaits w s) b).call = none from call]
  | some c =>
    cases c with
    | issue slot kind =>
      simp only [voucherIssueOp, call, show (basketAt (withWaits w s) b).call = some (.issue slot kind) from call, issueEventNow]
      rw [show (basketAt (withWaits w s) b).sh = (basketAt s b).sh from rfl, issueVoucher_withWaits]
      obtain ⟨t, answer⟩ := issueVoucher kind b (basketAt s b).sh s
      cases answer with
      | refused code => exact completeSlot_of_withWaits (s := closeCall b id t) rfl rfl slot code
      | issued index code => exact completeSlot_of_withWaits (t := requote b (closeCall b (fun c => { c with
          vouchers := c.vouchers ++ [index], deadline := extendedDeadline t c }) (withWaits w t))) rfl rfl slot .ok
    | hold | release | removal => simp only [voucherIssueOp, call, show (basketAt (withWaits w s) b).call = _ from call]

theorem voucherRemovalOp_withWaits (b : Nat) : voucherRemovalOp b (withWaits w s) = withWaits w (voucherRemovalOp b s) := by
  cases call : (basketAt s b).call with
  | none => simp only [voucherRemovalOp, call, show (basketAt (withWaits w s) b).call = none from call]
  | some c =>
    cases c with
    | removal slot position =>
      simp only [voucherRemovalOp, call, show (basketAt (withWaits w s) b).call = some (.removal slot position) from call, removalEventNow]
      rw [show (basketAt (withWaits w s) b).vouchers = (basketAt s b).vouchers from rfl, removeVouchers_withWaits]
      refine completeSlot_of_withWaits ?_ ?_ _ _ <;> rfl
    | hold | release | issue => simp only [voucherRemovalOp, call, show (basketAt (withWaits w s) b).call = _ from call]

theorem refuseReprint_withWaits (p slot : Nat) (code : ResultCode) :
    refuseReprint p slot code (withWaits w s) = withWaits w (refuseReprint p slot code s) :=
  completeSlot_withWaits w (setPrinter p (fun q => { q with check := none }) s) slot code []

theorem saleCheckNow_withWaits (p : Nat) : saleCheckNow p (withWaits w s) = withWaits w (saleCheckNow p s) := by
  simp only [saleCheckNow]
  rw [show printerAt (withWaits w s) p = printerAt s p from rfl]
  cases (printerAt s p).check with
  | none => rfl
  | some c =>
    simp only []
    rw [show findSale (withWaits w s) c.serial = findSale s c.serial from rfl]
    split_ifs
    · rfl
    · cases findSale s c.serial with
      | none => exact refuseReprint_withWaits w s _ _ _
      | some x =>
        simp only []
        cases saleCheckRefusal x c.selector with
        | none => rfl
        | some code => exact refuseReprint_withWaits w s _ _ _

theorem reprintEnterNow_withWaits (p : Nat) : reprintEnterNow p (withWaits w s) = withWaits w (reprintEnterNow p s) := by
  simp only [reprintEnterNow]
  rw [show printerAt (withWaits w s) p = printerAt s p from rfl, show cfgOf (withWaits w s) = cfgOf s from rfl]
  cases (printerAt s p).check with
  | none => rfl
  | some c =>
    simp only []
    cases c.answer with
    | none => rfl
    | some a =>
      simp only []
      split_ifs
      · exact refuseReprint_withWaits w s _ _ _
      · refine completeSlot_of_withWaits ?_ ?_ _ _ <;> rfl

theorem updSale_withWaits (serial : Nat) (f : Sale → Sale) :
    updSale serial f (withWaits w s) = withWaits w (updSale serial f s) := by
  simp only [updSale]
  rw [show saleplace (withWaits w s) serial = saleplace s serial from rfl]
  cases saleplace s serial <;> rfl

theorem refundWrite_withWaits (serial : Nat) : refundWrite serial (withWaits w s) = withWaits w (refundWrite serial s) := by
  simp only [refundWrite]
  rw [show refundOf (withWaits w s) serial = refundOf s serial from rfl, show findSale (withWaits w s) serial = findSale s serial from rfl]
  cases refundOf s serial with
  | none => rfl
  | some f =>
    simp only []
    cases f.seatsFreed with
    | none => rfl
    | some freed =>
      cases f.vouchers with
      | none => rfl
      | some a =>
        simp only [updSale_withWaits]
        refine completeSlot_of_withWaits ?_ ?_ _ _ <;> rfl

end

end Sys2Proof.Machine
end

section
/-! The order in which what waited is taken (R29, R124, R153; log entry 4): the first first, each with its own effect. -/

namespace Sys2Proof.Machine

/-! ### What an event adds to those that wait -/

/-- An event joins those that wait only for a resource that is still busy after it. -/
def JoinsBusy (s t : State) : Prop :=
  t.waiting = s.waiting ∨ ∃ r e, Busy t r ∧ t.waiting = s.waiting ++ [(r, e)]

theorem joinsBusy_whenFree {r : Resource} {e : WaitEvent} {f : State → State} {s : State} (kept : JoinsBusy s (f s)) :
    JoinsBusy s (whenFree r e f s) := by
  cases taken : busy s r with
  | false =>
    rw [whenFree_free taken]
    exact kept
  | true =>
    rw [whenFree_busy taken]
    have still : busy (waitFor r e s) r = true := by rw [← taken]; cases r <;> rfl
    exact .inr ⟨r, e, busy_iff.mp still, rfl⟩

theorem joinsBusy_ite {c : Prop} [Decidable c] {s t : State} (made : JoinsBusy s t) : JoinsBusy s (if c then t else s) := by
  split_ifs
  · exact made
  · exact .inl rfl

theorem joinsBusy_takeRequest (r : Request) (s : State) : JoinsBusy s (takeRequest r s) := by
  cases kind : r.kind <;> simp only [takeRequest, kind]
  case holdSeats | releaseSeats | addVoucher | dropVoucher | quote | pay | settle | abandon | retire | reprint |
      resumePrinter | refund =>
    refine joinsBusy_whenFree (.inl ?_)
    simp
  case loadTemplate =>
    cases checked : (List.range 12).find? (fun p => busy s (.printer p)) with
    | none =>
      simp only [loadTemplateOp, checked]
      exact .inl (by simp)
    | some p =>
      simp only [loadTemplateOp, checked]
      exact .inr ⟨.printer p, _, busy_printer_iff.mp (List.find?_some (p := fun p => busy s (.printer p)) checked), rfl⟩
  case redirect => exact joinsBusy_whenFree (joinsBusy_whenFree (f := redirectNow r) (.inl (by simp)))
  all_goals exact .inl (by simp)

theorem joinsBusy_takeWaiting (e : WaitEvent) (s : State) : JoinsBusy s (takeWaiting e s) := by
  cases e with
  | request r => exact joinsBusy_takeRequest r s
  | holdDeadline b => exact joinsBusy_ite (joinsBusy_whenFree (.inl (by simp)))
  | leftSale b => exact joinsBusy_whenFree (.inl (by simp))
  | status p byte => exact joinsBusy_whenFree (.inl (by simp))
  | absence p =>
    show JoinsBusy s (absenceOp p s)
    rw [absenceOp]
    split_ifs
    · exact .inl rfl
    · exact joinsBusy_whenFree (.inl (by simp))
  | returned p byte => exact joinsBusy_whenFree (.inl (by simp))
  | cutDeadline p => exact joinsBusy_ite (joinsBusy_whenFree (.inl (by simp)))
  | pull p => exact joinsBusy_ite (joinsBusy_whenFree (.inl (by simp)))
  | printerReset k => exact joinsBusy_ite (joinsBusy_whenFree (.inl (by simp)))
  | saleCheck p =>
    show JoinsBusy s (saleCheckOp p s)
    cases check : (printerAt s p).check with
    | none =>
      simp only [saleCheckOp, check]
      exact .inl rfl
    | some c =>
      simp only [saleCheckOp, check]
      split_ifs
      · exact .inl rfl
      · exact joinsBusy_whenFree (.inl (by simp))
  | salesRemoval sh =>
    have now : JoinsBusy s (salesRemovalNow sh s) := by
      cases removal : removalAt s sh .sales with
      | none =>
        simp only [salesRemovalNow, removal]
        exact .inl rfl
      | some x =>
        simp only [salesRemovalNow, removal]
        split_ifs <;> exact .inl (by simp)
    show JoinsBusy s (salesRemovalOp sh s)
    cases removal : removalAt s sh .sales with
    | none =>
      simp only [salesRemovalOp, removal]
      exact now
    | some x =>
      cases refunding : refundOfShow s sh with
      | none =>
        simp only [salesRemovalOp, removal, refunding]
        exact now
      | some serial =>
        simp only [salesRemovalOp, removal, refunding]
        obtain ⟨f, found, rfl⟩ := Option.map_eq_some_iff.mp refunding
        exact .inr ⟨.sale f.serial, _, ⟨f, List.mem_of_find?_eq_some found, rfl⟩, rfl⟩

/-! ### Every event that waited has its own effect -/

theorem exec_commandOf {r : Request} {s : State} (handed : Handed r.kind r s) :
    exec (commandOf r.kind) s = .next (takeRequest r (taken r s)) := by
  cases kind : r.kind
  all_goals
    rw [kind] at handed
    simp only [takeRequest, kind, commandOf]
    exact next_congr (withRequest_handed handed _)

theorem ownEffect_request (r : Request) (s : State) : OwnEffect (.request r) s (takeRequest r s) := by
  have handed : Handed r.kind r { s with board := { s.board with handed := r :: s.board.handed } } :=
    ⟨by simp [nextHanded], rfl⟩
  have back : taken r { s with board := { s.board with handed := r :: s.board.handed } } = s := by
    simp [taken, List.erase_cons_head]
  exact (exec_commandOf handed).trans (by rw [back])

theorem ownEffect_leftSale (b : Nat) (s : State) : OwnEffect (.leftSale b) s (takeWaiting (.leftSale b) s) := by
  have free : (basketAt s b).call = none → takeWaiting (.leftSale b) s = leftSaleNow b s := fun none' =>
    whenFree_noCall none' _ _
  refine ⟨fun open' => whenFree_call open' _ _, fun none' other => ?_, fun none' selling inside show' canonical baskets shows => ?_⟩
  · rw [free none', leftSaleNow, if_neg other]
  · rw [free none', leftSaleNow, if_pos selling]
    exact ⟨_, rfl, ended_endBasket .expired canonical (baskets ▸ inside) (shows ▸ show')⟩

section
variable {p : Nat} {s : State}

theorem ownEffect_status (byte : Byte) : OwnEffect (.status p byte) s (takeWaiting (.status p byte) s) := by
  refine ⟨fun open' => whenFree_busy (busy_printer_iff.mpr open') _ (fun t => refreshKiosk p (presentStatus p byte t)), fun none' inside printers cells baskets canonical => ?_⟩
  have start := PrinterTouched.refl ⟨p, inside⟩ printers cells canonical.stats
  rw [show takeWaiting (.status p byte) s = refreshKiosk p (presentStatus p byte s) from
    whenFree_free (busy_printer_false none') _ (fun t => refreshKiosk p (presentStatus p byte t))]
  refine ⟨fun absent => ?_, fun stands => ?_⟩
  · have idle : presentStatus p byte s = s := by simp only [presentStatus, absent]
    rw [idle]
    exact start.moved
  · have moved := start.present baskets canonical.sales byte
    rwa [endAbsence_present start byte stands] at moved

theorem ownEffect_returned (byte : Byte) : OwnEffect (.returned p byte) s (takeWaiting (.returned p byte) s) := by
  refine ⟨fun open' => whenFree_busy (busy_printer_iff.mpr open') _ (fun t => refreshKiosk p (presentStatus p byte (endAbsence p byte t))), fun none' inside printers cells baskets canonical => ?_⟩
  rw [show takeWaiting (.returned p byte) s = refreshKiosk p (presentStatus p byte (endAbsence p byte s)) from
    whenFree_free (busy_printer_false none') _ (fun t => refreshKiosk p (presentStatus p byte (endAbsence p byte t)))]
  exact (PrinterTouched.refl ⟨p, inside⟩ printers cells canonical.stats).present baskets canonical.sales byte

theorem ownEffect_absence : OwnEffect (.absence p) s (takeWaiting (.absence p) s) := by
  refine ⟨fun absent => if_pos absent, fun stands open' => (if_neg stands).trans (whenFree_busy (busy_printer_iff.mpr open') _ (fun t => refreshKiosk p (losePrinter p t))),
    fun stands none' inside printers cells canonical => ?_⟩
  rw [show takeWaiting (.absence p) s = refreshKiosk p (losePrinter p s) from
    (if_neg stands).trans (whenFree_free (busy_printer_false none') _ (fun t => refreshKiosk p (losePrinter p t)))]
  have lost := (PrinterTouched.refl ⟨p, inside⟩ printers cells canonical.stats).lose.moved
  rwa [show (0 : FactorSet) ||| kfPrinterAbsent = kfPrinterAbsent from BitVec.zero_or] at lost

end

/-- An event does the same whatever waits, lets none wait for the resource, and adds behind those that wait what it adds alone. -/
def Alike (r : Resource) (f : State → State) (s : State) : Prop :=
  NoneWaits r (f (withWaits [] s)) ∧ f s = withWaits (s.waiting ++ (f (withWaits [] s)).waiting) (f (withWaits [] s))

theorem alike_of_withWaits {r : Resource} {f : State → State} {s : State} (commutes : f (withWaits [] s) = withWaits [] (f s))
    (kept : (f s).waiting = s.waiting) : Alike r f s := by
  rw [Alike, commutes]
  refine ⟨fun e no => absurd no List.not_mem_nil, ?_⟩
  rw [show (withWaits [] (f s)).waiting = [] from rfl, List.append_nil, ← kept]
  rfl

theorem saleCheckOp_alike (p : Nat) (s : State) : Alike (.printer p) (saleCheckOp p) s := by
  cases check : (printerAt s p).check with
  | none =>
    have idle : ∀ w, saleCheckOp p (withWaits w s) = withWaits w s := fun w => by
      simp only [saleCheckOp, show (printerAt (withWaits w s) p).check = none from check]
    exact alike_of_withWaits ((idle []).trans (congrArg _ (idle s.waiting).symm)) (congrArg State.waiting (idle s.waiting) :)
  | some c =>
    by_cases answered : c.answer.isSome = true
    · have idle : ∀ w, saleCheckOp p (withWaits w s) = withWaits w s := fun w => by
        simp only [saleCheckOp, show (printerAt (withWaits w s) p).check = some c from check, if_pos answered]
      exact alike_of_withWaits ((idle []).trans (congrArg _ (idle s.waiting).symm)) (congrArg State.waiting (idle s.waiting) :)
    have made : ∀ w, saleCheckOp p (withWaits w s) = whenFree (.sale c.serial) (.saleCheck p) (saleCheckNow p) (withWaits w s) := fun w => by
      simp only [saleCheckOp, show (printerAt (withWaits w s) p).check = some c from check, if_neg answered]
    cases refunding : busy s (.sale c.serial) with
    | false =>
      have now : ∀ w, saleCheckOp p (withWaits w s) = saleCheckNow p (withWaits w s) := fun w =>
        (made w).trans (whenFree_free (s := withWaits w s) (r := .sale c.serial) refunding _ _)
      refine alike_of_withWaits ?_ ?_
      · rw [now, saleCheckNow_withWaits, show saleCheckOp p s = saleCheckNow p s from now s.waiting]
      · rw [show saleCheckOp p s = saleCheckNow p s from now s.waiting]
        simp
    | true =>
      have waits : ∀ w, saleCheckOp p (withWaits w s) = waitFor (.sale c.serial) (.saleCheck p) (withWaits w s) := fun w =>
        (made w).trans (whenFree_busy (s := withWaits w s) (r := .sale c.serial) refunding _ _)
      rw [Alike, waits []]
      refine ⟨fun e waiting => ?_, waits s.waiting⟩
      rw [List.mem_singleton.mp (show e ∈ [(Resource.sale c.serial, WaitEvent.saleCheck p)] from waiting)]
      nofun

theorem ownEffect_saleCheck (p : Nat) (s : State) : OwnEffect (.saleCheck p) s (takeWaiting (.saleCheck p) s) := by
  intro inside
  obtain ⟨quiet, alike⟩ := saleCheckOp_alike p s
  exact ⟨_, next_congr (drain_quiet quiet), alike⟩

theorem ownEffect_takeWaiting (e : WaitEvent) (s : State) : OwnEffect e s (takeWaiting e s) := by
  cases e with
  | request r => exact ownEffect_request r s
  | holdDeadline b => exact fun _ => rfl
  | leftSale b => exact ownEffect_leftSale b s
  | status p byte => exact ownEffect_status byte
  | absence p => exact ownEffect_absence
  | returned p byte => exact ownEffect_returned byte
  | cutDeadline p => exact fun _ => rfl
  | pull p => exact fun _ => rfl
  | printerReset k => exact fun _ => rfl
  | saleCheck p => exact ownEffect_saleCheck p s
  | salesRemoval sh => exact fun _ => rfl

/-! ### Turns -/

theorem nextWaiting_eq_none {r : Resource} {l : List (Resource × WaitEvent)} (none' : nextWaiting r l = none) : ∀ e ∈ l, e.1 ≠ r := by
  induction l with
  | nil => simp
  | cons x l ih =>
    obtain ⟨q, x⟩ := x
    by_cases same : q = r
    · simp [nextWaiting, same] at none'
    · cases rest : nextWaiting r l with
      | some found => simp [nextWaiting, same, rest] at none'
      | none =>
        intro e listed
        rcases List.mem_cons.mp listed with rfl | later
        · exact same
        · exact ih rest e later

/-- How many events wait for a resource. -/
def waitCount (r : Resource) (s : State) : Nat := s.waiting.countP (fun e => e.1 = r)

theorem noneWaits_of_waitCount {r : Resource} {s : State} (none' : waitCount r s = 0) : NoneWaits r s := fun e waits same =>
  List.countP_eq_zero.mp none' e waits (by simp [same])

theorem drainFor_turns {r : Resource} {n : Nat} {s : State} (enough : waitCount r s ≤ n) :
    ∃ list, Turns r list s (drainFor r n s) ∧ (Busy (drainFor r n s) r ∨ NoneWaits r (drainFor r n s)) := by
  induction n generalizing s with
  | zero => exact ⟨[], .stop s, .inr (noneWaits_of_waitCount (Nat.le_zero.mp enough))⟩
  | succ n ih =>
    by_cases taken : busy s r = true
    · rw [drainFor, if_pos taken]
      exact ⟨[], .stop s, .inl (busy_iff.mp taken)⟩
    cases first : nextWaiting r s.waiting with
    | none =>
      simp only [drainFor, if_neg taken, first]
      exact ⟨[], .stop s, .inr (nextWaiting_eq_none first)⟩
    | some found =>
      obtain ⟨e, others⟩ := found
      obtain ⟨before, after, waiting, earlier, rfl⟩ := nextWaiting_first first
      simp only [drainFor, if_neg taken, first]
      have effect := ownEffect_takeWaiting e { s with waiting := before ++ after }
      have joins := joinsBusy_takeWaiting e { s with waiting := before ++ after }
      generalize takeWaiting e { s with waiting := before ++ after } = t at effect joins ⊢
      have goes : ∀ list u, Turns r list t u → Turns r (e :: list) s u := fun list u more =>
        .turn e list before after s t u (fun held => taken (busy_iff.mpr held)) waiting earlier effect more
      have fewer : waitCount r { s with waiting := before ++ after } ≤ n := by
        have all : waitCount r s = waitCount r { s with waiting := before ++ after } + 1 := by
          simp only [waitCount, waiting, List.countP_append, List.countP_cons_of_pos, decide_true]
          omega
        omega
      by_cases again : busy t r = true
      · have stays : drainFor r n t = t := by
          cases n with
          | zero => rfl
          | succ n => exact if_pos again
        rw [stays]
        exact ⟨[e], goes [] t (.stop t), .inl (busy_iff.mp again)⟩
      · have kept : waitCount r t ≤ n := by
          refine le_trans (le_of_eq ?_) fewer
          rcases joins with same | ⟨q, x, busy', waits⟩
          · rw [waitCount, same, waitCount]
          · have apart : q ≠ r := fun same => again (busy_iff.mpr (same ▸ busy'))
            rw [waitCount, waits, List.countP_append, waitCount]
            simp [apart]
        obtain ⟨list, turns, ends⟩ := ih kept
        exact ⟨e :: list, goes list _ turns, ends⟩

theorem drain_turns (r : Resource) (s : State) :
    ∃ list, Turns r list s (drain r s) ∧ (Busy (drain r s) r ∨ NoneWaits r (drain r s)) :=
  drainFor_turns List.countP_le_length

/-- A command that closes what its resource was busy with does what it does where nothing waits, and then what waited is taken. -/
theorem turns_of_alike {c : Instr} {r : Resource} {f : State → State} {s u : State} (run : ∀ t, exec c t = .next (drain r (f t)))
    (alike : Alike r f s) (alone : exec c { s with waiting := [] } = .next u) :
    ∃ list t, exec c s = .next t ∧ Turns r list { u with waiting := s.waiting ++ u.waiting } t ∧ (Busy t r ∨ NoneWaits r t) := by
  obtain ⟨quiet, joined⟩ := alike
  have same : drain r (f (withWaits [] s)) = u := Host.Outcome.next.inj ((run _).symm.trans alone)
  rw [drain_quiet quiet] at same
  subst same
  obtain ⟨list, turns, ends⟩ := drain_turns r (f s)
  refine ⟨list, _, run s, ?_, ends⟩
  exact (show { f (withWaits [] s) with waiting := s.waiting ++ (f (withWaits [] s)).waiting } = f s from joined.symm) ▸ turns

/-- Settles O10: each of these commands does not read what waits, and what waited is then taken in turn. -/
theorem waitingEventsAreTakenOldestFirst : Obligations.WaitingEventsAreTakenOldestFirst := by
  unfold Obligations.WaitingEventsAreTakenOldestFirst
  intro s u joined
  refine ⟨fun c r alone which => ?_, fun serial alone => ?_⟩
  · rcases which with ⟨b, rfl, rfl | rfl | rfl | rfl⟩ | ⟨p, rfl, rfl | rfl⟩
    · exact turns_of_alike (fun _ => rfl) (alike_of_withWaits (holdEventOp_withWaits [] s b) (by simp)) alone
    · exact turns_of_alike (fun _ => rfl) (alike_of_withWaits (releaseEventOp_withWaits [] s b) (by simp)) alone
    · exact turns_of_alike (fun _ => rfl) (alike_of_withWaits (voucherIssueOp_withWaits [] s b) (by simp)) alone
    · exact turns_of_alike (fun _ => rfl) (alike_of_withWaits (voucherRemovalOp_withWaits [] s b) (by simp)) alone
    · exact turns_of_alike (fun _ => rfl) (saleCheckOp_alike p s) alone
    · exact turns_of_alike (fun _ => rfl) (alike_of_withWaits (reprintEnterNow_withWaits [] s p) (by simp)) alone
  · have none' : NoneWaits (.sale serial) (refundWrite serial (withWaits [] s)) ∧
        ∀ p, NoneWaits (.printer p) (refundWrite serial (withWaits [] s)) := by
      rw [refundWrite_withWaits]
      exact ⟨fun e no => absurd no List.not_mem_nil, fun p e no => absurd no List.not_mem_nil⟩
    have same : refundWrite serial (withWaits [] s) = u := by
      refine Eq.trans ?_ (Host.Outcome.next.inj alone)
      show _ = forEach (List.range 12) (fun p => drain (.printer p)) (drain (.sale serial) (refundWrite serial (withWaits [] s)))
      rw [drain_quiet none'.1]
      exact (forEach_induct (p := fun t => t = refundWrite serial (withWaits [] s))
        (fun p t same => by rw [same]; exact drain_quiet (none'.2 p)) _ rfl).symm
    have all : joined = refundWrite serial s := by
      obtain ⟨-, alike⟩ := alike_of_withWaits (r := .sale serial) (refundWrite_withWaits [] s serial) (by simp)
      rw [alike, same]
      rfl
    let v := fun n => forEach (List.range n) (fun p => drain (.printer p)) (drain (.sale serial) (refundWrite serial s))
    obtain ⟨list, turns, ends⟩ := drain_turns (.sale serial) (refundWrite serial s)
    refine ⟨list, v, rfl, all ▸ turns, ends, fun p _ => ?_⟩
    have next : v (p + 1) = drain (.printer p) (v p) := by
      simp only [v, List.range_succ, forEach, List.foldl_append, List.foldl_cons, List.foldl_nil]
    rw [next]
    exact drain_turns (.printer p) (v p)

end Sys2Proof.Machine
end

section
/-! The configuration record (R184, R185, 10.6): its structural faults, its clamps and its fields. -/

namespace Sys2Proof.Machine

/-! ### Structural faults (R184) -/

/-- Where the fields of the record lie that can carry a structural fault. -/
def faultOffsets : List Nat :=
  [0, 9, 12, 14, 15, 16, 17] ++ (List.range 12).flatMap (fun n => [22 + 3 * n, 22 + 3 * n + 1, 22 + 3 * n + 2])
  ++ (List.range 12).flatMap (fun n => [58 + 2 * n, 58 + 2 * n + 1])
  ++ (List.range 4).flatMap (fun m => [82 + 4 * m, 82 + 4 * m + 1, 82 + 4 * m + 2, 82 + 4 * m + 3])
  ++ (List.range 16).flatMap (fun n => [98 + 32 * n, 98 + 32 * n + 16, 98 + 32 * n + 18])

theorem structuralFaults_offsets (rec : List Byte) : (structuralFaults rec).map Prod.fst = faultOffsets := by
  simp only [structuralFaults, List.map_append, List.map_flatMap, lineFaults, linkFaults, kindFaults, List.map_cons, List.map_nil,
    List.cons_append, List.nil_append, linesOffset, linksOffset, countersOffset, kindsOffset, faultOffsets]

theorem faultOffsets_ascend : faultOffsets.Pairwise (· < ·) := by
  rw [← List.isChain_iff_pairwise]
  decide +kernel

section
variable {rec : List Byte} {o p : Nat}

theorem mem_lineFaults : (o, true) ∈ lineFaults rec p ↔ (o = p ∧ 4 < fieldAt rec o 1) ∨ (o = p + 1 ∧ 2 < fieldAt rec o 1) ∨
    (o = p + 2 ∧ fieldAt rec o 1 ≠ 1 ∧ fieldAt rec o 1 ≠ 2) := by
  simp only [lineFaults, List.mem_cons, Prod.mk.injEq, List.not_mem_nil, or_false]
  refine or_congr (and_congr_right ?_) (or_congr (and_congr_right ?_) (and_congr_right ?_)) <;> rintro rfl <;>
    rw [@eq_comm Bool true] <;> simp

theorem mem_linkFaults : (o, true) ∈ linkFaults rec p ↔ (o = p ∧ 3 < fieldAt rec o 1) ∨ (o = p + 1 ∧ 1 < fieldAt rec o 1) := by
  simp only [linkFaults, List.mem_cons, Prod.mk.injEq, List.not_mem_nil, or_false]
  refine or_congr (and_congr_right ?_) (and_congr_right ?_) <;> rintro rfl <;> rw [@eq_comm Bool true] <;> simp

theorem mem_kindFaults : (o, true) ∈ kindFaults rec p ↔
    (o = p ∧ ∃ b ∈ textOf ((rec.drop o).take 16), ¬ (0x20 ≤ b.toNat ∧ b.toNat ≤ 0x7E)) ∨
    (o = p + 16 ∧ 20000 < fieldAt rec o 2) ∨ (o = p + 18 ∧ 31 < fieldAt rec o 1) := by
  simp only [kindFaults, List.mem_cons, Prod.mk.injEq, List.not_mem_nil, or_false]
  refine or_congr (and_congr_right ?_) (or_congr (and_congr_right ?_) (and_congr_right ?_)) <;> rintro rfl <;>
    rw [@eq_comm Bool true] <;> simp [isPrintable]

theorem mem_structuralFaults : (o, true) ∈ structuralFaults rec ↔ faultAt rec o := by
  have field : ∀ o n, leValue ((rec.drop o).take n) = fieldAt rec o n := fun _ _ => rfl
  have offsets : (∀ n, 22 + 3 * n + 1 = 23 + 3 * n ∧ 22 + 3 * n + 2 = 24 + 3 * n) ∧ (∀ n, 58 + 2 * n + 1 = 59 + 2 * n) ∧
      (∀ n, 82 + 4 * n + 1 = 83 + 4 * n ∧ 82 + 4 * n + 2 = 84 + 4 * n ∧ 82 + 4 * n + 3 = 85 + 4 * n) ∧
      ∀ n, 98 + 32 * n + 16 = 114 + 32 * n ∧ 98 + 32 * n + 18 = 116 + 32 * n :=
    ⟨fun n => by omega, fun n => by omega, fun n => by omega, fun n => by omega⟩
  have last : ∀ n, (o, true) ∈ [(85 + 4 * n, decide (1 < fieldAt rec (85 + 4 * n) 1))] ↔ o = 85 + 4 * n ∧ 1 < fieldAt rec o 1 := by
    intro n
    simp only [List.mem_singleton, Prod.mk.injEq]
    refine and_congr_right ?_
    rintro rfl
    rw [@eq_comm Bool true, decide_eq_true_iff]
  simp only [structuralFaults, List.mem_append, List.mem_flatMap, List.mem_range, mem_lineFaults, mem_linkFaults, mem_kindFaults,
    linesOffset, linksOffset, countersOffset, kindsOffset, offsets, last, faultAt, field]
  simp only [List.mem_cons, Prod.mk.injEq, List.not_mem_nil, or_false, @eq_comm Bool true, Bool.or_eq_true, beq_iff_eq,
    decide_eq_true_iff, or_assoc]

/-- In a list that ascends, the first mark found is the least. -/
theorem find_ascending {l : List (Nat × Bool)} (ascends : (l.map Prod.fst).Pairwise (· < ·)) :
    (l.find? Prod.snd).map Prod.fst = some o ↔ (o, true) ∈ l ∧ ∀ o' < o, (o', true) ∉ l := by
  induction l with
  | nil => simp
  | cons x l ih =>
    obtain ⟨p, marked⟩ := x
    rw [List.map_cons, List.pairwise_cons] at ascends
    obtain ⟨above, ascends⟩ := ascends
    have later : ∀ q, (q, true) ∈ l → p < q := fun q listed => above q (List.mem_map.mpr ⟨_, listed, rfl⟩)
    cases marked with
    | true =>
      simp only [List.find?_cons_of_pos, Option.map_some, Option.some.injEq, List.mem_cons, Prod.mk.injEq, and_true]
      constructor
      · rintro rfl
        exact ⟨.inl rfl, fun o' below => not_or.mpr ⟨Nat.ne_of_lt below, fun listed => absurd (later o' listed) (Nat.lt_asymm below)⟩⟩
      · rintro ⟨rfl | listed, least⟩
        · rfl
        · exact absurd (Or.inl rfl) (least p (later o listed))
    | false =>
      rw [List.find?_cons_of_neg (by simp), ih ascends]
      simp

theorem firstFault_eq_some : firstFault rec = some o ↔ faultAt rec o ∧ ∀ o' < o, ¬ faultAt rec o' := by
  simp only [← mem_structuralFaults]
  exact find_ascending (structuralFaults_offsets rec ▸ faultOffsets_ascend)

theorem firstFault_eq_none : firstFault rec = none ↔ ∀ o, ¬ faultAt rec o := by
  simp only [← mem_structuralFaults, firstFault, Option.map_eq_none_iff, List.find?_eq_none]
  constructor
  · exact fun none' o listed => none' _ listed rfl
  · rintro none' ⟨o, marked⟩ listed marked'
    exact none' o (by rw [← show marked = true from marked']; exact listed)

end

/-! ### Clamps and fields (R185, 10.6) -/

theorem clampTo_eq {lo hi v : Nat} (order : lo ≤ hi) : clampTo lo hi v = max lo (min hi v) := by
  rw [clampTo]
  split_ifs <;> omega

/-- A field of a record that stands in memory. -/
theorem fieldAt_memReadAll (m : List Host.Cell) (a : Nat) {o k : Nat} (inside : o + k ≤ 610) :
    fieldAt (memReadAll m a 610) o k = leValue (memReadAll m (a + o) k) := congrArg leValue (memReadAll_field m a inside)

section
variable (m : List Host.Cell) (a : Nat)

/-- R185: the plain and the clamped fields of a record that stands in memory. -/
theorem configurationOf_fields :
    let v := fun o n => leValue (memReadAll m (a + o) n)
    let c := configurationOf (memReadAll m a 610)
    c.site = v 0 1 ∧ c.holdTime = max 30 (min 900 (v 1 2)) ∧ c.retryGrace = max 30 (min 300 (v 3 2)) ∧
      c.authTimeout = max 30 (min 180 (v 5 1)) ∧ c.collectTimeout = max 10 (min 300 (v 6 2)) ∧
      c.voucherGrace = min 240 (v 8 1) ∧ c.ceiling = v 9 3 ∧ c.taxRate = v 12 2 ∧ c.comboSeats = v 14 1 ∧
      c.comboVouchers = v 15 1 ∧ c.comboPercent = v 16 1 ∧ c.receipts = (v 17 1 == 1) ∧ c.lowWater = min 8 (v 18 1) ∧
      c.threshold = max 1 (min 32 (v 19 1)) ∧ c.delay = v 20 1 ∧ c.answerTime = max 1 (min 10 (v 21 1)) := by
  intro v c
  have field : ∀ o n, o + n ≤ 610 → fieldAt (memReadAll m a 610) o n = v o n := fun o n inside => fieldAt_memReadAll m a inside
  have clamped : ∀ {lo hi : Nat} o n, lo ≤ hi → o + n ≤ 610 → clampTo lo hi (fieldAt (memReadAll m a 610) o n) = max lo (min hi (v o n)) :=
    fun o n order inside => by rw [clampTo_eq order, field o n inside]
  refine ⟨field 0 1 ?_, clamped 1 2 ?_ ?_, clamped 3 2 ?_ ?_, clamped 5 1 ?_ ?_, clamped 6 2 ?_ ?_, ?_, field 9 3 ?_, field 12 2 ?_,
    field 14 1 ?_, field 15 1 ?_, field 16 1 ?_, congrArg (· == 1) (field 17 1 ?_), ?_, clamped 19 1 ?_ ?_, field 20 1 ?_,
    clamped 21 1 ?_ ?_⟩
  case refine_10 => exact (clamped 8 1 (by decide) (by decide)).trans (Nat.zero_max _)
  case refine_17 => exact (clamped 18 1 (by decide) (by decide)).trans (Nat.zero_max _)
  all_goals decide

/-- R185: the marks of the fields that were clamped. -/
theorem clampMarks_eq :
    let v := fun o n => leValue (memReadAll m (a + o) n)
    let c := configurationOf (memReadAll m a 610)
    clampMarks (memReadAll m a 610) = [v 1 2 != c.holdTime, v 3 2 != c.retryGrace, v 5 1 != c.authTimeout, v 6 2 != c.collectTimeout,
      v 8 1 != c.voucherGrace, v 18 1 != c.lowWater, v 19 1 != c.threshold, v 21 1 != c.answerTime] := by
  intro v c
  have field : ∀ o n, o + n ≤ 610 → v o n = fieldAt (memReadAll m a 610) o n := fun o n inside => (fieldAt_memReadAll m a inside).symm
  rw [field 1 2 (by decide), field 3 2 (by decide), field 5 1 (by decide), field 6 2 (by decide), field 8 1 (by decide),
    field 18 1 (by decide), field 19 1 (by decide), field 21 1 (by decide)]
  simp only [clampMarks, clampedFields, List.map_cons, List.map_nil, c, configurationOf, bne_comm]

/-- 10.6: the parameters of the lines, links and counters. -/
theorem configurationOf_params :
    let v := fun o n => leValue (memReadAll m (a + o) n)
    let c := configurationOf (memReadAll m a 610)
    (∀ n < 12, c.lines[n]? = some ⟨v (22 + 3 * n) 1, v (23 + 3 * n) 1, v (24 + 3 * n) 1⟩) ∧
      (∀ n < 12, c.links[n]? = some ⟨v (58 + 2 * n) 1, v (59 + 2 * n) 1⟩) ∧
      (∀ k < 4, c.counters[k]? = some (⟨v (82 + 4 * k) 1, v (83 + 4 * k) 1, v (84 + 4 * k) 1⟩, v (85 + 4 * k) 1 == 1)) := by
  intro v c
  have field : ∀ o, o + 1 ≤ 610 → fieldAt (memReadAll m a 610) o 1 = v o 1 := fun o inside => fieldAt_memReadAll m a inside
  refine ⟨fun n inside => ?_, fun n inside => ?_, fun n inside => ?_⟩
  · simp only [c, configurationOf, List.getElem?_map, List.getElem?_range inside, Option.map_some, lineParamsAt, linesOffset]
    rw [field _ (by omega), field _ (by omega), field _ (by omega), show 22 + 3 * n + 1 = 23 + 3 * n by omega,
      show 22 + 3 * n + 2 = 24 + 3 * n by omega]
  · simp only [c, configurationOf, List.getElem?_map, List.getElem?_range inside, Option.map_some, linkParamsAt, linksOffset]
    rw [field _ (by omega), field _ (by omega), show 58 + 2 * n + 1 = 59 + 2 * n by omega]
  · simp only [c, configurationOf, List.getElem?_map, List.getElem?_range inside, Option.map_some, counterParamsAt, countersOffset]
    rw [field _ (by omega), field _ (by omega), field _ (by omega), field _ (by omega), show 82 + 4 * n + 1 = 83 + 4 * n by omega,
      show 82 + 4 * n + 2 = 84 + 4 * n by omega, show 82 + 4 * n + 3 = 85 + 4 * n by omega]

/-- 10.6: a voucher kind of the record. -/
theorem kindOfBytes_record {n : Nat} (inside : n < 16) : kindOfBytes (kindBytesAt (memReadAll m a 610) n) =
    ⟨textOf (memReadAll m (a + 98 + 32 * n) 16), leValue (memReadAll m (a + (114 + 32 * n)) 2),
      leValue (memReadAll m (a + (116 + 32 * n)) 1)⟩ := by
  have bytes : kindBytesAt (memReadAll m a 610) n = memReadAll m (a + (98 + 32 * n)) 32 :=
    memReadAll_field m a (show 98 + 32 * n + 32 ≤ 610 by omega)
  rw [bytes, kindOfBytes, memReadAll_take _ _ (by decide), fieldAt, fieldAt, memReadAll_field _ _ (by decide),
    memReadAll_field _ _ (by decide)]
  congr 2 <;> congr 1 <;> omega

end

/-! ### The checks (R184) -/

section
variable {s : State} {off : Nat}

theorem exec_configure {r : Request} (handed : Handed .configure r s) : exec .configure s = .next (configureOp r (taken r s)) :=
  next_congr (withRequest_handed handed _)

theorem configureRefusal_outside (past : 8192 < off + 610) : configureRefusal s off = some (.badParameter, []) := by
  rw [configureRefusal, inStaging, if_pos]
  simp only [decide_eq_false_iff_not, Nat.not_le]
  exact past

theorem configureRefusal_inside (inside : off + 610 ≤ 8192) : configureRefusal s off =
    if s.config ≠ none ∧ ((∃ c ∈ s.basketUnit.baskets, c.state ≠ .free) ∨ ∃ p ∈ s.print.printers, p.queue ≠ []) then
      some (.wrongState, [])
    else (firstFault (memReadAll s.mem (0x8000 + off) 610)).map (fun o => (.badParameter, leBytes 2 o)) := by
  have within : inStaging off recordSize = true := decide_eq_true inside
  have used : (running s && !(s.basketUnit.baskets.all (fun c => c.state == .free) && s.print.printers.all (fun p => p.queue == []))) = true ↔
      s.config ≠ none ∧ ((∃ c ∈ s.basketUnit.baskets, c.state ≠ .free) ∨ ∃ p ∈ s.print.printers, p.queue ≠ []) := by
    rw [Bool.and_eq_true, Bool.not_eq_true', Bool.and_eq_false_iff, List.all_eq_false, List.all_eq_false]
    simp [running, Option.isSome_iff_ne_none]
  rw [configureRefusal, within, if_neg (by simp)]
  simp only [used]
  rfl

end

end Sys2Proof.Machine
end

section
/-! The shares of a configuration put in force (R93, R107, R125, R139, R185). -/

namespace Sys2Proof.Machine

/-! ### Events at several places -/

/-- An event made at several places, each once, that touches its own place alone: what stands at a place afterwards. -/
theorem forEach_at {α : Type} {get : State → Nat → α} {size : State → Nat} {f : Nat → State → State} {g : Nat → α → α}
    {inv : State → Prop} (keeps : ∀ n s, inv s → inv (f n s)) (same : ∀ n s, size (f n s) = size s)
    (self : ∀ n s, inv s → n < size s → get (f n s) n = g n (get s n)) (other : ∀ n m s, m ≠ n → get (f n s) m = get s m)
    {l : List Nat} (once : l.Nodup) {s : State} (start : inv s) {m : Nat} (inside : m < size s) :
    get (forEach l f s) m = if m ∈ l then g m (get s m) else get s m := by
  induction l generalizing s with
  | nil => rfl
  | cons n l ih =>
    obtain ⟨fresh, once⟩ := List.nodup_cons.mp once
    rw [forEach_cons, ih once (keeps n s start) (by rw [same]; exact inside)]
    by_cases here : m = n
    · subst here
      rw [if_neg fresh, if_pos List.mem_cons_self, self m s start inside]
    · rw [other n m s here]
      simp only [List.mem_cons, here, false_or]

/-- Only interrupt messages are sent. -/
def SendsInterrupts (s t : State) : Prop := ∃ sent, t.wire = s.wire ++ sent ∧ ∀ o ∈ sent, o = .interrupt

theorem SendsInterrupts.refl (s : State) : SendsInterrupts s s := ⟨[], (List.append_nil _).symm, fun _ no => absurd no List.not_mem_nil⟩

theorem SendsInterrupts.trans {s t u : State} (first : SendsInterrupts s t) (second : SendsInterrupts t u) : SendsInterrupts s u := by
  obtain ⟨a, at', only⟩ := first
  obtain ⟨b, bt, only'⟩ := second
  exact ⟨a ++ b, by rw [bt, at', List.append_assoc], fun o sent => (List.mem_append.mp sent).elim (only o) (only' o)⟩

theorem sendsInterrupts_message {s t : State} {enable : Bool} (sent : t.wire = s.wire ++ message enable) : SendsInterrupts s t :=
  ⟨_, sent, fun o listed => by
    cases enable with
    | false => exact absurd listed List.not_mem_nil
    | true => exact List.mem_singleton.mp listed⟩

theorem sendsInterrupts_sendInterrupt (s : State) : SendsInterrupts s (sendInterrupt s) :=
  sendsInterrupts_message (enable := s.board.noticeEnable) (by
    cases enabled : s.board.noticeEnable
    · rw [sendInterrupt, if_neg (by simp [enabled])]
      exact (List.append_nil _).symm
    · rw [sendInterrupt, if_pos enabled]
      rfl)

theorem sendsInterrupts_completeSlot (slot : Nat) (code : ResultCode) (fields : List Byte) (s : State) :
    SendsInterrupts s (completeSlot slot code fields s) := by
  have set : ∀ t : State, t.wire = s.wire → SendsInterrupts s (setCompletions t) := fun t same =>
    (show SendsInterrupts s { t with board := { t.board with completions := true, coalescing := none } } from
      ⟨[], by rw [List.append_nil]; exact same, fun _ no => absurd no List.not_mem_nil⟩).trans (sendsInterrupts_sendInterrupt _)
  rw [completeSlot_eq, serveNotice_eq]
  split_ifs
  · exact SendsInterrupts.refl s
  · exact set _ rfl
  · exact SendsInterrupts.refl s
  · exact SendsInterrupts.refl s

/-! ### Lines (R93) -/

/-- R93: the REVERSEs in flight that end with TERMINAL_FAULT. -/
def faulted (slots : List Nat) (s : State) : State := forEach slots (fun slot => completeSlot slot .terminalFault []) s

/-- A state with other lines, station cells and voucher kinds. -/
def beside (lines : List Line) (station : StationUnit) (kinds : List VoucherKind) (s : State) : State :=
  { s with lines := lines, station := station, showUnit := { s.showUnit with kinds := kinds } }

section
variable (lines : List Line) (station : StationUnit) (kinds : List VoucherKind) (s : State)

theorem serveNotice_ofBeside : serveNotice (beside lines station kinds s) = beside lines station kinds (serveNotice s) := by
  have set : setCompletions (countUnnoticed (beside lines station kinds s)) =
      beside lines station kinds (setCompletions (countUnnoticed s)) := by
    cases enabled : s.board.noticeEnable <;>
      simp only [setCompletions, sendInterrupt, beside, countUnnoticed, enabled] <;> rfl
  rw [serveNotice_eq, serveNotice_eq]
  by_cases already : s.board.completions = true
  · rw [if_pos already, if_pos (show (beside lines station kinds s).board.completions = true from already)]
    rfl
  rw [if_neg already, if_neg (show ¬ (beside lines station kinds s).board.completions = true from already)]
  by_cases due : NoticeDue s
  · rw [if_pos due, if_pos (show NoticeDue (beside lines station kinds s) from due)]
    exact set
  rw [if_neg due, if_neg (show ¬ NoticeDue (beside lines station kinds s) from due)]
  by_cases first : s.board.unnoticed = 0
  · rw [if_pos first, if_pos (show (beside lines station kinds s).board.unnoticed = 0 from first)]
    rfl
  · rw [if_neg first, if_neg (show ¬ (beside lines station kinds s).board.unnoticed = 0 from first)]
    rfl

theorem completeSlot_ofBeside (slot : Nat) (code : ResultCode) (fields : List Byte) :
    completeSlot slot code fields (beside lines station kinds s) = beside lines station kinds (completeSlot slot code fields s) := by
  rw [completeSlot_eq, completeSlot_eq, ← serveNotice_ofBeside]
  rfl

theorem faulted_ofBeside (slots : List Nat) :
    faulted slots (beside lines station kinds s) = beside lines station kinds (faulted slots s) := by
  induction slots generalizing s with
  | nil => rfl
  | cons slot slots ih =>
    rw [faulted, forEach_cons, completeSlot_ofBeside]
    exact ih _

end

theorem sendsInterrupts_faulted (slots : List Nat) (s : State) : SendsInterrupts s (faulted slots s) :=
  forEach_induct (p := SendsInterrupts s) (fun slot _ before => before.trans (sendsInterrupts_completeSlot slot _ _ _)) slots
    (SendsInterrupts.refl s)

theorem faulted_frame (slots : List Nat) (s : State) :
    faulted slots s = { s with mem := (faulted slots s).mem, board := (faulted slots s).board, wire := (faulted slots s).wire } :=
  forEach_induct (p := fun t => t = { s with mem := t.mem, board := t.board, wire := t.wire })
    (fun slot t before => (show _ = _ from completeSlot_frame ..).trans (by rw [before])) slots rfl

/-- R93: a line started or restarted. -/
def startedLine (now : Nat) (x : Line) : Line :=
  { x with
    state := .down, rx := none, gapDue := none, pingDue := some ⟨now + 5000, now⟩, authDue := none, abortDue := none
    reverseDue := none, awaiting := none, reversing := none }

/-- The slots of the REVERSEs in flight on the listed lines, in line order. -/
def reversesOn (l : List Nat) (s : State) : List Nat := l.filterMap (fun n => (lineAt s n).reversing.map Prod.fst)

theorem restartLine_step (n : Nat) (s : State) :
    LineStep n (startedLine (nowOf s)) [] (faulted (reversesOn [n] s) s) (restartLine n s) := by
  cases reverses : (lineAt s n).reversing with
  | none =>
    have ended : faulted (reversesOn [n] s) s = s := by
      rw [reversesOn, List.filterMap_cons, reverses]
      rfl
    rw [ended, restartLine, endReverse, reverses]
    exact .updLine n (startedLine (nowOf s)) s
  | some x =>
    obtain ⟨slot, late⟩ := x
    have ended : faulted (reversesOn [n] s) s = completeSlot slot .terminalFault [] s := by
      rw [reversesOn, List.filterMap_cons, reverses]
      rfl
    rw [ended, restartLine, endReverse, reverses]
    simp only [finish, completeSlot_updLine]
    exact (LineStep.updLine n (fun x => { x with reversing := none, reverseDue := none }) _).trans (.updLine n (startedLine (nowOf s)) _)

theorem reversesOn_cons (n : Nat) (l : List Nat) (s : State) : reversesOn (n :: l) s = reversesOn [n] s ++ reversesOn l s := by
  rw [reversesOn, reversesOn, reversesOn, ← List.filterMap_append, List.singleton_append]

theorem restartLine_lines (n : Nat) (s : State) : (restartLine n s).lines = updAt s.lines n (startedLine (nowOf s)) := by
  rw [(restartLine_step n s).lines, faulted_frame]

theorem lineAt_restartLine_other {n m : Nat} (apart : m ≠ n) (s : State) : lineAt (restartLine n s) m = lineAt s m := by
  rw [lineAt, restartLine_lines]
  exact updAt_getD_other _ _ _ _ _ apart.symm

theorem restartLine_beside (n : Nat) (s : State) : restartLine n s =
    beside (restartLine n s).lines (restartLine n s).station s.showUnit.kinds (faulted (reversesOn [n] s) s) := by
  have wire : (restartLine n s).wire = (faulted (reversesOn [n] s) s).wire :=
    (restartLine_step n s).wire.trans (List.append_nil _)
  have frame := (restartLine_step n s).frame
  rw [wire] at frame
  rw [frame, faulted_frame]
  rfl

/-- R93: the listed lines started or restarted, each once. -/
theorem restartLines_spec {l : List Nat} (once : l.Nodup) (s : State) :
    let t := forEach l restartLine s
    (∀ n < s.lines.length, lineAt t n = if n ∈ l then startedLine s.showUnit.runTime (lineAt s n) else lineAt s n) ∧
    (∀ k, kioskLike (kioskAt t k) (kioskAt s k)) ∧
    t.station = { s.station with kiosks := t.station.kiosks } ∧
    t = beside t.lines t.station s.showUnit.kinds (faulted (reversesOn l s) s) := by
  have unit : ∀ n u, (restartLine n u).showUnit = u.showUnit := fun n u => by
    rw [restartLine_beside, faulted_frame]
    rfl
  refine ⟨fun n inside => ?_, ?_, ?_, ?_⟩
  · refine forEach_at (get := lineAt) (size := fun t => t.lines.length) (g := fun _ => startedLine s.showUnit.runTime)
      (inv := fun t => t.showUnit = s.showUnit) (fun n t same => (unit n t).trans same)
      (fun n t => by rw [restartLine_lines, updAt_length]) (fun n t same inside => ?_)
      (fun n m t apart => lineAt_restartLine_other apart t) once rfl inside
    rw [lineAt, restartLine_lines, show nowOf t = s.showUnit.runTime from congrArg ShowUnit.runTime same]
    exact updAt_getD_self _ _ _ _ inside
  · exact forEach_induct (p := fun t => ∀ k, kioskLike (kioskAt t k) (kioskAt s k)) (fun n t before k => kioskLike_trans
      (by
        have step := (restartLine_step n t).kiosks k
        rwa [show kioskAt (faulted (reversesOn [n] t) t) k = kioskAt t k by rw [faulted_frame]; rfl] at step) (before k)) l
      fun k => kioskLike_refl _
  · exact forEach_induct (p := fun t => t.station = { s.station with kiosks := t.station.kiosks }) (fun n t before => by
      have step := congrArg State.station (restartLine_step n t).frame
      rw [step, faulted_frame]
      show ({ t.station with kiosks := _ } : StationUnit) = _
      rw [before]) l rfl
  · induction l generalizing s with
    | nil => rfl
    | cons n l ih =>
      obtain ⟨fresh, once⟩ := List.nodup_cons.mp once
      have later : reversesOn l (restartLine n s) = reversesOn l s := by
        refine List.filterMap_congr fun m listed => ?_
        have apart : m ≠ n := fun same => fresh (same ▸ listed)
        rw [lineAt_restartLine_other apart]
      have rest := ih once (restartLine n s)
      have split : faulted (reversesOn (n :: l) s) s = faulted (reversesOn l s) (faulted (reversesOn [n] s) s) := by
        rw [reversesOn_cons]
        exact List.foldl_append
      have inner : faulted (reversesOn l s) (restartLine n s) =
          beside (restartLine n s).lines (restartLine n s).station s.showUnit.kinds (faulted (reversesOn (n :: l) s) s) := by
        rw [split, ← faulted_ofBeside, ← restartLine_beside]
      rw [later, inner, unit] at rest
      exact rest

/-! ### Printer links (R107) -/

theorem restartPrinters_spec {l : List Nat} (once : l.Nodup) (s : State) :
    let t := forEach l restartPrinter s
    (∀ p < s.print.printers.length, printerAt t p = if p ∈ l then restartedPrinter (printerAt s p) else printerAt s p) ∧
    (∀ k, kioskLike (kioskAt t k) (kioskAt s k)) ∧ t.wire = s.wire ++ l.map (fun p => .printerByte p false 0) ∧
    t = { s with
      print := { s.print with printers := t.print.printers }, wire := t.wire
      station := { s.station with kiosks := t.station.kiosks } } := by
  have size : ∀ p t, (restartPrinter p t).print.printers.length = t.print.printers.length := fun p t => updAt_length ..
  refine ⟨fun p inside => ?_, ?_, ?_, ?_⟩
  · exact forEach_at (get := printerAt) (size := fun t => t.print.printers.length) (g := fun _ => restartedPrinter)
      (inv := fun _ => True) (fun _ _ _ => trivial) size (fun p t _ inside => (restartPrinter_spec inside).1)
      (fun p m t apart => printerAt_updPrinter_other t p m restartedPrinter apart.symm) once trivial inside
  · have like : ∀ p t k, kioskLike (kioskAt (restartPrinter p t) k) (kioskAt t k) := fun p t k =>
      kioskLike_trans (refreshKiosk_like _ _ _) (updKiosk_like p k id (fun _ => kioskLike_refl _) _)
    exact forEach_induct (p := fun t => ∀ k, kioskLike (kioskAt t k) (kioskAt s k))
      (fun p t before k => kioskLike_trans (like p t k) (before k)) l fun k => kioskLike_refl _
  · clear once
    induction l generalizing s with
    | nil => exact (List.append_nil _).symm
    | cons p l ih =>
      rw [forEach_cons, ih (restartPrinter p s)]
      exact List.append_assoc ..
  · exact forEach_induct (p := fun t => t = { s with
      print := { s.print with printers := t.print.printers }, wire := t.wire
      station := { s.station with kiosks := t.station.kiosks } }) (fun p t before => by
        show ({ t with print := _, wire := _, station := _ } : State) = _
        rw [before]
        rfl) l rfl

/-! ### Counters (R139) -/

theorem restartReceivers_spec {l : List Nat} (once : l.Nodup) (s : State) :
    let t := forEach l restartReceiver s
    (∀ m < s.voucherUnit.receivers.length, receiverAt t m = if m ∈ l then emptyCode (receiverAt s m) else receiverAt s m) ∧
    t.voucherUnit.receivers.length = s.voucherUnit.receivers.length ∧
    t = { s with voucherUnit := { s.voucherUnit with receivers := t.voucherUnit.receivers } } := by
  refine ⟨fun m inside => ?_, ?_, ?_⟩
  · exact forEach_at (get := receiverAt) (size := fun t => t.voucherUnit.receivers.length) (g := fun _ => emptyCode)
      (inv := fun _ => True) (fun _ _ _ => trivial) (fun m t => updAt_length ..)
      (fun m t _ inside => receiverAt_setReceiver_self t m _ inside) (fun m j t apart => receiverAt_setReceiver_other t m j _ apart.symm)
      once trivial inside
  · exact forEach_induct (p := fun t => t.voucherUnit.receivers.length = s.voucherUnit.receivers.length)
      (fun m t before => (updAt_length ..).trans before) l rfl
  · exact forEach_induct (p := fun t => t = { s with voucherUnit := { s.voucherUnit with receivers := t.voucherUnit.receivers } })
      (fun m t before => by
        show ({ t with voucherUnit := _ } : State) = _
        rw [before]
        rfl) l rfl

/-- R139: a receiver under a counter that is enabled or not. -/
def keptCodes (enabled : Bool) (r : Receiver) : Receiver := { r with scanned := if enabled then r.scanned else [] }

theorem writeEnabled_eq (c : Configuration) (m : Nat) (s : State) : writeEnabled c m s =
    updCounter m (fun x => { x with enabled := enables c m })
      (if enables c m then s else setReceiver m (keptCodes false) s) := rfl

theorem writeEnableds_spec (c : Configuration) (s : State) :
    let t := forEach (List.range 4) (writeEnabled c) s
    (s.station.counters.length = 4 → ∀ m < 4, counterAt t m =
      { (counterAt s m) with enabled := enables c m, changes := bump (counterAt s m).changes }) ∧
    (s.voucherUnit.receivers.length = 4 → ∀ m < 4, receiverAt t m = keptCodes (enables c m) (receiverAt s m)) ∧
    t = { s with
      voucherUnit := { s.voucherUnit with receivers := t.voucherUnit.receivers }
      station := { s.station with counters := t.station.counters } } := by
  have kept : ∀ m t, (writeEnabled c m t).voucherUnit.receivers.length = t.voucherUnit.receivers.length ∧
      (writeEnabled c m t).station.counters.length = t.station.counters.length ∧
      writeEnabled c m t = { t with
        voucherUnit := { t.voucherUnit with receivers := (writeEnabled c m t).voucherUnit.receivers }
        station := { t.station with counters := (writeEnabled c m t).station.counters } } := by
    intro m t
    rw [writeEnabled_eq]
    split_ifs
    · exact ⟨rfl, updAt_length .., rfl⟩
    · exact ⟨updAt_length .., updAt_length .., rfl⟩
  refine ⟨fun size m inside => ?_, fun size m inside => ?_, ?_⟩
  · refine (forEach_at (get := counterAt) (size := fun t => t.station.counters.length)
      (g := fun m x => { x with enabled := enables c m, changes := bump x.changes })
      (inv := fun _ => True) (fun _ _ _ => trivial) (fun m t => (kept m t).2.1) (fun m t _ inside => ?_) (fun m j t apart => ?_)
      List.nodup_range trivial (inside.trans_eq size.symm)).trans (if_pos (List.mem_range.mpr inside))
    · rw [writeEnabled_eq]
      split_ifs <;> exact counterAt_updCounter_self _ m _ inside
    · rw [writeEnabled_eq]
      split_ifs <;> exact counterAt_updCounter_other _ m j _ apart.symm
  · refine (forEach_at (get := receiverAt) (size := fun t => t.voucherUnit.receivers.length)
      (g := fun m => keptCodes (enables c m))
      (inv := fun _ => True) (fun _ _ _ => trivial) (fun m t => (kept m t).1) (fun m t _ inside => ?_) (fun m j t apart => ?_)
      List.nodup_range trivial (inside.trans_eq size.symm)).trans (if_pos (List.mem_range.mpr inside))
    · rw [writeEnabled_eq]
      cases enabled : enables c m
      · exact receiverAt_setReceiver_self t m _ inside
      · rfl
    · rw [writeEnabled_eq]
      split_ifs
      · rfl
      · exact receiverAt_setReceiver_other t m j _ apart.symm
  · exact forEach_induct (p := fun t => t = { s with
      voucherUnit := { s.voucherUnit with receivers := t.voucherUnit.receivers }
      station := { s.station with counters := t.station.counters } }) (fun m t before => by
        rw [(kept m t).2.2, before]) (List.range 4) rfl

/-! ### The supply (R49) -/

theorem sendsInterrupts_raiseFoyer (f : FactorSet) (s : State) : SendsInterrupts s (raiseFactor .foyer f s) := by
  simp only [raiseFactor]
  split_ifs
  · exact SendsInterrupts.refl s
  · exact sendsInterrupts_sendInterrupt _
  · exact sendsInterrupts_sendInterrupt _

theorem sendsInterrupts_setFreeCount (n : Nat) (s : State) : SendsInterrupts s (setFreeCount n s) := by
  have fresh : ∀ u, SendsInterrupts s u → SendsInterrupts s (refreshKiosks u) := fun u before =>
    before.trans ⟨[], by rw [(refreshKiosks_spec u).2.2, List.append_nil], fun _ no => absurd no List.not_mem_nil⟩
  simp only [setFreeCount]
  split_ifs
  · exact sendsInterrupts_raiseFoyer _ _
  · exact SendsInterrupts.refl s
  · exact fresh _ (sendsInterrupts_raiseFoyer _ _)
  · exact fresh _ (SendsInterrupts.refl s)

/-! ### All shares (R185) -/

theorem changed_iff {α : Type} [DecidableEq α] {old : Option Configuration} {c : Configuration} {f : Configuration → List α} {n : Nat} :
    changed old c f n = true ↔ ∀ o, old = some o → (f o)[n]? ≠ (f c)[n]? := by
  cases old with
  | none => simp [changed]
  | some o => simp [changed]

/-- The lines, links or counters of a configuration that start or change. -/
def changes {α : Type} [DecidableEq α] (size : Nat) (old : Option Configuration) (c : Configuration) (f : Configuration → List α) : List Nat :=
  (List.range size).filter (changed old c f)

theorem mem_changes {α : Type} [DecidableEq α] {size : Nat} {old : Option Configuration} {c : Configuration} {f : Configuration → List α}
    {n : Nat} (inside : n < size) : n ∈ changes size old c f ↔ ∀ o, old = some o → (f o)[n]? ≠ (f c)[n]? := by
  rw [changes, List.mem_filter, List.mem_range, changed_iff]
  exact and_iff_right inside

theorem changes_nodup {α : Type} [DecidableEq α] (size : Nat) (old : Option Configuration) (c : Configuration)
    (f : Configuration → List α) : (changes size old c f).Nodup := List.nodup_range.filter _

/-- The state once the shares of a record have been taken. -/
structure SharesTaken (old : Option Configuration) (c : Configuration) (kinds : List VoucherKind) (s u : State) : Prop where
  /-- R93 -/
  lines : ∀ n < s.lines.length, lineAt u n =
    if n ∈ changes 12 old c Configuration.lines then startedLine s.showUnit.runTime (lineAt s n) else lineAt s n
  ended : let z := faulted (reversesOn (changes 12 old c Configuration.lines) s) s
    u.mem = z.mem ∧ u.board = { z.board with attention := u.board.attention } ∧ ∃ sent, (∀ o ∈ sent, o = .interrupt) ∧
      u.wire = z.wire ++ (changes 12 old c Configuration.links).map (fun p => .printerByte p false 0) ++ sent
  /-- R107 -/
  printers : ∀ p < s.print.printers.length, printerAt u p =
    if p ∈ changes 12 old c Configuration.links then restartedPrinter (printerAt s p) else printerAt s p
  /-- R139 -/
  receivers : s.voucherUnit.receivers.length = 4 → ∀ m < 4, receiverAt u m = keptCodes (enables c m)
    (if m ∈ changes 4 old c Configuration.counters then emptyCode (receiverAt s m) else receiverAt s m)
  counters : s.station.counters.length = 4 → ∀ m < 4, counterAt u m =
    { (counterAt s m) with enabled := enables c m, changes := bump (counterAt s m).changes }
  /-- R49 -/
  supply : u.station.foyer.freeCount = freeContexts s ∧ u.station.foyer.low = decide (freeContexts s ≤ (cfgOf s).lowWater) ∧
    u.station.foyer.factors = (if (cfgOf s).lowWater < s.station.foyer.freeCount ∧ freeContexts s ≤ (cfgOf s).lowWater
      then s.station.foyer.factors ||| ffContextLow else s.station.foyer.factors) ∧ u.station.foyer.mask = s.station.foyer.mask
  kiosks : ∀ k, kioskLike (kioskAt u k) (kioskAt s k)
  frame : u = { s with
    mem := u.mem, wire := u.wire, board := u.board, lines := u.lines, showUnit := { s.showUnit with kinds := kinds }
    print := { s.print with printers := u.print.printers }, voucherUnit := { s.voucherUnit with receivers := u.voucherUnit.receivers }
    station := { s.station with kiosks := u.station.kiosks, counters := u.station.counters, foyer := u.station.foyer } }

theorem takeShares_spec (old : Option Configuration) (c : Configuration) (kinds : List VoucherKind) (s : State) :
    SharesTaken old c kinds s (takeShares old c kinds s) := by
  have shares : takeShares old c kinds s = writeSupply (forEach (List.range 4) (writeEnabled c)
      (forEach (changes 4 old c Configuration.counters) restartReceiver (forEach (changes 12 old c Configuration.links) restartPrinter
        (forEach (changes 12 old c Configuration.lines) restartLine (beside s.lines s.station kinds s))))) := rfl
  rw [shares]
  obtain ⟨lines, kiosks, station, begun⟩ := restartLines_spec (changes_nodup 12 old c Configuration.lines) (beside s.lines s.station kinds s)
  have ended : faulted (reversesOn (changes 12 old c Configuration.lines) (beside s.lines s.station kinds s)) (beside s.lines s.station kinds s) = 
      beside s.lines s.station kinds (faulted (reversesOn (changes 12 old c Configuration.lines) s) s) := faulted_ofBeside ..
  rw [ended] at begun
  have whole := faulted_frame (reversesOn (changes 12 old c Configuration.lines) s) s
  generalize completed : faulted (reversesOn (changes 12 old c Configuration.lines) s) s = z at begun whole
  generalize forEach (changes 12 old c Configuration.lines) restartLine (beside s.lines s.station kinds s) = t1 at *
  obtain ⟨printers, kiosks2, wire2, frame2⟩ := restartPrinters_spec (changes_nodup 12 old c Configuration.links) t1
  generalize forEach (changes 12 old c Configuration.links) restartPrinter t1 = t2 at *
  obtain ⟨receivers, size, frame3⟩ := restartReceivers_spec (changes_nodup 4 old c Configuration.counters) t2
  generalize forEach (changes 4 old c Configuration.counters) restartReceiver t2 = t3 at *
  obtain ⟨counters, kept, frame4⟩ := writeEnableds_spec c t3
  generalize forEach (List.range 4) (writeEnabled c) t3 = t4 at *
  have frame : t4 = { s with
      mem := z.mem, board := z.board, wire := t2.wire, lines := t1.lines, showUnit := { s.showUnit with kinds := kinds }
      print := { s.print with printers := t2.print.printers }, voucherUnit := { s.voucherUnit with receivers := t4.voucherUnit.receivers }
      station := { s.station with kiosks := t2.station.kiosks, counters := t4.station.counters } } := by
    rw [frame4, frame3, frame2, begun, station, whole]
    rfl
  obtain ⟨⟨free, low, factors, mask⟩, kiosks5, frame5⟩ := setFreeCount_spec (freeContexts t4) t4
  obtain ⟨sent, wire5, only⟩ := sendsInterrupts_setFreeCount (freeContexts t4) t4
  rw [writeSupply]
  generalize setFreeCount (freeContexts t4) t4 = u at *
  have contexts : freeContexts t4 = freeContexts s := by rw [frame]; rfl
  have config : cfgOf t4 = cfgOf s := by rw [frame]; rfl
  have foyer : t4.station.foyer = s.station.foyer := by rw [frame]
  have whole' : u = { s with
      mem := z.mem, wire := u.wire, board := { z.board with attention := u.board.attention }, lines := t1.lines
      showUnit := { s.showUnit with kinds := kinds }, print := { s.print with printers := t2.print.printers }
      voucherUnit := { s.voucherUnit with receivers := t4.voucherUnit.receivers }
      station := { s.station with kiosks := u.station.kiosks, counters := t4.station.counters, foyer := u.station.foyer } } := by
    rw [frame5, frame]
  have beginning : t1.print = s.print ∧ t1.voucherUnit = s.voucherUnit ∧ t1.wire = z.wire := by
    rw [begun, whole]
    exact ⟨rfl, rfl, rfl⟩
  obtain ⟨print1, vouchers1, wire1⟩ := beginning
  have vouchers2 : t2.voucherUnit = s.voucherUnit := by rw [frame2]; exact vouchers1
  constructor
  case lines =>
    intro n inside
    rw [lineAt, show u.lines = t1.lines by rw [whole']]
    exact lines n inside
  case ended =>
    rw [completed]
    refine ⟨by rw [whole'], by rw [whole'], sent, only, ?_⟩
    rw [wire5, show t4.wire = t2.wire by rw [frame], wire2, wire1]
  case printers =>
    intro p inside
    rw [printerAt, show u.print.printers = t2.print.printers by rw [whole']]
    have here := printers p (by rw [print1]; exact inside)
    rwa [show printerAt t1 p = printerAt s p by rw [printerAt, print1]; rfl] at here
  case receivers =>
    intro four m inside
    have four2 : t2.voucherUnit.receivers.length = 4 := by rw [vouchers2]; exact four
    rw [receiverAt, show u.voucherUnit.receivers = t4.voucherUnit.receivers by rw [whole']]
    refine (kept (size.trans four2) m inside).trans (congrArg _ ?_)
    rw [receivers m (inside.trans_eq four2.symm), show receiverAt t2 m = receiverAt s m by rw [receiverAt, vouchers2]; rfl]
  case counters =>
    intro four m inside
    have same : t3.station.counters = s.station.counters := by rw [frame3, frame2, station]; rfl
    rw [counterAt, show u.station.counters = t4.station.counters by rw [whole']]
    refine (counters (by rw [same]; exact four) m inside).trans ?_
    rw [show counterAt t3 m = counterAt s m by rw [counterAt, same]; rfl]
  case supply =>
    rw [foyer] at factors mask
    rw [contexts, config] at low factors
    rw [contexts] at free
    exact ⟨free, low, factors, mask⟩
  case kiosks =>
    intro k
    have here4 : kioskAt t4 k = kioskAt t2 k := by rw [frame]; rfl
    exact kioskLike_trans (here4 ▸ kiosks5 k) (kioskLike_trans (kiosks2 k) (kiosks k))
  case frame =>
    conv_rhs => rw [whole']
    exact whole'

end Sys2Proof.Machine
end

section
/-! CONFIGURE (R184, R185). -/

namespace Sys2Proof.Machine

theorem reversesOn_changes (old : Option Configuration) (c : Configuration) (s : State) :
    (List.range 12).filterMap (fun n =>
      if old.all (fun o => o.lines[n]? != c.lines[n]?) then (lineAt s n).reversing.map Prod.fst else none) =
    reversesOn (changes 12 old c Configuration.lines) s := by
  rw [reversesOn, changes, List.filterMap_filter]
  refine List.filterMap_congr fun n _ => ?_
  cases old <;> rfl

section
variable {s : State} {r : Request} {off : Nat}

theorem configureOp_refused {code : ResultCode} {fields : List Byte} (refused : configureRefusal s (param2 r 0) = some (code, fields)) :
    configureOp r s = completeSlot r.slot code fields s := by
  unfold configureOp
  dsimp only
  rw [refused]

theorem unused_iff : ¬ (s.config ≠ none ∧ ((∃ c ∈ s.basketUnit.baskets, c.state ≠ .free) ∨ ∃ p ∈ s.print.printers, p.queue ≠ [])) ↔
    s.config = none ∨ ((∀ c ∈ s.basketUnit.baskets, c.state = .free) ∧ ∀ p ∈ s.print.printers, p.queue = []) := by
  simp only [not_and_or, not_or, not_exists, not_not, ne_eq, ← imp_iff_not_or]

/-- 10.6: the record in staging, and the kinds it gives. -/
def stagedRecord (s : State) (off : Nat) : List Byte := memReadAll s.mem (0x8000 + off) 610

def recordedKinds (rec : List Byte) : List VoucherKind := (List.range 16).map (fun n => kindOfBytes (kindBytesAt rec n))

theorem configureOp_taken (taken : configureRefusal s (param2 r 0) = none) : configureOp r s =
    completeSlot r.slot .ok [BitVec.ofNat 8 ((clampMarks (stagedRecord s (param2 r 0))).filter id).length,
        BitVec.ofNat 8 (bitsValue (clampMarks (stagedRecord s (param2 r 0))))]
      (takeShares s.config (configurationOf (stagedRecord s (param2 r 0))) (recordedKinds (stagedRecord s (param2 r 0)))
        { s with config := some (configurationOf (stagedRecord s (param2 r 0))) }) := by
  unfold configureOp
  dsimp only
  rw [taken]
  rfl

end

/-- R184, R185: CONFIGURE of a record that passes its checks. -/
theorem exec_configure_taken {s : State} {r : Request} (handed : Handed .configure r s) (inside : param2 r 0 + 610 ≤ 8192)
    (free : s.config = none ∨ ((∀ c ∈ s.basketUnit.baskets, c.state = .free) ∧ ∀ p ∈ s.print.printers, p.queue = []))
    (sound : firstFault (stagedRecord s (param2 r 0)) = none) : 
    let bytes := stagedRecord s (param2 r 0)
    let u := takeShares s.config (configurationOf bytes) (recordedKinds bytes) { taken r s with config := some (configurationOf bytes) }
    exec .configure s = .next (completeSlot r.slot .ok [BitVec.ofNat 8 ((clampMarks bytes).filter id).length,
        BitVec.ofNat 8 (bitsValue (clampMarks bytes))] u) ∧
      u.config = some (configurationOf bytes) ∧
      SharesTaken s.config (configurationOf bytes) (recordedKinds bytes) { taken r s with config := some (configurationOf bytes) } u := by
  have shares := takeShares_spec s.config (configurationOf (stagedRecord s (param2 r 0))) (recordedKinds (stagedRecord s (param2 r 0)))
    { taken r s with config := some (configurationOf (stagedRecord s (param2 r 0))) }
  refine ⟨(exec_configure handed).trans (next_congr (configureOp_taken (s := taken r s) ?_)), by rw [shares.frame], shares⟩
  rw [configureRefusal_inside inside, if_neg (unused_iff (s := taken r s).mpr free),
    show firstFault (memReadAll (taken r s).mem (0x8000 + param2 r 0) 610) = none from sound]
  rfl

theorem recordedKinds_getD (m : List Host.Cell) (a : Nat) {n : Nat} (inside : n < 16) :
    (recordedKinds (memReadAll m a 610)).getD n .undefinedKind =
      ⟨textOf (memReadAll m (a + 98 + 32 * n) 16), leValue (memReadAll m (a + (114 + 32 * n)) 2),
        leValue (memReadAll m (a + (116 + 32 * n)) 1)⟩ := by
  rw [← kindOfBytes_record m a inside, recordedKinds, List.getD_eq_getElem?_getD, List.getElem?_map, List.getElem?_range inside]
  rfl

theorem enables_eq {c : Configuration} {m : Nat} {x : LineParams} {b : Bool} (params : c.counters[m]? = some (x, b)) : enables c m = b := by
  rw [enables, params]
  rfl

theorem counter_eq_with {x y : Counter} {enabled : Bool} {changes : Nat} (moved : x = { y with enabled := enabled, changes := changes }) :
    x = { y with enabled := x.enabled, changes := x.changes } := by
  subst moved
  rfl

theorem foyer_eq_with {x : Foyer} {factors mask : FactorSet} (hasFactors : x.factors = factors) (hasMask : x.mask = mask) :
    x = { x with mask := mask, factors := factors } := by
  rw [← hasFactors, ← hasMask]

theorem reversesOn_none {l : List Nat} {s : State} (idle : ∀ x ∈ s.lines, x.reversing = none) : reversesOn l s = [] := by
  refine List.filterMap_eq_nil_iff.mpr fun n _ => ?_
  have none' : (lineAt s n).reversing = none := by
    rw [lineAt, List.getD_eq_getElem?_getD]
    cases found : s.lines[n]? with
    | none => rfl
    | some x => exact idle x (List.mem_of_getElem? found)
  rw [none', Option.map_none]

/-! What the shares leave, in the terms of the statement. -/

section
variable {old : Option Configuration} {c : Configuration} {kinds : List VoucherKind} {s u : State} (shares : SharesTaken old c kinds s u)
include shares

theorem SharesTaken.lines_spec (size : s.lines.length = 12) : ∀ n < 12,
    ((∀ o, old = some o → o.lines[n]? ≠ c.lines[n]?) → lineAt u n = startedLine s.showUnit.runTime (lineAt s n)) ∧
    (¬ (∀ o, old = some o → o.lines[n]? ≠ c.lines[n]?) → lineAt u n = lineAt s n) := by
  intro n small
  rw [← mem_changes (f := Configuration.lines) small, shares.lines n (small.trans_eq size.symm)]
  exact ⟨fun fresh => if_pos fresh, fun kept => if_neg kept⟩

theorem SharesTaken.wire_spec : ∃ sent, u.wire = s.wire ++ sent ∧
    ∀ p < 12, (Output.printerByte p false 0 ∈ sent ↔ ∀ o, old = some o → o.links[p]? ≠ c.links[p]?) := by
  obtain ⟨-, -, last, only, wire⟩ := shares.ended
  obtain ⟨first, wire', only'⟩ := sendsInterrupts_faulted (reversesOn (changes 12 old c Configuration.lines) s) s
  refine ⟨first ++ (changes 12 old c Configuration.links).map (fun p => .printerByte p false 0) ++ last, ?_, fun p small => ?_⟩
  · simp only [wire, wire', List.append_assoc]
  · rw [← mem_changes (f := Configuration.links) small]
    have not : ∀ {l : List Output}, (∀ o ∈ l, o = .interrupt) → Output.printerByte p false 0 ∉ l := fun all listed =>
      nomatch all _ listed
    simp only [List.mem_append, List.mem_map, not only, not only', or_false, false_or, Output.printerByte.injEq, and_true,
      exists_eq_right]

theorem SharesTaken.receivers_spec {enabled : Bool} {m : Nat} (size : s.voucherUnit.receivers.length = 4) (small : m < 4)
    (enables' : enables c m = enabled) :
    ((∀ o, old = some o → o.counters[m]? ≠ c.counters[m]?) → receiverAt u m = keptCodes enabled (emptyCode (receiverAt s m))) ∧
    (¬ (∀ o, old = some o → o.counters[m]? ≠ c.counters[m]?) → receiverAt u m = keptCodes enabled (receiverAt s m)) := by
  rw [← mem_changes (f := Configuration.counters) small, shares.receivers size m small, enables']
  exact ⟨fun fresh => by rw [if_pos fresh], fun kept => by rw [if_neg kept]⟩

theorem SharesTaken.printers_spec (size : s.print.printers.length = 12) {p : Nat} (small : p < 12) :
    ((∀ o, old = some o → o.links[p]? ≠ c.links[p]?) → printerAt u p = restartedPrinter (printerAt s p)) ∧
    (¬ (∀ o, old = some o → o.links[p]? ≠ c.links[p]?) → printerAt u p = printerAt s p) := by
  rw [← mem_changes (f := Configuration.links) small, shares.printers p (small.trans_eq size.symm)]
  exact ⟨fun fresh => by rw [if_pos fresh], fun kept => by rw [if_neg kept]⟩

end

/-- Settles O20: the record, its shares, and the refusals. -/
theorem configurePutsTheClampedRecordInForce : Obligations.ConfigurePutsTheClampedRecordInForce := by
  unfold Obligations.ConfigurePutsTheClampedRecordInForce
  refine ⟨?_, fun rec => ⟨fun o => firstFault_eq_some, firstFault_eq_none⟩, ?_⟩
  · intro s r handed off v inside free sound four
    obtain ⟨run, config, shares⟩ := exec_configure_taken handed inside free sound
    have marks := clampMarks_eq s.mem (0x8000 + off)
    have params := configurationOf_params s.mem (0x8000 + off)
    have fields := configurationOf_fields s.mem (0x8000 + off)
    have kinds : ∀ n, n < 16 → _ := fun n small => recordedKinds_getD s.mem (0x8000 + off) small
    rw [show stagedRecord s (param2 r 0) = memReadAll s.mem (0x8000 + off) 610 from rfl] at run config shares
    rw [marks] at run
    generalize configurationOf (memReadAll s.mem (0x8000 + off) 610) = c at run config shares params fields
    generalize takeShares s.config c (recordedKinds (memReadAll s.mem (0x8000 + off) 610)) { taken r s with config := some c } = u
      at run config shares
    refine ⟨c, u, run, config, fields, params.1, params.2.1, params.2.2, fun n small => ?_, fun m small => ?_,
      shares.supply.1, shares.supply.2.1, ?_, ⟨?_, shares.kiosks, fun m small => ?_⟩, ?_, ?_, ?_⟩
    · rw [kindAt, shares.frame]
      exact kinds n small
    · rw [shares.counters four m small]
      exact enables_eq (params.2.2 m small)
    · obtain ⟨mem, board, sent, -, wire⟩ := shares.ended
      intro ended z
      have same : ended = reversesOn (changes 12 s.config c Configuration.lines) { taken r s with config := some c } :=
        reversesOn_changes s.config c { taken r s with config := some c }
      rw [show z = faulted ended { taken r s with config := some c } from rfl, same]
      exact ⟨mem, board, _, (wire.trans (List.append_assoc ..)).symm⟩
    · obtain ⟨-, -, factors, mask⟩ := shares.supply
      exact foyer_eq_with factors mask
    · exact counter_eq_with (shares.counters four m small)
    · conv_rhs => rw [shares.frame]
      exact shares.frame
    · intro idle
      rw [shares.ended.1, reversesOn_none (s := { taken r s with config := some c }) idle]
      rfl
    · refine ⟨by rw [shares.frame]; rfl, by rw [shares.frame]; rfl, by rw [shares.frame]; rfl, by rw [shares.frame]; rfl,
        by rw [shares.frame]; rfl, by rw [shares.frame]; rfl, fun size => shares.lines_spec size, fun size => ?_, fun size m small => ?_⟩
      · obtain ⟨sent, wire, polled⟩ := shares.wire_spec
        refine ⟨sent, wire, fun p small => ?_⟩
        intro fresh q started
        obtain ⟨starts, stays⟩ := shares.printers_spec size small
        refine ⟨polled p small, stays, fun new rests => (starts new).trans ?_, fun y rest new shape active => (starts new).trans ?_⟩
        · exact congrArg absented (requeueHead_kept (q := q) rests)
        · exact congrArg absented (requeueHead_active (q := q) shape active)
      · obtain ⟨starts, stays⟩ := shares.receivers_spec size small (enables_eq (params.2.2 m small))
        intro fresh kept
        have codes : ∀ x : Receiver, x.scanned = (receiverAt s m).scanned →
            keptCodes (v (85 + 4 * m) 1 == 1) x = { x with scanned := kept } := fun x same => by
          simp only [keptCodes, same, beq_iff_eq]
          rfl
        exact ⟨fun new => (starts new).trans (codes _ rfl), fun old => (stays old).trans (codes _ rfl)⟩
  · intro s r handed
    refine ⟨fun past => ?_, fun inside configured used => ?_, fun o inside free found => ?_⟩
    · exact (exec_configure handed).trans (next_congr (configureOp_refused (configureRefusal_outside past)))
    · exact (exec_configure handed).trans (next_congr (configureOp_refused
        ((configureRefusal_inside inside).trans (if_pos ⟨configured, used⟩))))
    · refine (exec_configure handed).trans (next_congr (configureOp_refused ?_))
      rw [configureRefusal_inside inside, if_neg (unused_iff (s := taken r s).mpr free), show (taken r s).mem = s.mem from rfl, found]
      rfl

end Sys2Proof.Machine
end

section
/-! What the station cells derive (R48, R163, R164), but for the conditions of kiosks that are still to be derived anew, and the updates
that keep it. -/

namespace Sys2Proof.Machine

/-! ### The law, but for some kiosks' conditions -/

/-- R48: a basket that a kiosk may name as its current one. -/
abbrev Standing (c : Basket) : Prop := Selling c ∨ c.state = .printing ∨ c.state = .collect

/-- R164: the lamps of a kiosk, and of a counter, have the functions in force. -/
def KioskLit (bindings : List Binding) (c : Kiosk) : Prop :=
  refreshLamp (bindings[conditionNum c.condition]?.map Binding.green) c.green = c.green ∧
    refreshLamp (bindings[conditionNum c.condition]?.map Binding.red) c.red = c.red

def CounterLit (bindings : List Binding) (c : Counter) : Prop :=
  refreshLamp (bindings[showingNum c.showing]?.map Binding.green) c.green = c.green ∧
    refreshLamp (bindings[showingNum c.showing]?.map Binding.red) c.red = c.red

/-- The law of the station cells while the conditions of the kiosks `out` are still to be derived anew. -/
structure StationLawBut (out : Nat → Prop) (s : State) : Prop where
  kioskCount : s.station.kiosks.length = 12
  counterCount : s.station.counters.length = 4
  basketCount : s.basketUnit.baskets.length = 24
  bindings : s.station.kioskBindings.length = 9 ∧ s.station.counterBindings.length = 8
  currents : ∀ k < 12, ∀ b, (kioskAt s k).current = some b → b < 24 ∧ (basketAt s b).kiosk = k ∧ Standing (basketAt s b)
  conditions : ∀ k < 12, ¬ out k → (kioskAt s k).condition = conditionOf s k
  kioskLamps : ∀ k < 12, KioskLit s.station.kioskBindings (kioskAt s k)
  counterLamps : ∀ m < 4, CounterLit s.station.counterBindings (counterAt s m)

theorem conditionOf_eq (s : State) (k : Nat) : conditionOf s k =
    if (kioskAt s k).service = true then .service
    else if (printerAt s k).state = .stalled ∨ (printerAt s k).state = .absent then .stalled
    else match (kioskAt s k).current.map (fun b => (basketAt s b).state) with
      | some .selecting => .selecting
      | some .paying => .paying
      | some .unresolved => .paying
      | some .printing => .printing
      | some .collect => .collect
      | some _ => .idle
      | none =>
        if s.station.foyer.low = true then .wait else if (senseAt s k 0).accepted = true then .greet else .idle := by
  rw [conditionOf]
  cases (kioskAt s k).current with
  | none => rfl
  | some b =>
    simp only [Option.map_some]
    cases (basketAt s b).state <;> rfl

theorem refreshLamp_eq_iff {l : Lamp} {f : LampFunction} : refreshLamp (some f) l = l ↔
    (∀ line, l.follow = some line → l.function = .follow line ∧ l.source = .follow) ∧
    (∀ g d, l.follow = none → l.override = some (g, d) → l.function = g ∧ l.source = .override) ∧
    (l.follow = none → l.override = none → l.function = f ∧ l.source = .binding) := by
  obtain ⟨follow, override, function, source⟩ := l
  cases follow with
  | some line => simp [refreshLamp, lampInForce, eq_comm]
  | none =>
    cases override with
    | some x =>
      obtain ⟨g, d⟩ := x
      simp [refreshLamp, lampInForce, eq_comm]
    | none => simp [refreshLamp, lampInForce, eq_comm]

theorem conditionNum_lt (c : Condition) : conditionNum c < 9 := by cases c <;> decide

theorem showingNum_lt (w : Showing) : showingNum w < 8 := by cases w <;> decide

/-- What R163 and R164 say, in the terms of the model's functions. -/
theorem stationLaw_iff {s : State} (shaped : Shaped s) : StationLaw s ↔ StationLawBut (fun _ => False) s := by
  have kioskEntry : ∀ c, ∃ e, s.station.kioskBindings[conditionNum c]? = some e := fun c =>
    ⟨_, List.getElem?_eq_getElem ((conditionNum_lt c).trans_eq shaped.kioskBindings.symm)⟩
  have counterEntry : ∀ w, ∃ e, s.station.counterBindings[showingNum w]? = some e := fun w =>
    ⟨_, List.getElem?_eq_getElem ((showingNum_lt w).trans_eq shaped.counterBindings.symm)⟩
  constructor
  · rintro ⟨currents, conditions, lamps⟩
    refine ⟨shaped.kiosks, shaped.counters, shaped.baskets, ⟨shaped.kioskBindings, shaped.counterBindings⟩, currents,
      fun k inside _ => (conditions k inside).trans (conditionOf_eq s k).symm, fun k inside => ?_, fun m inside => ?_⟩
    · obtain ⟨e, entry⟩ := kioskEntry (kioskAt s k).condition
      obtain ⟨follows, overrides, bound⟩ := lamps (.kiosk ⟨k, inside⟩ .green)
      obtain ⟨follows', overrides', bound'⟩ := lamps (.kiosk ⟨k, inside⟩ .red)
      rw [KioskLit, entry]
      exact ⟨refreshLamp_eq_iff.mpr ⟨follows, overrides, fun a b => bound e a b entry⟩,
        refreshLamp_eq_iff.mpr ⟨follows', overrides', fun a b => bound' e a b entry⟩⟩
    · obtain ⟨e, entry⟩ := counterEntry (counterAt s m).showing
      obtain ⟨follows, overrides, bound⟩ := lamps (.counter ⟨m, inside⟩ .green)
      obtain ⟨follows', overrides', bound'⟩ := lamps (.counter ⟨m, inside⟩ .red)
      rw [CounterLit, entry]
      exact ⟨refreshLamp_eq_iff.mpr ⟨follows, overrides, fun a b => bound e a b entry⟩,
        refreshLamp_eq_iff.mpr ⟨follows', overrides', fun a b => bound' e a b entry⟩⟩
  · intro law
    refine ⟨law.currents, fun k inside => (law.conditions k inside not_false).trans (conditionOf_eq s k), fun l => ?_⟩
    cases l with
    | kiosk k colour =>
      obtain ⟨green, red⟩ := law.kioskLamps k k.isLt
      obtain ⟨e, entry⟩ := kioskEntry (kioskAt s k).condition
      rw [entry, Option.map_some, refreshLamp_eq_iff] at green red
      cases colour with
      | green => exact ⟨green.1, green.2.1, fun e' a b entry' => Option.some.inj (entry.symm.trans entry') ▸ green.2.2 a b⟩
      | red => exact ⟨red.1, red.2.1, fun e' a b entry' => Option.some.inj (entry.symm.trans entry') ▸ red.2.2 a b⟩
    | counter m colour =>
      obtain ⟨green, red⟩ := law.counterLamps m m.isLt
      obtain ⟨e, entry⟩ := counterEntry (counterAt s m).showing
      rw [entry, Option.map_some, refreshLamp_eq_iff] at green red
      cases colour with
      | green => exact ⟨green.1, green.2.1, fun e' a b entry' => Option.some.inj (entry.symm.trans entry') ▸ green.2.2 a b⟩
      | red => exact ⟨red.1, red.2.1, fun e' a b entry' => Option.some.inj (entry.symm.trans entry') ▸ red.2.2 a b⟩

/-! ### What the law reads -/

/-- A kiosk cell that differs from another in no field the law reads. -/
def KioskSame (a b : Kiosk) : Prop :=
  a.condition = b.condition ∧ a.service = b.service ∧ a.current = b.current ∧ a.green = b.green ∧ a.red = b.red ∧
    (a.senses.getD 0 (.atLevel false)).accepted = (b.senses.getD 0 (.atLevel false)).accepted

def CounterSame (a b : Counter) : Prop := a.showing = b.showing ∧ a.green = b.green ∧ a.red = b.red

/-- R45: the basket's state and kiosk, which the law reads. -/
def BasketSame (a b : Basket) : Prop := a.state = b.state ∧ a.kiosk = b.kiosk

/-- Two states differ in nothing the law reads. -/
structure SameLook (s t : State) : Prop where
  kioskCount : t.station.kiosks.length = s.station.kiosks.length
  counterCount : t.station.counters.length = s.station.counters.length
  basketCount : t.basketUnit.baskets.length = s.basketUnit.baskets.length
  kioskBindings : t.station.kioskBindings = s.station.kioskBindings
  counterBindings : t.station.counterBindings = s.station.counterBindings
  low : t.station.foyer.low = s.station.foyer.low
  kiosk : ∀ k, KioskSame (kioskAt t k) (kioskAt s k)
  counter : ∀ m, CounterSame (counterAt t m) (counterAt s m)
  printer : ∀ p, (printerAt t p).state = (printerAt s p).state
  basket : ∀ b, BasketSame (basketAt t b) (basketAt s b)

theorem KioskSame.refl (a : Kiosk) : KioskSame a a := ⟨rfl, rfl, rfl, rfl, rfl, rfl⟩

theorem CounterSame.refl (a : Counter) : CounterSame a a := ⟨rfl, rfl, rfl⟩

theorem BasketSame.refl (a : Basket) : BasketSame a a := ⟨rfl, rfl⟩

theorem SameLook.refl (s : State) : SameLook s s :=
  ⟨rfl, rfl, rfl, rfl, rfl, rfl, fun _ => .refl _, fun _ => .refl _, fun _ => rfl, fun _ => .refl _⟩

theorem standing_congr {a b : Basket} (same : a.state = b.state) : Standing a ↔ Standing b := by
  rw [Standing, Standing, Selling, Selling, same]

theorem SameLook.condition {s t : State} (look : SameLook s t) (k : Nat) : conditionOf t k = conditionOf s k := by
  obtain ⟨-, service, current, -, -, greet⟩ := look.kiosk k
  have states : (fun b => (basketAt t b).state) = fun b => (basketAt s b).state := funext fun b => (look.basket b).1
  have accepted : (senseAt t k 0).accepted = (senseAt s k 0).accepted := greet
  rw [conditionOf_eq, conditionOf_eq, service, current, states, look.printer, look.low, accepted]

section
variable {out : Nat → Prop} {s t : State} (h : StationLawBut out s)
include h

/-- The law is kept where nothing it reads moves. -/
theorem StationLawBut.congr (look : SameLook s t) : StationLawBut out t where
  kioskCount := look.kioskCount.trans h.kioskCount
  counterCount := look.counterCount.trans h.counterCount
  basketCount := look.basketCount.trans h.basketCount
  bindings := by
    rw [look.kioskBindings, look.counterBindings]
    exact h.bindings
  currents k inside b current := by
    obtain ⟨small, kiosk, standing⟩ := h.currents k inside b ((look.kiosk k).2.2.1 ▸ current)
    exact ⟨small, (look.basket b).2.trans kiosk, (standing_congr (look.basket b).1).mpr standing⟩
  conditions k inside settled := by
    rw [(look.kiosk k).1, look.condition]
    exact h.conditions k inside settled
  kioskLamps k inside := by
    obtain ⟨condition, -, -, green, red, -⟩ := look.kiosk k
    rw [KioskLit, condition, green, red, look.kioskBindings]
    exact h.kioskLamps k inside
  counterLamps m inside := by
    obtain ⟨showing, green, red⟩ := look.counter m
    rw [CounterLit, showing, green, red, look.counterBindings]
    exact h.counterLamps m inside

theorem StationLawBut.weaken {out' : Nat → Prop} (more : ∀ k, out k → out' k) : StationLawBut out' s :=
  { h with conditions := fun k inside settled => h.conditions k inside (mt (more k) settled) }

/-- The law reads the station's cells, the printers and the baskets alone. -/
theorem StationLawBut.of_units (station : t.station = s.station) (print : t.print.printers = s.print.printers)
    (baskets : t.basketUnit.baskets = s.basketUnit.baskets) : StationLawBut out t := by
  refine h.congr ⟨by rw [station], by rw [station], by rw [baskets], by rw [station], by rw [station], by rw [station], fun k => ?_, fun m => ?_,
    fun p => ?_, fun b => ?_⟩
  · rw [kioskAt, station]; exact .refl _
  · rw [counterAt, station]; exact .refl _
  · rw [printerAt, print]; rfl
  · rw [basketAt, baskets]; exact .refl _

end

end Sys2Proof.Machine
end

section
/-! The updates of a kiosk's cell, a counter's cell, a printer and a basket, in what they do to the station's law. -/

namespace Sys2Proof.Machine

/-- An entry of a table after an update: the old one, or the updated one at its place. -/
theorem getD_updAt {α : Type} (l : List α) (i j : Nat) (f : α → α) (d : α) :
    (updAt l i f).getD j d = l.getD j d ∨ j = i ∧ (updAt l i f).getD j d = f (l.getD j d) := by
  by_cases apart : i = j
  · subst apart
    by_cases inside : i < l.length
    · exact .inr ⟨rfl, updAt_getD_self _ _ _ _ inside⟩
    · left
      have : l[i]? = none := List.getElem?_eq_none (Nat.le_of_not_lt inside)
      rw [updAt, this]
  · left
    rw [List.getD_eq_getElem?_getD, getElem?_updAt_other _ _ (Ne.symm apart), List.getD_eq_getElem?_getD]

/-- What an update leaves of an entry is left of every entry of its table. -/
theorem getD_updAt_of {α : Type} {R : α → α → Prop} {i : Nat} {f : α → α} (same : ∀ x, R (f x) x) (refl : ∀ x, R x x) (l : List α)
    (j : Nat) (d : α) : R ((updAt l i f).getD j d) (l.getD j d) := by
  rcases getD_updAt l i j f d with kept | ⟨-, written⟩
  · rw [kept]; exact refl _
  · rw [written]; exact same _

theorem kioskAt_updKiosk_or (k j : Nat) (f : Kiosk → Kiosk) (s : State) : kioskAt (updKiosk k f s) j = kioskAt s j ∨
    j = k ∧ kioskAt (updKiosk k f s) j = { f (kioskAt s j) with changes := bump (kioskAt s j).changes } :=
  getD_updAt ..

theorem counterAt_updCounter_or (m j : Nat) (f : Counter → Counter) (s : State) : counterAt (updCounter m f s) j = counterAt s j ∨
    j = m ∧ counterAt (updCounter m f s) j = { f (counterAt s j) with changes := bump (counterAt s j).changes } :=
  getD_updAt ..

theorem printerAt_setPrinter_or (p j : Nat) (f : Printer → Printer) (s : State) : printerAt (setPrinter p f s) j = printerAt s j ∨
    j = p ∧ printerAt (setPrinter p f s) j = f (printerAt s j) :=
  getD_updAt ..

theorem basketAt_setBasket_or (b j : Nat) (f : Basket → Basket) (s : State) : basketAt (setBasket b f s) j = basketAt s j ∨
    j = b ∧ basketAt (setBasket b f s) j = f (basketAt s j) :=
  getD_updAt ..

namespace StationLawBut

section
variable {out : Nat → Prop} {t : State} (h : StationLawBut out t)
include h

/-! ### Updates that leave what the law reads -/

theorem sameKiosk {k : Nat} {f : Kiosk → Kiosk} (same : ∀ c, KioskSame (f c) c) : StationLawBut out (updKiosk k f t) :=
  h.congr { SameLook.refl t with
    kioskCount := updAt_length ..
    kiosk := fun j => getD_updAt_of (R := KioskSame) (f := fun c => { f c with changes := bump c.changes }) same .refl _ j _ }

theorem sameCounter {m : Nat} {f : Counter → Counter} (same : ∀ c, CounterSame (f c) c) : StationLawBut out (updCounter m f t) :=
  h.congr { SameLook.refl t with
    counterCount := updAt_length ..
    counter := fun j => getD_updAt_of (R := CounterSame) (f := fun c => { f c with changes := bump c.changes }) same .refl _ j _ }

theorem sameFoyer {f : Foyer → Foyer} (same : (f t.station.foyer).low = t.station.foyer.low) : StationLawBut out (updFoyer f t) :=
  h.congr { SameLook.refl t with low := same }

theorem sameQueue {p : Nat} {f : Printer → Printer} (same : ∀ x, (f x).state = x.state) : StationLawBut out (setPrinter p f t) :=
  h.congr { SameLook.refl t with printer := fun j => getD_updAt_of (R := fun x y : Printer => x.state = y.state) same (fun _ => rfl) _ j _ }

theorem samePrinter {p : Nat} {f : Printer → Printer} (same : ∀ x, (f x).state = x.state) : StationLawBut out (updPrinter p f t) :=
  (h.sameQueue same).sameKiosk .refl

theorem sameBasket {b : Nat} {f : Basket → Basket} (same : ∀ c, BasketSame (f c) c) : StationLawBut out (setBasket b f t) :=
  h.congr { SameLook.refl t with
    basketCount := updAt_length ..
    basket := fun j => getD_updAt_of (R := BasketSame) same .refl _ j _ }

/-! ### Updates of a kiosk whose condition is to be derived anew -/

theorem kioskWritten {k : Nat} {f : Kiosk → Kiosk} (mine : out k)
    (lit : KioskLit t.station.kioskBindings (kioskAt t k) → KioskLit t.station.kioskBindings (f (kioskAt t k)))
    (current : ∀ b, (f (kioskAt t k)).current = some b →
      (kioskAt t k).current = some b ∨ b < 24 ∧ (basketAt t b).kiosk = k ∧ Standing (basketAt t b)) :
    StationLawBut out (updKiosk k f t) := by
  refine { h with kioskCount := (updAt_length ..).trans h.kioskCount, currents := ?_, conditions := ?_, kioskLamps := ?_ }
  · intro j inside b named
    rcases kioskAt_updKiosk_or k j f t with kept | ⟨rfl, written⟩
    · exact h.currents j inside b (kept ▸ named)
    · rcases current b (by rw [written] at named; exact named) with stood | found
      exacts [h.currents _ inside b stood, found]
  · intro j inside settled
    have apart : k ≠ j := fun same => settled (same ▸ mine)
    have kept := kioskAt_updKiosk_other t k j f apart
    rw [kept, h.conditions j inside settled]
    exact (conditionOf_congr (s := t) (t := updKiosk k f t) (by rw [kept]) (by rw [kept]) (by rw [kept]) rfl rfl rfl).symm
  · intro j inside
    rcases kioskAt_updKiosk_or k j f t with kept | ⟨rfl, written⟩
    · rw [kept]; exact h.kioskLamps j inside
    · rw [written]; exact lit (h.kioskLamps _ inside)

theorem kioskCurrent {k : Nat} {current : Option Nat} (mine : out k)
    (own : ∀ b, current = some b → b < 24 ∧ (basketAt t b).kiosk = k ∧ Standing (basketAt t b)) :
    StationLawBut out (updKiosk k (fun x => { x with current := current }) t) :=
  h.kioskWritten mine id fun b named => .inr (own b named)

/-- R163, R164: a kiosk's condition derived anew, and its lamps' functions in force with it. -/
theorem refreshedAt {k : Nat} : StationLawBut (fun j => out j ∧ j ≠ k) (refreshKiosk k t) := by
  have wide : StationLawBut (fun j => out j ∨ j = k) t := h.weaken fun _ => .inl
  have written := wide.kioskWritten (k := k) (f := fun c => { c with
    condition := conditionOf t k
    green := refreshLamp ((kioskBinding t (conditionOf t k)).map Binding.green) c.green
    red := refreshLamp ((kioskBinding t (conditionOf t k)).map Binding.red) c.red }) (.inr rfl)
    (fun _ => ⟨refreshLamp_twice .., refreshLamp_twice ..⟩) fun _ named => .inl named
  refine { written with conditions := fun j inside settled => ?_ }
  by_cases same : j = k
  · subst same
    exact condition_refreshKiosk (by rw [h.kioskCount]; exact inside)
  · exact written.conditions j inside fun found => found.elim (fun o => settled ⟨o, same⟩) same

theorem refreshKiosk {k : Nat} : StationLawBut out (refreshKiosk k t) := h.refreshedAt.weaken fun _ => And.left

end

section
variable {out : Nat → Prop} {t : State}

/-- R163: a kiosk is settled once its condition has been derived anew. -/
theorem refreshed {k : Nat} (h : StationLawBut (fun j => out j ∨ j = k) t) : StationLawBut out (Machine.refreshKiosk k t) :=
  h.refreshedAt.weaken fun _ found => found.1.resolve_right found.2

theorem refreshKiosks (h : StationLawBut (fun _ => True) t) : StationLawBut out (refreshKiosks t) := by
  have all : ∀ l : List Nat, ∀ {u : State}, StationLawBut (fun j => j ∉ (List.range 12) ∨ j ∈ l) u →
      StationLawBut out (forEach l Machine.refreshKiosk u) := fun l => by
    induction l with
    | nil =>
      intro u g
      exact { g with conditions := fun k inside _ => g.conditions k inside (by simp [inside]) }
    | cons n l ih =>
      intro u g
      refine ih (g.refreshedAt.weaken fun j found => ?_)
      exact found.1.imp_right fun mem => (List.mem_cons.mp mem).resolve_left found.2
  exact all _ (h.weaken fun j _ => (em (j ∈ List.range 12)).symm)

end

section
variable {out : Nat → Prop} {t : State} (h : StationLawBut out t)
include h

/-- A printer updated whose kiosk's condition is to be derived anew. -/
theorem queueWritten {p : Nat} {f : Printer → Printer} (mine : out p) : StationLawBut out (setPrinter p f t) := by
  refine { h with conditions := fun j inside settled => (h.conditions j inside settled).trans ?_ }
  exact (conditionOf_congr (s := t) (t := setPrinter p f t) rfl rfl rfl (printerAt_setPrinter_other t p j f fun same => settled (same ▸ mine)) rfl rfl).symm

theorem printerWritten {p : Nat} {f : Printer → Printer} (mine : out p) : StationLawBut out (updPrinter p f t) :=
  (h.queueWritten mine).sameKiosk .refl

/-- A basket updated, the conditions of the kiosks that name it to be derived anew. -/
theorem basketWritten {b : Nat} {f : Basket → Basket} (named : ∀ k < 12, (kioskAt t k).current = some b →
    out k ∧ Standing (f (basketAt t b)) ∧ (f (basketAt t b)).kiosk = k) : StationLawBut out (setBasket b f t) := by
  refine { h with basketCount := (updAt_length ..).trans h.basketCount, currents := ?_, conditions := ?_ }
  · intro k inside c current
    obtain ⟨small, kiosk, standing⟩ := h.currents k inside c current
    refine ⟨small, ?_⟩
    rcases basketAt_setBasket_or b c f t with kept | ⟨rfl, written⟩
    · rw [kept]; exact ⟨kiosk, standing⟩
    · obtain ⟨-, stands, own⟩ := named k inside current
      rw [written]; exact ⟨own, stands⟩
  · intro k inside settled
    refine (h.conditions k inside settled).trans ?_
    have states : (kioskAt t k).current.map (fun c => (basketAt (setBasket b f t) c).state) =
        (kioskAt t k).current.map (fun c => (basketAt t c).state) := by
      cases current : (kioskAt t k).current with
      | none => rfl
      | some c =>
        rcases basketAt_setBasket_or b c f t with kept | ⟨rfl, -⟩
        · rw [Option.map_some, Option.map_some, kept]
        · exact absurd (named k inside current).1 settled
    rw [conditionOf_eq, conditionOf_eq]
    show _ = if (kioskAt t k).service = true then _ else if (printerAt t k).state = _ ∨ _ then _ else
      match (kioskAt t k).current.map (fun c => (basketAt (setBasket b f t) c).state) with
      | some .selecting => _ | some .paying => _ | some .unresolved => _ | some .printing => _ | some .collect => _
      | some _ => _ | none => _
    rw [states] <;> rfl

/-- A basket moved to a state from SELECTING to COLLECT, its kiosk left. -/
theorem basketMoved {b : Nat} {f : Basket → Basket} (mine : out (basketAt t b).kiosk)
    (kiosk : (f (basketAt t b)).kiosk = (basketAt t b).kiosk) (standing : Standing (f (basketAt t b))) :
    StationLawBut out (setBasket b f t) :=
  h.basketWritten fun k inside current => by
    obtain ⟨-, own, -⟩ := h.currents k inside b current
    exact ⟨own ▸ mine, standing, kiosk.trans own⟩

/-- A basket no kiosk names: one that is not from SELECTING to COLLECT. -/
theorem basketSpare {b : Nat} {f : Basket → Basket} (spare : ¬ Standing (basketAt t b)) : StationLawBut out (setBasket b f t) :=
  h.basketWritten fun k inside current => absurd (h.currents k inside b current).2.2 spare

end

end StationLawBut
end Sys2Proof.Machine
end

section
/-! What the events of the station, the payment, the print and the basket unit do to the station's law (R163). -/

namespace Sys2Proof.Machine
namespace StationLawBut
variable {out : Nat → Prop} {t : State} (h : StationLawBut out t)
include h

/-! ### Factors, slots and waiting -/

theorem setFactors {cell : CellId} {factors mask : FactorSet} : StationLawBut out (setFactors cell factors mask t) := by
  cases cell with
  | kiosk k => exact h.sameKiosk .refl
  | counter m => exact h.sameCounter .refl
  | foyer => exact h.sameFoyer (f := fun x => { x with factors := factors, mask := mask }) rfl
theorem raiseFactor {cell : CellId} {f : FactorSet} : StationLawBut out (raiseFactor cell f t) := by
  rw [raiseFactor_eq]
  exact h.setFactors.of_units rfl rfl rfl
theorem writeMask {cell : CellId} {value : FactorSet} : StationLawBut out (writeMask cell value t) :=
  of_units (s := Machine.setFactors cell (factorsOf t cell) (value &&& namedFactors cell) t) h.setFactors (by simp [Machine.writeMask]) (by simp [Machine.writeMask]) (by simp [Machine.writeMask])
theorem acknowledge {cell : CellId} {value : FactorSet} : StationLawBut out (acknowledge cell value t) :=
  of_units (s := Machine.setFactors cell (factorsOf t cell &&& ~~~value) (maskOf t cell) t) h.setFactors (by simp [Machine.acknowledge]) (by simp [Machine.acknowledge]) (by simp [Machine.acknowledge])
theorem completeSlot {slot : Nat} {code : ResultCode} {fields : List Byte} : StationLawBut out (completeSlot slot code fields t) :=
  h.of_units (by simp) (by simp) (by simp)
theorem finish {slot : Nat} {code : ResultCode} : StationLawBut out (finish slot code t) := h.completeSlot
theorem waitFor {r : Resource} {e : WaitEvent} : StationLawBut out (waitFor r e t) := h.of_units rfl rfl rfl
theorem emit {o : Output} : StationLawBut out (emit o t) := h.of_units rfl rfl rfl
theorem addStat {off n : Nat} : StationLawBut out (addStat off n t) := h.of_units rfl rfl rfl
theorem maybe {c : Prop} [Decidable c] {u : State} (made : StationLawBut out u) : StationLawBut out (if c then u else t) := by
  split
  exacts [made, h]
theorem withRequest {k : RequestKind} {f : Request → State → State}
    (each : ∀ r u, StationLawBut out u → StationLawBut out (f r u)) : StationLawBut out (withRequest k f t) := by
  unfold Machine.withRequest
  split
  · split
    · exact each _ _ (h.of_units rfl rfl rfl)
    · exact h
  · exact h
theorem whenFree {r : Resource} {e : WaitEvent} {f : State → State} (free : StationLawBut out (f t)) :
    StationLawBut out (whenFree r e f t) := by
  unfold Machine.whenFree
  split
  exacts [h.waitFor, free]
theorem basketRequest {r : Request} {f : State → State} (free : StationLawBut out (f t)) :
    StationLawBut out (basketRequest r f t) := h.whenFree free
theorem overForEach {l : List Nat} {f : Nat → State → State}
    (each : ∀ n u, StationLawBut out u → StationLawBut out (f n u)) : StationLawBut out (forEach l f t) :=
  forEach_induct each l h

/-! ### The kiosks' and counters' cells -/

theorem refreshCounter {m : Nat} {f : Counter → Counter} :
    StationLawBut out (refreshCounter m (updCounter m f t)) := by
  refine { h with
    counterCount := (updAt_length ..).trans ((updAt_length ..).trans h.counterCount), counterLamps := fun j inside => ?_ }
  by_cases same : j = m
  · subst same
    obtain ⟨self, -, -⟩ := refreshCounter_updCounter_spec t j f (by rw [h.counterCount]; exact inside)
    rw [self]
    exact ⟨refreshLamp_twice .., refreshLamp_twice ..⟩
  · have kept : counterAt (Machine.refreshCounter m (updCounter m f t)) j = counterAt t j := by
      rw [counterAt_refreshCounter_other _ _ _ same, counterAt_updCounter_other _ _ _ _ (Ne.symm same)]
    rw [kept]
    exact h.counterLamps j inside
theorem showAnswer {m : Nat} {a : Showing} : StationLawBut out (showAnswer m a t) := h.refreshCounter
theorem answerExpires {m : Nat} : StationLawBut out (answerExpires m t) := h.maybe h.refreshCounter
theorem updSense {k l : Nat} {f : Sense → Sense} (kept : ∀ x, (f x).accepted = x.accepted) :
    StationLawBut out (updSense k l f t) :=
  h.sameKiosk fun c => ⟨rfl, rfl, rfl, rfl, rfl,
    getD_updAt_of (R := fun x y : Sense => x.accepted = y.accepted) kept (fun _ => rfl) c.senses 0 _⟩
theorem senseSet {k l : Nat} {w : FilterWidth} {e : EdgeSelect} :
    StationLawBut out (Machine.updSense k l (fun x => { x with width := w, edge := e }) t) := h.updSense fun _ => rfl
theorem senseRestarted {k l : Nat} {d : Option Deadline} :
    StationLawBut out (Machine.updSense k l (fun x => { x with deadline := d }) t) := h.updSense fun _ => rfl

/-- A kiosk whose lamps, condition and current basket are left. -/
theorem kioskMoved {k : Nat} {f : Kiosk → Kiosk} (mine : out k) (condition : ∀ c, (f c).condition = c.condition)
    (green : ∀ c, (f c).green = c.green) (red : ∀ c, (f c).red = c.red) (current : ∀ c, (f c).current = c.current) :
    StationLawBut out (updKiosk k f t) :=
  h.kioskWritten mine (fun lit => by rw [KioskLit, condition, green, red]; exact lit) fun b named => .inl (current _ ▸ named)

theorem acceptEdge {k l : Nat} : StationLawBut out (acceptEdge k l t) := by
  have wide : StationLawBut (fun j => out j ∨ j = k) t := h.weaken fun _ => .inl
  have written := wide.kioskMoved (k := k) (f := fun c => { c with
    senses := updAt c.senses l (fun x => { x with accepted := x.present, deadline := none }) }) (.inr rfl)
    (fun _ => rfl) (fun _ => rfl) (fun _ => rfl) fun _ => rfl
  have raised := written.maybe (c := edgeMatches (senseAt t k l).edge (senseAt t k l).present) (raiseFactor written (cell := kioskCell k) (f := kfSense l))
  have keyed := raised.maybe (c := l = 1) (raised.kioskMoved (k := k) (f := fun c => { c with service := (senseAt t k l).present })
    (.inr rfl) (fun _ => rfl) (fun _ => rfl) (fun _ => rfl) fun _ => rfl)
  exact refreshed (keyed.maybe (keyed.of_units rfl rfl rfl))
theorem senseChange {k l : Nat} {level : Bool} : StationLawBut out (senseChange k l level t) := by
  simp only [Machine.senseChange]
  have present := h.updSense (k := k) (l := l) (f := fun x => { x with present := level }) fun _ => rfl
  repeat' split
  exacts [h, present.senseRestarted, present.acceptEdge, present.senseRestarted]
theorem senseFilterDue {k l : Nat} : StationLawBut out (senseFilterDue k l t) := h.maybe h.acceptEdge
theorem setSenseOp {r : Request} : StationLawBut out (setSenseOp r t) := by
  simp only [Machine.setSenseOp]
  repeat' split
  exacts [h.senseSet.finish, h.senseSet.acceptEdge.finish, h.senseSet.senseRestarted.finish, h.finish, h.finish]

end StationLawBut
end Sys2Proof.Machine
end

section
/-! The lamps of the stations (R164 to R166): a lamp written and taken anew, and a table entry replaced, keep every lamp at its function
in force. -/

namespace Sys2Proof.Machine

/-- R164: a lamp has the function in force. -/
def Lit (s : State) (l : LampId) : Prop := refreshLamp (bindingFor s l) (lampAt s l) = lampAt s l

/-- A state whose station cells differ from another's in lamps and change counts alone. -/
def Relamped (s t : State) : Prop :=
  (∀ k, kioskAt t k = { (kioskAt s k) with
    green := (kioskAt t k).green, red := (kioskAt t k).red, changes := (kioskAt t k).changes }) ∧
  (∀ m, counterAt t m = { (counterAt s m) with
    green := (counterAt t m).green, red := (counterAt t m).red, changes := (counterAt t m).changes }) ∧
  t.station.kiosks.length = s.station.kiosks.length ∧ t.station.counters.length = s.station.counters.length ∧
  t = { s with station := { s.station with kiosks := t.station.kiosks, counters := t.station.counters } }

theorem Relamped.refl (s : State) : Relamped s s := ⟨fun _ => rfl, fun _ => rfl, rfl, rfl, rfl⟩

theorem Relamped.trans {s t u : State} (first : Relamped s t) (second : Relamped t u) : Relamped s u := by
  obtain ⟨kiosks, counters, kiosksLength, countersLength, frame⟩ := first
  obtain ⟨kiosks', counters', kiosksLength', countersLength', frame'⟩ := second
  refine ⟨fun k => ?_, fun m => ?_, kiosksLength'.trans kiosksLength, countersLength'.trans countersLength, by rw [frame', frame]⟩
  · rw [kiosks' k, kiosks k]
  · rw [counters' m, counters m]

theorem relamped_updLamp {s : State} (kiosks : s.station.kiosks.length = 12) (counters : s.station.counters.length = 4) (l : LampId)
    (f : Lamp → Lamp) : Relamped s (updLamp l f s) := by
  obtain ⟨-, -, kiosk, counter, frame⟩ := lampWritten_updLamp kiosks counters l f
  obtain ⟨kiosksLength, countersLength⟩ := updLamp_lengths l f s
  exact ⟨kiosk, counter, kiosksLength, countersLength, frame⟩

/-- A lamp taken anew is lit, and every other lamp is as it was. -/
theorem lit_retakeLamp {s : State} (kiosks : s.station.kiosks.length = 12) (counters : s.station.counters.length = 4) (l : LampId)
    (f : Lamp → Lamp) (j : LampId) (lit : j ≠ l → Lit s j) : Lit (retakeLamp l (updLamp l f s)) j := by
  have written := lampWritten_retaken kiosks counters l f
  rw [Lit, written.bindingFor]
  by_cases same : j = l
  · subst same
    rw [written.1]
    exact refreshLamp_twice ..
  · rw [written.2.1 j same]
    exact lit same

theorem updLamp_id_lit {s : State} (kiosks : s.station.kiosks.length = 12) (counters : s.station.counters.length = 4) (l j : LampId)
    (lit : j ≠ l → Lit s j) : Lit (retakeLamp l s) j := by
  have written := lampWritten_updLamp kiosks counters l (refreshLamp (bindingFor s l))
  rw [retakeLamp, Lit, written.bindingFor]
  by_cases same : j = l
  · subst same
    rw [written.1]
    exact refreshLamp_twice ..
  · rw [written.2.1 j same]
    exact lit same

/-- R164: where the lamps that are not lit are among those to be taken anew, all are lit in the end. -/
theorem retakeWhere_lit {shows : State → LampId → Bool} (stable : ∀ s t, Relamped s t → shows t = shows s) (lamps : List LampId) :
    ∀ {s : State}, s.station.kiosks.length = 12 → s.station.counters.length = 4 →
      (∀ l, Lit s l ∨ l ∈ lamps ∧ shows s l = true) →
      Relamped s (retakeWhere shows lamps s) ∧ ∀ l, Lit (retakeWhere shows lamps s) l := by
  induction lamps with
  | nil => exact fun _ _ lit => ⟨.refl _, fun l => (lit l).resolve_right fun found => nomatch found.1⟩
  | cons l rest ih =>
    intro s kiosks counters lit
    cases here : shows s l with
    | false =>
      have skipped : retakeWhere shows (l :: rest) s = retakeWhere shows rest s := by
        simp only [retakeWhere, List.foldl_cons, here, Bool.false_eq_true, if_false]
      rw [skipped]
      refine ih kiosks counters fun j => (lit j).imp_right fun ⟨member, there⟩ => ⟨?_, there⟩
      exact (List.mem_cons.mp member).resolve_left fun same => by rw [same, here] at there; cases there
    | true =>
      have taken : retakeWhere shows (l :: rest) s = retakeWhere shows rest (retakeLamp l s) := by
        simp only [retakeWhere, List.foldl_cons, here, if_true]
      have relamped : Relamped s (retakeLamp l s) := relamped_updLamp kiosks counters _ _
      have ⟨_, _, kiosksLength, countersLength, _⟩ := relamped
      obtain ⟨relamped', all⟩ := ih (s := retakeLamp l s) (kiosksLength.trans kiosks) (countersLength.trans counters) fun j => by
        by_cases other : j ≠ l → Lit s j
        · exact .inl (updLamp_id_lit kiosks counters l j other)
        · obtain ⟨apart, dark⟩ := Classical.not_imp.mp other
          obtain ⟨member, there⟩ := (lit j).resolve_left dark
          exact .inr ⟨(List.mem_cons.mp member).resolve_left apart, by rw [stable _ _ relamped]; exact there⟩
      rw [taken]
      exact ⟨relamped.trans relamped', all⟩

theorem hasCondition_relamped (n : Nat) (s t : State) (same : Relamped s t) : hasCondition n t = hasCondition n s := by
  funext l
  cases l with
  | kiosk k c => rw [hasCondition, hasCondition, same.1 k]
  | counter m c => rfl

theorem hasShowing_relamped (n : Nat) (s t : State) (same : Relamped s t) : hasShowing n t = hasShowing n s := by
  funext l
  cases l with
  | kiosk k c => rfl
  | counter m c => rw [hasShowing, hasShowing, same.2.1 m]

/-- R165: an entry whose function for one colour is replaced keeps its other function, and the other entries keep theirs. -/
theorem bindings_replaced (l : List Binding) (place n : Nat) (c : Colour) (f : LampFunction) :
    (c = .red ∨ n ≠ place → (updAt l place (setBindingColour c f))[n]?.map Binding.green = l[n]?.map Binding.green) ∧
    (c = .green ∨ n ≠ place → (updAt l place (setBindingColour c f))[n]?.map Binding.red = l[n]?.map Binding.red) := by
  by_cases same : n = place
  · subst same
    rw [getElem?_updAt_self, Option.map_map, Option.map_map]
    cases c <;> simp [setBindingColour, Function.comp_def]
  · rw [getElem?_updAt_other _ _ same]
    exact ⟨fun _ => rfl, fun _ => rfl⟩

theorem lit_kioskTableSet {s : State} {place : Nat} {c : Colour} {f : LampFunction} {l : LampId} (lit : Lit s l) :
    Lit (kioskTableSet place c f s) l ∨ l ∈ kioskLamps c ∧ hasCondition place (kioskTableSet place c f s) l = true := by
  by_cases read : l ∈ kioskLamps c ∧ hasCondition place s l = true
  · refine .inr ⟨read.1, ?_⟩
    obtain ⟨-, here⟩ := read
    cases l with
    | kiosk k d => exact here
    | counter m d => exact here
  · left
    have binding : bindingFor (kioskTableSet place c f s) l = bindingFor s l := by
      cases l with
      | counter m d => cases d <;> rfl
      | kiosk k d =>
        have other : c ≠ d ∨ conditionNum (kioskAt s k).condition ≠ place := by
          by_contra none
          push Not at none
          exact read ⟨List.mem_map.mpr ⟨k, List.mem_finRange k, by rw [none.1]⟩, by simp [hasCondition, none.2]⟩
        obtain ⟨green, red⟩ := bindings_replaced s.station.kioskBindings place (conditionNum (kioskAt s k).condition) c f
        cases d with
        | green => exact green (other.imp_left fun apart => by cases c <;> simp_all)
        | red => exact red (other.imp_left fun apart => by cases c <;> simp_all)
    rw [Lit, binding, lampAt_kioskTableSet]
    exact lit

theorem lit_counterTableSet {s : State} {place : Nat} {c : Colour} {f : LampFunction} {l : LampId} (lit : Lit s l) :
    Lit (counterTableSet place c f s) l ∨ l ∈ counterLamps c ∧ hasShowing place (counterTableSet place c f s) l = true := by
  by_cases read : l ∈ counterLamps c ∧ hasShowing place s l = true
  · refine .inr ⟨read.1, ?_⟩
    obtain ⟨-, here⟩ := read
    cases l with
    | kiosk k d => exact here
    | counter m d => exact here
  · left
    have binding : bindingFor (counterTableSet place c f s) l = bindingFor s l := by
      cases l with
      | kiosk k d => cases d <;> rfl
      | counter m d =>
        have other : c ≠ d ∨ showingNum (counterAt s m).showing ≠ place := by
          by_contra none
          push Not at none
          exact read ⟨List.mem_map.mpr ⟨m, List.mem_finRange m, by rw [none.1]⟩, by simp [hasShowing, none.2]⟩
        obtain ⟨green, red⟩ := bindings_replaced s.station.counterBindings place (showingNum (counterAt s m).showing) c f
        cases d with
        | green => exact green (other.imp_left fun apart => by cases c <;> simp_all)
        | red => exact red (other.imp_left fun apart => by cases c <;> simp_all)
    rw [Lit, binding, lampAt_counterTableSet]
    exact lit

namespace StationLawBut
variable {out : Nat → Prop} {t : State} (h : StationLawBut out t)
include h

theorem lit (l : LampId) : Lit t l := by
  cases l with
  | kiosk k c =>
    obtain ⟨green, red⟩ := h.kioskLamps k k.isLt
    cases c
    exacts [green, red]
  | counter m c =>
    obtain ⟨green, red⟩ := h.counterLamps m m.isLt
    cases c
    exacts [green, red]

/-- The law is kept where lamps and tables alone move, and every lamp is lit. -/
theorem relit {u v : State} (relamped : Relamped v u) (kiosks : v.station.kiosks = t.station.kiosks)
    (counters : v.station.counters = t.station.counters) (foyer : v.station.foyer = t.station.foyer) (print : v.print = t.print)
    (baskets : v.basketUnit = t.basketUnit) (kioskBindings : v.station.kioskBindings.length = t.station.kioskBindings.length)
    (counterBindings : v.station.counterBindings.length = t.station.counterBindings.length) (lit : ∀ l, Lit u l) :
    StationLawBut out u := by
  obtain ⟨kiosk, counter, kiosksLength, countersLength, frame⟩ := relamped
  have kioskOf : ∀ k, kioskAt v k = kioskAt t k := fun k => by rw [kioskAt, kiosks]; rfl
  have print' : u.print = t.print := (congrArg State.print frame).trans print
  have baskets' : u.basketUnit = t.basketUnit := (congrArg State.basketUnit frame).trans baskets
  have basketOf : ∀ b, basketAt u b = basketAt t b := fun b => basketAt_of_baskets (by rw [baskets']) b
  have foyer' : u.station.foyer = t.station.foyer := ((congrArg (fun x : State => x.station.foyer) frame :)).trans foyer
  have bindings' : u.station.kioskBindings = v.station.kioskBindings ∧ u.station.counterBindings = v.station.counterBindings := by
    rw [frame]; exact ⟨rfl, rfl⟩
  refine { kioskCount := ?_, counterCount := ?_, basketCount := by rw [baskets']; exact h.basketCount, bindings := ?_, currents := ?_,
           conditions := ?_, kioskLamps := fun k inside => ⟨lit (.kiosk ⟨k, inside⟩ .green), lit (.kiosk ⟨k, inside⟩ .red)⟩
           counterLamps := fun m inside => ⟨lit (.counter ⟨m, inside⟩ .green), lit (.counter ⟨m, inside⟩ .red)⟩ }
  · rw [kiosksLength, kiosks]; exact h.kioskCount
  · rw [countersLength, counters]; exact h.counterCount
  · rw [bindings'.1, bindings'.2, kioskBindings, counterBindings]; exact h.bindings
  · intro k inside b named
    rw [kiosk k, kioskOf] at named
    rw [basketOf]
    exact h.currents k inside b named
  · intro k inside settled
    rw [kiosk k, kioskOf]
    refine (h.conditions k inside settled).trans (conditionOf_congr ?_ ?_ ?_ ?_ ?_ ?_).symm
    · rw [kiosk k, kioskOf]
    · rw [kiosk k, kioskOf]
    · rw [kiosk k, kioskOf]
    · rw [printerAt, print']; rfl
    · rw [baskets']
    · rw [foyer']

theorem retaken {l : LampId} {f : Lamp → Lamp} : StationLawBut out (retakeLamp l (updLamp l f t)) := by
  have first := relamped_updLamp h.kioskCount h.counterCount l f
  have ⟨_, _, kiosks, counters, _⟩ := first
  have second : Relamped (updLamp l f t) (retakeLamp l (updLamp l f t)) :=
    relamped_updLamp (kiosks.trans h.kioskCount) (counters.trans h.counterCount) _ _
  exact h.relit (first.trans second) rfl rfl rfl rfl rfl rfl rfl fun j =>
    lit_retakeLamp h.kioskCount h.counterCount l f j fun _ => h.lit j

theorem setBindingOp {r : Request} : StationLawBut out (setBindingOp r t) := by
  have kioskEntry : ∀ place c f, StationLawBut out (kioskEntryReplaced place c f t) := fun place c f => by
    obtain ⟨relamped, lit⟩ := retakeWhere_lit (hasCondition_relamped place) (Machine.kioskLamps c) (s := kioskTableSet place c f t)
      h.kioskCount h.counterCount fun l => lit_kioskTableSet (h.lit l)
    exact h.relit relamped rfl rfl rfl rfl rfl (updAt_length ..) rfl lit
  have counterEntry : ∀ place c f, StationLawBut out (counterEntryReplaced place c f t) := fun place c f => by
    obtain ⟨relamped, lit⟩ := retakeWhere_lit (hasShowing_relamped place) (Machine.counterLamps c) (s := counterTableSet place c f t)
      h.kioskCount h.counterCount fun l => lit_counterTableSet (h.lit l)
    exact h.relit relamped rfl rfl rfl rfl rfl rfl (updAt_length ..) lit
  simp only [Machine.setBindingOp]
  repeat' split
  any_goals with_reducible exact h.finish
  · exact (kioskEntry _ _ _).finish
  · exact (counterEntry _ _ _).finish
  all_goals exact h.retaken.finish
theorem setLampOp {r : Request} : StationLawBut out (setLampOp r t) := by
  simp only [Machine.setLampOp]
  repeat' split
  any_goals with_reducible exact h.finish
  all_goals exact h.retaken.finish
theorem overrideExpires {l : LampId} : StationLawBut out (overrideExpires l t) := h.maybe h.retaken
theorem updGenerator {n : Nat} {f : Generator → Generator} : StationLawBut out (updGenerator n f t) :=
  h.congr ⟨rfl, rfl, rfl, rfl, rfl, rfl, fun _ => .refl _, fun _ => .refl _, fun _ => rfl, fun _ => .refl _⟩
theorem setPatternOp {r : Request} : StationLawBut out (setPatternOp r t) := by
  simp only [Machine.setPatternOp]
  split
  exacts [h.updGenerator.finish, h.finish]
theorem patternStepOp {n : Nat} : StationLawBut out (patternStepOp n t) := by
  simp only [Machine.patternStepOp]
  repeat' split
  exacts [h.updGenerator, h, h]

/-- A kiosk's cell updated, its condition and its lamps then derived anew. -/
theorem kioskRefreshed {k : Nat} {g : Kiosk → Kiosk} (current : ∀ c, (g c).current = c.current) :
    StationLawBut out (Machine.refreshKiosk k (updKiosk k g t)) := by
  have length : (updKiosk k g t).station.kiosks.length = 12 := (updAt_length ..).trans h.kioskCount
  have other : ∀ j, j ≠ k → kioskAt (Machine.refreshKiosk k (updKiosk k g t)) j = kioskAt t j := fun j apart => by
    rw [kioskAt_refreshKiosk_other apart, kioskAt_updKiosk_other _ _ _ _ (Ne.symm apart)]
  have same : ∀ j, (kioskAt (Machine.refreshKiosk k (updKiosk k g t)) j).current = (kioskAt t j).current := fun j => by
    rw [(refreshKiosk_like k j _).1]
    rcases kioskAt_updKiosk_or k j g t with kept | ⟨-, written⟩
    · rw [kept]
    · rw [written]; exact current _
  refine { h with
    kioskCount := (refreshKiosk_length ..).trans length
    currents := fun j inside b named => h.currents j inside b (same j ▸ named), conditions := ?_, kioskLamps := ?_ }
  · intro j inside settled
    by_cases mine : j = k
    · subst mine
      exact condition_refreshKiosk (by rw [length]; exact inside)
    · rw [other j mine, h.conditions j inside settled]
      exact (conditionOf_congr (by rw [other j mine]) (same j) (by rw [other j mine]) rfl rfl rfl).symm
  · intro j inside
    by_cases mine : j = k
    · subst mine
      rw [kioskAt_refreshKiosk_self (by rw [length]; exact inside)]
      exact ⟨refreshLamp_twice .., refreshLamp_twice ..⟩
    · rw [other j mine]
      exact h.kioskLamps j inside

/-- R169: the cell's overrides and sense lines settled, its condition and lamps derived anew. -/
theorem stationShare {k : Nat} : StationLawBut out (stationShare k t) :=
  kioskRefreshed (h.of_units (by simp) (by simp) (by simp)) fun _ => rfl

end StationLawBut
end Sys2Proof.Machine
end

section
/-! What the events of the voucher, the sales, the payment and the print unit do to the station's law. -/

namespace Sys2Proof.Machine
namespace StationLawBut

/-! ### Printers (R108 to R121): the conditions of their kiosks are derived anew behind them -/

section
variable {out : Nat → Prop} {t : State} (h : StationLawBut out t)
include h

theorem updQueue {p : Nat} {f : Printer → Printer} (same : ∀ x, (f x).state = x.state) : StationLawBut out (updQueue p f t) :=
  h.sameQueue same
theorem updBasket {b : Nat} {f : Basket → Basket} (same : ∀ c, BasketSame (f c) c) : StationLawBut out (updBasket b f t) :=
  h.sameBasket same
theorem raiseReprints {serial n : Nat} : StationLawBut out (raiseReprints serial n t) :=
  h.of_units (by simp) (by simp) (by simp)

end

section
variable {out : Nat → Prop} {t : State} (h : StationLawBut out t) {p : Nat} (mine : out p)

theorem joinQueue_state (x : Printer) (y : Item) : (joinQueue x y).state = x.state := rfl

theorem joinAll_state (items : List Item) : ∀ x : Printer, (items.foldl joinQueue x).state = x.state := by
  induction items with
  | nil => exact fun _ => rfl
  | cons y rest ih => exact fun x => ih (joinQueue x y)

include h

theorem pullNow : StationLawBut out (pullNow p t) := by
  unfold Machine.pullNow
  split
  exacts [h, (h.updQueue (joinQueue_state · _)).updBasket .refl]
theorem pullOp : StationLawBut out (pullOp p t) := h.maybe (h.whenFree h.pullNow)
theorem reportPrinted {x : Item} : StationLawBut out (reportPrinted x t) := by
  unfold Machine.reportPrinted
  split
  exacts [h.updBasket .refl, h.raiseReprints]
theorem countPrinted {x : Item} : StationLawBut out (countPrinted p x t) := h.addStat.maybe h.addStat.addStat
theorem recordStatus {b : Byte} : StationLawBut out (recordStatus p b t) :=
  (h.samePrinter (by intros; rfl)).maybe (h.samePrinter (by intros; rfl)).raiseFactor
theorem clockOut : StationLawBut out (clockOut p t) := by
  simp only [Machine.clockOut]
  repeat' split
  exacts [h.sameQueue (by intros; rfl), (h.sameQueue (by intros; rfl)).emit, h.emit]

include mine

theorem enterFinishing : StationLawBut out (enterFinishing p t) := h.printerWritten mine
theorem startItem : StationLawBut out (startItem p t) := by
  simp only [Machine.startItem]
  repeat' split
  exacts [h, (h.printerWritten mine).enterFinishing mine, h.printerWritten mine, h]
theorem stallPrinter {cause : StallCause} : StationLawBut out (stallPrinter p cause t) :=
  (h.printerWritten mine).raiseFactor.addStat
theorem losePrinter : StationLawBut out (losePrinter p t) := (h.printerWritten mine).raiseFactor
theorem removeHead : StationLawBut out (removeHead p t) := by
  unfold Machine.removeHead
  split
  exacts [h.printerWritten mine, (h.printerWritten mine).reportPrinted.countPrinted]
theorem completeItem : StationLawBut out (completeItem p t) := (h.removeHead mine).pullNow
theorem takeReady {b : Byte} : StationLawBut out (takeReady p b t) := by
  unfold Machine.takeReady
  split
  exacts [h.stallPrinter mine, h.startItem mine]
theorem endAbsence {b : Byte} : StationLawBut out (endAbsence p b t) := by
  unfold Machine.endAbsence
  repeat' split
  exacts [h.stallPrinter mine, h.printerWritten mine, h]
theorem streamOn : StationLawBut out (streamOn p t) := h.maybe (h.enterFinishing mine)
theorem presentStatus {b : Byte} : StationLawBut out (presentStatus p b t) := by
  unfold Machine.presentStatus
  repeat' split
  exacts [h, h.takeReady mine, h.stallPrinter mine, h.streamOn mine, (h.completeItem mine).takeReady mine, h.stallPrinter mine, h, h]
theorem movePresent {b : Byte} : StationLawBut out (movePresent p b t) := by
  simp only [Machine.movePresent]
  repeat' split
  exacts [h.waitFor, (h.endAbsence mine).whenFree ((h.endAbsence mine).presentStatus mine),
    (h.endAbsence mine).presentStatus mine]
theorem moveAbsent : StationLawBut out (moveAbsent p t) := by
  simp only [Machine.moveAbsent]
  repeat' split
  exacts [h.whenFree (h.losePrinter mine), h.losePrinter mine, h.streamOn mine, h]
end

section
variable {out : Nat → Prop} {t : State} (h : StationLawBut out t)
include h

/-- The law while kiosk `k` is to be settled too. -/
theorem opened (k : Nat) : StationLawBut (fun j => out j ∨ j = k) t := h.weaken fun _ => .inl

theorem takeStatus {p : Nat} {b : Byte} : StationLawBut out (takeStatus p b t) := by
  simp only [Machine.takeStatus]
  have recorded := (h.opened p).recordStatus (p := p) (b := b)
  split
  exacts [refreshed (recorded.movePresent (.inr rfl)), refreshed (recorded.moveAbsent (.inr rfl))]
theorem statusByteOp {p : Nat} {b : Byte} : StationLawBut out (statusByteOp p b t) := h.maybe h.clockOut.takeStatus
theorem statusMoveOp {p : Nat} {b : Byte} : StationLawBut out (statusMoveOp p b t) :=
  h.whenFree (refreshed ((h.opened p).presentStatus (.inr rfl)))
theorem returnOp {p : Nat} {b : Byte} : StationLawBut out (returnOp p b t) :=
  h.whenFree (refreshed (((h.opened p).endAbsence (.inr rfl)).presentStatus (.inr rfl)))
theorem absenceOp {p : Nat} : StationLawBut out (absenceOp p t) := by
  unfold Machine.absenceOp
  split
  exacts [h, h.whenFree (refreshed ((h.opened p).losePrinter (.inr rfl)))]
theorem cutDue {p : Nat} : StationLawBut out (cutDue p t) := refreshed ((h.opened p).stallPrinter (.inr rfl))
theorem cutDeadlineOp {p : Nat} : StationLawBut out (cutDeadlineOp p t) := h.maybe (h.whenFree h.cutDue)
theorem checkQueues : StationLawBut out (checkQueues t) := h.overForEach fun _ _ g => g.updQueue (by intros; rfl)
theorem loadTemplateNow {r : Request} : StationLawBut out (loadTemplateNow r t) := by
  simp only [Machine.loadTemplateNow]
  repeat' split
  · exact h.finish
  · exact h.checkQueues.finish
  · have checked := h.checkQueues
    generalize Machine.checkQueues t = u at checked
    exact finish (checked.of_units (by rfl) (by rfl) (by rfl))
theorem loadTemplateOp {r : Request} : StationLawBut out (loadTemplateOp r t) := by
  unfold Machine.loadTemplateOp
  split
  exacts [h.waitFor, h.loadTemplateNow]
theorem resumeNow {r : Request} : StationLawBut out (resumeNow r t) := by
  simp only [Machine.resumeNow]
  split
  exacts [h.finish, (refreshed ((h.opened _).printerWritten (.inr rfl))).completeSlot]
theorem resumeOp {r : Request} : StationLawBut out (resumeOp r t) := h.whenFree h.resumeNow
theorem assignPrinter {dst b : Nat} : StationLawBut out (assignPrinter dst b t) := h.updBasket (by intros; exact .refl _)
theorem redirectNow {r : Request} : StationLawBut out (redirectNow r t) := by
  simp only [Machine.redirectNow]
  split
  exacts [h.finish, (((h.updQueue (by intros; rfl)).updQueue (by exact joinAll_state _)).overForEach fun _ _ g => g.assignPrinter).completeSlot]
theorem redirectOp {r : Request} : StationLawBut out (redirectOp r t) := h.whenFree (h.whenFree h.redirectNow)
theorem reprintNow {r : Request} : StationLawBut out (reprintNow r t) := by
  simp only [Machine.reprintNow]
  repeat' split
  exacts [h.finish, h.finish, h.finish, h.finish, h.sameQueue (by intros; rfl)]
theorem reprintOp {r : Request} : StationLawBut out (reprintOp r t) := h.whenFree h.reprintNow
theorem refuseReprint {p slot : Nat} {code : ResultCode} : StationLawBut out (refuseReprint p slot code t) :=
  (h.sameQueue (by intros; rfl)).finish
theorem saleCheckNow {p : Nat} : StationLawBut out (saleCheckNow p t) := by
  unfold Machine.saleCheckNow
  repeat' split
  exacts [h, h, h.refuseReprint, h.refuseReprint, h.sameQueue (by intros; rfl)]
theorem saleCheckOp {p : Nat} : StationLawBut out (saleCheckOp p t) := by
  unfold Machine.saleCheckOp
  repeat' split
  exacts [h, h, h.whenFree h.saleCheckNow]
theorem reprintEnterNow {p : Nat} : StationLawBut out (reprintEnterNow p t) := by
  simp only [Machine.reprintEnterNow]
  repeat' split
  exacts [h, h, h.refuseReprint, (h.updQueue (by intro x; exact joinAll_state _ { x with check := none })).completeSlot]
theorem resetsMoved {l : List StationReset} :
    StationLawBut out { t with station := { t.station with resets := l } } :=
  h.congr ⟨rfl, rfl, rfl, rfl, rfl, rfl, fun _ => .refl _, fun _ => .refl _, fun _ => rfl, fun _ => .refl _⟩
theorem restartPrinter {p : Nat} : StationLawBut out (restartPrinter p t) :=
  refreshed ((h.opened p).printerWritten (.inr rfl)).emit
theorem printerResetNow {k : Nat} : StationLawBut out (printerResetNow k t) := by
  unfold Machine.printerResetNow
  split
  exacts [h, restartPrinter h.resetsMoved]
theorem printerResetOp {k : Nat} : StationLawBut out (printerResetOp k t) := h.maybe (h.whenFree h.printerResetNow)

end
end StationLawBut
end Sys2Proof.Machine
end

section
/-! What the events of the voucher, the sales and the payment unit do to the station's law. -/

namespace Sys2Proof.Machine
namespace StationLawBut
variable {out : Nat → Prop} {t : State} (h : StationLawBut out t)
include h

/-! ### The show, seat, voucher and sales units -/

theorem updShow {n : Nat} {f : ShowRec → ShowRec} : StationLawBut out (updShow n f t) := h.of_units rfl rfl rfl
theorem enterShow {n : Nat} {st : ShowState} : StationLawBut out (enterShow n st t) := by
  simp only [Machine.enterShow]
  split
  exacts [raiseFactor (h.of_units (by rfl) (by rfl) (by rfl)), h.updShow.raiseFactor, h.updShow, h.updShow, h.updShow]
omit h in
theorem moveShow {n : Nat} (h : StationLawBut out t) : StationLawBut out (moveShow n t) := by
  unfold Machine.moveShow
  generalize dueMoves t.showUnit.clock.now (showAt t n) = l
  induction l generalizing t with
  | nil => exact h
  | cons st rest ih => exact ih h.enterShow
theorem moveShows : StationLawBut out (moveShows t) := h.overForEach fun _ _ g => g.moveShow
theorem writeClock {now : Instant} {phase : Nat} : StationLawBut out (writeClock now phase t) := h.of_units rfl rfl rfl
theorem reportDay {before : Instant} : StationLawBut out (reportDay before t) :=
  h.of_units (by simp) (by simp) (by simp)
theorem clockAdvance : StationLawBut out (clockAdvance t) := by
  simp only [Machine.clockAdvance]
  repeat' split
  exacts [h, h.writeClock, h.writeClock.reportDay.moveShows]
theorem runTimeOp : StationLawBut out (runTimeOp t) := clockAdvance (h.of_units rfl rfl rfl)
theorem clockSecondOp : StationLawBut out (clockSecondOp t) := h.maybe h.runTimeOp
theorem setClockOp {r : Request} : StationLawBut out (setClockOp r t) := by
  simp only [Machine.setClockOp]
  split
  exacts [(h.writeClock.moveShows.maybe h.writeClock.moveShows.reportDay).completeSlot, h.finish]
theorem loadingCompleteOp {sh : Nat} : StationLawBut out (loadingCompleteOp sh t) := by
  simp only [Machine.loadingCompleteOp]
  split
  exacts [h, completeSlot (moveShow (h.of_units (by simp) (by simp) (by simp)))]
theorem closeSaleOp {r : Request} : StationLawBut out (closeSaleOp r t) := by
  simp only [Machine.closeSaleOp]
  repeat' split
  exacts [h.finish, h.finish, h.enterShow.finish, h.finish]
theorem counterAnswer {m : Nat} {chars : List Byte} {a : Showing} {kind : Option Nat} {first : Option (Nat × Instant)} :
    StationLawBut out (counterAnswer m chars a kind first t) :=
  showAnswer (addStat (raiseFactor (h.sameCounter (by intros; exact .refl _))))
theorem updVoucher {i : Nat} {f : Voucher → Voucher} : StationLawBut out (updVoucher i f t) := h.of_units rfl rfl rfl
theorem setReceiver {m : Nat} {f : Receiver → Receiver} : StationLawBut out (setReceiver m f t) := h.of_units rfl rfl rfl
theorem validateCode {m : Nat} {chars : List Byte} : StationLawBut out (validateCode m chars t) := by
  simp only [Machine.validateCode]
  repeat' split
  any_goals with_reducible exact h.counterAnswer
  exact h.updVoucher.counterAnswer
theorem validationOp {m : Nat} : StationLawBut out (validationOp m t) := by
  simp only [Machine.validationOp]
  repeat' split
  exacts [h, h.setReceiver.validateCode, h.setReceiver]
theorem counterByteOp {m : Nat} {b : Byte} : StationLawBut out (counterByteOp m b t) := by
  simp only [Machine.counterByteOp]
  repeat' split
  exacts [h, h.setReceiver, h.setReceiver, h.setReceiver.counterAnswer, h.setReceiver, h.setReceiver.counterAnswer,
    h.setReceiver.setReceiver, h.setReceiver]

/-! ### The payment unit -/

theorem updLine {n : Nat} {f : Line → Line} : StationLawBut out (updLine n f t) :=
  sameKiosk (h.of_units (t := setReceiving n f t) rfl rfl rfl) .refl
theorem setReceiving {n : Nat} {f : Line → Line} : StationLawBut out (setReceiving n f t) := h.of_units rfl rfl rfl
theorem updRecord {n i : Nat} {f : PayRecord → PayRecord} : StationLawBut out (updRecord n i f t) := h.updLine
theorem sendFrame {n : Nat} {f : Frame} : StationLawBut out (sendFrame n f t) := h.emit.updLine
theorem sendPing {n : Nat} : StationLawBut out (sendPing n t) := h.emit
theorem strayFrame {n : Nat} : StationLawBut out (strayFrame n t) := h.addStat
theorem countOutcome {n : Nat} {o : PayOutcome} : StationLawBut out (countOutcome n o t) :=
  h.of_units (by simp) (by simp) (by simp)
theorem handOver {outcomes : List OutcomeReport} :
    StationLawBut out { t with basketUnit := { t.basketUnit with outcomes := outcomes } } := h.of_units rfl rfl rfl
theorem closeRecord {n i : Nat} {o : PayOutcome} {code : Option (List Byte)} {tail : Option Nat} {dest : LineState} :
    StationLawBut out (closeRecord n i o code tail dest t) :=
  overForEach (handOver (((h.updRecord.updLine).maybe (raiseFactor (h.updRecord.updLine))).countOutcome))
    (by exact fun _ _ g => g.finish)
theorem endReverse {n : Nat} {code : ResultCode} : StationLawBut out (endReverse n code t) := by
  unfold Machine.endReverse
  split
  exacts [h.updLine.finish, h]
theorem enterFault {n : Nat} {code : ResultCode} : StationLawBut out (enterFault n code t) := by
  simp only [Machine.enterFault]
  split
  exacts [h.closeRecord, h.endReverse.updLine.raiseFactor]
theorem resend {n : Nat} : StationLawBut out (resend n t) := by
  simp only [Machine.resend]
  repeat' split
  exacts [h, h.emit.updLine.addStat, h.enterFault]
theorem startAbort {n i : Nat} {cause : AbortCause} : StationLawBut out (startAbort n i cause t) := h.updRecord.updLine.sendFrame
theorem ackReceived {n : Nat} : StationLawBut out (ackReceived n t) := by
  simp only [Machine.ackReceived]
  repeat' split
  exacts [h, h.updLine, h.updLine.startAbort, h.updLine.updRecord, h.updLine]
theorem lateOrStray {n tag : Nat} {v : Option Verdict} : StationLawBut out (lateOrStray n tag v t) := by
  simp only [Machine.lateOrStray]
  repeat' split
  exacts [h.strayFrame, h.updLine.raiseFactor, h.updLine.raiseFactor, h.strayFrame, h.strayFrame, h.strayFrame]
theorem resultFrame {n tag : Nat} {payload : List Byte} : StationLawBut out (resultFrame n tag payload t) := by
  unfold Machine.resultFrame
  repeat' split
  exacts [h.closeRecord, h.closeRecord, h.strayFrame, h.lateOrStray, h.lateOrStray]
theorem cardFrame {n tag : Nat} {kind : Byte} : StationLawBut out (cardFrame n tag kind t) := by
  unfold Machine.cardFrame
  repeat' split
  exacts [h.updRecord.raiseFactor, h.strayFrame, h.strayFrame]
theorem abortDoneFrame {n tag : Nat} : StationLawBut out (abortDoneFrame n tag t) := by
  simp only [Machine.abortDoneFrame]
  split
  · split
    exacts [h.closeRecord, h.strayFrame]
  · exact h.strayFrame
theorem reverseDoneFrame {n tag : Nat} {verdict : Byte} : StationLawBut out (reverseDoneFrame n tag verdict t) := by
  simp only [Machine.reverseDoneFrame]
  split
  · split
    exacts [h.updLine.finish, h.strayFrame]
  · exact h.strayFrame
theorem pongFrame {n : Nat} : StationLawBut out (pongFrame n t) := by
  simp only [Machine.pongFrame]
  repeat' split
  exacts [h.updLine, h.updLine, h.strayFrame]
theorem faultFrame {n : Nat} {code : Byte} : StationLawBut out (faultFrame n code t) := by
  simp only [Machine.faultFrame]
  split
  exacts [h.updLine, h.updLine.enterFault]
theorem goodFrame {n : Nat} {f : Frame} : StationLawBut out (goodFrame n f t) := by
  simp only [Machine.goodFrame, Machine.frameTaken]
  repeat' split
  exacts [h.emit.cardFrame, h.emit.resultFrame, h.emit.abortDoneFrame, h.emit.reverseDoneFrame, h.emit.pongFrame,
    h.emit.faultFrame, h.emit.strayFrame]
theorem byteInside {n : Nat} {l : List Byte} : StationLawBut out (byteInside n l t) := by
  simp only [Machine.byteInside]
  repeat' split
  exacts [h, h.setReceiving.emit, h.setReceiving, h.setReceiving.goodFrame, h.setReceiving.emit]
theorem lineByte {n : Nat} {b : Byte} : StationLawBut out (lineByte n b t) := by
  simp only [Machine.lineByte]
  split
  · exact h.byteInside
  · repeat' split
    exacts [h.setReceiving, h.setReceiving.ackReceived, h.setReceiving.resend, h.setReceiving]
omit h in
theorem lineBytes {n : Nat} {l : List Byte} {t : State} (h : StationLawBut out t) : StationLawBut out (lineBytes n l t) := by
  induction l generalizing t with
  | nil => exact h
  | cons b rest ih => exact ih h.lineByte
theorem bytesArrive {n : Nat} {l : List Byte} : StationLawBut out (bytesArrive n l t) := h.maybe h.lineBytes
theorem frameArrives {n : Nat} {f : Frame} : StationLawBut out (frameArrives n f t) := by
  unfold Machine.frameArrives
  repeat' split
  exacts [h, h.setReceiving.goodFrame, h.lineBytes]
theorem lineFaultOp {n : Nat} {f : ByteFault} : StationLawBut out (lineFaultOp n f t) := by
  simp only [Machine.lineFaultOp]
  split
  exacts [h, h.updLine.addStat]
theorem ackWaitOp {n : Nat} : StationLawBut out (ackWaitOp n t) := by
  unfold Machine.ackWaitOp
  repeat' split
  exacts [h.resend, h, h]
theorem pingTimerOp {n : Nat} : StationLawBut out (pingTimerOp n t) := by
  simp only [Machine.pingTimerOp]
  repeat' split
  exacts [h.updLine.sendPing, h.updLine.sendPing, h.enterFault.sendPing, h, h]
theorem authTimeoutOp {n : Nat} : StationLawBut out (authTimeoutOp n t) := by
  unfold Machine.authTimeoutOp
  repeat' split
  exacts [h.updLine, h.updRecord.updLine, h.startAbort, h]
theorem abortWaitOp {n : Nat} : StationLawBut out (abortWaitOp n t) := by
  unfold Machine.abortWaitOp
  repeat' split
  exacts [h.closeRecord, h.updLine, h]
theorem reverseWaitOp {n : Nat} : StationLawBut out (reverseWaitOp n t) := h.maybe h.enterFault
theorem openPayment {n b amount : Nat} : StationLawBut out (openPayment n b amount t) := h.updRecord.updLine.sendFrame
theorem cancelPayOp {r : Request} : StationLawBut out (cancelPayOp r t) := by
  simp only [Machine.cancelPayOp]
  repeat' split
  any_goals with_reducible exact h.finish
  exacts [h.updRecord, h.updRecord.startAbort]
theorem reverseOp {r : Request} : StationLawBut out (reverseOp r t) := by
  simp only [Machine.reverseOp]
  repeat' split
  any_goals with_reducible exact h.finish
  exact h.updLine.sendFrame
theorem lineShare {k : Nat} : StationLawBut out (lineShare k t) := h.endReverse.updLine
theorem resetStationOp {r : Request} : StationLawBut out (resetStationOp r t) := by
  simp only [Machine.resetStationOp]
  repeat' split
  exacts [h.finish, h.finish, h.lineShare.resetsMoved]

end StationLawBut
end Sys2Proof.Machine
end

section
/-! What the events of the basket unit, the configuration, the resets and what waited do to the station's law. -/

namespace Sys2Proof.Machine
/-- R48: where OPEN_BASKET passes its checks a context is FREE. -/
theorem lowestContext_free {s : State} {k sh : Nat} (passed : openRefusal s k sh = none) :
    lowestContext s < s.basketUnit.baskets.length ∧ (basketAt s (lowestContext s)).state = .free := by
  have some : freeContexts s ≠ 0 := fun none => by
    simp only [openRefusal, none, if_true] at passed
    (repeat' split at passed) <;> cases passed
  obtain ⟨c, member⟩ := List.exists_mem_of_length_pos (Nat.pos_of_ne_zero some)
  obtain ⟨member, free⟩ := List.mem_filter.mp member
  have inside : lowestContext s < s.basketUnit.baskets.length := List.findIdx_lt_length_of_exists ⟨c, member, free⟩
  have found := List.findIdx_getElem (p := fun c : Basket => c.state == .free) (w := inside)
  refine ⟨inside, ?_⟩
  rw [basketAt, List.getD_eq_getElem?_getD, List.getElem?_eq_getElem inside]
  exact beq_iff_eq.mp found

/-- R60, R63: the sale move up to its basket: the record made, the seats sold, the vouchers activated. -/
def soldTo (b : Nat) (m : Method) (s : State) : State :=
  finishSale s.salesUnit.nextSerial (basketAt s b).kiosk (basketAt s b).seats.length (basketAt s b).vouchers.length
    (activateVouchers s.salesUnit.nextSerial (basketAt s b).vouchers
      (sellCells (basketAt s b).sh s.salesUnit.nextSerial (basketAt s b).seats (createSale (basketAt s b) m s)))

namespace StationLawBut

section
variable {out : Nat → Prop} {t : State} (h : StationLawBut out t)
include h

/-! ### The supply of contexts and the current baskets -/

theorem setFreeCount {n : Nat} : StationLawBut out (setFreeCount n t) := by
  have loose : StationLawBut (fun _ => True) t := h.weaken fun _ _ => trivial
  have written : ∀ f, StationLawBut (fun _ => True) (updFoyer f t) := fun f =>
    { loose with conditions := fun _ _ settled => absurd trivial settled }
  simp only [Machine.setFreeCount]
  split
  · next same => exact (h.sameFoyer same).maybe (h.sameFoyer same).raiseFactor
  · exact refreshKiosks ((written _).maybe (written _).raiseFactor)
theorem writeSupply : StationLawBut out (writeSupply t) := h.setFreeCount

/-- A basket that leaves its kiosk: R163's table then reads no current basket. -/
theorem basketLeft {b : Nat} {f : Basket → Basket} :
    StationLawBut out (clearCurrent b (basketAt t b).kiosk (Machine.updBasket b f t)) := by
  generalize own : (basketAt t b).kiosk = k
  by_cases named : (kioskAt t k).current = some b
  · have cleared : clearCurrent b k (Machine.updBasket b f t) = Machine.refreshKiosk k
        (Machine.updBasket b f (updKiosk k (fun x => { x with current := none }) t)) := by
      rw [clearCurrent, if_pos (show (kioskAt (Machine.updBasket b f t) k).current = some b from named)]
      rfl
    rw [cleared]
    refine refreshed (basketWritten ((h.opened k).kioskCurrent (current := none) (.inr rfl) nofun) fun j inside current => ?_)
    rcases kioskAt_updKiosk_or k j (fun x => { x with current := none }) t with kept | ⟨-, written⟩
    · have mine := (h.currents j inside b (kept ▸ current)).2.1
      have same : j = k := mine.symm.trans own
      subst same
      rw [kioskAt_updKiosk_self _ _ _ (by rw [h.kioskCount]; exact inside)] at current
      cases current
    · rw [written] at current
      cases current
  · rw [clearCurrent, if_neg (show ¬ (kioskAt (Machine.updBasket b f t) k).current = some b from named)]
    refine refreshKiosk (basketWritten h fun j inside current => ?_)
    exact absurd (by rw [← own, (h.currents j inside b current).2.1]; exact current) named

/-- A basket moved to a state from SELECTING to COLLECT. -/
theorem basketMovedOn {b : Nat} {f : Basket → Basket} (kiosk : ∀ c, (f c).kiosk = c.kiosk) (standing : ∀ c, Standing (f c)) :
    StationLawBut out (Machine.refreshKiosk (basketAt t b).kiosk (Machine.updBasket b f t)) :=
  refreshed ((h.opened _).basketMoved (.inr rfl) (kiosk _) (standing _))

/-! ### The basket unit -/

theorem openBasketOp {r : Request} : StationLawBut out (openBasketOp r t) := by
  simp only [Machine.openBasketOp]
  split
  · exact h.finish
  · next passed =>
    obtain ⟨inside, free⟩ := lowestContext_free passed
    generalize lowestContext t = b at inside free ⊢
    have spare : ¬ Standing (basketAt t b) := by rw [Standing, Selling, free]; simp
    refine completeSlot (writeSupply (refreshed (kioskCurrent ((h.opened _).basketSpare spare) (.inr rfl) fun c named => ?_)))
    cases named
    rw [basketAt_setBasket_self _ _ _ inside]
    exact ⟨h.basketCount ▸ inside, rfl, .inl (.inl rfl)⟩
theorem openCall {b : Nat} {call : Call} : StationLawBut out (openCall b call t) := h.sameBasket fun _ => ⟨rfl, rfl⟩
theorem closeCall {b : Nat} {f : Basket → Basket} (same : ∀ c, BasketSame (f c) c) : StationLawBut out (closeCall b f t) :=
  h.sameBasket same
theorem requote {b : Nat} : StationLawBut out (requote b t) := h.sameBasket fun _ => ⟨rfl, rfl⟩
theorem holdSeatsNow {r : Request} : StationLawBut out (holdSeatsNow r t) := by
  simp only [Machine.holdSeatsNow]
  repeat' split
  exacts [h.finish, h.finish, h.finish, h.openCall]
theorem releaseSeatsNow {r : Request} : StationLawBut out (releaseSeatsNow r t) := by
  simp only [Machine.releaseSeatsNow]
  repeat' split
  exacts [h.finish, h.finish, h.finish, h.completeSlot, h.openCall]
theorem addVoucherNow {r : Request} : StationLawBut out (addVoucherNow r t) := by
  simp only [Machine.addVoucherNow]
  split
  exacts [h.finish, h.openCall]
theorem dropVoucherNow {r : Request} : StationLawBut out (dropVoucherNow r t) := by
  simp only [Machine.dropVoucherNow]
  split
  exacts [h.finish, h.openCall]
theorem holdCells {sh b : Nat} {list : List Nat} : StationLawBut out (holdCells sh b list t) :=
  h.of_units (by simp) (by simp) (by simp)
theorem releaseCells {sh : Nat} {list : List Nat} : StationLawBut out (releaseCells sh list t) :=
  h.of_units (by simp) (by simp) (by simp)
theorem removeVouchers {list : List Nat} : StationLawBut out (removeVouchers list t) :=
  h.of_units (by simp) (by simp) (by simp)
theorem issueVoucher {kind b sh : Nat} : StationLawBut out (issueVoucher kind b sh t).1 :=
  h.of_units (by simp) (by simp) (by simp)
theorem holdEventNow {b slot : Nat} {list : List Nat} : StationLawBut out (holdEventNow b slot list t) := by
  simp only [Machine.holdEventNow]
  split
  exacts [(h.closeCall (by intros; exact .refl _)).completeSlot,
    (h.holdCells.closeCall (by intros; exact ⟨rfl, rfl⟩)).requote.completeSlot]
theorem releaseEventNow {b slot : Nat} {list : List Nat} : StationLawBut out (releaseEventNow b slot list t) :=
  (h.releaseCells.closeCall (by intros; exact ⟨rfl, rfl⟩)).requote.completeSlot
theorem issueEventNow {b slot kind : Nat} : StationLawBut out (issueEventNow b slot kind t) := by
  have issued := h.issueVoucher (kind := kind) (b := b) (sh := (basketAt t b).sh)
  simp only [Machine.issueEventNow]
  split
  · next v code answer =>
    rw [answer] at issued
    exact (issued.closeCall (by intros; exact .refl _)).finish
  · next v index code answer =>
    rw [answer] at issued
    exact (issued.closeCall (by intros; exact ⟨rfl, rfl⟩)).requote.completeSlot
theorem removalEventNow {b slot position : Nat} : StationLawBut out (removalEventNow b slot position t) :=
  (h.removeVouchers.closeCall (by intros; exact ⟨rfl, rfl⟩)).requote.completeSlot
theorem holdEventOp {b : Nat} : StationLawBut out (holdEventOp b t) := by
  unfold Machine.holdEventOp
  split
  exacts [h.holdEventNow, h]
theorem releaseEventOp {b : Nat} : StationLawBut out (releaseEventOp b t) := by
  unfold Machine.releaseEventOp
  split
  exacts [h.releaseEventNow, h]
theorem voucherIssueOp {b : Nat} : StationLawBut out (voucherIssueOp b t) := by
  unfold Machine.voucherIssueOp
  split
  exacts [h.issueEventNow, h]
theorem voucherRemovalOp {b : Nat} : StationLawBut out (voucherRemovalOp b t) := by
  unfold Machine.voucherRemovalOp
  split
  exacts [h.removalEventNow, h]
theorem quoteNow {r : Request} : StationLawBut out (quoteNow r t) := by
  simp only [Machine.quoteNow]
  repeat' split
  exacts [h.finish, h.finish, (h.updBasket (by intros; exact ⟨rfl, rfl⟩)).completeSlot]
theorem endBasket {b : Nat} {dest : BasketState} : StationLawBut out (endBasket b dest t) := by
  have returned : StationLawBut out (Machine.removeVouchers (basketAt t b).vouchers
      (Machine.releaseCells (basketAt t b).sh (basketAt t b).seats t)) := h.releaseCells.removeVouchers
  have own : basketAt (Machine.removeVouchers (basketAt t b).vouchers
      (Machine.releaseCells (basketAt t b).sh (basketAt t b).seats t)) b = basketAt t b := basketAt_of_baskets (by simp) b
  have left := returned.basketLeft (b := b) (f := emptied dest)
  rw [own] at left
  exact left
theorem expireBasket {b : Nat} : StationLawBut out (expireBasket b t) := h.endBasket.raiseFactor
theorem holdDeadlineOp {b : Nat} : StationLawBut out (holdDeadlineOp b t) := h.maybe (h.whenFree h.expireBasket)
theorem leftSaleNow {b : Nat} : StationLawBut out (leftSaleNow b t) := h.maybe h.expireBasket
theorem showLeftSaleOp {sh : Nat} : StationLawBut out (showLeftSaleOp sh t) :=
  h.maybe (overForEach (of_units (h) (by rfl) (by rfl) (by rfl)) (by exact fun _ _ g => g.whenFree g.leftSaleNow))
theorem abandonNow {r : Request} : StationLawBut out (abandonNow r t) := by
  simp only [Machine.abandonNow]
  repeat' split
  exacts [h.finish, h.endBasket.completeSlot, h.finish, h.finish]
theorem saleMove {b : Nat} {m : Method} : StationLawBut out (saleMove b m t) := by
  have own : basketAt (soldTo b m t) b = basketAt t b := basketAt_of_baskets (by simp [soldTo]) b
  have sold : StationLawBut out (soldTo b m t) := h.of_units (by simp [soldTo]) (by simp [soldTo]) (by simp [soldTo])
  have moved := sold.basketMovedOn (b := b) (f := fun x => { x with
    serial := some t.salesUnit.nextSerial, plan := planOf x (cfgOf t).receipts, cursor := 0, printed := 0, state := .printing
    deadline := none }) (fun _ => rfl) fun _ => .inr (.inl rfl)
  rw [own] at moved
  exact moved
theorem startPaying {b : Nat} : StationLawBut out (startPaying b t) :=
  refreshed (openPayment (basketMoved (h.opened _) (.inr rfl) (by rfl) (by exact .inl (.inr (.inl rfl)))))
theorem reservePlace : StationLawBut out (reservePlace t) := h.of_units rfl rfl rfl
theorem giveBackPlace : StationLawBut out (giveBackPlace t) := h.of_units rfl rfl rfl
theorem payNow {r : Request} : StationLawBut out (payNow r t) := by
  simp only [Machine.payNow]
  repeat' split
  exacts [h.finish, (h.updBasket (by intros; exact ⟨rfl, rfl⟩)).completeSlot,
    (h.updBasket (by intros; exact ⟨rfl, rfl⟩)).reservePlace.saleMove.completeSlot,
    (h.updBasket (by intros; exact ⟨rfl, rfl⟩)).reservePlace.startPaying]
theorem returnBasket {b : Nat} : StationLawBut out (returnBasket b t) := by
  simp only [Machine.returnBasket]
  split
  exacts [h.giveBackPlace.basketMovedOn (by intros; rfl) (by intros; exact .inl (.inl rfl)), h.giveBackPlace.expireBasket]
theorem leaveUnresolved {b : Nat} : StationLawBut out (leaveUnresolved b t) :=
  h.basketMovedOn (by intros; rfl) (by intros; exact .inl (.inr (.inr rfl)))
theorem finishPay {b : Nat} {code : ResultCode} {fields : List Byte} : StationLawBut out (finishPay b code fields t) := by
  unfold Machine.finishPay
  split
  exacts [h.completeSlot, h]
theorem takeOutcome {o : OutcomeReport} : StationLawBut out (takeOutcome o t) := by
  simp only [Machine.takeOutcome]
  split
  exacts [h.saleMove.finishPay, h.returnBasket.finishPay, h.returnBasket.finishPay, h.returnBasket.finishPay,
    h.leaveUnresolved.finishPay]
theorem paymentOutcomeOp {b : Nat} : StationLawBut out (paymentOutcomeOp b t) := by
  simp only [Machine.paymentOutcomeOp]
  repeat' split
  exacts [h, h.handOver.takeOutcome, h.handOver]
theorem settleNow {r : Request} : StationLawBut out (settleNow r t) := by
  simp only [Machine.settleNow]
  repeat' split
  exacts [h.finish, h.finish, h.saleMove.completeSlot, h.returnBasket.completeSlot]
theorem moveToCollectOp {b : Nat} : StationLawBut out (moveToCollectOp b t) := by
  simp only [Machine.moveToCollectOp]
  split
  exacts [h.basketMovedOn (by intros; rfl) (by intros; exact .inr (.inr rfl)), h]
theorem closeBasket {b : Nat} {uncollected : Bool} : StationLawBut out (closeBasket b uncollected t) := h.basketLeft
theorem chuteClearedOp {k : Nat} : StationLawBut out (chuteClearedOp k t) :=
  h.maybe (overForEach (of_units (h) (by rfl) (by rfl) (by rfl)) (by exact fun _ _ g => g.closeBasket))
theorem collectDeadlineOp {b : Nat} : StationLawBut out (collectDeadlineOp b t) := h.maybe h.closeBasket.raiseFactor
theorem retireNow {r : Request} : StationLawBut out (retireNow r t) := by
  simp only [Machine.retireNow]
  split
  · exact h.finish
  · split
    · next ended =>
      refine finish (writeSupply (h.basketSpare fun standing => ?_))
      simp only [isEnd_iff] at ended
      rcases standing with (st | st | st) | st | st <;> rw [st] at ended <;> simp at ended
    · exact h.finish

end
end StationLawBut
end Sys2Proof.Machine
end

section
/-! The resets, the configuration and what waited in what they do to the station's law; and every command, which settles O9. -/

namespace Sys2Proof.Machine

/-- R170: a kiosk cell after either reset is lit by the tables then in force. -/
theorem kioskLit_atLevels (levels : List Bool) : KioskLit defaultKioskBindings (.atLevels levels) := by
  rw [KioskLit, Kiosk.atLevels]
  cases levels.getD 1 false <;> exact ⟨rfl, rfl⟩

/-- R163, R170: the condition of a kiosk cell after either reset is the one of its key, its printer ABSENT. -/
theorem conditionOf_atLevels {s : State} {k : Nat} {levels : List Bool} (cell : kioskAt s k = .atLevels levels)
    (absent : (printerAt s k).state = .absent) : (kioskAt s k).condition = conditionOf s k := by
  rw [conditionOf_eq, cell, absent, Kiosk.atLevels]
  cases levels.getD 1 false <;> rfl

namespace StationLawBut
variable {out : Nat → Prop} {t : State} (h : StationLawBut out t)
include h

/-! ### The resets -/

theorem powerOn : StationLawBut out (powerOn t) where
  kioskCount := by simpa [Machine.powerOn, StationUnit.atLevels, inputLevels] using h.kioskCount
  counterCount := rfl
  basketCount := rfl
  bindings := ⟨rfl, rfl⟩
  currents k _ b named := by
    rw [kioskAt_powerOn] at named
    cases named
  conditions k inside _ := by
    refine conditionOf_atLevels (kioskAt_powerOn t k) ?_
    show (printerAt .reset k).state = .absent
    rw [show printerAt .reset k = .initial from getD_replicate_self ..]
    rfl
  kioskLamps k _ := by
    rw [kioskAt_powerOn]
    exact kioskLit_atLevels _
  counterLamps m _ := by
    rw [show counterAt (Machine.powerOn t) m = .initial from getD_replicate_self ..]
    exact ⟨rfl, rfl⟩
theorem softResetOp : StationLawBut out (softResetOp t) := h.powerOn.of_units rfl rfl rfl
theorem runWrite {value : Word32} : StationLawBut out (runWrite value t) := by
  simp only [Machine.runWrite]
  repeat' split
  exacts [h.softResetOp, h.of_units rfl rfl rfl, h.of_units rfl rfl rfl]
theorem boardFault {slot value : Nat} : StationLawBut out (boardFault slot value t) :=
  raiseFactor (addStat (h.of_units (by rfl) (by rfl) (by rfl)))
theorem stateWordWrite {slot value : Nat} : StationLawBut out (stateWordWrite slot value t) := by
  have echoed : StationLawBut out (echoTag slot t) := h.of_units rfl rfl rfl
  unfold Machine.stateWordWrite
  split <;> split
  exacts [h.of_units rfl rfl rfl, h.boardFault, echoed.finish, h.boardFault, h, h.boardFault, h.of_units rfl rfl rfl, h.boardFault]
theorem stationUnitWrite {l : List (Nat × Byte)} : StationLawBut out (stationUnitWrite l t) := by
  simp only [Machine.stationUnitWrite]
  split <;> split
  exacts [h.writeMask.acknowledge, h.acknowledge, h.writeMask, h]
theorem hostUnit {off : Nat} {lanes : List (Option Byte)} : StationLawBut out (hostUnit off lanes t) := by
  have counted : StationLawBut out (countStray off (covered off lanes) (storeBytes (covered off lanes) t)) :=
    h.of_units (by simp) (by simp) (by simp)
  refine stationUnitWrite ?_
  unfold stateWordUnit
  split
  · exact counted
  · split
    exacts [counted.stateWordWrite, counted.boardFault]

/-! ### The show's removal -/

theorem updRemoval {x : Removal} {y : Option Removal} : StationLawBut out (updRemoval x y t) := h.of_units rfl rfl rfl
theorem stepShow {n : Nat} : StationLawBut out (stepShow n t) := h.of_units rfl rfl rfl
theorem salesRemovalOp {sh : Nat} : StationLawBut out (salesRemovalOp sh t) := by
  unfold Machine.salesRemovalOp
  split
  · exact h.waitFor
  · have removed : StationLawBut out (removeSales sh t).1 := h.of_units rfl rfl rfl
    unfold salesRemovalNow
    repeat' split
    exacts [h, h.updRemoval.stepShow.finish, removed.updRemoval]

/-! ### The configuration -/

theorem restartLine {n : Nat} : StationLawBut out (restartLine n t) := h.endReverse.updLine
theorem writeEnabled {c : Configuration} {m : Nat} : StationLawBut out (writeEnabled c m t) := by
  unfold Machine.writeEnabled
  split
  exacts [h.sameCounter (by intros; exact .refl _), h.setReceiver.sameCounter (by intros; exact .refl _)]
theorem takeShares {old : Option Configuration} {c : Configuration} {kinds : List VoucherKind} :
    StationLawBut out (takeShares old c kinds t) := by
  have kindsWritten : StationLawBut out { t with showUnit := { t.showUnit with kinds := kinds } } := h.of_units rfl rfl rfl
  exact ((((kindsWritten.overForEach fun _ _ g => g.restartLine).overForEach fun _ _ g => g.restartPrinter).overForEach
    fun _ _ g => g.setReceiver).overForEach fun _ _ g => g.writeEnabled).writeSupply
theorem configureOp {r : Request} : StationLawBut out (configureOp r t) := by
  unfold Machine.configureOp
  dsimp only
  have formed : ∀ c, StationLawBut out { t with config := some c } := fun c => h.of_units rfl rfl rfl
  cases configureRefusal t (param2 r 0) with
  | some x => exact h.completeSlot
  | none => exact (formed _).takeShares.completeSlot

/-! ### What waited -/

theorem takeRequest {r : Request} : StationLawBut out (takeRequest r t) := by
  unfold Machine.takeRequest
  split
  exacts [h.setClockOp, h.of_units (by simp) (by simp) (by simp), h.of_units (by simp) (by simp) (by simp), h.closeSaleOp,
    h.of_units (by simp) (by simp) (by simp), h.of_units (by simp) (by simp) (by simp), h.of_units (by simp) (by simp) (by simp),
    h.basketRequest h.holdSeatsNow, h.basketRequest h.releaseSeatsNow, h.openBasketOp, h.basketRequest h.addVoucherNow,
    h.basketRequest h.dropVoucherNow, h.basketRequest h.quoteNow, h.basketRequest h.payNow, h.basketRequest h.settleNow,
    h.basketRequest h.abandonNow, h.basketRequest h.retireNow, h.cancelPayOp, h.reverseOp, h.loadTemplateOp, h.reprintOp,
    h.redirectOp, h.resumeOp, h.of_units (by simp) (by simp) (by simp), h.of_units (by simp) (by simp) (by simp),
    h.resetStationOp, h.setSenseOp, h.setPatternOp, h.setBindingOp, h.setLampOp, h.configureOp,
    h.of_units (by simp) (by simp) (by simp)]
theorem takeWaiting {e : WaitEvent} : StationLawBut out (takeWaiting e t) := by
  cases e
  exacts [h.takeRequest, h.holdDeadlineOp, h.whenFree h.leftSaleNow, h.statusMoveOp, h.absenceOp, h.returnOp, h.cutDeadlineOp,
    h.pullOp, h.printerResetOp, h.saleCheckOp, h.salesRemovalOp]
omit h in
theorem drainFor {r : Resource} {n : Nat} {t : State} (h : StationLawBut out t) : StationLawBut out (drainFor r n t) := by
  induction n generalizing t with
  | zero => exact h
  | succ n ih =>
    unfold Machine.drainFor
    repeat' split
    · exact h
    · exact h
    · exact ih (takeWaiting (h.of_units (by rfl) (by rfl) (by rfl)))
theorem drain {r : Resource} : StationLawBut out (drain r t) := h.drainFor
theorem refundWrite {serial : Nat} : StationLawBut out (refundWrite serial t) := h.of_units (by simp) (by simp) (by simp)
theorem refundCompleteClose {serial : Nat} : StationLawBut out (refundCompleteClose serial t) :=
  h.refundWrite.drain.overForEach (by exact fun _ _ g => g.drain)
theorem stationCellResetOp {k : Nat} : StationLawBut out (stationCellResetOp k t) := by
  unfold Machine.stationCellResetOp
  split
  exacts [h, h.resetsMoved.stationShare.finish]
end StationLawBut

/-- What a command leads to keeps the station's law; a command that stops leads to nothing. -/
def NextStations (out : Nat → Prop) (o : Host.Outcome State Fault Refusal) : Prop := ∀ t, o = .next t → StationLawBut out t

theorem NextStations.next {out : Nat → Prop} {t : State} (h : StationLawBut out t) : NextStations out (.next t) :=
  fun _ ran => by cases ran; exact h

theorem NextStations.hostWriteUnit {out : Nat → Prop} {s : State} (h : StationLawBut out s) {off : Nat} {lanes : List (Option Byte)} :
    NextStations out (execHostWriteUnit off lanes s) := by
  intro t ran
  unfold execHostWriteUnit at ran
  (repeat' split at ran) <;> cases ran
  exact h.hostUnit

open NextStations in
/-- What a command does, the commands taken one by one. -/
theorem nextStations_exec {out : Nat → Prop} (c : Instr) {s : State} (h : StationLawBut out s) : NextStations out (exec c s) := by
  cases c
  exacts [
    next h.powerOn, next h.softResetOp, next h.runWrite, next (h.of_units (by simp) (by simp) (by simp)),
    next (h.of_units (by simp) (by simp) (by simp)), next (h.of_units (by simp) (by simp) (by simp)), next h,
    hostWriteUnit h, next h.stateWordWrite, next h.stateWordWrite, next h.stateWordWrite, next h.writeMask, next h.acknowledge,
    next (h.of_units (by simp) (by simp) (by simp)), next (h.of_units (by simp) (by simp) (by simp)),
    next h.runTimeOp, next h.clockSecondOp, next (h.of_units (by simp) (by simp) (by simp)), next (h.withRequest fun _ _ v => v.setClockOp),
    next (h.withRequest fun _ _ v => v.of_units (by simp) (by simp) (by simp)), next h.loadingCompleteOp,
    next (h.withRequest fun _ _ v => v.of_units (by simp) (by simp) (by simp)),
    next (h.withRequest fun _ _ v => v.closeSaleOp), next (h.withRequest fun _ _ v => v.of_units (by simp) (by simp) (by simp)),
    next h.salesRemovalOp,
    next (h.of_units (by simp) (by simp) (by simp)), next (h.of_units (by simp) (by simp) (by simp)),
    next (h.of_units (by simp) (by simp) (by simp)),
    next (h.withRequest fun _ _ v => v.of_units (by simp) (by simp) (by simp)),
    next (h.withRequest fun _ _ v => v.of_units (by simp) (by simp) (by simp)),
    next (h.withRequest fun _ _ v => v.basketRequest v.holdSeatsNow), next h.holdEventOp.drain,
    next (h.withRequest fun _ _ v => v.basketRequest v.releaseSeatsNow), next h.releaseEventOp.drain,
    next (h.withRequest fun _ _ v => v.openBasketOp), next (h.withRequest fun _ _ v => v.basketRequest v.addVoucherNow),
    next h.voucherIssueOp.drain, next (h.withRequest fun _ _ v => v.basketRequest v.dropVoucherNow),
    next h.voucherRemovalOp.drain, next (h.withRequest fun _ _ v => v.basketRequest v.quoteNow),
    next (h.withRequest fun _ _ v => v.basketRequest v.payNow), next h.paymentOutcomeOp,
    next (h.withRequest fun _ _ v => v.basketRequest v.settleNow),
    next (h.withRequest fun _ _ v => v.basketRequest v.abandonNow),
    next (h.withRequest fun _ _ v => v.basketRequest v.retireNow), next h.holdDeadlineOp, next h.showLeftSaleOp,
    next h.moveToCollectOp, next h.chuteClearedOp, next h.collectDeadlineOp, next (h.withRequest fun _ _ v => v.cancelPayOp),
    next (h.withRequest fun _ _ v => v.reverseOp), next h.lineFaultOp, next (h.of_units (by simp) (by simp) (by simp)),
    next h.bytesArrive, next h.bytesArrive,
    next h.bytesArrive, next h.ackWaitOp, next h.frameArrives, next h.frameArrives, next h.frameArrives, next h.frameArrives,
    next h.frameArrives, next h.frameArrives, next h.pingTimerOp, next h.authTimeoutOp, next h.abortWaitOp,
    next h.reverseWaitOp, next h.statusByteOp, next h.cutDeadlineOp, next h.pullOp,
    next (h.withRequest fun _ _ v => v.loadTemplateOp), next (h.withRequest fun _ _ v => v.resumeOp),
    next (h.withRequest fun _ _ v => v.redirectOp), next (h.withRequest fun _ _ v => v.reprintOp), next h.saleCheckOp.drain,
    next h.reprintEnterNow.drain, next (h.withRequest fun _ _ v => v.of_units (by simp) (by simp) (by simp)),
    next (h.withRequest fun _ _ v => v.of_units (by simp) (by simp) (by simp)),
    next (h.of_units (by simp) (by simp) (by simp)), next (h.of_units (by simp) (by simp) (by simp)), next h.refundCompleteClose,
    next h.counterByteOp, next (h.of_units (by simp) (by simp) (by simp)),
    next (h.of_units (by simp) (by simp) (by simp)), next h.validationOp, next h.answerExpires, next h.senseChange, next h.senseFilterDue,
    next (h.withRequest fun _ _ v => v.setSenseOp), next (h.withRequest fun _ _ v => v.setBindingOp),
    next (h.withRequest fun _ _ v => v.setLampOp), next h.overrideExpires, next (h.withRequest fun _ _ v => v.setPatternOp),
    next h.patternStepOp, next (h.withRequest fun _ _ v => v.resetStationOp), next h.printerResetOp,
    next h.stationCellResetOp, next (h.withRequest fun _ _ v => v.configureOp),
    next (h.withRequest fun _ _ v => v.of_units (by simp) (by simp) (by simp)), next h.frameArrives]

/-- Settles O9: what moves an input of R163's table derives the kiosk's condition anew, and what moves a lamp or a table takes the lamps
anew. -/
theorem everyStepKeepsConditionsAndLamps : Obligations.EveryStepKeepsConditionsAndLamps := by
  intro s t shaped law ran
  have h := (stationLaw_iff shaped).mp law
  refine (stationLaw_iff ((keeps_of_step ran).shaped shaped)).mpr ?_
  unfold step at ran
  split at ran
  · cases ran
    exact h
  · next c rest _ =>
    have taken : StationLawBut (fun _ => False) { s with pending := rest } := h.of_units rfl rfl rfl
    exact nextStations_exec c taken _ ran

end Sys2Proof.Machine
end

section
/-! The moves of the units (R22 to R154): every command is a sequence of them, and each keeps the laws of payments, baskets, sales, seats
and vouchers. -/

namespace Sys2Proof.Machine

/-! ### What the laws do not read -/

/-- R176: a kind that an unconfigured part takes. -/
def Early (k : RequestKind) : Prop := k = .configure ∨ k = .setClock ∨ k = .clearCounts

/-- Nothing that the laws of the units read differs; where `P` asks for it, what is handed on or waits while unconfigured stays
within R176. -/
structure Unmoved (P : Prop) (s t : State) : Prop where
  config : t.config = s.config
  lines : t.lines = s.lines
  baskets : t.basketUnit.baskets = s.basketUnit.baskets
  outcomes : t.basketUnit.outcomes = s.basketUnit.outcomes
  shows : t.showUnit.shows = s.showUnit.shows
  loadings : t.showUnit.loadings = s.showUnit.loadings
  removals : t.showUnit.removals = s.showUnit.removals
  seats : t.seats = s.seats
  entries : t.voucherUnit.entries = s.voucherUnit.entries
  heads : t.voucherUnit.heads = s.voucherUnit.heads
  sales : t.salesUnit = s.salesUnit
  handed : P → s.config = none → ∀ r ∈ t.board.handed, r ∈ s.board.handed ∨ Early r.kind
  waiting : P → s.config = none → ∀ e ∈ t.waiting, e ∈ s.waiting ∨ ∀ r, e.2 ≠ .request r

theorem Unmoved.refl {P : Prop} (s : State) : Unmoved P s s :=
  ⟨rfl, rfl, rfl, rfl, rfl, rfl, rfl, rfl, rfl, rfl, rfl, fun _ _ _ h => .inl h, fun _ _ _ h => .inl h⟩

/-- R176: an unconfigured part holds no request but those it takes. -/
def Clear (s : State) : Prop :=
  s.config = none → (∀ r ∈ s.board.handed, Early r.kind) ∧ ∀ e ∈ s.waiting, ∀ r, e.2 ≠ .request r

/-! ### The moves -/

/-- A line's records stay as they are but for openings that end, and its state stays or turns to AUTHORIZING or ABORTING. -/
def LineKept (x y : Line) : Prop :=
  y.records.length = x.records.length ∧ ∀ i, OpenRecord (y.records.getD i .empty) →
    OpenRecord (x.records.getD i .empty) ∧ (y.records.getD i .empty).basket = (x.records.getD i .empty).basket ∧
    (y.records.getD i .empty).amount = (x.records.getD i .empty).amount ∧
    (y.state = x.state ∨ y.state = .authorizing ∨ y.state = .aborting)

/-- A basket updated in no field that the laws of seats and vouchers read; its quote stays while it is PAYING. -/
def BasketNoted (c d : Basket) : Prop :=
  d.state = c.state ∧ d.kiosk = c.kiosk ∧ d.sh = c.sh ∧ d.seats = c.seats ∧ d.vouchers = c.vouchers ∧ d.call = c.call ∧
    d.plan = c.plan ∧ (c.cursor ≤ c.plan.length → d.cursor ≤ d.plan.length) ∧ (c.state = .paying → d.quote = c.quote)

/-- R60 to R63: a basket's payment has ended: the outcome of a PAYING basket is taken, or an UNRESOLVED basket is settled. -/
inductive Freed (b : Nat) : State → State → Prop where
  | outcome {s : State} {o : OutcomeReport} (found : s.basketUnit.outcomes.find? (fun o => o.basket == b) = some o)
      (paying : (basketAt s b).state = .paying) :
      Freed b s { s with basketUnit := { s.basketUnit with outcomes := s.basketUnit.outcomes.erase o } }
  | settled {s : State} (unresolved : (basketAt s b).state = .unresolved) : Freed b s s

/-- One move of a unit, with what its command has tested; R176 is told only where `P` asks for it, since one law alone needs it. -/
inductive Move (P : Prop) : State → State → Prop where
  /- nothing the laws read -/
  | quiet {s t : State} (same : Unmoved P s t) : Move P s t
  | reset {s t : State} (same : Unmoved P .reset t) : Move P s t
  | configured {s t : State} {c : Configuration} (idle : s.config = none ∨ ∀ x ∈ s.basketUnit.baskets, x.state = .free)
      (config : t.config = some c) (length : t.lines.length = s.lines.length)
      (records : ∀ n, (lineAt t n).records = (lineAt s n).records)
      (same : Unmoved P { s with config := t.config, lines := t.lines } t) : Move P s t
  /- terminal lines -/
  | line {s : State} {n : Nat} {f : Line → Line} (kept : LineKept (lineAt s n) (f (lineAt s n))) : Move P s (setReceiving n f s)
  | lineRested {s : State} {n : Nat} {f : Line → Line}
      (rest : (lineAt s n).state ≠ .authorizing ∧ (lineAt s n).state ≠ .aborting ∨ kioskPaying s n = false)
      (records : (f (lineAt s n)).records = (lineAt s n).records) : Move P s (setReceiving n f s)
  | recordClosed {s : State} {n i : Nat} {o : PayOutcome} {code : Option (List Byte)} {tail : Option Nat} {dest : LineState}
      (isOpen : OpenRecord (recordAt s n i)) : Move P s (closeRecord n i o code tail dest s)
  /- baskets -/
  | noted {s : State} {b : Nat} {f : Basket → Basket} (noted : BasketNoted (basketAt s b) (f (basketAt s b))) : Move P s (setBasket b f s)
  | opened {s : State} {k sh : Nat} {d : Deadline} (passed : openRefusal s k sh = none) :
      Move P s (updBasket (lowestContext s) (fun c => { Basket.free with
        state := .selecting, kiosk := k, sh := sh, openedAt := nowOf s, deadline := some d, printer := k, changes := c.changes }) s)
  | called {s : State} {b : Nat} {call : Call} (selecting : (basketAt s b).state = .selecting)
      (listed : ∀ slot list, call = .release slot list → list.Nodup ∧ ∀ i ∈ list, i ∈ (basketAt s b).seats)
      (room : ∀ slot kind, call = .issue slot kind → (basketAt s b).vouchers.length < 6) : Move P s (openCall b call s)
  | answered {s : State} {b : Nat} : Move P s (closeCall b id s)
  | held {s : State} {b slot : Nat} {list : List Nat} (call : (basketAt s b).call = some (.hold slot list))
      (passed : holdRefusal s b list = none) :
      Move P s (requote b (closeCall b (fun c => { c with seats := c.seats ++ list, deadline := extendedDeadline s c })
        (holdCells (basketAt s b).sh b list s)))
  | released {s : State} {b slot : Nat} {list : List Nat} (call : (basketAt s b).call = some (.release slot list)) :
      Move P s (requote b (closeCall b (fun c => { c with seats := c.seats.filter (fun x => !list.contains x) })
        (releaseCells (basketAt s b).sh list s)))
  | issued {s t : State} {b slot kind index code : Nat} (call : (basketAt s b).call = some (.issue slot kind))
      (answer : issueVoucher kind b (basketAt s b).sh s = (t, .issued index code)) :
      Move P s (requote b (closeCall b (fun c => { c with vouchers := c.vouchers ++ [index], deadline := extendedDeadline t c }) t))
  | removed {s : State} {b slot position : Nat} (call : (basketAt s b).call = some (.removal slot position)) :
      Move P s (requote b (closeCall b (fun c => { c with vouchers := c.vouchers.eraseIdx position })
        (removeVouchers ((basketAt s b).vouchers[position]?).toList s)))
  | ended {s : State} {b : Nat} {dest : BasketState} (selecting : (basketAt s b).state = .selecting) (idle : (basketAt s b).call = none)
      (ends : dest = .expired ∨ dest = .abandoned) : Move P s (endBasket b dest s)
  | soldFree {s : State} {b : Nat} {m : Method} (selecting : (basketAt s b).state = .selecting) (idle : (basketAt s b).call = none)
      (room : canReserve s = true) : Move P s (saleMove b m (reservePlace s))
  | paying {s : State} {b : Nat} (selecting : (basketAt s b).state = .selecting) (idle : (basketAt s b).call = none)
      (room : canReserve s = true) (on : P → s.config ≠ none) (gross : 1 ≤ (basketAt s b).quote.gross)
      (line : (lineAt s (basketAt s b).kiosk).state = .idle) : Move P s (startPaying b (reservePlace s))
  | sold {s u : State} {b : Nat} {m : Method} (freed : Freed b s u) : Move P s (saleMove b m u)
  | returned {s u : State} {b : Nat} (freed : Freed b s u) : Move P s (returnBasket b u)
  | unresolved {s u : State} {b : Nat} (freed : Freed b s u) : Move P s (leaveUnresolved b u)
  | forgotten {s : State} {o : OutcomeReport} :
      Move P s { s with basketUnit := { s.basketUnit with outcomes := s.basketUnit.outcomes.erase o } }
  | collecting {s : State} {b : Nat} {d : Deadline} (printing : (basketAt s b).state = .printing) :
      Move P s (updBasket b (fun x => { x with state := .collect, deadline := some d }) s)
  | closed {s : State} {b : Nat} {u : Bool} (rested : (basketAt s b).state = .collect ∨ (basketAt s b).state = .closed) :
      Move P s (closeBasket b u s)
  | retired {s : State} {b : Nat} (ended : isEnd (basketAt s b).state = true) :
      Move P s (updBasket b (fun c => { Basket.free with changes := c.changes }) s)
  /- sales and refunds -/
  | saleNoted {s : State} {serial n : Nat} : Move P s (raiseReprints serial n s)
  | refundBegun {s : State} {r : Request} (single : refundOf s (param3 r 0) = none) : Move P s (refundOp r s)
  | refundFreed {s : State} {serial : Nat} : Move P s (refundFreeingOp serial s)
  | refundVoided {s : State} {serial : Nat} : Move P s (refundVoucherOp serial s)
  | refundWritten {s : State} {serial : Nat} : Move P s (refundWrite serial s)
  /- seats and shows -/
  | blocked {s : State} {r : Request} : Move P s (blockSeatsOp r s)
  | unblocked {s : State} {r : Request} : Move P s (unblockSeatsOp r s)
  | entered {s : State} {n : Nat} {st : ShowState} (loaded : (showAt s n).state ≠ .empty) (going : (showAt s n).state ≠ .ended)
      (shown : st ≠ .empty) : Move P s (updShow n (fun w => { w with state := st }) s)
  | loadBegun {s : State} {r : Request} : Move P s (loadShowOp r s)
  | loadDone {s : State} {sh : Nat} {l : Loading} (found : s.showUnit.loadings.find? (fun l => l.sh == sh) = some l) :
      Move P s (loadedState sh l s)
  | dropBegun {s : State} {r : Request} : Move P s (dropShowOp r s)
  | salesRemoved {s : State} {sh : Nat} (single : refundOfShow s sh = none) : Move P s (salesRemovalNow sh s)
  | vouchersRemoved {s : State} {sh : Nat} : Move P s (voucherShowRemovalOp sh s)
  | rangeCleared {s : State} {sh : Nat} : Move P s (seatRangeClearOp sh s)
  | dropped {s : State} {sh : Nat} : Move P s (dropCompleteOp sh s)
  /- vouchers -/
  | used {s : State} {i : Nat} {f : Voucher → Voucher} (active : (voucherAt s i).state = some .active)
      (kept : (f (voucherAt s i)).state = some .redeemed ∨ (f (voucherAt s i)).state = some .voided)
      (same : (f (voucherAt s i)).code = (voucherAt s i).code ∧ (f (voucherAt s i)).link = (voucherAt s i).link) : Move P s (updVoucher i f s)

/-- A sequence of moves. -/
abbrev Moves (P : Prop) : State → State → Prop := Relation.ReflTransGen (Move P)

end Sys2Proof.Machine
end

section
/-! An unconfigured part stays within R176 through every move. -/

namespace Sys2Proof.Machine

/-- The configuration, what is handed on and what waits stay. -/
def Untaken (s t : State) : Prop := t.config = s.config ∧ t.board.handed = s.board.handed ∧ t.waiting = s.waiting

theorem raiseFactor_handed (cell : CellId) (f : FactorSet) (s : State) : (raiseFactor cell f s).board.handed = s.board.handed := by
  rw [raiseFactor_eq]

theorem untaken_completeSlot (slot : Nat) (code : ResultCode) (fields : List Byte) (s : State) :
    Untaken s (completeSlot slot code fields s) := ⟨by simp, completeSlot_handed, by simp⟩

theorem untaken_raiseFactor (cell : CellId) (f : FactorSet) (s : State) : Untaken s (raiseFactor cell f s) :=
  ⟨by simp, raiseFactor_handed .., by simp⟩

theorem Untaken.trans {s t u : State} (first : Untaken s t) (second : Untaken t u) : Untaken s u :=
  ⟨second.1.trans first.1, second.2.1.trans first.2.1, second.2.2.trans first.2.2⟩

/-- A slot completed where nothing of the board has moved. -/
theorem Untaken.completed {s t : State} {slot : Nat} {code : ResultCode} {fields : List Byte} (same : Untaken s t) :
    Untaken s (completeSlot slot code fields t) := same.trans (untaken_completeSlot ..)

theorem untaken_refundOp (r : Request) (s : State) : Untaken s (refundOp r s) := by
  simp only [refundOp]
  split
  · exact untaken_completeSlot ..
  · exact ⟨by simp, by simp, by simp⟩

theorem untaken_refundWrite (serial : Nat) (s : State) : Untaken s (refundWrite serial s) := by
  simp only [refundWrite]
  split
  · exact ⟨rfl, rfl, rfl⟩
  · split
    · exact Untaken.completed ⟨by simp, by simp, by simp⟩
    · exact ⟨rfl, rfl, rfl⟩

theorem untaken_blockSeatsOp (r : Request) (s : State) : Untaken s (blockSeatsOp r s) := by
  simp only [blockSeatsOp]
  split
  · exact untaken_completeSlot ..
  · split
    · exact untaken_completeSlot ..
    · exact Untaken.completed ⟨by simp, by simp, by simp⟩

theorem untaken_unblockSeatsOp (r : Request) (s : State) : Untaken s (unblockSeatsOp r s) := by
  simp only [unblockSeatsOp]
  split
  · exact untaken_completeSlot ..
  · split
    · exact untaken_completeSlot ..
    · exact Untaken.completed ⟨by simp, by simp, by simp⟩

theorem untaken_loadShowOp (r : Request) (s : State) : Untaken s (loadShowOp r s) := by
  simp only [loadShowOp]
  split
  · exact untaken_completeSlot ..
  · exact ⟨rfl, rfl, rfl⟩

theorem untaken_dropShowOp (r : Request) (s : State) : Untaken s (dropShowOp r s) := by
  simp only [dropShowOp]
  split
  · exact untaken_completeSlot ..
  · exact ⟨rfl, rfl, rfl⟩

theorem untaken_salesRemovalNow (sh : Nat) (s : State) : Untaken s (salesRemovalNow sh s) := by
  simp only [salesRemovalNow]
  repeat' split
  exacts [⟨rfl, rfl, rfl⟩, Untaken.completed ⟨rfl, rfl, rfl⟩, ⟨rfl, rfl, rfl⟩]

theorem untaken_dropCompleteOp (sh : Nat) (s : State) : Untaken s (dropCompleteOp sh s) := by
  simp only [dropCompleteOp]
  split
  exacts [⟨rfl, rfl, rfl⟩, Untaken.completed ⟨rfl, rfl, rfl⟩]

theorem untaken_returnBasket (b : Nat) (s : State) : Untaken s (returnBasket b s) := by
  simp only [returnBasket]
  split
  · exact ⟨by simp, by simp, by simp⟩
  · rw [expireBasket]
    exact Untaken.trans ⟨by simp, by simp, by simp⟩ (untaken_raiseFactor ..)

theorem Clear.untaken {s t : State} (clear : Clear s) (same : Untaken s t) : Clear t := by
  obtain ⟨config, handed, waiting⟩ := same
  rw [Clear, config, handed, waiting]
  exact clear

theorem Clear.unmoved {P : Prop} {s t : State} (asked : P) (clear : Clear s) (same : Unmoved P s t) : Clear t := by
  intro none
  rw [same.config] at none
  obtain ⟨handed, waiting⟩ := clear none
  exact ⟨fun r member => (same.handed asked none r member).elim (handed r) id,
    fun e member => (same.waiting asked none e member).elim (waiting e) id⟩

theorem clear_reset : Clear .reset := fun _ => ⟨nofun, nofun⟩

theorem untaken_closeRecord (n i : Nat) (o : PayOutcome) (code : Option (List Byte)) (tail : Option Nat) (dest : LineState) (s : State) :
    Untaken s (closeRecord n i o code tail dest s) := by
  rw [closeRecord_eq]
  have exchanged : Untaken s (recordClosed n i o code tail dest s) := by
    rw [recordClosed, countOutcome_frame]
    unfold faultRaised
    split
    · exact ⟨by simp [outcomeHanded, exchangeOver], raiseFactor_handed .., by simp [outcomeHanded, exchangeOver]⟩
    · exact ⟨rfl, rfl, rfl⟩
  exact forEach_induct (p := Untaken s) (fun slot u same => same.trans (untaken_completeSlot ..)) _ exchanged

theorem issueVoucher_untaken {kind b sh : Nat} {s t : State} {a : IssueAnswer} (answer : issueVoucher kind b sh s = (t, a)) :
    Untaken s t := by
  have moved : Untaken s (issueVoucher kind b sh s).1 := ⟨by simp, by simp, by simp⟩
  rwa [answer] at moved

theorem Freed.untaken {b : Nat} {s u : State} (freed : Freed b s u) : Untaken s u := by
  cases freed <;> exact ⟨rfl, rfl, rfl⟩

theorem Clear.move {P : Prop} {s t : State} (asked : P) (clear : Clear s) (move : Move P s t) : Clear t := by
  cases move
  case quiet same => exact clear.unmoved asked same
  case reset same => exact clear_reset.unmoved asked same
  case configured config _ _ _ => exact fun none => by rw [config] at none; cases none
  case line => exact clear
  case lineRested => exact clear
  case recordClosed => exact clear.untaken (untaken_closeRecord ..)
  case noted => exact clear
  case opened => exact clear
  case called => exact clear
  case answered => exact clear
  case held => exact clear.untaken ⟨by simp, by simp, by simp⟩
  case released => exact clear.untaken ⟨by simp, by simp, by simp⟩
  case issued answer =>
    have same : Untaken s _ := issueVoucher_untaken answer
    exact (clear.untaken same).untaken ⟨rfl, rfl, rfl⟩
  case removed => exact clear.untaken ⟨by simp, by simp, by simp⟩
  case ended => exact clear.untaken ⟨by simp, by simp, by simp⟩
  case soldFree => exact clear.untaken ⟨by simp, by simp, by simp⟩
  case paying => exact clear.untaken ⟨by simp, by simp, by simp⟩
  case sold freed => exact (clear.untaken freed.untaken).untaken ⟨by simp, by simp, by simp⟩
  case returned freed => exact (clear.untaken freed.untaken).untaken (untaken_returnBasket ..)
  case unresolved freed => exact (clear.untaken freed.untaken).untaken ⟨by simp, by simp, by simp⟩
  case forgotten => exact clear
  case collecting => exact clear
  case closed => exact clear.untaken ⟨by simp, by simp, by simp⟩
  case retired => exact clear
  case saleNoted => exact clear.untaken ⟨by simp, by simp, by simp⟩
  case refundBegun => exact clear.untaken (untaken_refundOp ..)
  case refundFreed => exact clear.untaken ⟨by simp, by simp, by simp⟩
  case refundVoided => exact clear.untaken ⟨by simp, by simp, by simp⟩
  case refundWritten => exact clear.untaken (untaken_refundWrite ..)
  case blocked => exact clear.untaken (untaken_blockSeatsOp ..)
  case unblocked => exact clear.untaken (untaken_unblockSeatsOp ..)
  case entered => exact clear
  case loadBegun => exact clear.untaken (untaken_loadShowOp ..)
  case loadDone => exact clear.untaken ⟨by simp [loadedState], by simp [loadedState], by simp [loadedState]⟩
  case dropBegun => exact clear.untaken (untaken_dropShowOp ..)
  case salesRemoved => exact clear.untaken (untaken_salesRemovalNow ..)
  case vouchersRemoved => exact clear.untaken ⟨by simp, by simp, by simp⟩
  case rangeCleared => exact clear.untaken ⟨by simp, by simp, by simp⟩
  case dropped => exact clear.untaken (untaken_dropCompleteOp ..)
  case used => exact clear

end Sys2Proof.Machine
end

section
/-! Every command as a sequence of moves: the board, the station, the seat, voucher and payment units. -/

namespace Sys2Proof.Machine

/-- Only units that the laws do not read have moved. -/
theorem unmoved_of {P : Prop} {s t : State} (config : t.config = s.config) (lines : t.lines = s.lines) (baskets : t.basketUnit = s.basketUnit)
    (shows : t.showUnit = s.showUnit) (seats : t.seats = s.seats) (vouchers : t.voucherUnit = s.voucherUnit)
    (sales : t.salesUnit = s.salesUnit) (handed : t.board.handed = s.board.handed) (waiting : t.waiting = s.waiting) : Unmoved P s t where
  config := config
  lines := lines
  baskets := by rw [baskets]
  outcomes := by rw [baskets]
  shows := by rw [shows]
  loadings := by rw [shows]
  removals := by rw [shows]
  seats := seats
  entries := by rw [vouchers]
  heads := by rw [vouchers]
  sales := sales
  handed _ _ r member := .inl (handed ▸ member)
  waiting _ _ e member := .inl (waiting ▸ member)

/-- A sequence of moves keeps an unconfigured part within R176. -/
theorem Clear.moves {P : Prop} {s t : State} (asked : P) (clear : Clear s) (moves : Moves P s t) : Clear t := by
  induction moves with
  | refl => exact clear
  | tail _ move ih => exact ih.move asked move

namespace Moves
variable {P : Prop} {s t u : State} (h : Moves P s t)
include h

theorem step (move : Move P t u) : Moves P s u := Relation.ReflTransGen.tail h move
theorem quiet (same : Unmoved P t u) : Moves P s u := h.step (.quiet same)

theorem maybe {c : Prop} [Decidable c] (made : Moves P s u) : Moves P s (if c then u else t) := by
  split
  exacts [made, h]
theorem overForEach {l : List Nat} {f : Nat → State → State} (each : ∀ n u, Moves P s u → Moves P s (f n u)) : Moves P s (forEach l f t) :=
  forEach_induct each l h

/-! ### The board and the station: nothing the laws read -/

theorem updKiosk {k : Nat} {f : Kiosk → Kiosk} : Moves P s (updKiosk k f t) := h.quiet (unmoved_of rfl rfl rfl rfl rfl rfl rfl rfl rfl)
theorem updCounter {m : Nat} {f : Counter → Counter} : Moves P s (updCounter m f t) :=
  h.quiet (unmoved_of rfl rfl rfl rfl rfl rfl rfl rfl rfl)
theorem updFoyer {f : Foyer → Foyer} : Moves P s (updFoyer f t) := h.quiet (unmoved_of rfl rfl rfl rfl rfl rfl rfl rfl rfl)
theorem updGenerator {n : Nat} {f : Generator → Generator} : Moves P s (updGenerator n f t) :=
  h.quiet (unmoved_of rfl rfl rfl rfl rfl rfl rfl rfl rfl)
theorem stationMoved {x : StationUnit} : Moves P s { t with station := x } := h.quiet (unmoved_of rfl rfl rfl rfl rfl rfl rfl rfl rfl)
theorem setPrinter {p : Nat} {f : Printer → Printer} : Moves P s (setPrinter p f t) :=
  h.quiet (unmoved_of rfl rfl rfl rfl rfl rfl rfl rfl rfl)
theorem updPrinter {p : Nat} {f : Printer → Printer} : Moves P s (updPrinter p f t) := h.setPrinter.updKiosk
theorem updQueue {p : Nat} {f : Printer → Printer} : Moves P s (updQueue p f t) := h.setPrinter
theorem addStat {off n : Nat} : Moves P s (addStat off n t) := h.quiet (unmoved_of rfl rfl rfl rfl rfl rfl rfl rfl rfl)
theorem emit {o : Output} : Moves P s (emit o t) := h.quiet (unmoved_of rfl rfl rfl rfl rfl rfl rfl rfl rfl)
theorem raiseFactor {cell : CellId} {f : FactorSet} : Moves P s (raiseFactor cell f t) :=
  h.quiet (unmoved_of (by simp) (by simp) (by simp) (by simp) (by simp) (by simp) (by simp) (raiseFactor_handed ..) (by simp))
theorem completeSlot {slot : Nat} {code : ResultCode} {fields : List Byte} : Moves P s (completeSlot slot code fields t) :=
  h.quiet (unmoved_of (by simp) (by simp) (by simp) (by simp) (by simp) (by simp) (by simp) completeSlot_handed (by simp))
theorem finish {slot : Nat} {code : ResultCode} : Moves P s (finish slot code t) := h.completeSlot
theorem reported {before after : Bool} : Moves P s (reportAttention before after t) := by
  rw [reportAttention_eq]
  exact h.quiet (unmoved_of rfl rfl rfl rfl rfl rfl rfl rfl rfl)
theorem reportedFactors {cell : CellId} {factors mask : FactorSet} {before after : Bool} :
    Moves P s (reportAttention before after (setFactors cell factors mask t)) := by
  refine reported (h.quiet ?_)
  rw [setFactors_frame]
  exact unmoved_of rfl rfl rfl rfl rfl rfl rfl rfl rfl
theorem writeMask {cell : CellId} {value : FactorSet} : Moves P s (writeMask cell value t) := h.reportedFactors
theorem acknowledge {cell : CellId} {value : FactorSet} : Moves P s (acknowledge cell value t) := h.reportedFactors

/-- R124: an event that is no request waits. -/
theorem waitFor {r : Resource} {e : WaitEvent} (event : ∀ q, e ≠ .request q) : Moves P s (waitFor r e t) :=
  h.quiet { Unmoved.refl t with
    waiting := fun _ _ x member => by
      rcases List.mem_append.mp member with old | new
      · exact .inl old
      · rw [List.mem_singleton.mp new]
        exact .inr event }
/-- R29: a request waits, the part configured. -/
theorem waitRequest {r : Resource} {e : WaitEvent} (on : P → t.config ≠ none) : Moves P s (Machine.waitFor r e t) :=
  h.quiet { Unmoved.refl t with waiting := fun asked none => absurd none (on asked) }
theorem whenFree {r : Resource} {e : WaitEvent} {f : State → State} (event : ∀ q, e ≠ .request q)
    (free : busy t r = false → Moves P s (f t)) : Moves P s (whenFree r e f t) := by
  unfold Machine.whenFree
  split
  · exact h.waitFor event
  · next idle => exact free (Bool.eq_false_iff.mpr idle)
theorem requestWhenFree {r : Resource} {e : WaitEvent} {f : State → State} (on : P → t.config ≠ none)
    (free : busy t r = false → Moves P s (f t)) : Moves P s (Machine.whenFree r e f t) := by
  unfold Machine.whenFree
  split
  · exact h.waitRequest on
  · next idle => exact free (Bool.eq_false_iff.mpr idle)

/-- A request taken from those handed on: one that is not of R176's is taken by a configured part. -/
theorem withRequest {k : RequestKind} {f : Request → State → State} (clear : P → Clear s)
    (each : ∀ r u, (P → Early k ∨ u.config ≠ none) → Moves P s u → Moves P s (f r u)) : Moves P s (withRequest k f t) := by
  unfold Machine.withRequest
  split
  · next r found =>
    split
    · next kind =>
      have member : r ∈ t.board.handed := List.mem_of_find?_eq_some found
      refine each r _ (fun asked => ?_) (h.quiet { Unmoved.refl t with handed := fun _ _ x inside => .inl (List.mem_of_mem_erase inside) })
      by_cases on : t.config = none
      · exact .inl (kind ▸ ((clear asked).moves asked h on).1 r member)
      · exact .inr on
    · exact h
  · exact h

theorem setFreeCount {n : Nat} : Moves P s (setFreeCount n t) := by
  simp only [Machine.setFreeCount]
  split
  · exact h.updFoyer.maybe h.updFoyer.raiseFactor
  · exact (h.updFoyer.maybe h.updFoyer.raiseFactor).overForEach fun _ _ g => g.updKiosk
theorem refreshKiosk {k : Nat} : Moves P s (refreshKiosk k t) := h.updKiosk
theorem acceptEdge {k l : Nat} : Moves P s (acceptEdge k l t) := by
  have accepted := h.updKiosk (k := k) (f := fun c => { c with
    senses := updAt c.senses l (fun x => { x with accepted := x.present, deadline := none }) })
  have raised := accepted.maybe (c := edgeMatches (senseAt t k l).edge (senseAt t k l).present)
    (accepted.raiseFactor (cell := kioskCell k) (f := kfSense l))
  have keyed := raised.maybe (c := l = 1) (raised.updKiosk (k := k) (f := fun c => { c with service := (senseAt t k l).present }))
  refine refreshKiosk (keyed.maybe (keyed.quiet ?_))
  exact { Unmoved.refl _ with }
theorem updSense {k l : Nat} {f : Sense → Sense} : Moves P s (updSense k l f t) := h.updKiosk
theorem senseChange {k l : Nat} {level : Bool} : Moves P s (senseChange k l level t) := by
  simp only [Machine.senseChange]
  repeat' split
  exacts [h, h.updSense.updSense, h.updSense.acceptEdge, h.updSense.updSense]
theorem senseFilterDue {k l : Nat} : Moves P s (senseFilterDue k l t) := h.maybe h.acceptEdge
theorem setSenseOp {r : Request} : Moves P s (setSenseOp r t) := by
  simp only [Machine.setSenseOp]
  repeat' split
  exacts [h.updSense.finish, h.updSense.acceptEdge.finish, h.updSense.updSense.finish, h.finish, h.finish]
theorem updLamp {l : LampId} {f : Lamp → Lamp} : Moves P s (updLamp l f t) := by
  unfold Machine.updLamp
  split
  exacts [h.updKiosk, h.updKiosk, h.updCounter, h.updCounter]
theorem retakeLamp {l : LampId} : Moves P s (retakeLamp l t) := h.updLamp
omit h in
theorem retakeWhere {shows : State → LampId → Bool} {lamps : List LampId} {t : State} (h : Moves P s t) : Moves P s (retakeWhere shows lamps t) := by
  unfold Machine.retakeWhere
  induction lamps generalizing t with
  | nil => exact h
  | cons l rest ih => exact ih (h.maybe h.retakeLamp)
theorem setBindingOp {r : Request} : Moves P s (setBindingOp r t) := by
  simp only [Machine.setBindingOp]
  repeat' split
  any_goals with_reducible exact h.finish
  · exact h.stationMoved.retakeWhere.finish
  · exact h.stationMoved.retakeWhere.finish
  all_goals exact h.updLamp.retakeLamp.finish
theorem setLampOp {r : Request} : Moves P s (setLampOp r t) := by
  simp only [Machine.setLampOp]
  repeat' split
  any_goals with_reducible exact h.finish
  all_goals exact h.updLamp.retakeLamp.finish
theorem overrideExpires {l : LampId} : Moves P s (overrideExpires l t) := h.maybe h.updLamp.retakeLamp
theorem setPatternOp {r : Request} : Moves P s (setPatternOp r t) := by
  simp only [Machine.setPatternOp]
  split
  exacts [h.updGenerator.finish, h.finish]
theorem patternStepOp {n : Nat} : Moves P s (patternStepOp n t) := by
  simp only [Machine.patternStepOp]
  repeat' split
  exacts [h.updGenerator, h, h]
theorem showAnswer {m : Nat} {a : Showing} : Moves P s (showAnswer m a t) := h.updCounter.updCounter
theorem answerExpires {m : Nat} : Moves P s (answerExpires m t) := h.maybe h.updCounter.updCounter
theorem stationShare {k : Nat} : Moves P s (stationShare k t) := h.reported.updKiosk.refreshKiosk

/-! ### The voucher unit -/

theorem setReceiver {m : Nat} {f : Receiver → Receiver} : Moves P s (setReceiver m f t) := h.quiet { Unmoved.refl t with }
theorem dayChangeOp : Moves P s (dayChangeOp t) := by
  unfold Machine.dayChangeOp takeDay
  split
  · exact h
  · split
    exacts [h.quiet { Unmoved.refl t with }, h.quiet { Unmoved.refl t with }]
theorem counterAnswer {m : Nat} {chars : List Byte} {a : Showing} {kind : Option Nat} {first : Option (Nat × Instant)} :
    Moves P s (counterAnswer m chars a kind first t) := h.updCounter.raiseFactor.addStat.showAnswer
theorem voidVoucherOp {r : Request} : Moves P s (voidVoucherOp r t) := by
  simp only [Machine.voidVoucherOp]
  split
  · exact h.finish
  · split
    · exact h.finish
    · split
      · exact h.finish
      · split
        · next active => exact (h.step (.used active (.inr rfl) ⟨rfl, rfl⟩)).completeSlot
        · exact h.finish
theorem validateCode {m : Nat} {chars : List Byte} : Moves P s (validateCode m chars t) := by
  simp only [Machine.validateCode]
  repeat' split
  any_goals with_reducible exact h.counterAnswer
  next active _ => exact (h.step (.used active (.inl rfl) ⟨rfl, rfl⟩)).counterAnswer
theorem validationOp {m : Nat} : Moves P s (validationOp m t) := by
  simp only [Machine.validationOp]
  repeat' split
  exacts [h, h.setReceiver.validateCode, h.setReceiver]
theorem counterByteOp {m : Nat} {b : Byte} : Moves P s (counterByteOp m b t) := by
  simp only [Machine.counterByteOp]
  repeat' split
  exacts [h, h.setReceiver, h.setReceiver, h.setReceiver.counterAnswer, h.setReceiver, h.setReceiver.counterAnswer,
    h.setReceiver.setReceiver, h.setReceiver]
theorem counterFaultOp {m : Nat} {f : ByteFault} : Moves P s (counterFaultOp m f t) := by
  unfold Machine.counterFaultOp
  split
  exacts [h, h.addStat.setReceiver]
theorem counterGapOp {m : Nat} : Moves P s (counterGapOp m t) := h.setReceiver

/-! ### Terminal lines (R85 to R104) -/

/-- A line updated in neither its state nor its records. -/
theorem receiving {n : Nat} {f : Line → Line} (state : ∀ x, (f x).state = x.state) (records : ∀ x, (f x).records = x.records) :
    Moves P s (Machine.setReceiving n f t) := by
  refine h.step (.line ⟨by rw [records], fun i opened => ?_⟩)
  rw [records] at opened
  exact ⟨opened, by rw [records], by rw [records], .inl (state _)⟩
theorem lineNoted {n : Nat} {f : Line → Line} (state : ∀ x, (f x).state = x.state) (records : ∀ x, (f x).records = x.records) :
    Moves P s (Machine.updLine n f t) := (h.receiving state records).updKiosk
theorem sendFrame {n : Nat} {f : Frame} : Moves P s (sendFrame n f t) := h.emit.lineNoted (by intros; rfl) (by intros; rfl)
theorem endReverse {n : Nat} {code : ResultCode} : Moves P s (endReverse n code t) := by
  unfold Machine.endReverse
  split
  exacts [(h.lineNoted (by intros; rfl) (by intros; rfl)).finish, h]

/-- A line that is in no exchange, or whose kiosk has no basket PAYING, in another state. -/
theorem lineTurned {n : Nat} {f : Line → Line}
    (rest : (lineAt t n).state ≠ .authorizing ∧ (lineAt t n).state ≠ .aborting ∨ kioskPaying t n = false)
    (records : ∀ x, (f x).records = x.records) : Moves P s (Machine.updLine n f t) :=
  updKiosk (h.step (.lineRested rest (records _)))

/-- A record updated that stays open or closed; one that is open may turn to another open phase. -/
theorem recordNoted {n i : Nat} {f : PayRecord → PayRecord}
    (kept : (f (recordAt t n i)).tag = (recordAt t n i).tag ∧ (f (recordAt t n i)).basket = (recordAt t n i).basket ∧
      (f (recordAt t n i)).amount = (recordAt t n i).amount)
    (phase : (f (recordAt t n i)).phase = (recordAt t n i).phase ∨ OpenRecord (recordAt t n i)) : Moves P s (updRecord n i f t) := by
  refine updKiosk (h.step (.line ⟨updAt_length .., fun j opened => ?_⟩))
  rcases getD_updAt (lineAt t n).records i j (fun r => { f r with changes := bump r.changes }) .empty with same | ⟨rfl, written⟩
  · exact ⟨same ▸ opened, by rw [same], by rw [same], .inl rfl⟩
  · obtain ⟨tag, basket, amount⟩ := kept
    refine ⟨?_, by rw [written]; exact basket, by rw [written]; exact amount, .inl rfl⟩
    rw [written] at opened
    refine phase.elim (fun same => ?_) id
    obtain ⟨named, going⟩ := opened
    exact ⟨(tag ▸ named : (recordAt t n j).tag ≠ 0), (same ▸ going : (recordAt t n j).phase ≠ .closed)⟩

/-- A line that enters AUTHORIZING or ABORTING. -/
theorem lineBusy {n : Nat} {f : Line → Line} (state : (f (lineAt t n)).state = .authorizing ∨ (f (lineAt t n)).state = .aborting)
    (records : ∀ x, (f x).records = x.records) : Moves P s (Machine.updLine n f t) := by
  refine updKiosk (h.step (.line ⟨by rw [records], fun i opened => ?_⟩))
  rw [records] at opened
  exact ⟨opened, by rw [records], by rw [records], .inr state⟩

theorem closeRecord {n i : Nat} {o : PayOutcome} {code : Option (List Byte)} {tail : Option Nat} {dest : LineState}
    (isOpen : OpenRecord (recordAt t n i)) : Moves P s (closeRecord n i o code tail dest t) := h.step (.recordClosed isOpen)

omit h in
theorem openRecord_open {n i : Nat} (found : openRecord t n = some i) : OpenRecord (recordAt t n i) := by
  obtain ⟨inside, holds, -⟩ := List.findIdx?_eq_some_iff_getElem.mp found
  rw [recordAt, List.getD_eq_getElem?_getD, List.getElem?_eq_getElem inside]
  simpa [OpenRecord] using holds
omit h in
theorem openRecord_none {n : Nat} (none : openRecord t n = none) (i : Nat) : ¬ OpenRecord (recordAt t n i) := by
  rintro ⟨tag, phase⟩
  by_cases inside : i < (lineAt t n).records.length
  · have closed := List.findIdx?_eq_none_iff.mp none _ (List.getElem_mem inside)
    rw [recordAt, List.getD_eq_getElem?_getD, List.getElem?_eq_getElem inside] at tag phase
    simp_all
  · rw [recordAt, List.getD_eq_getElem?_getD, List.getElem?_eq_none (Nat.le_of_not_lt inside)] at tag
    exact tag rfl
omit h in
theorem records_updLine {n : Nat} {f : Line → Line} (records : ∀ x, (f x).records = x.records) (t : State) :
    (lineAt (Machine.updLine n f t) n).records = (lineAt t n).records :=
  getD_updAt_of (R := fun x y : Line => x.records = y.records) records (fun _ => rfl) _ _ _
omit h in
theorem endReverse_records (n : Nat) (code : ResultCode) (t : State) :
    (lineAt (Machine.endReverse n code t) n).records = (lineAt t n).records := by
  unfold Machine.endReverse
  split
  · have lines : ∀ slot c (u : State), lineAt (Machine.finish slot c u) n = lineAt u n := fun slot c u => by
      rw [lineAt, show (Machine.finish slot c u).lines = u.lines by simp]; rfl
    rw [lines]
    exact records_updLine (by intros; rfl) t
  · rfl
theorem enterFault {n : Nat} {code : ResultCode} : Moves P s (enterFault n code t) := by
  simp only [Machine.enterFault]
  split
  · next i found => exact h.closeRecord (openRecord_open found)
  · next none =>
    refine raiseFactor (updKiosk (h.endReverse.step (.line ⟨rfl, fun i opened => ?_⟩)))
    have records : ∀ y : Line, y.records = (lineAt t n).records → ¬ OpenRecord (y.records.getD i .empty) := fun y same => by
      rw [same]; exact openRecord_none none i
    exact absurd opened (records _ (endReverse_records n code t))
theorem resend {n : Nat} : Moves P s (resend n t) := by
  simp only [Machine.resend]
  repeat' split
  exacts [h, (h.emit.lineNoted (by intros; rfl) (by intros; rfl)).addStat, h.enterFault]
theorem startAbort {n i : Nat} {cause : AbortCause} (isOpen : OpenRecord (recordAt t n i)) : Moves P s (startAbort n i cause t) :=
  ((h.recordNoted (by exact ⟨rfl, rfl, rfl⟩) (by exact .inr isOpen)).lineBusy (by exact .inr rfl) (by intros; rfl)).sendFrame
omit h in
theorem recordAt_updLine {n : Nat} {f : Line → Line} (records : ∀ x, (f x).records = x.records) (i : Nat) :
    recordAt (Machine.updLine n f t) n i = recordAt t n i := by
  rw [recordAt, records_updLine records]; rfl
theorem ackReceived {n : Nat} : Moves P s (ackReceived n t) := by
  simp only [Machine.ackReceived]
  split
  · exact h
  · have delivered := h.lineNoted (n := n) (f := fun x => { x with awaiting := none }) (by intros; rfl) (by intros; rfl)
    have kept : ∀ i, recordAt (Machine.updLine n (fun x => { x with awaiting := none }) t) n i = recordAt t n i :=
      recordAt_updLine fun _ => rfl
    split
    · exact delivered
    · next i found =>
      have isOpen := openRecord_open found
      rw [← kept] at isOpen
      split
      · split
        exacts [delivered.startAbort isOpen, delivered.recordNoted (by exact ⟨rfl, rfl, rfl⟩) (by exact .inr isOpen)]
      · exact delivered
theorem strayFrame {n : Nat} : Moves P s (strayFrame n t) := h.addStat
theorem lateOrStray {n tag : Nat} {v : Option Verdict} : Moves P s (lateOrStray n tag v t) := by
  simp only [Machine.lateOrStray]
  repeat' split
  exacts [h.strayFrame, (h.lineNoted (by intros; rfl) (by intros; rfl)).raiseFactor, (h.lineNoted (by intros; rfl) (by intros; rfl)).raiseFactor,
    h.strayFrame, h.strayFrame, h.strayFrame]
theorem resultFrame {n tag : Nat} {payload : List Byte} : Moves P s (resultFrame n tag payload t) := by
  unfold Machine.resultFrame
  split
  · next i found =>
    have isOpen := openRecord_open found
    split
    · split
      exacts [h.closeRecord isOpen, h.closeRecord isOpen, h.strayFrame]
    · exact h.lateOrStray
  · exact h.lateOrStray
theorem cardFrame {n tag : Nat} {kind : Byte} : Moves P s (cardFrame n tag kind t) := by
  unfold Machine.cardFrame
  repeat' split
  exacts [(h.recordNoted (by exact ⟨rfl, rfl, rfl⟩) (by exact .inl rfl)).raiseFactor, h.strayFrame, h.strayFrame]
theorem abortDoneFrame {n tag : Nat} : Moves P s (abortDoneFrame n tag t) := by
  simp only [Machine.abortDoneFrame]
  split
  · next i found =>
    split
    exacts [h.closeRecord (openRecord_open found), h.strayFrame]
  · exact h.strayFrame
theorem reverseDoneFrame {n tag : Nat} {verdict : Byte} : Moves P s (reverseDoneFrame n tag verdict t) := by
  simp only [Machine.reverseDoneFrame]
  split
  · split
    · next done =>
      have rest : (lineAt t n).state ≠ .authorizing ∧ (lineAt t n).state ≠ .aborting := by rw [done.1]; simp
      exact (h.lineTurned (.inl rest) (by intros; rfl)).finish
    · exact h.strayFrame
  · exact h.strayFrame
omit h in
theorem resting_of_down {x : Line} (down : downOrFault x = true) : x.state ≠ .authorizing ∧ x.state ≠ .aborting := by
  simp only [downOrFault, Bool.or_eq_true, beq_iff_eq] at down
  rcases down with down | down <;> rw [down] <;> simp
theorem pongFrame {n : Nat} : Moves P s (pongFrame n t) := by
  simp only [Machine.pongFrame]
  split
  · next down => exact h.lineTurned (.inl (resting_of_down down)) (by intros; rfl)
  · split
    exacts [h.lineNoted (by intros; rfl) (by intros; rfl), h.strayFrame]
theorem faultFrame {n : Nat} {code : Byte} : Moves P s (faultFrame n code t) := by
  simp only [Machine.faultFrame]
  split
  exacts [h.lineNoted (by intros; rfl) (by intros; rfl), (h.lineNoted (by intros; rfl) (by intros; rfl)).enterFault]
theorem goodFrame {n : Nat} {f : Frame} : Moves P s (goodFrame n f t) := by
  simp only [Machine.goodFrame, Machine.frameTaken]
  repeat' split
  exacts [h.emit.cardFrame, h.emit.resultFrame, h.emit.abortDoneFrame, h.emit.reverseDoneFrame, h.emit.pongFrame,
    h.emit.faultFrame, h.emit.strayFrame]
theorem outside {n : Nat} : Moves P s (Machine.setReceiving n outsideFrame t) := h.receiving (by intros; rfl) (by intros; rfl)
theorem inside {n now : Nat} {l : List Byte} : Moves P s (Machine.setReceiving n (insideFrame now l) t) :=
  h.receiving (by intros; rfl) (by intros; rfl)
theorem byteInside {n : Nat} {l : List Byte} : Moves P s (byteInside n l t) := by
  simp only [Machine.byteInside]
  repeat' split
  exacts [h, h.outside.emit, h.inside, h.outside.goodFrame, h.outside.emit]
theorem lineByte {n : Nat} {b : Byte} : Moves P s (lineByte n b t) := by
  simp only [Machine.lineByte]
  split
  · exact h.byteInside
  · repeat' split
    exacts [h.inside, h.outside.ackReceived, h.outside.resend, h.outside]
omit h in
theorem lineBytes {n : Nat} {l : List Byte} {t : State} (h : Moves P s t) : Moves P s (lineBytes n l t) := by
  induction l generalizing t with
  | nil => exact h
  | cons b rest ih => exact ih h.lineByte
theorem bytesArrive {n : Nat} {l : List Byte} : Moves P s (bytesArrive n l t) := h.maybe h.lineBytes
theorem frameArrives {n : Nat} {f : Frame} : Moves P s (frameArrives n f t) := by
  unfold Machine.frameArrives
  repeat' split
  exacts [h, h.outside.goodFrame, h.lineBytes]
theorem lineFaultOp {n : Nat} {f : ByteFault} : Moves P s (lineFaultOp n f t) := by
  simp only [Machine.lineFaultOp]
  split
  · exact h
  · exact (h.lineNoted (fun _ => by cases f <;> rfl) fun _ => by cases f <;> rfl).addStat
theorem lineGapOp {n : Nat} : Moves P s (lineGapOp n t) := h.maybe h.outside
theorem ackWaitOp {n : Nat} : Moves P s (ackWaitOp n t) := by
  unfold Machine.ackWaitOp
  repeat' split
  exacts [h.resend, h, h]
theorem pingTimerOp {n : Nat} : Moves P s (pingTimerOp n t) := by
  simp only [Machine.pingTimerOp]
  repeat' split
  exacts [(h.lineNoted (by intros; rfl) (by intros; rfl)).emit, (h.lineNoted (by intros; rfl) (by intros; rfl)).emit,
    h.enterFault.emit, h, h]
theorem authTimeoutOp {n : Nat} : Moves P s (authTimeoutOp n t) := by
  unfold Machine.authTimeoutOp
  split
  · split
    · exact h.lineNoted (by intros; rfl) (by intros; rfl)
    · next i found =>
      split
      exacts [(h.recordNoted (by exact ⟨rfl, rfl, rfl⟩) (by exact .inl rfl)).lineNoted (by intros; rfl) (by intros; rfl),
        h.startAbort (openRecord_open found)]
  · exact h
theorem abortWaitOp {n : Nat} : Moves P s (abortWaitOp n t) := by
  unfold Machine.abortWaitOp
  split
  · split
    · next i found => exact h.closeRecord (openRecord_open found)
    · exact h.lineNoted (by intros; rfl) (by intros; rfl)
  · exact h
theorem reverseWaitOp {n : Nat} : Moves P s (reverseWaitOp n t) := h.maybe h.enterFault
omit h in
theorem recordWithTag_tag {n tag i : Nat} (found : recordWithTag t n tag = some i) : (recordAt t n i).tag ≠ 0 := by
  unfold recordWithTag at found
  split at found
  · cases found
  · next positive =>
    obtain ⟨inside, holds, -⟩ := List.findIdx?_eq_some_iff_getElem.mp found
    rw [recordAt, List.getD_eq_getElem?_getD, List.getElem?_eq_getElem inside]
    simp only [beq_iff_eq] at holds
    rw [Option.getD_some, holds]
    exact positive
omit h in
theorem open_updRecord {n i : Nat} {f : PayRecord → PayRecord} (kept : ∀ r, OpenRecord r → OpenRecord (f r))
    (isOpen : OpenRecord (recordAt t n i)) : OpenRecord (recordAt (updRecord n i f t) n i) := by
  rcases getD_updAt t.lines n n (recordsWith i f) .initial with same | ⟨-, written⟩
  · rw [recordAt, show lineAt (updRecord n i f t) n = lineAt t n from same]
    exact isOpen
  · rw [recordAt, show lineAt (updRecord n i f t) n = recordsWith i f (lineAt t n) from written]
    rcases getD_updAt (lineAt t n).records i i (fun r => { f r with changes := bump r.changes }) .empty with same | ⟨-, written⟩
    · rw [show (recordsWith i f (lineAt t n)).records.getD i .empty = recordAt t n i from same]
      exact isOpen
    · rw [show (recordsWith i f (lineAt t n)).records.getD i .empty = _ from written]
      exact kept _ isOpen
theorem cancelPayOp {r : Request} : Moves P s (cancelPayOp r t) := by
  simp only [Machine.cancelPayOp]
  split
  · exact h.finish
  · split
    · exact h.finish
    · next n tag _ =>
      split
      · exact h.finish
      · next i found =>
        split
        · exact h.recordNoted (by exact ⟨rfl, rfl, rfl⟩) (by exact .inl rfl)
        · next phase =>
          have isOpen : OpenRecord (recordAt t n i) := ⟨recordWithTag_tag found, by rw [phase]; simp⟩
          exact startAbort (h.recordNoted (by exact ⟨rfl, rfl, rfl⟩) (by exact .inl rfl)) (open_updRecord (fun _ o => o) isOpen)
        · exact h.finish
        · exact h.finish
theorem reverseOp {r : Request} : Moves P s (reverseOp r t) := by
  simp only [Machine.reverseOp]
  split
  · exact h.finish
  · split
    · exact h.finish
    · split
      · exact h.finish
      · next idle =>
        have rest : (lineAt t (param1 r 0)).state ≠ .authorizing ∧ (lineAt t (param1 r 0)).state ≠ .aborting := by
          rw [not_not.mp idle]; simp
        exact (h.lineTurned (.inl rest) (by intros; rfl)).sendFrame
theorem resetStationOp {r : Request} : Moves P s (resetStationOp r t) := by
  simp only [Machine.resetStationOp]
  split
  · exact h.finish
  · split
    · exact h.finish
    · next free =>
      have same : kioskPaying (Machine.endReverse (param1 r 0) .terminalFault t) (param1 r 0) = false := by
        simpa [kioskPaying] using free
      exact (h.endReverse.lineTurned (.inr same) (by intros; rfl)).stationMoved

end Moves
end Sys2Proof.Machine
end

section
/-! Every command as a sequence of moves: the print, the basket, the show and the sales unit. -/

namespace Sys2Proof.Machine

/-- A context in any state but FREE is one of the table. -/
theorem basket_inside {s : State} {b : Nat} (used : (basketAt s b).state ≠ .free) : b < s.basketUnit.baskets.length := by
  by_contra outside
  rw [basketAt, List.getD_eq_getElem?_getD, List.getElem?_eq_none (Nat.le_of_not_lt outside)] at used
  exact used rfl

/-- No call is open where the basket is not busy. -/
theorem call_of_idle {s : State} {b : Nat} (idle : busy s (.basket b) = false) : (basketAt s b).call = none := by
  simpa [busy] using idle

namespace Moves
variable {P : Prop} {s t u : State} (h : Moves P s t)
include h

/-! ### Baskets updated in what no law of seats or vouchers reads -/

theorem noted {b : Nat} {f : Basket → Basket} (noted : BasketNoted (basketAt t b) (f (basketAt t b))) : Moves P s (updBasket b f t) :=
  h.step (.noted noted)

/-! ### The print unit -/

omit h in
theorem pullChoice_room {p b : Nat} {x : PlanItem} (choice : pullChoice t p = some (b, x)) :
    (basketAt t b).cursor < (basketAt t b).plan.length := by
  unfold pullChoice at choice
  split at choice
  · obtain ⟨y, -, found⟩ := Option.bind_eq_some_iff.mp choice
    obtain ⟨item, here, same⟩ := Option.map_eq_some_iff.mp found
    cases same
    exact (List.getElem?_eq_some_iff.mp here).1
  · cases choice
theorem pullNow {p : Nat} : Moves P s (pullNow p t) := by
  unfold Machine.pullNow
  split
  · exact h
  · next b x choice =>
    exact h.updQueue.noted ⟨rfl, rfl, rfl, rfl, rfl, rfl, rfl, fun _ => pullChoice_room (t := t) choice, fun _ => rfl⟩
theorem pullOp {p : Nat} : Moves P s (pullOp p t) := h.maybe (h.whenFree nofun fun _ => h.pullNow)
theorem enterFinishing {p : Nat} : Moves P s (enterFinishing p t) := h.updPrinter
theorem startItem {p : Nat} : Moves P s (startItem p t) := by
  simp only [Machine.startItem]
  repeat' split
  exacts [h, h.updPrinter.enterFinishing, h.updPrinter, h]
theorem stallPrinter {p : Nat} {cause : StallCause} : Moves P s (stallPrinter p cause t) := h.updPrinter.raiseFactor.addStat
theorem losePrinter {p : Nat} : Moves P s (losePrinter p t) := h.updPrinter.raiseFactor
theorem reportPrinted {x : Item} : Moves P s (reportPrinted x t) := by
  unfold Machine.reportPrinted
  split
  exacts [h.noted ⟨rfl, rfl, rfl, rfl, rfl, rfl, rfl, id, fun _ => rfl⟩, h.step .saleNoted]
theorem countPrinted {p : Nat} {x : Item} : Moves P s (countPrinted p x t) := h.addStat.maybe h.addStat.addStat
theorem removeHead {p : Nat} : Moves P s (removeHead p t) := by
  unfold Machine.removeHead
  split
  exacts [h.updPrinter, h.updPrinter.reportPrinted.countPrinted]
theorem completeItem {p : Nat} : Moves P s (completeItem p t) := h.removeHead.pullNow
theorem takeReady {p : Nat} {b : Byte} : Moves P s (takeReady p b t) := by
  unfold Machine.takeReady
  split
  exacts [h.stallPrinter, h.startItem]
theorem endAbsence {p : Nat} {b : Byte} : Moves P s (endAbsence p b t) := by
  unfold Machine.endAbsence
  repeat' split
  exacts [h.stallPrinter, h.updPrinter, h]
theorem streamOn {p : Nat} : Moves P s (streamOn p t) := h.maybe h.enterFinishing
theorem presentStatus {p : Nat} {b : Byte} : Moves P s (presentStatus p b t) := by
  unfold Machine.presentStatus
  repeat' split
  exacts [h, h.takeReady, h.stallPrinter, h.streamOn, h.completeItem.takeReady, h.stallPrinter, h, h]
theorem movePresent {p : Nat} {b : Byte} : Moves P s (movePresent p b t) := by
  simp only [Machine.movePresent]
  repeat' split
  exacts [h.waitFor nofun, h.endAbsence.whenFree nofun fun _ => h.endAbsence.presentStatus, h.endAbsence.presentStatus]
theorem moveAbsent {p : Nat} : Moves P s (moveAbsent p t) := by
  simp only [Machine.moveAbsent]
  repeat' split
  exacts [h.whenFree nofun fun _ => h.losePrinter, h.losePrinter, h.streamOn, h]
theorem recordStatus {p : Nat} {b : Byte} : Moves P s (recordStatus p b t) := h.updPrinter.maybe h.updPrinter.raiseFactor
theorem takeStatus {p : Nat} {b : Byte} : Moves P s (takeStatus p b t) := by
  simp only [Machine.takeStatus]
  split
  exacts [h.recordStatus.movePresent.refreshKiosk, h.recordStatus.moveAbsent.refreshKiosk]
theorem clockOut {p : Nat} : Moves P s (clockOut p t) := by
  simp only [Machine.clockOut]
  repeat' split
  exacts [h.setPrinter, h.setPrinter.emit, h.emit]
theorem statusByteOp {p : Nat} {b : Byte} : Moves P s (statusByteOp p b t) := h.maybe h.clockOut.takeStatus
theorem statusMoveOp {p : Nat} {b : Byte} : Moves P s (statusMoveOp p b t) :=
  h.whenFree nofun fun _ => h.presentStatus.refreshKiosk
theorem returnOp {p : Nat} {b : Byte} : Moves P s (returnOp p b t) :=
  h.whenFree nofun fun _ => h.endAbsence.presentStatus.refreshKiosk
theorem absenceOp {p : Nat} : Moves P s (absenceOp p t) := by
  unfold Machine.absenceOp
  split
  exacts [h, h.whenFree nofun fun _ => h.losePrinter.refreshKiosk]
theorem cutDeadlineOp {p : Nat} : Moves P s (cutDeadlineOp p t) :=
  h.maybe (h.whenFree nofun fun _ => h.stallPrinter.refreshKiosk)
theorem checkQueues : Moves P s (checkQueues t) := h.overForEach fun _ _ g => g.updQueue
theorem loadTemplateNow {r : Request} : Moves P s (loadTemplateNow r t) := by
  simp only [Machine.loadTemplateNow]
  repeat' split
  · exact h.finish
  · exact h.checkQueues.finish
  · have checked := h.checkQueues
    generalize Machine.checkQueues t = u at checked
    exact finish (checked.quiet (by exact { Unmoved.refl u with }))
theorem loadTemplateOp {r : Request} (on : P → t.config ≠ none) : Moves P s (loadTemplateOp r t) := by
  unfold Machine.loadTemplateOp
  split
  exacts [h.waitRequest on, h.loadTemplateNow]
theorem resumeOp {r : Request} (on : P → t.config ≠ none) : Moves P s (resumeOp r t) := by
  refine h.requestWhenFree on fun _ => ?_
  simp only [Machine.resumeNow]
  split
  exacts [h.finish, h.updPrinter.refreshKiosk.completeSlot]
theorem assignPrinter {dst b : Nat} : Moves P s (assignPrinter dst b t) := h.noted ⟨rfl, rfl, rfl, rfl, rfl, rfl, rfl, id, fun _ => rfl⟩
theorem redirectOp {r : Request} (on : P → t.config ≠ none) : Moves P s (redirectOp r t) := by
  refine h.requestWhenFree on fun _ => h.requestWhenFree on fun _ => ?_
  simp only [Machine.redirectNow]
  split
  exacts [h.finish, (h.updQueue.updQueue.overForEach fun _ _ g => g.assignPrinter).completeSlot]
theorem reprintOp {r : Request} (on : P → t.config ≠ none) : Moves P s (reprintOp r t) := by
  refine h.requestWhenFree on fun _ => ?_
  simp only [Machine.reprintNow]
  repeat' split
  exacts [h.finish, h.finish, h.finish, h.finish, h.setPrinter]
theorem refuseReprint {p slot : Nat} {code : ResultCode} : Moves P s (refuseReprint p slot code t) := h.setPrinter.finish
theorem saleCheckNow {p : Nat} : Moves P s (saleCheckNow p t) := by
  unfold Machine.saleCheckNow
  repeat' split
  exacts [h, h, h.refuseReprint, h.refuseReprint, h.setPrinter]
theorem saleCheckOp {p : Nat} : Moves P s (saleCheckOp p t) := by
  unfold Machine.saleCheckOp
  repeat' split
  exacts [h, h, h.whenFree nofun fun _ => h.saleCheckNow]
theorem reprintEnterNow {p : Nat} : Moves P s (reprintEnterNow p t) := by
  simp only [Machine.reprintEnterNow]
  repeat' split
  exacts [h, h, h.refuseReprint, h.updQueue.completeSlot]
theorem restartPrinter {p : Nat} : Moves P s (restartPrinter p t) := h.updPrinter.emit.refreshKiosk
theorem printerResetNow {k : Nat} : Moves P s (printerResetNow k t) := by
  unfold Machine.printerResetNow
  split
  exacts [h, h.stationMoved.restartPrinter]
theorem printerResetOp {k : Nat} : Moves P s (printerResetOp k t) := h.maybe (h.whenFree nofun fun _ => h.printerResetNow)

/-! ### The basket unit -/

theorem writeSupply : Moves P s (writeSupply t) := h.setFreeCount
theorem openBasketOp {r : Request} : Moves P s (openBasketOp r t) := by
  simp only [Machine.openBasketOp]
  split
  · exact h.finish
  · next passed => exact (h.step (.opened passed)).updKiosk.refreshKiosk.writeSupply.completeSlot
theorem holdSeatsNow {r : Request} : Moves P s (holdSeatsNow r t) := by
  simp only [Machine.holdSeatsNow]
  repeat' split
  · exact h.finish
  · exact h.finish
  · exact h.finish
  · next selecting => exact h.step (.called (not_not.mp selecting) nofun nofun)
theorem releaseSeatsNow {r : Request} : Moves P s (releaseSeatsNow r t) := by
  simp only [Machine.releaseSeatsNow]
  split
  · exact h.finish
  · split
    · exact h.finish
    · next passed =>
      split
      · exact h.finish
      · next selecting =>
        split
        · exact h.completeSlot
        · next listed =>
          push Not at passed
          have once := passed.2.2.2
          rw [repeats, ne_eq, Bool.not_eq_true, Option.isSome_eq_false_iff, Option.isNone_iff_eq_none] at once
          refine h.step (.called (not_not.mp selecting) (fun slot list same => ?_) nofun)
          cases same
          exact ⟨(firstFailing_contains_eq_none.mp once).1, fun i member => by simpa using List.find?_eq_none.mp listed i member⟩
theorem addVoucherNow {r : Request} : Moves P s (addVoucherNow r t) := by
  simp only [Machine.addVoucherNow]
  split
  · exact h.finish
  · next passed =>
    simp only [addRefusal] at passed
    repeat' split at passed
    all_goals cases passed
    next selecting _ room => exact h.step (.called (not_not.mp selecting) nofun fun _ _ _ => Nat.lt_of_not_le room)
theorem dropVoucherNow {r : Request} : Moves P s (dropVoucherNow r t) := by
  simp only [Machine.dropVoucherNow]
  split
  · exact h.finish
  · next passed =>
    simp only [dropRefusal] at passed
    repeat' split at passed
    all_goals cases passed
    next selecting _ => exact h.step (.called (not_not.mp selecting) nofun nofun)
theorem holdEventOp {b : Nat} : Moves P s (holdEventOp b t) := by
  unfold Machine.holdEventOp
  split
  · next call =>
    simp only [Machine.holdEventNow]
    split
    · exact (h.step .answered).completeSlot
    · next passed => exact (h.step (.held call passed)).completeSlot
  · exact h
theorem releaseEventOp {b : Nat} : Moves P s (releaseEventOp b t) := by
  unfold Machine.releaseEventOp
  split
  · next call => exact (h.step (.released call)).completeSlot
  · exact h
omit h in
/-- R133: an issue refused brings the sequence record up to date alone. -/
theorem unmoved_issueVoucher {kind b sh : Nat} {code : ResultCode} (answer : issueVoucher kind b sh t = (u, .refused code)) :
    Unmoved P t u := by
  have day : ∀ d, Unmoved P t (takeDay d t) := fun d => by
    unfold takeDay
    split
    exacts [.refl t, { Unmoved.refl t with }]
  simp only [issueVoucher] at answer
  split at answer
  · cases answer; exact day _
  · split at answer
    · cases answer; exact day _
    · split at answer
      · cases answer; exact day _
      · split at answer
        · cases answer
          exact { day _ with }
        · cases answer
theorem voucherIssueOp {b : Nat} : Moves P s (voucherIssueOp b t) := by
  unfold Machine.voucherIssueOp
  split
  · next slot kind call =>
    simp only [Machine.issueEventNow]
    split
    · next answer => exact ((h.quiet (unmoved_issueVoucher answer)).step .answered).finish
    · next answer => exact (h.step (.issued call answer)).completeSlot
  · exact h
theorem voucherRemovalOp {b : Nat} : Moves P s (voucherRemovalOp b t) := by
  unfold Machine.voucherRemovalOp
  split
  · next call => exact (h.step (.removed call)).completeSlot
  · exact h

end Moves
end Sys2Proof.Machine
end

section
/-! Every command as a sequence of moves: the ends of a basket, the show and the sales unit, the board, what waits, and every command. -/

namespace Sys2Proof.Machine
namespace Moves
variable {P : Prop} {s t u : State} (h : Moves P s t)
include h

/-! ### Paying, settling and ending (R51 to R68) -/

theorem quoteNow {r : Request} : Moves P s (quoteNow r t) := by
  simp only [Machine.quoteNow]
  split
  · exact h.finish
  · split
    · exact h.finish
    · next selecting =>
      refine completeSlot (h.noted ⟨rfl, rfl, rfl, rfl, rfl, rfl, rfl, id, fun paying => ?_⟩)
      rw [not_not.mp selecting] at paying
      cases paying
theorem endedSelecting {b : Nat} {dest : BasketState} (selecting : (basketAt t b).state = .selecting)
    (idle : (basketAt t b).call = none) (ends : dest = .expired ∨ dest = .abandoned) : Moves P s (Machine.endBasket b dest t) :=
  h.step (.ended selecting idle ends)
theorem holdDeadlineOp {b : Nat} : Moves P s (holdDeadlineOp b t) := by
  unfold Machine.holdDeadlineOp
  split
  · next due =>
    simp only [holdDue, Bool.and_eq_true, beq_iff_eq] at due
    exact h.whenFree nofun fun idle => (h.endedSelecting due.1 (call_of_idle idle) (.inl rfl)).raiseFactor
  · exact h
theorem leftSaleNow {b : Nat} (idle : (basketAt t b).call = none) : Moves P s (leftSaleNow b t) := by
  unfold Machine.leftSaleNow
  split
  · next selecting => exact (h.endedSelecting selecting idle (.inl rfl)).raiseFactor
  · exact h
theorem leftSale {b : Nat} : Moves P s (Machine.whenFree (.basket b) (.leftSale b) (Machine.leftSaleNow b) t) :=
  h.whenFree nofun fun idle => h.leftSaleNow (call_of_idle idle)
theorem showLeftSaleOp {sh : Nat} : Moves P s (showLeftSaleOp sh t) :=
  h.maybe (overForEach (h.quiet (by exact { Unmoved.refl t with })) (by exact fun _ _ g => g.leftSale))
theorem abandonNow {r : Request} (idle : (basketAt t (param1 r 0)).call = none) : Moves P s (abandonNow r t) := by
  simp only [Machine.abandonNow]
  split
  · exact h.finish
  · split
    · next selecting => exact (h.endedSelecting selecting idle (.inr rfl)).completeSlot
    · split
      exacts [h.finish, h.finish]
theorem payNow {r : Request} (on : P → t.config ≠ none) (idle : (basketAt t (param1 r 0)).call = none) : Moves P s (payNow r t) := by
  simp only [Machine.payNow]
  split
  · exact h.finish
  · next passed =>
    have selecting : (basketAt t (param1 r 0)).state = .selecting := by
      simp only [payRefusal] at passed
      repeat' split at passed
      all_goals cases passed
      next selecting _ _ => exact not_not.mp selecting
    generalize param1 r 0 = b at idle selecting ⊢
    have inside : b < t.basketUnit.baskets.length := basket_inside (by rw [selecting]; simp)
    have quoted := h.noted (b := b) (f := fun c => { c with quote := basketQuote t (basketAt t b) })
      ⟨rfl, rfl, rfl, rfl, rfl, rfl, rfl, id, fun paying => by rw [selecting] at paying; cases paying⟩
    have self := basketAt_updBasket_self t b (fun c => { c with quote := basketQuote t (basketAt t b) }) inside
    have state : (basketAt (updBasket b (fun c => { c with quote := basketQuote t (basketAt t b) }) t) b).state = .selecting := by
      rw [self]; exact selecting
    have call : (basketAt (updBasket b (fun c => { c with quote := basketQuote t (basketAt t b) }) t) b).call = none := by
      rw [self]; exact idle
    have kiosk : (basketAt (updBasket b (fun c => { c with quote := basketQuote t (basketAt t b) }) t) b).kiosk =
        (basketAt t b).kiosk := by rw [self]
    have quote : (basketAt (updBasket b (fun c => { c with quote := basketQuote t (basketAt t b) }) t) b).quote =
        basketQuote t (basketAt t b) := by rw [self]
    have config : (updBasket b (fun c => { c with quote := basketQuote t (basketAt t b) }) t).config = t.config := rfl
    generalize updBasket b (fun c => { c with quote := basketQuote t (basketAt t b) }) t = v at quoted state call kiosk quote config ⊢
    split
    · exact quoted.completeSlot
    · next stop =>
      rw [← kiosk, ← quote] at stop
      have stops : canReserve v = true ∧ ((basketAt v b).quote.gross ≠ 0 → (lineAt v (basketAt v b).kiosk).state = .idle) := by
        simp only [payStop] at stop
        split at stop
        · cases stop
        · split at stop
          · cases stop
          · next line =>
            split at stop
            · next room =>
              refine ⟨room, fun gross => ?_⟩
              rw [if_neg gross] at line
              cases state : (lineAt v (basketAt v b).kiosk).state <;> simp [state, lineRefusal] at line ⊢
            · cases stop
      rw [← quote]
      split
      · exact (quoted.step (.soldFree state call stops.1)).completeSlot
      · next gross => exact quoted.step (.paying state call stops.1 (config ▸ on) (Nat.one_le_iff_ne_zero.mpr gross) (stops.2 gross))
theorem finishPay {b : Nat} {code : ResultCode} {fields : List Byte} : Moves P s (finishPay b code fields t) := by
  unfold Machine.finishPay
  split
  exacts [h.completeSlot, h]
theorem paymentOutcomeOp {b : Nat} : Moves P s (paymentOutcomeOp b t) := by
  simp only [Machine.paymentOutcomeOp]
  split
  · exact h
  · next o found =>
    have named : o.basket = b := by simpa using List.find?_some found
    split
    · next paying =>
      have freed := Freed.outcome found paying
      subst named
      simp only [Machine.takeOutcome]
      split
      exacts [(h.step (.sold freed)).finishPay, (h.step (.returned freed)).finishPay, (h.step (.returned freed)).finishPay,
        (h.step (.returned freed)).finishPay, (h.step (.unresolved freed)).finishPay]
    · exact h.step .forgotten
theorem settleNow {r : Request} : Moves P s (settleNow r t) := by
  simp only [Machine.settleNow]
  split
  · exact h.finish
  · split
    · exact h.finish
    · next unresolved =>
      have freed := Freed.settled (not_not.mp unresolved)
      split
      exacts [(h.step (.sold freed)).completeSlot, (h.step (.returned freed)).completeSlot]
theorem moveToCollectOp {b : Nat} : Moves P s (moveToCollectOp b t) := by
  simp only [Machine.moveToCollectOp]
  split
  · next done => exact (h.step (.collecting done.1)).refreshKiosk
  · exact h
omit h in
/-- R66: a basket closed leaves the others, and is CLOSED itself. -/
theorem state_closeBasket {b c : Nat} {uncollected : Bool} : (basketAt (Machine.closeBasket b uncollected t) c).state = (basketAt t c).state ∨
    (basketAt (Machine.closeBasket b uncollected t) c).state = .closed := by
  have same : basketAt (Machine.closeBasket b uncollected t) c =
      basketAt (updBasket b (fun x => { x with state := .closed, deadline := none, uncollected := uncollected }) t) c :=
    basketAt_of_baskets (by simp [Machine.closeBasket]) c
  rw [same]
  rcases basketAt_setBasket_or b c (fun x => { { x with state := .closed, deadline := none, uncollected := uncollected } with
    changes := bump x.changes }) t with kept | ⟨-, written⟩
  · exact .inl (congrArg Basket.state kept)
  · exact .inr (congrArg Basket.state written)
theorem chuteClearedOp {k : Nat} : Moves P s (chuteClearedOp k t) := by
  unfold Machine.chuteClearedOp
  split
  · have taken : Moves P s { t with basketUnit := { t.basketUnit with chutes := t.basketUnit.chutes.erase k } } :=
      h.quiet { Unmoved.refl t with }
    have all : ∀ l : List Nat, ∀ {v : State}, Moves P s v → (∀ b ∈ l, (basketAt v b).state = .collect ∨ (basketAt v b).state = .closed) →
        Moves P s (forEach l (fun b => Machine.closeBasket b false) v) := fun l => by
      induction l with
      | nil => exact fun g _ => g
      | cons b l ih =>
        intro v g rested
        refine ih (g.step (.closed (rested b List.mem_cons_self))) fun c member => ?_
        rcases state_closeBasket (t := v) (b := b) (c := c) (uncollected := false) with same | closed
        · rw [same]; exact rested c (List.mem_cons_of_mem _ member)
        · exact .inr closed
    refine all _ taken fun b member => .inl ?_
    have := (List.mem_filter.mp member).2
    simp only [Bool.and_eq_true, beq_iff_eq] at this
    exact this.1
  · exact h
theorem collectDeadlineOp {b : Nat} : Moves P s (collectDeadlineOp b t) := by
  simp only [Machine.collectDeadlineOp]
  split
  · next due => exact (h.step (.closed (.inl due.1))).raiseFactor
  · exact h
theorem retireNow {r : Request} : Moves P s (retireNow r t) := by
  simp only [Machine.retireNow]
  split
  · exact h.finish
  · split
    · next ended => exact (h.step (.retired ended)).writeSupply.finish
    · exact h.finish

/-! ### The show unit (R3 to R17) -/

theorem enterShow {n : Nat} {st : ShowState} (loaded : (showAt t n).state ≠ .empty) (going : (showAt t n).state ≠ .ended)
    (shown : st ≠ .empty) : Moves P s (enterShow n st t) := by
  have entered := h.step (.entered (n := n) (st := st) loaded going shown)
  simp only [Machine.enterShow]
  split
  exacts [raiseFactor (entered.quiet (by exact { Unmoved.refl _ with })), entered.raiseFactor, entered, entered, entered]
omit h in
theorem state_enterShow {n : Nat} {st : ShowState} (inside : n < t.showUnit.shows.length) :
    (showAt (Machine.enterShow n st t) n).state = st ∧ (Machine.enterShow n st t).showUnit.shows.length = t.showUnit.shows.length := by
  have shows : (Machine.enterShow n st t).showUnit.shows = (updShow n (fun w => { w with state := st }) t).showUnit.shows := by
    simp only [Machine.enterShow]
    split <;> simp
  have self := showAt_updShow_self t n (fun w => { w with state := st }) inside
  refine ⟨?_, by rw [shows]; exact updAt_length ..⟩
  rw [showAt, shows]
  exact congrArg ShowRec.state self
omit h in
/-- R9: the moves due are made from a state that is neither EMPTY nor ENDED. -/
theorem enterShows {n : Nat} {l : List ShowState} (shown : ∀ st ∈ l, st ≠ .empty) (going : ∀ st ∈ l.dropLast, st ≠ .ended)
    {t : State} (h : Moves P s t) (start : l ≠ [] → (showAt t n).state ≠ .empty ∧ (showAt t n).state ≠ .ended) :
    Moves P s (l.foldl (fun t st => Machine.enterShow n st t) t) := by
  induction l generalizing t with
  | nil => exact h
  | cons st rest ih =>
    obtain ⟨loaded, open'⟩ := start (by simp)
    have inside : n < t.showUnit.shows.length := by
      by_contra outside
      rw [showAt, List.getD_eq_getElem?_getD, List.getElem?_eq_none (Nat.le_of_not_lt outside)] at loaded
      exact loaded rfl
    have entered := h.enterShow (n := n) (st := st) loaded open' (shown st List.mem_cons_self)
    refine ih (fun x member => shown x (List.mem_cons_of_mem _ member)) (fun x member => ?_) entered fun more => ?_
    · refine going x ?_
      cases rest with
      | nil => simp at member
      | cons y rest => rw [List.dropLast_cons_of_ne_nil (by simp)]; exact List.mem_cons_of_mem _ member
    · rw [(state_enterShow inside).1]
      refine ⟨shown st List.mem_cons_self, going st ?_⟩
      rw [List.dropLast_cons_of_ne_nil more]
      exact List.mem_cons_self
theorem moveShow {n : Nat} : Moves P s (moveShow n t) := by
  unfold Machine.moveShow
  refine enterShows ?_ ?_ h fun due => ?_
  · intro st member
    unfold dueMoves openMoves closeMoves endMoves at member
    repeat' split at member
    all_goals simp at member
    all_goals rcases member with rfl | rfl | rfl <;> simp
  · intro st member
    unfold dueMoves openMoves closeMoves endMoves at member
    repeat' split at member
    all_goals simp at member
    all_goals rcases member with rfl | rfl <;> simp
  · constructor <;> intro state <;> exact due (by rw [dueMoves, state])
theorem moveShows : Moves P s (moveShows t) := h.overForEach fun _ _ g => g.moveShow
theorem writeClock {now : Instant} {phase : Nat} : Moves P s (writeClock now phase t) := h.quiet { Unmoved.refl t with }
theorem reportDay {before : Instant} : Moves P s (reportDay before t) := by
  simp only [Machine.reportDay]
  split
  exacts [h.quiet { Unmoved.refl t with }, h]
theorem clockAdvance : Moves P s (clockAdvance t) := by
  simp only [Machine.clockAdvance]
  repeat' split
  exacts [h, h.writeClock, h.writeClock.reportDay.moveShows]
theorem runTimeOp : Moves P s (runTimeOp t) := clockAdvance (h.quiet { Unmoved.refl t with })
theorem clockSecondOp : Moves P s (clockSecondOp t) := h.maybe h.runTimeOp
theorem setClockOp {r : Request} : Moves P s (setClockOp r t) := by
  simp only [Machine.setClockOp]
  split
  exacts [(h.writeClock.moveShows.maybe h.writeClock.moveShows.reportDay).completeSlot, h.finish]
theorem loadingCompleteOp {sh : Nat} : Moves P s (loadingCompleteOp sh t) := by
  cases found : t.showUnit.loadings.find? (fun l => l.sh == sh) with
  | none => rw [Machine.loadingCompleteOp, found]; exact h
  | some l =>
    rw [loadingCompleteOp_eq found]
    exact (h.step (.loadDone found)).moveShow.completeSlot
theorem setPricesOp {r : Request} : Moves P s (setPricesOp r t) := by
  simp only [Machine.setPricesOp]
  split
  exacts [h.finish, finish (h.quiet (by exact { Unmoved.refl t with }))]
theorem closeSaleOp {r : Request} : Moves P s (closeSaleOp r t) := by
  simp only [Machine.closeSaleOp]
  split
  · exact h.finish
  · split
    · exact h.finish
    · split
      · next onSale => exact (h.enterShow (by rw [onSale]; simp) (by rw [onSale]; simp) (by simp)).finish
      · exact h.finish
theorem salesRemovalOp {sh : Nat} : Moves P s (salesRemovalOp sh t) := by
  unfold Machine.salesRemovalOp
  split
  · exact h.waitFor nofun
  · next other =>
    cases removing : removalAt t sh .sales with
    | none => rw [salesRemovalNow, removing]; exact h
    | some x =>
      refine h.step (.salesRemoved ?_)
      cases refunding : refundOfShow t sh with
      | none => rfl
      | some serial => exact absurd refunding (other x serial removing)

/-! ### The sales unit -/

theorem refundTake {r : Request} (on : P → t.config ≠ none) : Moves P s (refundTake r t) := by
  refine h.requestWhenFree on fun idle => h.step (.refundBegun ?_)
  refine List.find?_eq_none.mpr fun x member same => ?_
  simp only [busy, List.any_eq_false] at idle
  exact idle x member same

/-! ### The board unit -/

theorem boardFault {slot value : Nat} : Moves P s (boardFault slot value t) :=
  raiseFactor (addStat (h.quiet (by exact { Unmoved.refl t with })))
theorem boardMoved {b : Board} (handed : b.handed = t.board.handed) : Moves P s { t with board := b } :=
  h.quiet (unmoved_of rfl rfl rfl rfl rfl rfl rfl handed rfl)
theorem memMoved {m : List Host.Cell} : Moves P s { t with mem := m } := h.quiet (unmoved_of rfl rfl rfl rfl rfl rfl rfl rfl rfl)
theorem echoTag {slot : Nat} : Moves P s (echoTag slot t) := h.memMoved
theorem stateWordWrite {slot value : Nat} : Moves P s (stateWordWrite slot value t) := by
  unfold Machine.stateWordWrite
  split <;> split
  exacts [h.boardMoved (by rfl), h.boardFault, h.echoTag.finish, h.boardFault, h, h.boardFault, h.boardMoved (by rfl), h.boardFault]
theorem stationUnitWrite {l : List (Nat × Byte)} : Moves P s (stationUnitWrite l t) := by
  simp only [Machine.stationUnitWrite]
  split <;> split
  exacts [h.writeMask.acknowledge, h.acknowledge, h.writeMask, h]
theorem countStray {off : Nat} {l : List (Nat × Byte)} : Moves P s (countStray off l t) := by
  unfold Machine.countStray
  split
  exacts [addStat (h.boardMoved (by rfl)), h]
theorem hostUnit {off : Nat} {lanes : List (Option Byte)} : Moves P s (hostUnit off lanes t) := by
  have counted : Moves P s (Machine.countStray off (covered off lanes) (storeBytes (covered off lanes) t)) := h.memMoved.countStray
  refine stationUnitWrite ?_
  unfold stateWordUnit
  split
  · exact counted
  · split
    exacts [counted.stateWordWrite, counted.boardFault]
theorem noticeWrite : Moves P s (noticeWrite t) := h.boardMoved (by rfl)
theorem runtimeLow : Moves P s (runtimeLow t) := (h.boardMoved (by rfl)).emit
theorem runtimeHigh : Moves P s (runtimeHigh t) := (h.boardMoved (by rfl)).emit
theorem coalescingOp : Moves P s (coalescingOp t) := by
  refine h.quiet (unmoved_of (by simp) (by simp) (by simp) (by simp) (by simp) (by simp) (by simp) ?_ (by simp))
  unfold Machine.coalescingOp setCompletions
  split
  · rw [sendInterrupt_board]
  · rfl
theorem decoderTakeOp : Moves P s (decoderTakeOp t) := by
  unfold Machine.decoderTakeOp
  split
  · exact h
  · simp only
    split
    · exact finish (echoTag (h.boardMoved (by rfl)))
    · next k passed =>
      refine h.quiet { Unmoved.refl t with handed := fun _ none r member => ?_ }
      rcases List.mem_append.mp member with old | new
      · exact .inl old
      · rw [List.mem_singleton.mp new]
        right
        simp only [takeCheck] at passed
        split at passed
        · cases passed
        · split at passed
          · cases passed
          · next taken =>
            split at passed
            · cases passed
            · cases passed
              simp only [running, none, Option.isSome_none, Bool.not_false, Bool.true_and, Bool.not_eq_true, Bool.not_eq_false'] at taken
              cases k <;> simp_all [takenUnconfigured, Early]
theorem powerOn : Moves P s (powerOn t) := h.step (.reset { Unmoved.refl _ with })
theorem softResetOp : Moves P s (softResetOp t) := h.step (.reset { Unmoved.refl _ with })
theorem runWrite {value : Word32} : Moves P s (runWrite value t) := by
  simp only [Machine.runWrite]
  repeat' split
  exacts [h.softResetOp, (h.boardMoved (by rfl)).emit, h.boardMoved (by rfl)]


/-! ### The configuration (R93, R185) -/

omit h in
theorem takeShares_handed (old : Option Configuration) (c : Configuration) (kinds : List VoucherKind) (t : State) :
    (Machine.takeShares old c kinds t).board.handed = t.board.handed := by
  rw [(takeShares_spec old c kinds t).ended.2.1]
  exact forEach_induct (p := fun u => u.board.handed = t.board.handed)
    (fun slot u same => completeSlot_handed.trans same) _ rfl
omit h in
/-- R93: the lines a configuration starts or changes keep their records. -/
theorem records_takeShares (old : Option Configuration) (c : Configuration) (kinds : List VoucherKind) (t : State) :
    (Machine.takeShares old c kinds t).lines.length = t.lines.length ∧
      ∀ n, (lineAt (Machine.takeShares old c kinds t) n).records = (lineAt t n).records := by
  have restarted : ∀ n u, (Machine.restartLine n u).lines.length = u.lines.length := fun n u => by
    rw [restartLine_lines]
    exact updAt_length ..
  have length : (Machine.takeShares old c kinds t).lines.length = t.lines.length := by
    have lines : (Machine.takeShares old c kinds t).lines =
        (forEach (changes 12 old c Configuration.lines) Machine.restartLine (beside t.lines t.station kinds t)).lines := by
      simp [Machine.takeShares, changes, beside]
    rw [lines]
    exact forEach_induct (p := fun u => u.lines.length = t.lines.length) (fun n u same => (restarted n u).trans same) _ rfl
  refine ⟨length, fun n => ?_⟩
  by_cases inside : n < t.lines.length
  · rw [(takeShares_spec old c kinds t).lines n inside]
    split <;> rfl
  · have outside : ∀ v : State, v.lines.length = t.lines.length → lineAt v n = .initial := fun v same => by
      rw [lineAt, List.getD_eq_getElem?_getD, List.getElem?_eq_none (by omega), Option.getD_none]
    rw [outside _ length, outside t rfl]
theorem configureOp {r : Request} : Moves P s (configureOp r t) := by
  unfold Machine.configureOp
  dsimp only
  cases passed : configureRefusal t (param2 r 0) with
  | some x => exact h.completeSlot
  | none =>
    generalize configurationOf (stagingBytes t (param2 r 0) recordSize) = c
    generalize (List.range 16).map (fun n => kindOfBytes (kindBytesAt (stagingBytes t (param2 r 0) recordSize) n)) = kinds
    obtain ⟨length, records⟩ := records_takeShares t.config c kinds { t with config := some c }
    have handed := takeShares_handed t.config c kinds { t with config := some c }
    have frame := (takeShares_spec t.config c kinds { t with config := some c }).frame
    refine completeSlot (h.step (.configured (c := c) ?_ (by simp) length records ?_))
    · simp only [configureRefusal] at passed
      repeat' split at passed
      any_goals cases passed
      next idle =>
        simp only [running, Bool.and_eq_true, Bool.not_eq_true', not_and, Bool.not_eq_false, List.all_eq_true, beq_iff_eq] at idle
        by_cases on : t.config = none
        · exact .inl on
        · exact .inr (idle (Option.isSome_iff_ne_none.mpr on)).1
    · generalize Machine.takeShares t.config c kinds { t with config := some c } = v at *
      rw [frame]
      exact ⟨rfl, rfl, rfl, rfl, rfl, rfl, rfl, rfl, rfl, rfl, rfl, fun _ _ r member => .inl (handed ▸ member),
        fun _ _ e member => .inl member⟩
theorem clearCountsOp {r : Request} : Moves P s (clearCountsOp r t) := completeSlot (h.quiet (by exact { Unmoved.refl t with }))

/-! ### What waited -/

theorem basketRequest {r : Request} {f : State → State} (on : P → t.config ≠ none)
    (free : (basketAt t (param1 r 0)).call = none → Moves P s (f t)) : Moves P s (basketRequest r f t) :=
  h.requestWhenFree on fun idle => free (call_of_idle idle)
theorem takeRequest {r : Request} (on : P → t.config ≠ none) : Moves P s (takeRequest r t) := by
  unfold Machine.takeRequest
  split
  exacts [h.setClockOp, h.step .loadBegun, h.setPricesOp, h.closeSaleOp, h.step .dropBegun, h.step .blocked, h.step .unblocked,
    h.basketRequest on fun _ => h.holdSeatsNow, h.basketRequest on fun _ => h.releaseSeatsNow, h.openBasketOp,
    h.basketRequest on fun _ => h.addVoucherNow, h.basketRequest on fun _ => h.dropVoucherNow, h.basketRequest on fun _ => h.quoteNow,
    h.basketRequest on fun idle => h.payNow on idle, h.basketRequest on fun _ => h.settleNow, h.basketRequest on fun idle => h.abandonNow idle,
    h.basketRequest on fun _ => h.retireNow, h.cancelPayOp, h.reverseOp, h.loadTemplateOp on, h.reprintOp on,
    h.redirectOp on, h.resumeOp on, h.voidVoucherOp, h.refundTake on, h.resetStationOp, h.setSenseOp, h.setPatternOp, h.setBindingOp,
    h.setLampOp, h.configureOp, h.clearCountsOp]
theorem takeWaiting {e : WaitEvent} (on : P → ∀ r, e = .request r → t.config ≠ none) : Moves P s (takeWaiting e t) := by
  cases e
  exacts [h.takeRequest (fun asked => on asked _ rfl), h.holdDeadlineOp, h.leftSale, h.statusMoveOp, h.absenceOp, h.returnOp, h.cutDeadlineOp,
    h.pullOp, h.printerResetOp, h.saleCheckOp, h.salesRemovalOp]
omit h in
theorem drainFor {r : Resource} {n : Nat} {t : State} (h : Moves P s t) (clear : P → Clear s) : Moves P s (drainFor r n t) := by
  induction n generalizing t with
  | zero => exact h
  | succ n ih =>
    unfold Machine.drainFor
    split
    · exact h
    · split
      · exact h
      · next e others next =>
        obtain ⟨before, after, waits, -, rest⟩ := nextWaiting_first next
        have left : Moves P s { t with waiting := others } := h.quiet { Unmoved.refl t with
          waiting := fun _ _ x member => by
            rw [rest] at member
            refine .inl ?_
            rw [waits]
            rcases List.mem_append.mp member with member | member
            · exact List.mem_append_left _ member
            · exact List.mem_append_right _ (List.mem_cons_of_mem _ member) }
        refine ih (left.takeWaiting fun asked q same none => ?_)
        refine ((clear asked).moves asked h none).2 (r, e) ?_ q same
        rw [waits]
        exact List.mem_append_right _ List.mem_cons_self
theorem drain {r : Resource} (clear : P → Clear s) : Moves P s (drain r t) := h.drainFor clear
theorem refundCompleteClose {serial : Nat} (clear : P → Clear s) : Moves P s (refundCompleteClose serial t) :=
  ((h.step .refundWritten).drain clear).overForEach (by exact fun _ _ g => g.drain clear)
theorem stationCellResetOp {k : Nat} : Moves P s (stationCellResetOp k t) := by
  unfold Machine.stationCellResetOp
  split
  exacts [h, h.stationMoved.stationShare.finish]

end Moves
end Sys2Proof.Machine
end

section
/-! Every step is a sequence of moves. -/

namespace Sys2Proof.Machine

/-- What a command leads to is a sequence of moves; a command that stops leads to nothing. -/
def NextMoves (P : Prop) (s : State) (o : Host.Outcome State Fault Refusal) : Prop := ∀ t, o = .next t → Moves P s t

namespace NextMoves
variable {P : Prop} {s : State}

theorem next {t : State} (h : Moves P s t) : NextMoves P s (.next t) := fun _ ran => by cases ran; exact h

theorem hostWriteUnit {off : Nat} {lanes : List (Option Byte)} : NextMoves P s (execHostWriteUnit off lanes s) := by
  intro t ran
  unfold execHostWriteUnit at ran
  (repeat' split at ran) <;> cases ran
  exact Moves.hostUnit .refl

/-- R176: a request of a kind that an unconfigured part does not take, taken by its owner. -/
theorem served {k : RequestKind} {f : Request → State → State} (clear : P → Clear s) (late : ¬ Early k)
    (each : ∀ r u, (P → u.config ≠ none) → Moves P s u → Moves P s (f r u)) : NextMoves P s (.next (withRequest k f s)) :=
  next (Moves.withRequest .refl clear fun r u on v => each r u (fun asked => (on asked).resolve_left late) v)

end NextMoves

open NextMoves in
/-- What a command does, the commands taken one by one. -/
theorem nextMoves_exec {P : Prop} (c : Instr) {s : State} (clear : P → Clear s) : NextMoves P s (exec c s) := by
  have h : Moves P s s := .refl
  cases c
  exacts [
    next h.powerOn, next h.softResetOp, next h.runWrite, next h.noticeWrite,
    next h.runtimeLow, next h.runtimeHigh, next h,
    hostWriteUnit, next h.stateWordWrite, next h.stateWordWrite, next h.stateWordWrite, next h.writeMask, next h.acknowledge,
    next h.decoderTakeOp, next h.coalescingOp,
    next h.runTimeOp, next h.clockSecondOp, next h.dayChangeOp, next (h.withRequest clear fun _ _ _ v => v.setClockOp),
    served clear (by simp [Early]) (fun _ _ _ v => v.step .loadBegun), next h.loadingCompleteOp,
    served clear (by simp [Early]) (fun _ _ _ v => v.setPricesOp),
    served clear (by simp [Early]) (fun _ _ _ v => v.closeSaleOp), served clear (by simp [Early]) (fun _ _ _ v => v.step .dropBegun),
    next h.salesRemovalOp,
    next (h.step .vouchersRemoved), next (h.step .rangeCleared), next (h.step .dropped),
    served clear (by simp [Early]) (fun _ _ _ v => v.step .blocked), served clear (by simp [Early]) (fun _ _ _ v => v.step .unblocked),
    served clear (by simp [Early]) (fun _ _ on v => v.basketRequest on fun _ => v.holdSeatsNow), next (h.holdEventOp.drain clear),
    served clear (by simp [Early]) (fun _ _ on v => v.basketRequest on fun _ => v.releaseSeatsNow), next (h.releaseEventOp.drain clear),
    served clear (by simp [Early]) (fun _ _ _ v => v.openBasketOp),
    served clear (by simp [Early]) (fun _ _ on v => v.basketRequest on fun _ => v.addVoucherNow),
    next (h.voucherIssueOp.drain clear), served clear (by simp [Early]) (fun _ _ on v => v.basketRequest on fun _ => v.dropVoucherNow),
    next (h.voucherRemovalOp.drain clear), served clear (by simp [Early]) (fun _ _ on v => v.basketRequest on fun _ => v.quoteNow),
    served clear (by simp [Early]) (fun _ _ on v => v.basketRequest on fun idle => v.payNow on idle), next h.paymentOutcomeOp,
    served clear (by simp [Early]) (fun _ _ on v => v.basketRequest on fun _ => v.settleNow),
    served clear (by simp [Early]) (fun _ _ on v => v.basketRequest on fun idle => v.abandonNow idle),
    served clear (by simp [Early]) (fun _ _ on v => v.basketRequest on fun _ => v.retireNow), next h.holdDeadlineOp, next h.showLeftSaleOp,
    next h.moveToCollectOp, next h.chuteClearedOp, next h.collectDeadlineOp, served clear (by simp [Early]) (fun _ _ _ v => v.cancelPayOp),
    served clear (by simp [Early]) (fun _ _ _ v => v.reverseOp), next h.lineFaultOp, next h.lineGapOp,
    next h.bytesArrive, next h.bytesArrive,
    next h.bytesArrive, next h.ackWaitOp, next h.frameArrives, next h.frameArrives, next h.frameArrives, next h.frameArrives,
    next h.frameArrives, next h.frameArrives, next h.pingTimerOp, next h.authTimeoutOp, next h.abortWaitOp,
    next h.reverseWaitOp, next h.statusByteOp, next h.cutDeadlineOp, next h.pullOp,
    served clear (by simp [Early]) (fun _ _ on v => v.loadTemplateOp on), served clear (by simp [Early]) (fun _ _ on v => v.resumeOp on),
    served clear (by simp [Early]) (fun _ _ on v => v.redirectOp on), served clear (by simp [Early]) (fun _ _ on v => v.reprintOp on),
    next (h.saleCheckOp.drain clear),
    next (h.reprintEnterNow.drain clear), served clear (by simp [Early]) (fun _ _ _ v => v.voidVoucherOp),
    served clear (by simp [Early]) (fun _ _ on v => v.refundTake on),
    next (h.step .refundFreed), next (h.step .refundVoided), next (h.refundCompleteClose clear),
    next h.counterByteOp, next h.counterFaultOp,
    next h.counterGapOp, next h.validationOp, next h.answerExpires, next h.senseChange, next h.senseFilterDue,
    served clear (by simp [Early]) (fun _ _ _ v => v.setSenseOp), served clear (by simp [Early]) (fun _ _ _ v => v.setBindingOp),
    served clear (by simp [Early]) (fun _ _ _ v => v.setLampOp), next h.overrideExpires, served clear (by simp [Early]) (fun _ _ _ v => v.setPatternOp),
    next h.patternStepOp, served clear (by simp [Early]) (fun _ _ _ v => v.resetStationOp), next h.printerResetOp,
    next h.stationCellResetOp, next (h.withRequest clear fun _ _ _ v => v.configureOp),
    next (h.withRequest clear fun _ _ _ v => v.clearCountsOp), next h.frameArrives]

/-- Every step is a sequence of moves. -/
theorem moves_of_step {P : Prop} {s t : State} (clear : P → Clear s) (ran : Machine.step s = .next t) : Moves P s t := by
  unfold step at ran
  split at ran
  · cases ran
    exact .refl
  · next c rest _ =>
    have taken : Moves P s { s with pending := rest } := Relation.ReflTransGen.single (.quiet { Unmoved.refl s with })
    exact taken.trans (nextMoves_exec c (s := { s with pending := rest }) (by exact clear) _ ran)

end Sys2Proof.Machine
end

section
/-! What each move does to the basket contexts. -/

namespace Sys2Proof.Machine

theorem updAt_congr {α : Type} {l : List α} {i : Nat} {f g : α → α} (d : α) (same : f (l.getD i d) = g (l.getD i d)) :
    updAt l i f = updAt l i g := by
  unfold updAt
  split
  · next x found =>
    rw [List.getD_eq_getElem?_getD, found] at same
    exact congrArg (l.set i) same
  · rfl

theorem updAt_updAt_const {α : Type} (l : List α) (i : Nat) (x y : α) :
    updAt (updAt l i (fun _ => x)) i (fun _ => y) = updAt l i (fun _ => y) := by
  refine List.ext_getElem? fun j => ?_
  by_cases inside : i < l.length <;> by_cases here : i = j <;> simp [updAt, inside, here] <;> simp_all

theorem saleMove_basketUnit (b : Nat) (m : Method) (s : State) :
    (saleMove b m s).basketUnit = (updBasket b (soldBasket s.salesUnit.nextSerial (cfgOf s).receipts) s).basketUnit := by
  rw [saleMove_eq]
  dsimp only
  generalize made : finishSale s.salesUnit.nextSerial _ _ _ _ = u
  have same : u.basketUnit = s.basketUnit := by rw [← made]; simp
  simp [updBasket, setBasket, same]

/-- The outcomes handed over stay as they are where an event is answered. -/
theorem outcomes_answered (b : Nat) (f : Basket → Basket) (s : State) :
    (requote b (closeCall b f s)).basketUnit.outcomes = s.basketUnit.outcomes := rfl

/-- A basket context replaced; every other stays. -/
def Rewritten (b : Nat) (d : Basket) (s t : State) : Prop :=
  t.basketUnit.baskets = updAt s.basketUnit.baskets b (fun _ => d)

namespace Rewritten
variable {b : Nat} {d e : Basket} {s t u : State}

theorem length (h : Rewritten b d s t) : t.basketUnit.baskets.length = s.basketUnit.baskets.length := by
  rw [h]; exact updAt_length ..

theorem self (h : Rewritten b d s t) (inside : b < s.basketUnit.baskets.length) : basketAt t b = d := by
  rw [basketAt, h]; exact updAt_getD_self _ _ _ _ inside

theorem other (h : Rewritten b d s t) {n : Nat} (apart : n ≠ b) : basketAt t n = basketAt s n := by
  rw [basketAt, h]; exact updAt_getD_other _ _ _ _ _ apart.symm

theorem outside (h : Rewritten b d s t) (outside : ¬ b < s.basketUnit.baskets.length) (n : Nat) : basketAt t n = basketAt s n := by
  refine basketAt_of_baskets ?_ n
  rw [h, updAt, List.getElem?_eq_none (Nat.le_of_not_lt outside)]

theorem of_setBasket (b : Nat) (f : Basket → Basket) (s : State) : Rewritten b (f (basketAt s b)) s (setBasket b f s) :=
  updAt_congr .free rfl

theorem of_updBasket (b : Nat) (f : Basket → Basket) (s : State) :
    Rewritten b { f (basketAt s b) with changes := bump (basketAt s b).changes } s (updBasket b f s) := of_setBasket ..

theorem trans (h : Rewritten b d s t) (next : Rewritten b e t u) : Rewritten b e s u := by
  rw [Rewritten, next, h, updAt_updAt_const]

theorem before (h : Rewritten b d t u) (same : t.basketUnit.baskets = s.basketUnit.baskets) : Rewritten b d s u := by
  rw [Rewritten, h, same]

theorem after (h : Rewritten b d s t) (same : u.basketUnit.baskets = t.basketUnit.baskets) : Rewritten b d s u := same.trans h

/-- An event's answer applied and the quote computed anew. -/
theorem answered {f : Basket → Basket} (same : t.basketUnit.baskets = s.basketUnit.baskets) (inside : b < s.basketUnit.baskets.length) :
    ∃ q, Rewritten b { f (basketAt s b) with call := none, changes := stepCount (basketAt s b).changes, quote := q } s
      (requote b (closeCall b f t)) := by
  have closed := of_setBasket b (fun c => { f c with call := none, changes := stepCount c.changes }) t
  have quoted := of_setBasket b (fun c => { c with quote := basketQuote (closeCall b f t) c }) (closeCall b f t)
  rw [closeCall, closed.self (same ▸ inside), ← closeCall] at quoted
  rw [basketAt_of_baskets same] at closed quoted
  exact ⟨_, (closed.trans quoted).before same⟩

theorem ended (b : Nat) (dest : BasketState) (s : State) :
    Rewritten b { emptied dest (basketAt s b) with changes := bump (basketAt s b).changes } s (endBasket b dest s) :=
  (of_updBasket b (emptied dest) s).after (by rw [endBasket_baskets])

theorem sold (b : Nat) (m : Method) (s : State) :
    Rewritten b { soldBasket s.salesUnit.nextSerial (cfgOf s).receipts (basketAt s b) with changes := bump (basketAt s b).changes } s
      (saleMove b m s) :=
  (of_updBasket b (soldBasket s.salesUnit.nextSerial (cfgOf s).receipts) s).after (by rw [saleMove_basketUnit])

theorem paying (b : Nat) (s : State) :
    ∃ r, Rewritten b { (basketAt s b) with state := .paying, deadline := none, payRef := r, changes := bump (basketAt s b).changes } s
      (startPaying b s) :=
  ⟨some ((basketAt s b).kiosk, (lineAt s (basketAt s b).kiosk).nextTag), (of_updBasket b (fun x => { x with
    state := .paying, deadline := none, payRef := some ((basketAt s b).kiosk, (lineAt s (basketAt s b).kiosk).nextTag) }) s).after
      (by simp [startPaying])⟩

theorem unresolved (b : Nat) (s : State) :
    Rewritten b { (basketAt s b) with state := .unresolved, deadline := none, changes := bump (basketAt s b).changes } s
      (leaveUnresolved b s) :=
  (of_updBasket b (fun x => { x with state := .unresolved, deadline := none }) s).after (by simp [leaveUnresolved])

theorem closed (b : Nat) (uncollected : Bool) (s : State) :
    Rewritten b { (basketAt s b) with
      state := .closed, deadline := none, uncollected := uncollected, changes := bump (basketAt s b).changes } s
      (closeBasket b uncollected s) :=
  (of_updBasket b (fun x => { x with state := .closed, deadline := none, uncollected := uncollected }) s).after (by simp [closeBasket])

/-- R61: a basket whose payment did not come is SELECTING again while its show is ON_SALE, and expires where it is not. -/
theorem returned (b : Nat) (s : State) :
    (∃ dl k, returnBasket b s = refreshKiosk k (updBasket b (fun x => { x with state := .selecting, deadline := some dl }) (giveBackPlace s))) ∨
    returnBasket b s = expireBasket b (giveBackPlace s) := by
  unfold returnBasket
  dsimp only
  split
  · exact .inl ⟨_, _, rfl⟩
  · exact .inr rfl

end Rewritten
end Sys2Proof.Machine
end

section
/-! The law of the basket contexts (R45, R46), kept by every move. -/

namespace Sys2Proof.Machine

/-- R31, R35: where no entry fails, none repeats another and each passes on its own. -/
theorem firstFailing_apart {fails : List Nat → Nat → Bool} {good : Nat → Prop}
    (tested : ∀ before x, fails before x = false → x ∉ before ∧ good x) {before list : List Nat}
    (passed : firstFailing fails before list = none) : list.Nodup ∧ ∀ x ∈ list, x ∉ before ∧ good x := by
  induction list generalizing before with
  | nil => exact ⟨List.nodup_nil, nofun⟩
  | cons y rest ih =>
    rw [firstFailing] at passed
    split at passed
    · cases passed
    · next pass =>
      obtain ⟨fresh, fits⟩ := tested before y (Bool.eq_false_iff.mpr pass)
      obtain ⟨once, others⟩ := ih passed
      refine ⟨List.nodup_cons.mpr ⟨fun member => (others y member).1 (by simp), once⟩, fun x member => ?_⟩
      rcases List.mem_cons.mp member with rfl | member
      · exact ⟨fresh, fits⟩
      · exact ⟨fun inside => (others x member).1 (List.mem_append_left _ inside), (others x member).2⟩

/-- R29 to R32: what the checks of a hold event say of its seats. -/
theorem hold_passed {s : State} {b : Nat} {list : List Nat} (passed : holdRefusal s b list = none) :
    (showAt s (basketAt s b).sh).state = .onSale ∧ (basketAt s b).seats.length + list.length ≤ 10 ∧ list.Nodup ∧
      ∀ x ∈ list, x ∉ (basketAt s b).seats ∧ x < (showAt s (basketAt s b).sh).seatCount ∧
        (seatOf s (basketAt s b).sh x).state = .free := by
  simp only [holdRefusal] at passed
  split at passed
  · cases passed
  · next onSale =>
    split at passed
    · cases passed
    · next room =>
      split at passed
      · cases passed
      · next fits =>
        split at passed
        · cases passed
        · next free =>
          obtain ⟨once, each⟩ := firstFailing_apart (good := fun x =>
            x ∉ (basketAt s b).seats ∧ x < (showAt s (basketAt s b).sh).seatCount) (by simp_all) fits
          refine ⟨not_not.mp onSale, Nat.le_of_not_lt room, once, fun x member => ?_⟩
          obtain ⟨-, apart, inside⟩ := each x member
          exact ⟨apart, inside, by simpa using List.find?_eq_none.mp free x member⟩

@[simp] theorem salesRemovalNow_keeps (sh : Nat) (s : State) :
    (salesRemovalNow sh s).config = s.config ∧ (salesRemovalNow sh s).seats = s.seats ∧ (salesRemovalNow sh s).basketUnit = s.basketUnit ∧
    (salesRemovalNow sh s).lines = s.lines ∧ (salesRemovalNow sh s).voucherUnit = s.voucherUnit := by
  simp only [salesRemovalNow]
  repeat' split
  exacts [⟨rfl, rfl, rfl, rfl, rfl⟩, ⟨by simp [stepShow, updRemoval], by simp [stepShow, updRemoval], by simp [stepShow, updRemoval],
    by simp [stepShow, updRemoval], by simp [stepShow, updRemoval]⟩, ⟨rfl, rfl, rfl, rfl, rfl⟩]

@[simp] theorem loadedState_keeps (sh : Nat) (l : Loading) (s : State) :
    (loadedState sh l s).config = s.config ∧ (loadedState sh l s).basketUnit = s.basketUnit ∧ (loadedState sh l s).lines = s.lines ∧
    (loadedState sh l s).voucherUnit = s.voucherUnit ∧ (loadedState sh l s).salesUnit = s.salesUnit := by
  simp [loadedState]

theorem closeRecord_basketUnit (n i : Nat) (o : PayOutcome) (code : Option (List Byte)) (tail : Option Nat) (dest : LineState) (s : State) :
    (closeRecord n i o code tail dest s).basketUnit = { s.basketUnit with
      outcomes := s.basketUnit.outcomes ++ [{ basket := (recordAt s n i).basket, outcome := o, code := code.getD [], tail := tail }] } := by
  rw [closeRecord_eq]
  have exchanged : (recordClosed n i o code tail dest s).basketUnit = { s.basketUnit with
      outcomes := s.basketUnit.outcomes ++ [{ basket := (recordAt s n i).basket, outcome := o, code := code.getD [], tail := tail }] } := by
    rw [recordClosed, countOutcome_frame]
    unfold faultRaised
    split <;> simp [outcomeHanded, exchangeOver]
  exact forEach_induct (p := fun u => u.basketUnit = _) (fun slot u same => by rw [← same]; simp) _ exchanged

/-- R29: a call is open on a context of the table. -/
theorem inside_of_call {s : State} {b : Nat} {call : Call} (isOpen : (basketAt s b).call = some call) : b < s.basketUnit.baskets.length := by
  by_contra outside
  rw [basketAt, List.getD_eq_getElem?_getD, List.getElem?_eq_none (Nat.le_of_not_lt outside)] at isOpen
  cases isOpen

/-- R48: a kiosk where a basket opens has none selling. -/
theorem vacant_of_opens {s : State} {k sh : Nat} (passed : openRefusal s k sh = none) {a : Nat} (inside : a < s.basketUnit.baskets.length)
    (sells : Selling (basketAt s a)) : (basketAt s a).kiosk ≠ k := by
  intro kiosk
  simp only [openRefusal] at passed
  repeat' split at passed
  all_goals cases passed
  next vacant _ _ _ =>
    refine vacant (List.any_eq_true.mpr ⟨basketAt s a, ?_, ?_⟩)
    · rw [basketAt, List.getD_eq_getElem _ _ inside]
      exact List.getElem_mem _
    · simpa [kiosk, Selling, or_assoc] using sells

/-- R45: what a context's lists, plan and call keep to. -/
def Basket.Kept (c : Basket) : Prop :=
  c.seats.length ≤ 10 ∧ c.seats.Nodup ∧ c.vouchers.length ≤ 6 ∧ c.plan.length ≤ 17 ∧ c.cursor ≤ c.plan.length ∧
    (c.call ≠ none → c.state = .selecting) ∧ (∀ slot kind, c.call = some (.issue slot kind) → c.vouchers.length < 6)

namespace BasketLaw
variable {s t : State} (law : BasketLaw s)
include law

theorem kept (b : Nat) (inside : b < s.basketUnit.baskets.length) : (basketAt s b).Kept := law.lists b (law.baskets ▸ inside)

theorem of_baskets (same : t.basketUnit.baskets = s.basketUnit.baskets) : BasketLaw t where
  baskets := same ▸ law.baskets
  lists b inside := by rw [basketAt_of_baskets same]; exact law.lists b inside
  oneSelling a insideA b insideB := by
    rw [basketAt_of_baskets same a, basketAt_of_baskets same b]
    exact law.oneSelling a insideA b insideB

/-- A context replaced that sells for the kiosk it sold for, or for a kiosk with no basket selling. -/
theorem rewritten {b : Nat} {d : Basket} (h : Rewritten b d s t)
    (kept : b < s.basketUnit.baskets.length → (basketAt s b).Kept → d.Kept)
    (selling : b < s.basketUnit.baskets.length → Selling d → Selling (basketAt s b) ∧ d.kiosk = (basketAt s b).kiosk ∨
      ∀ a < 24, Selling (basketAt s a) → (basketAt s a).kiosk ≠ d.kiosk) : BasketLaw t := by
  by_cases inside : b < s.basketUnit.baskets.length
  · refine ⟨h.length.trans law.baskets, fun n bound => ?_, fun n boundN m boundM => ?_⟩
    · by_cases here : n = b
      · subst here
        rw [h.self inside]
        exact kept inside (law.kept n inside)
      · rw [h.other here]
        exact law.lists n bound
    · by_cases hereN : n = b <;> by_cases hereM : m = b
      · exact fun _ _ _ => hereN.trans hereM.symm
      · subst hereN
        rw [h.self inside, h.other hereM]
        intro sellsN sellsM kiosk
        rcases selling inside sellsN with ⟨sold, same⟩ | none
        · exact law.oneSelling n boundN m boundM sold sellsM (same ▸ kiosk)
        · exact absurd kiosk.symm (none m boundM sellsM)
      · subst hereM
        rw [h.self inside, h.other hereN]
        intro sellsN sellsM kiosk
        rcases selling inside sellsM with ⟨sold, same⟩ | none
        · exact law.oneSelling n boundN m boundM sellsN sold (same ▸ kiosk)
        · exact absurd kiosk (none n boundN sellsN)
      · rw [h.other hereN, h.other hereM]
        exact law.oneSelling n boundN m boundM
  · exact law.of_baskets (by rw [h, updAt, List.getElem?_eq_none (Nat.le_of_not_lt inside)])

/-- A context replaced that sells on for its kiosk. -/
theorem sellingOn {b : Nat} {d : Basket} (h : Rewritten b d s t) (kept : (basketAt s b).Kept → d.Kept)
    (selling : Selling d → Selling (basketAt s b)) (kiosk : d.kiosk = (basketAt s b).kiosk) : BasketLaw t :=
  law.rewritten h (fun _ => kept) fun _ sells => .inl ⟨selling sells, kiosk⟩

/-- A context replaced that sells no more. -/
theorem soldOut {b : Nat} {d : Basket} (h : Rewritten b d s t) (kept : (basketAt s b).Kept → d.Kept) (ended : ¬ Selling d) : BasketLaw t :=
  law.rewritten h (fun _ => kept) fun _ sells => absurd sells ended

theorem noCall {b : Nat} (used : (basketAt s b).state ≠ .free) (apart : (basketAt s b).state ≠ .selecting) : (basketAt s b).call = none := by
  obtain ⟨-, -, -, -, -, call, -⟩ := law.kept b (basket_inside used)
  exact not_not.mp fun isOpen => apart (call isOpen)

theorem freed {b : Nat} (freed : Freed b s t) : BasketLaw t := by
  cases freed
  exacts [law.of_baskets rfl, law]

end BasketLaw

theorem Basket.Kept.planOf {c : Basket} (kept : c.Kept) (receipts : Bool) : (planOf c receipts).length ≤ 17 := by
  obtain ⟨seats, -, vouchers, -⟩ := kept
  unfold Machine.planOf
  split <;> simp <;> omega

/-- R60 to R63: a basket whose payment has ended was PAYING or UNRESOLVED. -/
theorem Freed.state {b : Nat} {s u : State} (freed : Freed b s u) :
    (basketAt u b).state = .paying ∨ (basketAt u b).state = .unresolved := by
  cases freed with
  | outcome _ paying => exact .inl paying
  | settled unresolved => exact .inr unresolved

namespace BasketLaw

theorem sold {s : State} {b : Nat} {m : Method} (law : BasketLaw s) (idle : (basketAt s b).call = none) : BasketLaw (saleMove b m s) := by
  refine law.soldOut (.sold b m s) (fun kept => ?_) (by simp [Selling, soldBasket])
  obtain ⟨seats, once, vouchers, -, -, -, -⟩ := id kept
  refine ⟨seats, once, vouchers, kept.planOf _, Nat.zero_le _, fun isOpen => absurd idle isOpen, fun slot kind call => ?_⟩
  exact absurd (idle.symm.trans call) nofun

theorem ended {s : State} {b : Nat} {dest : BasketState} (law : BasketLaw s) (idle : (basketAt s b).call = none)
    (ends : dest = .expired ∨ dest = .abandoned) : BasketLaw (endBasket b dest s) := by
  refine law.soldOut (.ended b dest s) (fun kept => ?_) (by rcases ends with rfl | rfl <;> simp [Selling, emptied])
  obtain ⟨-, -, -, plan, cursor, -, -⟩ := kept
  exact ⟨Nat.zero_le _, List.nodup_nil, Nat.zero_le _, plan, cursor, fun isOpen => absurd idle isOpen, fun _ _ _ => Nat.succ_pos 5⟩

/-- A context in another state, its lists and its plan as they stand, no call open on it. -/
theorem turned {s t : State} {b : Nat} {d : Basket} (law : BasketLaw s) (h : Rewritten b d s t) (idle : (basketAt s b).call = none)
    (selling : Selling d → Selling (basketAt s b))
    (same : d.kiosk = (basketAt s b).kiosk ∧ d.seats = (basketAt s b).seats ∧ d.vouchers = (basketAt s b).vouchers ∧
      d.plan = (basketAt s b).plan ∧ d.cursor = (basketAt s b).cursor ∧ d.call = (basketAt s b).call) : BasketLaw t := by
  obtain ⟨kiosk, seats, vouchers, plan, cursor, call⟩ := same
  refine law.sellingOn h (fun kept => ?_) selling kiosk
  unfold Basket.Kept at kept ⊢
  rw [seats, vouchers, plan, cursor, call]
  rw [idle] at kept ⊢
  obtain ⟨seats, once, vouchers, plan, cursor, -, -⟩ := kept
  exact ⟨seats, once, vouchers, plan, cursor, fun isOpen => absurd rfl isOpen, nofun⟩

theorem move {P : Prop} {s t : State} (law : BasketLaw s) (move : Move P s t) : BasketLaw t := by
  have done : ∀ {u : State} {b : Nat}, BasketLaw u → (basketAt u b).state = .paying ∨ (basketAt u b).state = .unresolved →
      (basketAt u b).call = none := fun {u b} law state =>
    law.noCall (by rcases state with state | state <;> rw [state] <;> simp) (by rcases state with state | state <;> rw [state] <;> simp)
  cases move
  case quiet same => exact law.of_baskets same.baskets
  case reset same => exact basketLaw_reset.of_baskets same.baskets
  case configured same => exact law.of_baskets same.baskets
  case line => exact law.of_baskets rfl
  case lineRested => exact law.of_baskets rfl
  case recordClosed => exact law.of_baskets (by rw [closeRecord_basketUnit])
  case noted b f noted =>
    obtain ⟨state, kiosk, -, seats, vouchers, call, plan, cursor, -⟩ := noted
    refine law.sellingOn (.of_setBasket b f s) (fun kept => ?_) (by rw [Selling, state]; exact id) kiosk
    obtain ⟨seats', once, vouchers', plan', cursor', calls, issue⟩ := kept
    rw [Basket.Kept, state, seats, vouchers, call, plan]
    exact ⟨seats', once, vouchers', plan', plan ▸ cursor cursor', calls, issue⟩
  case opened k sh d passed =>
    refine law.rewritten (.of_updBasket ..) (fun _ _ => ?_) fun _ _ => .inr fun a inside sells kiosk => ?_
    · exact ⟨Nat.zero_le _, List.nodup_nil, Nat.zero_le _, Nat.zero_le _, Nat.le_refl _, nofun, nofun⟩
    · exact vacant_of_opens passed (law.baskets ▸ inside) sells kiosk
  case called b call selecting _ room =>
    refine law.sellingOn (.of_setBasket ..) (fun kept => ?_) id rfl
    obtain ⟨seats, once, vouchers, plan, cursor, -, -⟩ := kept
    exact ⟨seats, once, vouchers, plan, cursor, fun _ => selecting, fun slot kind same => room slot kind (Option.some.inj same)⟩
  case answered b =>
    refine law.sellingOn (.of_setBasket ..) (fun kept => ?_) id rfl
    obtain ⟨seats, once, vouchers, plan, cursor, -, -⟩ := kept
    exact ⟨seats, once, vouchers, plan, cursor, fun isOpen => absurd rfl isOpen, nofun⟩
  case held b slot list call passed =>
    obtain ⟨-, room, once, each⟩ := hold_passed passed
    obtain ⟨q, h⟩ := Rewritten.answered (f := fun c => { c with seats := c.seats ++ list, deadline := extendedDeadline s c })
      (t := holdCells (basketAt s b).sh b list s) (by simp) (inside_of_call call)
    refine law.sellingOn h (fun kept => ?_) id rfl
    obtain ⟨-, own, vouchers, plan, cursor, -, -⟩ := kept
    exact ⟨by simpa using room, List.nodup_append.mpr ⟨own, once, fun x inside y new same => (each y new).1 (same ▸ inside)⟩,
      vouchers, plan, cursor, fun isOpen => absurd rfl isOpen, nofun⟩
  case released b slot list call =>
    obtain ⟨q, h⟩ := Rewritten.answered (f := fun c => { c with seats := c.seats.filter (fun x => !list.contains x) })
      (t := releaseCells (basketAt s b).sh list s) (by simp) (inside_of_call call)
    refine law.sellingOn h (fun kept => ?_) id rfl
    obtain ⟨seats, own, vouchers, plan, cursor, -, -⟩ := kept
    exact ⟨(List.length_filter_le ..).trans seats, own.filter _, vouchers, plan, cursor, fun isOpen => absurd rfl isOpen, nofun⟩
  case issued u b slot kind index code call answer =>
    have same : u.basketUnit.baskets = s.basketUnit.baskets := by
      rw [← show (issueVoucher kind b (basketAt s b).sh s).1 = u from congrArg Prod.fst answer]; simp
    obtain ⟨q, h⟩ := Rewritten.answered (f := fun c => { c with vouchers := c.vouchers ++ [index], deadline := extendedDeadline u c })
      same (inside_of_call call)
    refine law.sellingOn h (fun kept => ?_) id rfl
    obtain ⟨seats, own, -, plan, cursor, -, room⟩ := kept
    exact ⟨seats, own, by simpa using room slot kind call, plan, cursor, fun isOpen => absurd rfl isOpen, nofun⟩
  case removed b slot position call =>
    obtain ⟨q, h⟩ := Rewritten.answered (f := fun c => { c with vouchers := c.vouchers.eraseIdx position })
      (t := removeVouchers ((basketAt s b).vouchers[position]?).toList s) (by simp) (inside_of_call call)
    refine law.sellingOn h (fun kept => ?_) id rfl
    obtain ⟨seats, own, vouchers, plan, cursor, -, -⟩ := kept
    exact ⟨seats, own, (List.length_eraseIdx_le ..).trans vouchers, plan, cursor, fun isOpen => absurd rfl isOpen, nofun⟩
  case ended idle ends => exact law.ended idle ends
  case soldFree b m _ idle _ => exact (law.of_baskets (by rfl) : BasketLaw (reservePlace s)).sold idle
  case paying b selecting idle _ _ _ _ =>
    obtain ⟨r, h⟩ := Rewritten.paying b (reservePlace s)
    exact law.turned (h.before rfl) idle (fun _ => .inl selecting) ⟨rfl, rfl, rfl, rfl, rfl, rfl⟩
  case sold freed =>
    have left := law.freed freed
    exact left.sold (done left freed.state)
  case returned u b freed =>
    have left := law.freed freed
    have idle := done left freed.state
    rcases Rewritten.returned b u with ⟨dl, k, same⟩ | same
    · rw [same]
      have h := (Rewritten.of_updBasket b (fun x => { x with state := .selecting, deadline := some dl }) (giveBackPlace u)).before
        (s := u) rfl
      exact BasketLaw.of_baskets (left.turned h idle
        (fun _ => freed.state.elim (fun state => .inr (.inl state)) fun state => .inr (.inr state)) ⟨rfl, rfl, rfl, rfl, rfl, rfl⟩) (by simp)
    · rw [same, expireBasket]
      exact BasketLaw.of_baskets (BasketLaw.ended (s := giveBackPlace u) (left.of_baskets rfl) idle (.inl rfl)) (by simp)
  case unresolved u b freed =>
    have left := law.freed freed
    exact left.turned (.unresolved b u) (done left freed.state)
      (fun _ => freed.state.elim (fun state => .inr (.inl state)) fun state => .inr (.inr state)) ⟨rfl, rfl, rfl, rfl, rfl, rfl⟩
  case forgotten => exact law.of_baskets rfl
  case collecting b d printing =>
    exact law.turned (.of_updBasket ..) (law.noCall (by rw [printing]; simp) (by rw [printing]; simp)) (by simp [Selling])
      ⟨rfl, rfl, rfl, rfl, rfl, rfl⟩
  case closed b uncollected rested =>
    have idle := law.noCall (b := b) (by rcases rested with state | state <;> rw [state] <;> simp)
      (by rcases rested with state | state <;> rw [state] <;> simp)
    exact law.turned (.closed b uncollected s) idle (by simp [Selling]) ⟨rfl, rfl, rfl, rfl, rfl, rfl⟩
  case retired =>
    refine law.soldOut (.of_updBasket ..) (fun _ => ?_) not_selling_free
    exact ⟨Nat.zero_le _, List.nodup_nil, Nat.zero_le _, Nat.zero_le _, Nat.le_refl _, nofun, nofun⟩
  case entered => exact law.of_baskets rfl
  case used => exact law.of_baskets rfl
  all_goals exact law.of_baskets (by simp)

end BasketLaw
end Sys2Proof.Machine
end

section
/-! The law of the payment records (R94 to R104), kept by every move. -/

namespace Sys2Proof.Machine

/-- What a list whose images differ holds beside an entry has another image. -/
theorem erase_apart {α β : Type} [DecidableEq α] {f : α → β} {l : List α} (once : (l.map f).Nodup) {o : α} (member : o ∈ l) (x : α)
    (rest : x ∈ l.erase o) : f x ≠ f o := by
  intro same
  obtain rfl := List.inj_on_of_nodup_map once (List.mem_of_mem_erase rest) member same
  exact once.of_map.not_mem_erase rest

theorem empty_record_closed : ¬ OpenRecord PayRecord.empty := fun isOpen => isOpen.1 rfl

namespace PaymentLaw
variable {s t : State} (law : PaymentLaw s)
include law

theorem clear : Clear s := law.unconfigured

theorem inside_of_open {n i : Nat} (isOpen : OpenRecord (recordAt s n i)) : n < 12 ∧ i < 4 := by
  have inside : n < 12 := by
    by_contra outside
    have none : lineAt s n = .initial := by
      rw [lineAt, List.getD_eq_getElem?_getD, List.getElem?_eq_none (by rw [law.lines]; omega), Option.getD_none]
    rw [recordAt, none] at isOpen
    rcases i with _ | _ | _ | _ | i <;> exact isOpen.1 rfl
  refine ⟨inside, ?_⟩
  by_contra outside
  rw [recordAt, List.getD_eq_getElem?_getD, List.getElem?_eq_none (by rw [law.records n inside]; omega)] at isOpen
  exact empty_record_closed isOpen

/-- R94: what stands behind an open record. -/
theorem of_open {n i : Nat} (isOpen : OpenRecord (recordAt s n i)) :
    s.config ≠ none ∧ ((lineAt s n).state = .authorizing ∨ (lineAt s n).state = .aborting) ∧
      (∀ j, OpenRecord (recordAt s n j) → j = i) ∧ (recordAt s n i).basket < 24 ∧ (basketAt s (recordAt s n i).basket).state = .paying ∧
      (basketAt s (recordAt s n i).basket).kiosk = n ∧ 1 ≤ (recordAt s n i).amount ∧
      (recordAt s n i).amount = (basketAt s (recordAt s n i).basket).quote.gross ∧
      ∀ o ∈ s.basketUnit.outcomes, o.basket ≠ (recordAt s n i).basket := by
  obtain ⟨insideN, insideI⟩ := law.inside_of_open isOpen
  obtain ⟨on, state, only, basket, paying, kiosk, positive, amount, new⟩ := law.opened n insideN i insideI isOpen
  exact ⟨on, state, fun j other => only j (law.inside_of_open other).2 other, basket, paying, kiosk, positive, amount, new⟩

/-- What the law reads of the lines, the baskets, the outcomes and the configuration stands. -/
theorem of_units (config : t.config = s.config) (lines : t.lines = s.lines) (baskets : t.basketUnit.baskets = s.basketUnit.baskets)
    (outcomes : t.basketUnit.outcomes = s.basketUnit.outcomes) (clear : Clear t) : PaymentLaw t where
  lines := lines ▸ law.lines
  records n inside := by rw [lineAt, lines]; exact law.records n inside
  baskets := baskets ▸ law.baskets
  opened n insideN i insideI isOpen := by
    have line : lineAt t n = lineAt s n := by rw [lineAt, lines]; rfl
    rw [line] at isOpen ⊢
    dsimp only
    rw [config, basketAt_of_baskets baskets, outcomes]
    exact law.opened n insideN i insideI isOpen
  outcomes o member := by rw [basketAt_of_baskets baskets]; exact law.outcomes o (outcomes ▸ member)
  once := by rw [outcomes]; exact law.once
  calls b inside := by rw [basketAt_of_baskets baskets]; exact law.calls b inside
  unconfigured := clear

/-- The contexts replaced, or outcomes forgotten: what an open record or an outcome names is PAYING as it was. -/
theorem of_baskets (config : t.config = s.config) (lines : t.lines = s.lines)
    (length : t.basketUnit.baskets.length = s.basketUnit.baskets.length)
    (fewer : t.basketUnit.outcomes.Sublist s.basketUnit.outcomes)
    (paying : ∀ b, (basketAt s b).state = .paying → (∃ o ∈ t.basketUnit.outcomes, o.basket = b) ∨
      (∀ o ∈ s.basketUnit.outcomes, o.basket ≠ b) → (basketAt t b).state = .paying ∧ (basketAt t b).kiosk = (basketAt s b).kiosk ∧
        (basketAt t b).quote.gross = (basketAt s b).quote.gross)
    (calls : ∀ b < 24, (basketAt t b).call ≠ none → (basketAt t b).state = .selecting) (clear : Clear t) : PaymentLaw t where
  lines := lines ▸ law.lines
  records n inside := by rw [lineAt, lines]; exact law.records n inside
  baskets := length.trans law.baskets
  opened n insideN i insideI isOpen := by
    have line : lineAt t n = lineAt s n := by rw [lineAt, lines]; rfl
    rw [line] at isOpen ⊢
    obtain ⟨on, state, only, basket, pays, kiosk, positive, amount, new⟩ := law.opened n insideN i insideI isOpen
    obtain ⟨pays', kiosk', gross'⟩ := paying _ pays (.inr new)
    exact ⟨config ▸ on, state, only, basket, pays', kiosk'.trans kiosk, positive, amount.trans gross'.symm,
      fun o member => new o (fewer.subset member)⟩
  outcomes o member := by
    obtain ⟨inside, pays⟩ := law.outcomes o (fewer.subset member)
    exact ⟨inside, (paying _ pays (.inl ⟨o, member, rfl⟩)).1⟩
  once := law.once.sublist (fewer.map _)
  calls := calls
  unconfigured := clear

/-- A context that is not PAYING replaced. -/
theorem rewritten {b : Nat} {d : Basket} (h : Rewritten b d s t) (config : t.config = s.config) (lines : t.lines = s.lines)
    (outcomes : t.basketUnit.outcomes = s.basketUnit.outcomes) (rests : (basketAt s b).state ≠ .paying)
    (calls : d.call ≠ none → d.state = .selecting) (clear : Clear t) : PaymentLaw t := by
  refine law.of_baskets config lines h.length (outcomes ▸ List.Sublist.refl _) (fun n pays _ => ?_) (fun n inside => ?_) clear
  · rw [h.other fun here => rests (here ▸ pays)]
    exact ⟨pays, rfl, rfl⟩
  · by_cases here : n = b
    · subst here
      rw [h.self (law.baskets ▸ inside)]
      exact calls
    · rw [h.other here]
      exact law.calls n inside

/-- A line replaced: its records stay but for openings that end. -/
theorem lined {n : Nat} {f : Line → Line} (lines : t.lines = updAt s.lines n f) (config : t.config = s.config)
    (baskets : t.basketUnit = s.basketUnit) (clear : Clear t) (kept : LineKept (lineAt s n) (f (lineAt s n))) : PaymentLaw t := by
  obtain ⟨length, opened⟩ := kept
  have at' : ∀ m, lineAt t m = lineAt s m ∨ m = n ∧ lineAt t m = f (lineAt s m) := fun m => by
    rw [lineAt, lines]; exact getD_updAt ..
  refine ⟨by rw [lines]; exact (updAt_length ..).trans law.lines, fun m inside => ?_, baskets ▸ law.baskets, fun m insideM i insideI isOpen => ?_,
    fun o member => ?_, by rw [baskets]; exact law.once, fun b inside => ?_, clear⟩
  · rcases at' m with same | ⟨rfl, written⟩
    · rw [same]; exact law.records m inside
    · rw [written]; exact length.trans (law.records m inside)
  · dsimp only
    rw [basketAt_of_baskets (s := s) (by rw [baskets]), baskets, config]
    rcases at' m with same | ⟨rfl, written⟩
    · rw [same] at isOpen ⊢
      exact law.opened m insideM i insideI isOpen
    · rw [written] at isOpen ⊢
      obtain ⟨before, basket, amount, state⟩ := opened i isOpen
      obtain ⟨on, state', only, rest⟩ := law.opened m insideM i insideI before
      refine ⟨on, ?_, fun j inside isOpen => only j inside (opened j isOpen).1, ?_⟩
      · rcases state with same | turned
        · rw [same]; exact state'
        · exact turned
      · rw [basket, amount]; exact rest
  · rw [basketAt_of_baskets (s := s) (by rw [baskets])]
    exact law.outcomes o (baskets ▸ member)
  · rw [basketAt_of_baskets (s := s) (by rw [baskets])]
    exact law.calls b inside

/-- A line without an open record replaced, its records as they stand. -/
theorem linedRested {n : Nat} {f : Line → Line} (lines : t.lines = updAt s.lines n f) (config : t.config = s.config)
    (baskets : t.basketUnit = s.basketUnit) (clear : Clear t) (closed : ∀ i, ¬ OpenRecord (recordAt s n i))
    (records : (f (lineAt s n)).records = (lineAt s n).records) : PaymentLaw t :=
  law.lined lines config baskets clear ⟨by rw [records], fun i isOpen => by rw [records] at isOpen; exact absurd isOpen (closed i)⟩

/-- R94: a line that is in no exchange, or whose kiosk has no basket PAYING, has no open record. -/
theorem closed_of_rest {n : Nat} (rest : (lineAt s n).state ≠ .authorizing ∧ (lineAt s n).state ≠ .aborting ∨ kioskPaying s n = false)
    (i : Nat) : ¬ OpenRecord (recordAt s n i) := by
  intro isOpen
  obtain ⟨-, state, -, inside, paying, kiosk, -⟩ := law.of_open isOpen
  rcases rest with ⟨idle, calm⟩ | none
  · exact state.elim idle calm
  · refine Bool.eq_false_iff.mp none (List.any_eq_true.mpr ⟨basketAt s (recordAt s n i).basket, ?_, by simp [paying, kiosk]⟩)
    rw [basketAt, List.getD_eq_getElem _ _ (law.baskets ▸ inside)]
    exact List.getElem_mem _

/-- R96: the outcome of a PAYING basket handed over, which no open record names and for which none has been handed over. -/
theorem outcomeGiven {o : OutcomeReport} (config : t.config = s.config) (lines : t.lines = s.lines)
    (unit : t.basketUnit = { s.basketUnit with outcomes := s.basketUnit.outcomes ++ [o] }) (clear : Clear t) (inside : o.basket < 24)
    (paying : (basketAt s o.basket).state = .paying) (new : ∀ x ∈ s.basketUnit.outcomes, x.basket ≠ o.basket)
    (closed : ∀ n i, OpenRecord (recordAt s n i) → (recordAt s n i).basket ≠ o.basket) : PaymentLaw t := by
  have baskets : t.basketUnit.baskets = s.basketUnit.baskets := by rw [unit]
  have member : ∀ {x}, x ∈ t.basketUnit.outcomes → x ∈ s.basketUnit.outcomes ∨ x = o := fun {x} inside => by
    rw [unit] at inside
    exact (List.mem_append.mp inside).imp id List.mem_singleton.mp
  refine ⟨lines ▸ law.lines, fun n inside => by rw [lineAt, lines]; exact law.records n inside, baskets ▸ law.baskets,
    fun n insideN i insideI isOpen => ?_, fun x inside' => ?_, ?_, fun b inside => by rw [basketAt_of_baskets baskets]; exact law.calls b inside,
    clear⟩
  · have line : lineAt t n = lineAt s n := by rw [lineAt, lines]; rfl
    rw [line] at isOpen ⊢
    dsimp only
    rw [basketAt_of_baskets baskets, config]
    obtain ⟨on, state, only, basket, pays, kiosk, positive, amount, others⟩ := law.opened n insideN i insideI isOpen
    refine ⟨on, state, only, basket, pays, kiosk, positive, amount, fun x inside same => ?_⟩
    rcases member inside with old | rfl
    · exact others x old same
    · exact closed n i isOpen same.symm
  · rw [basketAt_of_baskets baskets]
    rcases member inside' with old | rfl
    · exact law.outcomes x old
    · exact ⟨inside, paying⟩
  · rw [unit, List.map_append]
    refine List.nodup_append.mpr ⟨law.once, List.nodup_singleton _, fun x old y given same => ?_⟩
    obtain ⟨z, there, rfl⟩ := List.mem_map.mp old
    rw [List.map_singleton, List.mem_singleton] at given
    exact new z there (same.trans given)

/-- R59: a record opened for a PAYING basket of the line's kiosk that no outcome and no record names, on a line without an open record. -/
theorem recordOpened {b n i : Nat} {f : Line → Line} {g : PayRecord → PayRecord} (lines : t.lines = updAt s.lines n f)
    (config : t.config = s.config) (baskets : t.basketUnit = s.basketUnit) (clear : Clear t) (on : s.config ≠ none)
    (records : ∀ x, (f x).records = updAt x.records i g) (state : ∀ x, (f x).state = .authorizing)
    (names : ∀ r, (g r).basket = b ∧ (g r).amount = (basketAt s b).quote.gross) (closed : ∀ j, ¬ OpenRecord (recordAt s n j))
    (inside : b < 24) (paying : (basketAt s b).state = .paying) (kiosk : (basketAt s b).kiosk = n) (gross : 1 ≤ (basketAt s b).quote.gross)
    (new : ∀ o ∈ s.basketUnit.outcomes, o.basket ≠ b) : PaymentLaw t := by
  have at' : ∀ m, lineAt t m = lineAt s m ∨ m = n ∧ lineAt t m = f (lineAt s m) := fun m => by
    rw [lineAt, lines]; exact getD_updAt ..
  have basket : ∀ x, basketAt t x = basketAt s x := basketAt_of_baskets (by rw [baskets])
  refine ⟨by rw [lines]; exact (updAt_length ..).trans law.lines, fun m inside => ?_, baskets ▸ law.baskets, fun m insideM j insideJ isOpen => ?_,
    fun o member => by rw [basket]; exact law.outcomes o (baskets ▸ member), by rw [baskets]; exact law.once,
    fun x inside => by rw [basket]; exact law.calls x inside, clear⟩
  · rcases at' m with same | ⟨rfl, written⟩
    · rw [same]; exact law.records m inside
    · rw [written, records, updAt_length]; exact law.records m inside
  · dsimp only
    rw [basket, baskets, config]
    rcases at' m with same | ⟨rfl, written⟩
    · rw [same] at isOpen ⊢
      exact law.opened m insideM j insideJ isOpen
    · have opens : ∀ k, OpenRecord ((updAt (lineAt s m).records i g).getD k .empty) →
          k = i ∧ (updAt (lineAt s m).records i g).getD k .empty = g ((lineAt s m).records.getD k .empty) := fun k isOpen => by
        rcases getD_updAt (lineAt s m).records i k g .empty with same | put
        · rw [same] at isOpen
          exact absurd isOpen (closed k)
        · exact put
      rw [written, records] at isOpen ⊢
      obtain ⟨rfl, here⟩ := opens j isOpen
      rw [here, state, (names _).1, (names _).2]
      exact ⟨on, .inl rfl, fun k _ isOpen => (opens k isOpen).1, inside, paying, kiosk, gross, rfl, new⟩

end PaymentLaw

theorem closeRecord_lines (n i : Nat) (o : PayOutcome) (code : Option (List Byte)) (tail : Option Nat) (dest : LineState) (s : State) :
    (closeRecord n i o code tail dest s).lines = updAt s.lines n (fun x =>
      leavesExchange (nowOf s) (recordAt s n i).tag (lineAt s n).closes dest (recordsWith i (closesAs o code tail (lineAt s n).closes) x)) := by
  rw [closeRecord_eq]
  have exchanged : (recordClosed n i o code tail dest s).lines = updAt s.lines n (fun x =>
      leavesExchange (nowOf s) (recordAt s n i).tag (lineAt s n).closes dest (recordsWith i (closesAs o code tail (lineAt s n).closes) x)) := by
    have written := ((LineStep.updRecord n i (closesAs o code tail (lineAt s n).closes) s).trans
      (.updLine n (leavesExchange (nowOf s) (recordAt s n i).tag (lineAt s n).closes dest) _)).lines
    rw [recordClosed, countOutcome_frame, ← written]
    unfold faultRaised
    split <;> simp [outcomeHanded, exchangeOver]
  exact forEach_induct (p := fun u => u.lines = _) (fun slot u same => by rw [← same]; simp) _ exchanged

theorem startPaying_lines (b : Nat) (s : State) : (startPaying b s).lines = updAt s.lines (basketAt s b).kiosk
    (openedLine (updBasket b (fun x => { x with
        state := .paying, deadline := none, payRef := some ((basketAt s b).kiosk, (lineAt s (basketAt s b).kiosk).nextTag) }) s)
      (basketAt s b).kiosk b (basketAt s b).quote.gross) := by
  have opened := (LineStep.openPayment (basketAt s b).kiosk b (basketAt s b).quote.gross (updBasket b (fun x => { x with
    state := .paying, deadline := none, payRef := some ((basketAt s b).kiosk, (lineAt s (basketAt s b).kiosk).nextTag) }) s)).lines
  rw [startPaying]
  simp only [refreshKiosk_keeps]
  exact opened

namespace PaymentLaw

theorem recordClosed {s : State} (law : PaymentLaw s) {n i : Nat} {o : PayOutcome} {code : Option (List Byte)} {tail : Option Nat}
    {dest : LineState} (isOpen : OpenRecord (recordAt s n i)) (clear : Clear (closeRecord n i o code tail dest s)) :
    PaymentLaw (closeRecord n i o code tail dest s) := by
  obtain ⟨on, -, only, inside, paying, kiosk, -, -, new⟩ := law.of_open isOpen
  have lines := closeRecord_lines n i o code tail dest s
  have unit := closeRecord_basketUnit n i o code tail dest s
  have config : (closeRecord n i o code tail dest s).config = s.config := by simp
  obtain ⟨insideN, insideI⟩ := law.inside_of_open isOpen
  have ended : ∀ j, ¬ OpenRecord ((updAt (lineAt s n).records i (fun r => { closesAs o code tail (lineAt s n).closes r with
      changes := bump r.changes })).getD j .empty) := fun j isOpen => by
    by_cases here : i = j
    · subst here
      rw [updAt_getD_self _ _ _ _ (law.records n insideN ▸ insideI)] at isOpen
      exact isOpen.2 rfl
    · rw [updAt_getD_other _ _ _ _ _ here] at isOpen
      exact here (only j isOpen).symm
  generalize closeRecord n i o code tail dest s = t at clear lines unit config ⊢
  have middle : PaymentLaw { s with lines := t.lines } := law.lined lines rfl rfl (by exact law.clear)
    ⟨updAt_length .., fun j isOpen => absurd isOpen (ended j)⟩
  refine middle.outcomeGiven config rfl unit clear inside paying new fun m j other same => ?_
  have named : (basketAt s (recordAt s n i).basket).kiosk = m := by
    obtain ⟨-, -, -, -, -, kiosk', -⟩ := middle.of_open other
    rw [same] at kiosk'
    exact kiosk'
  obtain rfl : m = n := named.symm.trans kiosk
  have line := updAt_getD_self s.lines m (fun x => leavesExchange (nowOf s) (recordAt s m i).tag (lineAt s m).closes dest
    (recordsWith i (closesAs o code tail (lineAt s m).closes) x)) .initial (law.lines ▸ insideN)
  rw [← lines] at line
  rw [recordAt, lineAt, line] at other
  exact ended j other

theorem idle {s : State} (law : PaymentLaw s) {b : Nat} (rests : (basketAt s b).state ≠ .selecting) : (basketAt s b).call = none := by
  by_contra isOpen
  obtain ⟨call, isOpen'⟩ := Option.ne_none_iff_exists'.mp isOpen
  exact rests (law.calls b (law.baskets ▸ inside_of_call isOpen') isOpen)

theorem rests_of_call {s : State} (law : PaymentLaw s) {b : Nat} {call : Call} (isOpen : (basketAt s b).call = some call) :
    (basketAt s b).state ≠ .paying := by
  rw [law.calls b (law.baskets ▸ inside_of_call isOpen) (by rw [isOpen]; simp)]
  simp

/-- R60 to R63: a context replaced whose payment has ended: no record and no outcome names it any more. -/
theorem freedTo {s t u : State} (law : PaymentLaw s) {b : Nat} {d : Basket} (freed : Freed b s u) (h : Rewritten b d u t)
    (config : t.config = u.config) (lines : t.lines = u.lines) (outcomes : t.basketUnit.outcomes = u.basketUnit.outcomes)
    (call : d.call = (basketAt u b).call) (clear : Clear t) : PaymentLaw t := by
  cases freed with
  | settled unresolved =>
    refine law.rewritten h config lines outcomes (by rw [unresolved]; simp) (fun isOpen => ?_) clear
    exact absurd (call.trans (law.idle (by rw [unresolved]; simp))) isOpen
  | @outcome o found paying =>
    have member : o ∈ s.basketUnit.outcomes := List.mem_of_find?_eq_some found
    have named : o.basket = b := by simpa using List.find?_some found
    refine law.of_baskets config lines h.length (outcomes ▸ List.erase_sublist ..) (fun n pays left => ?_) (fun n inside => ?_) clear
    · by_cases here : n = b
      · subst here
        rcases left with ⟨x, rest, same⟩ | none
        · refine absurd ?_ (erase_apart law.once member x (by rw [outcomes] at rest; exact rest))
          exact same.trans named.symm
        · exact absurd named (none o member)
      · rw [h.other here]
        exact ⟨pays, rfl, rfl⟩
    · by_cases here : n = b
      · subst here
        rw [h.self (law.baskets ▸ inside), call]
        exact fun isOpen => absurd (law.idle (by rw [paying]; simp)) isOpen
      · rw [h.other here]
        exact law.calls n inside

theorem move {P : Prop} {s t : State} (asked : P) (law : PaymentLaw s) (move : Move P s t) : PaymentLaw t := by
  have clear := law.clear.move asked move
  cases move
  case quiet same => exact law.of_units same.config same.lines same.baskets same.outcomes clear
  case reset same => exact paymentLaw_reset.of_units same.config same.lines same.baskets same.outcomes clear
  case configured c idle config length records same =>
    have vacant : ∀ n i, ¬ OpenRecord (recordAt s n i) := fun n i isOpen => by
      obtain ⟨on, -, -, inside, paying, -⟩ := law.of_open isOpen
      rcases idle with none | free
      · exact on none
      · have member : basketAt s (recordAt s n i).basket ∈ s.basketUnit.baskets := by
          rw [basketAt, List.getD_eq_getElem _ _ (law.baskets ▸ inside)]
          exact List.getElem_mem _
        rw [free _ member] at paying
        cases paying
    have vacant' : ∀ n i, ¬ OpenRecord (recordAt t n i) := fun n i => by
      rw [recordAt, records]
      exact vacant n i
    have baskets : ∀ b, basketAt t b = basketAt s b := basketAt_of_baskets same.baskets
    refine ⟨length.trans law.lines, fun n inside => by rw [records]; exact law.records n inside, same.baskets ▸ law.baskets,
      fun n _ i _ isOpen => absurd isOpen (vacant' n i), fun o member => ?_, by rw [same.outcomes]; exact law.once, fun b inside => ?_, clear⟩
    · rw [baskets]; exact law.outcomes o (same.outcomes ▸ member)
    · rw [baskets]; exact law.calls b inside
  case line n f kept => exact law.lined rfl rfl rfl clear kept
  case lineRested n f rest records => exact law.linedRested rfl rfl rfl clear (law.closed_of_rest rest) records
  case recordClosed n i o code tail dest isOpen => exact law.recordClosed isOpen clear
  case noted b f noted =>
    obtain ⟨state, kiosk, -, -, -, call, -, -, quote⟩ := noted
    refine law.of_baskets rfl rfl (updAt_length ..) (.refl _) (fun n pays _ => ?_) (fun n inside => ?_) clear
    · rcases basketAt_setBasket_or b n f s with same | ⟨rfl, written⟩
      · rw [same]; exact ⟨pays, rfl, rfl⟩
      · rw [written]; exact ⟨state.trans pays, kiosk, congrArg Quote.gross (quote pays)⟩
    · rcases basketAt_setBasket_or b n f s with same | ⟨rfl, written⟩
      · rw [same]; exact law.calls n inside
      · rw [written, state, call]; exact law.calls n inside
  case opened k sh d passed =>
    exact law.rewritten (.of_updBasket ..) rfl rfl rfl (by rw [(lowestContext_free passed).2]; simp) (fun isOpen => absurd rfl isOpen) clear
  case called b call selecting _ _ =>
    exact law.rewritten (.of_setBasket ..) rfl rfl rfl (by rw [selecting]; simp) (fun _ => selecting) clear
  case answered b =>
    have closed : closeCall b id s = setBasket b (fun c => { c with call := none, changes := stepCount c.changes }) s := rfl
    refine law.of_baskets rfl rfl (updAt_length ..) (.refl _) (fun n pays _ => ?_) (fun n inside => ?_) clear
    · rcases basketAt_setBasket_or b n (fun c => { c with call := none, changes := stepCount c.changes }) s with same | ⟨rfl, written⟩
      · rw [closed, same]; exact ⟨pays, rfl, rfl⟩
      · rw [closed, written]; exact ⟨pays, rfl, rfl⟩
    · rcases basketAt_setBasket_or b n (fun c => { c with call := none, changes := stepCount c.changes }) s with same | ⟨rfl, written⟩
      · rw [closed, same]; exact law.calls n inside
      · rw [closed, written]; exact fun isOpen => absurd rfl isOpen
  case held b slot list call _ =>
    obtain ⟨q, h⟩ := Rewritten.answered (f := fun c => { c with seats := c.seats ++ list, deadline := extendedDeadline s c })
      (t := holdCells (basketAt s b).sh b list s) (by simp) (inside_of_call call)
    exact law.rewritten h (by simp) (by simp) (by rw [outcomes_answered]; simp) (law.rests_of_call call) (fun isOpen => absurd rfl isOpen) clear
  case released b slot list call =>
    obtain ⟨q, h⟩ := Rewritten.answered (f := fun c => { c with seats := c.seats.filter (fun x => !list.contains x) })
      (t := releaseCells (basketAt s b).sh list s) (by simp) (inside_of_call call)
    exact law.rewritten h (by simp) (by simp) (by rw [outcomes_answered]; simp) (law.rests_of_call call) (fun isOpen => absurd rfl isOpen) clear
  case issued u b slot kind index code call answer =>
    have unit : u.basketUnit = s.basketUnit ∧ u.lines = s.lines ∧ u.config = s.config := by
      rw [← show (issueVoucher kind b (basketAt s b).sh s).1 = u from congrArg Prod.fst answer]; simp
    obtain ⟨q, h⟩ := Rewritten.answered (f := fun c => { c with vouchers := c.vouchers ++ [index], deadline := extendedDeadline u c })
      (s := s) (t := u) (by rw [unit.1]) (inside_of_call call)
    exact law.rewritten h unit.2.2 unit.2.1 (by rw [outcomes_answered, unit.1]) (law.rests_of_call call) (fun isOpen => absurd rfl isOpen) clear
  case removed b slot position call =>
    obtain ⟨q, h⟩ := Rewritten.answered (f := fun c => { c with vouchers := c.vouchers.eraseIdx position })
      (t := removeVouchers ((basketAt s b).vouchers[position]?).toList s) (by simp) (inside_of_call call)
    exact law.rewritten h (by simp) (by simp) (by rw [outcomes_answered]; simp) (law.rests_of_call call) (fun isOpen => absurd rfl isOpen) clear
  case ended b dest selecting idle ends =>
    exact law.rewritten (.ended b dest s) (by simp) (by simp) (by simp [endBasket_baskets, updBasket, setBasket])
      (by rw [selecting]; simp) (fun isOpen => absurd idle isOpen) clear
  case soldFree b m selecting idle _ =>
    have h := Rewritten.sold b m (reservePlace s)
    exact law.rewritten (h.before rfl) (by simp) (by simp) (by rw [saleMove_basketUnit]; rfl) (by rw [selecting]; simp)
      (fun isOpen => absurd idle isOpen) clear
  case paying b selecting idle room on gross line =>
    obtain ⟨r, h⟩ := Rewritten.paying b (reservePlace s)
    have inside : b < s.basketUnit.baskets.length := basket_inside (by rw [selecting]; simp)
    have lines := startPaying_lines b (reservePlace s)
    have config : (startPaying b (reservePlace s)).config = s.config := by simp
    have outcomes : (startPaying b (reservePlace s)).basketUnit.outcomes = s.basketUnit.outcomes := by
      simp [startPaying, updBasket, setBasket]
    generalize startPaying b (reservePlace s) = t at *
    have middle : PaymentLaw { t with lines := s.lines } :=
      law.rewritten (h.before rfl) config rfl outcomes (by rw [selecting]; simp) (fun isOpen => absurd idle isOpen) (by exact clear)
    have self := (h.before (s := s) rfl).self inside
    have kiosk : (basketAt t b).kiosk = (basketAt s b).kiosk := by rw [self]; rfl
    refine middle.recordOpened (b := b) lines rfl rfl clear (by rw [config]; exact on asked) (fun x => rfl) (fun x => rfl)
      (fun r => ⟨rfl, ?_⟩) ?_ (law.baskets ▸ inside) ?_ kiosk ?_ ?_
    · exact (congrArg (fun c => c.quote.gross) self).symm
    · have rest : (lineAt s (basketAt s b).kiosk).state ≠ .authorizing ∧ (lineAt s (basketAt s b).kiosk).state ≠ .aborting := by
        rw [line]; simp
      exact law.closed_of_rest (.inl rest)
    · exact congrArg Basket.state self
    · exact (congrArg (fun c => c.quote.gross) self).symm ▸ gross
    · intro o member same
      have pays := (law.outcomes o (outcomes ▸ member)).2
      rw [same, selecting] at pays
      cases pays
  case sold u b m freed => exact law.freedTo freed (.sold b m u) (by simp) (by simp) (by rw [saleMove_basketUnit]; rfl) rfl clear
  case returned u b freed =>
    rcases Rewritten.returned b u with ⟨dl, k, same⟩ | same
    · rw [same] at clear ⊢
      have h := (Rewritten.of_updBasket b (fun x => { x with state := .selecting, deadline := some dl }) (giveBackPlace u)).before (s := u) rfl
      exact law.freedTo freed (h.after (by simp)) (by simp) (by simp) (by simp [updBasket, setBasket]) rfl clear
    · rw [same] at clear ⊢
      have h := (Rewritten.ended b .expired (giveBackPlace u)).before (s := u) rfl
      exact law.freedTo freed (h.after (by simp [expireBasket])) (by simp) (by simp [expireBasket])
        (by simp [expireBasket, endBasket_baskets, updBasket, setBasket]) rfl clear
  case unresolved u b freed =>
    exact law.freedTo freed (.unresolved b u) (by simp) (by simp) (by simp [leaveUnresolved, updBasket, setBasket]) rfl clear
  case forgotten o => exact law.of_baskets rfl rfl rfl (List.erase_sublist ..) (fun b pays _ => ⟨pays, rfl, rfl⟩) law.calls clear
  case collecting b d printing =>
    exact law.rewritten (.of_updBasket ..) rfl rfl rfl (by rw [printing]; simp) (fun isOpen => absurd (law.idle (by rw [printing]; simp)) isOpen) clear
  case closed b uncollected rested =>
    have apart : (basketAt s b).state ≠ .paying ∧ (basketAt s b).state ≠ .selecting := by rcases rested with state | state <;> rw [state] <;> simp
    exact law.rewritten (.closed b uncollected s) (by simp) (by simp) (by simp [closeBasket, updBasket, setBasket]) apart.1
      (fun isOpen => absurd (law.idle apart.2) isOpen) clear
  case retired b ended =>
    exact law.rewritten (.of_updBasket ..) rfl rfl rfl (fun pays => by rw [pays] at ended; cases ended) (fun isOpen => absurd rfl isOpen) clear
  case entered => exact law.of_units rfl rfl rfl rfl clear
  case used => exact law.of_units rfl rfl rfl rfl clear
  all_goals exact law.of_units (by simp) (by simp) (by simp) (by simp) clear

end PaymentLaw
end Sys2Proof.Machine
end

section
/-! The law of the sale records and the reservations (R145 to R147), kept by every move. -/

namespace Sys2Proof.Machine

/-! ### Counting in a sparse table -/

/-- The entries of a sparse table that pass a test, counted by their places. -/
theorem sparse_count {α : Type} [DecidableEq α] {d : α} {l : List (Nat × α)} (wf : sparseWf d l) (p : α → Bool) (blank : p d = false)
    {K : Finset Nat} (all : ∀ k, p (sparseGet d l k) = true → k ∈ K) :
    (l.filter (fun e => p e.2)).length = (K.filter (fun k => p (sparseGet d l k) = true)).card := by
  obtain ⟨rising, listed⟩ := sparse_keys wf (fun e => p e.2)
  rw [← List.length_map Prod.fst, ← List.toFinset_card_of_nodup (pairwise_lt_nodup rising)]
  congr 1
  ext k
  rw [List.mem_toFinset, listed, Finset.mem_filter]
  refine ⟨fun h => ⟨all k h.2, h.2⟩, fun h => ⟨fun empty => ?_, h.2⟩⟩
  have holds := h.2
  rw [empty, blank] at holds
  cases holds

/-- A sparse table's entries, counted by their places. -/
theorem sparse_length {α : Type} [DecidableEq α] {d : α} {l : List (Nat × α)} (wf : sparseWf d l) {K : Finset Nat}
    (all : ∀ k, sparseGet d l k ≠ d → k ∈ K) : l.length = (K.filter (fun k => sparseGet d l k ≠ d)).card := by
  have every : l.filter (fun e => decide (e.2 ≠ d)) = l := List.filter_eq_self.mpr fun e member => by simpa using wf.2 e member
  have counted := sparse_count wf (fun v => decide (v ≠ d)) (by simp) (K := K) (by simpa using all)
  simp only [decide_eq_true_eq] at counted
  rw [← counted, every]

theorem sparse_keys_finset {α : Type} [DecidableEq α] {d : α} {l : List (Nat × α)} (wf : sparseWf d l) (k : Nat) (used : sparseGet d l k ≠ d) :
    k ∈ (l.map Prod.fst).toFinset :=
  List.mem_toFinset.mpr (List.mem_map.mpr ⟨(k, _), (sparse_mem_iff d l wf k _).mpr ⟨rfl, used⟩, rfl⟩)

theorem sparsePut_length {α : Type} [DecidableEq α] {d v : α} {l : List (Nat × α)} (wf : sparseWf d l) (a : Nat) (used : v ≠ d) :
    (sparsePut d l a v).length = if sparseGet d l a = d then l.length + 1 else l.length := by
  have all : ∀ k, sparseGet d l k ≠ d → k ∈ insert a (l.map Prod.fst).toFinset := fun k used =>
    Finset.mem_insert_of_mem (sparse_keys_finset wf k used)
  have all' : ∀ k, sparseGet d (sparsePut d l a v) k ≠ d → k ∈ insert a (l.map Prod.fst).toFinset := fun k used => by
    by_cases here : a = k
    · exact here ▸ Finset.mem_insert_self ..
    · rw [sparseGet_put_other d l a k v here wf] at used
      exact all k used
  rw [sparse_length (sparsePut_wf d l a v wf) all', sparse_length wf all]
  have written : (insert a (l.map Prod.fst).toFinset).filter (fun k => sparseGet d (sparsePut d l a v) k ≠ d) =
      insert a ((insert a (l.map Prod.fst).toFinset).filter (fun k => sparseGet d l k ≠ d)) := by
    ext k
    simp only [Finset.mem_filter, Finset.mem_insert]
    by_cases here : a = k
    · subst here
      simp [sparseGet_put_self d l a v wf, used]
    · rw [sparseGet_put_other d l a k v here wf]
      simp [Ne.symm here]
  rw [written]
  split
  · next blank => rw [Finset.card_insert_of_notMem (by simp [blank])]
  · next taken => rw [Finset.insert_eq_of_mem (by simp [taken])]

/-- What the entries of a sparse table carry differs. -/
theorem sparse_once_iff {α β : Type} [DecidableEq α] {d : α} {l : List (Nat × α)} (wf : sparseWf d l) (g : α → β) :
    (l.map (fun e => g e.2)).Nodup ↔
      ∀ p q, sparseGet d l p ≠ d → sparseGet d l q ≠ d → g (sparseGet d l p) = g (sparseGet d l q) → p = q := by
  have nodup : l.Nodup := (wf.1.imp fun lower same => absurd (congrArg Prod.fst same) (Nat.ne_of_lt lower) : l.Pairwise (· ≠ ·))
  rw [List.nodup_map_iff_inj_on nodup]
  constructor
  · intro apart p q usedP usedQ same
    have memberP := (sparse_mem_iff d l wf p _).mpr ⟨rfl, usedP⟩
    have memberQ := (sparse_mem_iff d l wf q _).mpr ⟨rfl, usedQ⟩
    exact congrArg Prod.fst (apart _ memberP _ memberQ same)
  · rintro apart ⟨p, v⟩ memberP ⟨q, w⟩ memberQ same
    obtain ⟨rfl, usedP⟩ := (sparse_mem_iff d l wf p v).mp memberP
    obtain ⟨rfl, usedQ⟩ := (sparse_mem_iff d l wf q w).mp memberQ
    rw [apart p q usedP usedQ same]

/-- The lowest empty place of a sparse table lies within its length. -/
theorem lowestFree_le_length {α : Type} [DecidableEq α] {d : α} {l : List (Nat × α)} (wf : sparseWf d l) : lowestFree 0 l ≤ l.length := by
  rw [sparse_length wf (sparse_keys_finset wf)]
  refine (Finset.card_range (lowestFree 0 l)).symm.le.trans (Finset.card_le_card fun k below => ?_)
  have used : sparseGet d l k ≠ d := fun empty =>
    absurd (lowestFree_le wf empty) (Nat.not_le_of_lt (Finset.mem_range.mp below))
  exact Finset.mem_filter.mpr ⟨sparse_keys_finset wf k used, used⟩

/-! ### The records -/

/-- R145: what a sale record keeps to. -/
def Sale.Sound (next : Nat) (x : Sale) : Prop :=
  1 ≤ x.serial ∧ x.serial < next ∧ (x.refunded = true → ∃ a, x.refundAmount = some a ∧ a ≤ x.gross) ∧
    (x.refunded = false → x.refundAmount = none)

/-- R145, R146: the sale table, place by place. -/
structure StoreLaw (u : SalesUnit) : Prop where
  store : sparseWf Sale.empty u.sales
  records : ∀ p, sparseGet .empty u.sales p ≠ .empty → p < 2048 ∧ (sparseGet .empty u.sales p).Sound u.nextSerial
  once : ∀ p q, sparseGet .empty u.sales p ≠ .empty → sparseGet .empty u.sales q ≠ .empty →
    (sparseGet .empty u.sales p).serial = (sparseGet .empty u.sales q).serial → p = q
  first : 1 ≤ u.nextSerial
  inUse : u.inUse = u.sales.length

/-- R147: the baskets for which a place is reserved. -/
def reservedFor (s : State) : Nat := (s.basketUnit.baskets.filter (fun c => c.state == .paying || c.state == .unresolved)).length

/-- R147: a place is reserved for each PAYING and each UNRESOLVED basket, and places and serials suffice. -/
structure PlacesLaw (s : State) : Prop where
  baskets : s.basketUnit.baskets.length = 24
  reserved : s.salesUnit.reserved = reservedFor s
  places : s.salesUnit.inUse + s.salesUnit.reserved ≤ 2048
  serials : s.salesUnit.nextSerial + s.salesUnit.reserved ≤ 16777216

theorem salesLaw_iff {s : State} : SalesLaw s ↔ StoreLaw s.salesUnit ∧ PlacesLaw s := by
  constructor
  · intro law
    refine ⟨⟨law.store, fun p used => ?_, (sparse_once_iff law.store _).mp law.once, law.first, law.inUse⟩,
      ⟨law.baskets, law.reserved, law.places, law.serials⟩⟩
    obtain ⟨inside, positive, lower, refunded, whole⟩ := law.records _ ((sparse_mem_iff _ _ law.store p _).mpr ⟨rfl, used⟩)
    exact ⟨inside, positive, lower, refunded, whole⟩
  · rintro ⟨store, places⟩
    refine ⟨places.baskets, store.store, fun e member => ?_, (sparse_once_iff store.store _).mpr store.once, store.first, store.inUse,
      places.reserved, places.places, places.serials⟩
    obtain ⟨value, used⟩ := (sparse_mem_iff _ _ store.store e.1 e.2).mp member
    obtain ⟨inside, sound⟩ := store.records e.1 (value ▸ used)
    exact ⟨inside, value ▸ sound⟩

/-- R145: the sale whose record stands at a place found by its serial. -/
theorem saleplace_found {s : State} (store : sparseWf Sale.empty s.salesUnit.sales) {serial p : Nat} (found : saleplace s serial = some p) :
    serial ≠ 0 ∧ saleAt s p ≠ .empty ∧ (saleAt s p).serial = serial := by
  unfold saleplace at found
  split at found
  · cases found
  · next positive =>
    obtain ⟨⟨q, x⟩, first, rfl⟩ := Option.map_eq_some_iff.mp found
    obtain ⟨value, used⟩ := (sparse_mem_iff _ _ store q x).mp (List.mem_of_find?_eq_some first)
    have serial' := List.find?_some first
    simp only [beq_iff_eq] at serial'
    refine ⟨positive, ?_, ?_⟩
    · rw [saleAt, value]; exact used
    · rw [saleAt, value]; exact serial'

namespace StoreLaw
variable {u v : SalesUnit} (law : StoreLaw u)
include law

theorem of_eq (sales : v.sales = u.sales) (next : v.nextSerial = u.nextSerial) (inUse : v.inUse = u.inUse) : StoreLaw v := by
  refine ⟨sales ▸ law.store, ?_, ?_, next ▸ law.first, ?_⟩
  · rw [sales, next]; exact law.records
  · rw [sales]; exact law.once
  · rw [sales, inUse]; exact law.inUse

/-- A record replaced that keeps its serial. -/
theorem put {p : Nat} {x : Sale} (used : sparseGet .empty u.sales p ≠ .empty) (serial : x.serial = (sparseGet .empty u.sales p).serial)
    (sound : (sparseGet .empty u.sales p).Sound u.nextSerial → x.Sound u.nextSerial)
    (sales : v.sales = sparsePut .empty u.sales p x) (next : v.nextSerial = u.nextSerial) (inUse : v.inUse = u.inUse) : StoreLaw v := by
  obtain ⟨inside, old⟩ := law.records p used
  have self := sparseGet_put_self Sale.empty u.sales p x law.store
  have other : ∀ q, p ≠ q → sparseGet .empty v.sales q = sparseGet .empty u.sales q := fun q apart => by
    rw [sales]; exact sparseGet_put_other _ _ _ _ _ apart law.store
  rw [← sales] at self
  have filled : x ≠ .empty := fun empty => by
    have positive := (sound old).1
    rw [empty] at positive
    cases positive
  have serials : ∀ q, sparseGet .empty v.sales q ≠ .empty → sparseGet .empty u.sales q ≠ .empty ∧
      (sparseGet .empty v.sales q).serial = (sparseGet .empty u.sales q).serial := fun q taken => by
    by_cases here : p = q
    · subst here
      exact ⟨used, by rw [self, serial]⟩
    · rw [other q here] at taken ⊢
      exact ⟨taken, rfl⟩
  refine ⟨by rw [sales]; exact sparsePut_wf _ _ _ _ law.store, fun q taken => ?_, fun q r takenQ takenR same => ?_, next ▸ law.first, ?_⟩
  · rw [next]
    by_cases here : p = q
    · subst here
      rw [self]
      exact ⟨inside, sound old⟩
    · rw [other q here] at taken ⊢
      exact law.records q taken
  · obtain ⟨usedQ, serialQ⟩ := serials q takenQ
    obtain ⟨usedR, serialR⟩ := serials r takenR
    exact law.once q r usedQ usedR (by rw [← serialQ, ← serialR, same])
  · rw [sales, sparsePut_length law.store p filled, if_neg used, inUse, law.inUse]

/-- R148: a record made in the lowest empty place with the next serial. -/
theorem added {x : Sale} (room : u.inUse < 2048) (serial : x.serial = u.nextSerial) (whole : x.refunded = false ∧ x.refundAmount = none)
    (sales : v.sales = sparsePut .empty u.sales (lowestFree 0 u.sales) x) (next : v.nextSerial = u.nextSerial + 1)
    (inUse : v.inUse = u.inUse + 1) : StoreLaw v := by
  have self := sparseGet_put_self Sale.empty u.sales (lowestFree 0 u.sales) x law.store
  have other : ∀ q, lowestFree 0 u.sales ≠ q → sparseGet .empty v.sales q = sparseGet .empty u.sales q := fun q apart => by
    rw [sales]; exact sparseGet_put_other _ _ _ _ _ apart law.store
  rw [← sales] at self
  have inside : lowestFree 0 u.sales < 2048 := by
    have bound := lowestFree_le_length law.store
    rw [← law.inUse] at bound
    omega
  have filled : x ≠ .empty := fun empty => by
    have first := law.first
    rw [← serial, empty] at first
    cases first
  have lower : ∀ q, lowestFree 0 u.sales ≠ q → sparseGet .empty v.sales q ≠ .empty → (sparseGet .empty v.sales q).serial < u.nextSerial :=
    fun q apart taken => by
      rw [other q apart] at taken ⊢
      exact (law.records q taken).2.2.1
  refine ⟨by rw [sales]; exact sparsePut_wf _ _ _ _ law.store, fun q taken => ?_, fun q r takenQ takenR same => ?_, by omega, ?_⟩
  · rw [next]
    by_cases here : lowestFree 0 u.sales = q
    · subst here
      rw [self, Sale.Sound, serial, whole.1, whole.2]
      exact ⟨inside, law.first, Nat.lt_succ_self _, nofun, fun _ => rfl⟩
    · rw [other q here] at taken ⊢
      obtain ⟨bound, positive, below, refunded, kept⟩ := law.records q taken
      exact ⟨bound, positive, Nat.lt_succ_of_lt below, refunded, kept⟩
  · by_cases hereQ : lowestFree 0 u.sales = q <;> by_cases hereR : lowestFree 0 u.sales = r
    · exact hereQ.symm.trans hereR
    · subst hereQ
      have below := lower r hereR takenR
      rw [← same, self, serial] at below
      exact absurd below (Nat.lt_irrefl _)
    · subst hereR
      have below := lower q hereQ takenQ
      rw [same, self, serial] at below
      exact absurd below (Nat.lt_irrefl _)
    · rw [other q hereQ] at takenQ same
      rw [other r hereR] at takenR same
      exact law.once q r takenQ takenR same
  · rw [sales, sparsePut_length law.store _ filled, if_pos (sparseGet_lowestFree law.store 0), inUse, law.inUse]

/-- R154: records taken out of the table. -/
theorem removed {f : Nat × Sale → Bool} (sales : v.sales = u.sales.filter (fun e => !f e)) (next : v.nextSerial = u.nextSerial)
    (inUse : v.inUse = u.inUse - (u.sales.filter f).length) : StoreLaw v := by
  have left : ∀ p, sparseGet .empty v.sales p ≠ .empty → sparseGet .empty v.sales p = sparseGet .empty u.sales p := fun p taken => by
    rw [sales, sparseGet_filter _ _ law.store] at taken ⊢
    split at taken
    · next kept => rw [if_pos kept]
    · exact absurd rfl taken
  refine ⟨by rw [sales]; exact sparse_filter_wf _ _ _ law.store, fun p taken => ?_, fun p q takenP takenQ same => ?_, next ▸ law.first, ?_⟩
  · rw [next, left p taken]
    exact law.records p (left p taken ▸ taken)
  · exact law.once p q (left p takenP ▸ takenP) (left q takenQ ▸ takenQ) (by rw [← left p takenP, ← left q takenQ, same])
  · have parts := List.length_eq_length_filter_add f (l := u.sales)
    have rest : (u.sales.filter (fun e => !f e)).length = u.sales.length - (u.sales.filter f).length := by
      rw [parts]
      omega
    rw [sales, inUse, law.inUse, rest]

omit law in
/-- R145: a record updated where it stands, found by its serial. -/
theorem upd {s : State} (law : StoreLaw s.salesUnit) {serial : Nat} {f : Sale → Sale} (serials : ∀ x, (f x).serial = x.serial)
    (sound : ∀ x, findSale s serial = some x → x.Sound s.salesUnit.nextSerial → (f x).Sound s.salesUnit.nextSerial) :
    StoreLaw (updSale serial f s).salesUnit := by
  unfold updSale
  split
  · next p found =>
    obtain ⟨-, used, -⟩ := saleplace_found law.store found
    exact law.put (p := p) used (serials _) (sound _ (by rw [findSale, found]; rfl)) rfl rfl rfl
  · exact law

end StoreLaw

theorem updSale_summary (serial : Nat) (f : Sale → Sale) (s : State) :
    (updSale serial f s).salesUnit = { s.salesUnit with sales := (updSale serial f s).salesUnit.sales } := by
  unfold updSale
  split <;> rfl

theorem updSale_salesUnit {s t : State} (unit : t.salesUnit = s.salesUnit) (serial : Nat) (f : Sale → Sale) :
    (updSale serial f t).salesUnit = (updSale serial f s).salesUnit := by
  unfold updSale
  rw [show saleplace t serial = saleplace s serial by rw [saleplace, unit]; rfl]
  split
  · rw [setSale, setSale, saleAt, unit]; rfl
  · exact unit

/-- R57, R148: a sale move makes the record and then writes its seat count. -/
theorem saleMove_salesUnit (b : Nat) (m : Method) (s : State) : (saleMove b m s).salesUnit =
    (updSale s.salesUnit.nextSerial (fun x => { x with seatCount := (basketAt s b).seats.length, changes := stepCount x.changes })
      (createSale (basketAt s b) m s)).salesUnit := by
  rw [← updSale_salesUnit (t := activateVouchers s.salesUnit.nextSerial (basketAt s b).vouchers (sellCells (basketAt s b).sh
    s.salesUnit.nextSerial (basketAt s b).seats (createSale (basketAt s b) m s))) (by simp), saleMove_eq]
  dsimp only
  rw [show ∀ k u, (refreshKiosk k u).salesUnit = u.salesUnit from fun k u => by simp]
  rfl

/-- R57, R148: the sale table after a sale move. -/
theorem StoreLaw.sold {s : State} (law : StoreLaw s.salesUnit) (b : Nat) (m : Method) (room : s.salesUnit.inUse < 2048) :
    StoreLaw (saleMove b m s).salesUnit ∧ (saleMove b m s).salesUnit.inUse = s.salesUnit.inUse + 1 ∧
      (saleMove b m s).salesUnit.nextSerial = s.salesUnit.nextSerial + 1 ∧
      (saleMove b m s).salesUnit.reserved = s.salesUnit.reserved - 1 := by
  have created : StoreLaw (createSale (basketAt s b) m s).salesUnit := law.added room rfl ⟨rfl, rfl⟩ rfl rfl rfl
  rw [saleMove_salesUnit]
  refine ⟨created.upd (fun _ => rfl) (fun _ _ => id), ?_, ?_, ?_⟩
  all_goals rw [updSale_summary]
  all_goals rfl

/-! ### The reservations -/

/-- The places reserved for one basket. -/
def reservedOne (c : Basket) : Nat := if c.state = .paying ∨ c.state = .unresolved then 1 else 0

theorem reservedFor_of_baskets {s t : State} (same : t.basketUnit.baskets = s.basketUnit.baskets) : reservedFor t = reservedFor s := by
  rw [reservedFor, same]; rfl

theorem reservedFor_rewritten {s t : State} {b : Nat} {d : Basket} (h : Rewritten b d s t) (inside : b < s.basketUnit.baskets.length) :
    reservedFor t + reservedOne (basketAt s b) = reservedFor s + reservedOne d := by
  have here : s.basketUnit.baskets[b] = basketAt s b := (List.getD_eq_getElem _ _ inside).symm
  have set : t.basketUnit.baskets = s.basketUnit.baskets.set b d := by
    rw [h, updAt, List.getElem?_eq_getElem inside]
  rw [reservedFor, reservedFor, set, ← List.countP_eq_length_filter, ← List.countP_eq_length_filter, List.countP_set inside, here]
  have positive : (basketAt s b).state = .paying ∨ (basketAt s b).state = .unresolved →
      1 ≤ s.basketUnit.baskets.countP (fun c => c.state == .paying || c.state == .unresolved) := fun state =>
    List.countP_pos_iff.mpr ⟨_, List.getElem_mem inside, by rw [here]; simpa using state⟩
  unfold reservedOne
  simp only [Bool.or_eq_true, beq_iff_eq]
  split
  · next state => have := positive state; omega
  · omega

theorem refundFreeingOp_sales (serial : Nat) (s : State) :
    (refundFreeingOp serial s).salesUnit = { s.salesUnit with refunds := (refundFreeingOp serial s).salesUnit.refunds } := by
  unfold refundFreeingOp
  split
  · rfl
  · split
    · rfl
    · have unit : (freeSold (saleShow s serial) serial s).1.salesUnit = s.salesUnit := by simp [freeSold]
      dsimp only [updRefund]
      rw [unit]

theorem refundVoucherOp_sales (serial : Nat) (s : State) :
    (refundVoucherOp serial s).salesUnit = { s.salesUnit with refunds := (refundVoucherOp serial s).salesUnit.refunds } := by
  unfold refundVoucherOp
  split
  · rfl
  · split
    · rfl
    · have unit : (refundVouchers serial s).1.salesUnit = s.salesUnit := by simp [refundVouchers]
      dsimp only [updRefund]
      rw [unit]

namespace PlacesLaw
variable {s t : State} (law : PlacesLaw s)
include law

theorem of_eq (baskets : t.basketUnit.baskets = s.basketUnit.baskets) (reserved : t.salesUnit.reserved = s.salesUnit.reserved)
    (next : t.salesUnit.nextSerial = s.salesUnit.nextSerial) (inUse : t.salesUnit.inUse ≤ s.salesUnit.inUse) : PlacesLaw t where
  baskets := baskets ▸ law.baskets
  reserved := by rw [reserved, reservedFor_of_baskets baskets]; exact law.reserved
  places := by rw [reserved]; exact (Nat.add_le_add_right inUse _).trans law.places
  serials := by rw [reserved, next]; exact law.serials

/-- A context replaced, and the summary moved with it. -/
theorem rewritten {b : Nat} {d : Basket} (h : Rewritten b d s t) (used : (basketAt s b).state ≠ .free)
    (reserved : t.salesUnit.reserved + reservedOne (basketAt s b) = s.salesUnit.reserved + reservedOne d)
    (places : t.salesUnit.inUse + t.salesUnit.reserved ≤ 2048) (serials : t.salesUnit.nextSerial + t.salesUnit.reserved ≤ 16777216) :
    PlacesLaw t := by
  have counted := reservedFor_rewritten h (basket_inside used)
  refine ⟨h.length.trans law.baskets, ?_, places, serials⟩
  have before := law.reserved
  omega

/-- A context replaced for which as many places are reserved as before. -/
theorem rewrittenSame {b : Nat} {d : Basket} (h : Rewritten b d s t) (unit : t.salesUnit = s.salesUnit)
    (same : reservedOne d = reservedOne (basketAt s b)) : PlacesLaw t := by
  by_cases inside : b < s.basketUnit.baskets.length
  · have counted := reservedFor_rewritten h inside
    refine ⟨h.length.trans law.baskets, ?_, unit ▸ law.places, unit ▸ law.serials⟩
    have before := law.reserved
    rw [unit]
    omega
  · exact law.of_eq (by rw [h, updAt, List.getElem?_eq_none (Nat.le_of_not_lt inside)]) (by rw [unit]) (by rw [unit]) (by rw [unit])

/-- R60 to R63: a place is reserved for a basket whose payment has ended. -/
theorem freed_reserved {b : Nat} (state : (basketAt s b).state = .paying ∨ (basketAt s b).state = .unresolved) :
    1 ≤ s.salesUnit.reserved ∧ reservedOne (basketAt s b) = 1 := by
  have inside := basket_inside (s := s) (b := b) (by rcases state with state | state <;> rw [state] <;> simp)
  refine ⟨?_, if_pos state⟩
  rw [law.reserved]
  refine List.length_pos_iff_exists_mem.mpr ⟨basketAt s b, List.mem_filter.mpr ⟨?_, by simpa using state⟩⟩
  rw [basketAt, List.getD_eq_getElem _ _ inside]
  exact List.getElem_mem _

end PlacesLaw

theorem Freed.used {b : Nat} {s u : State} (freed : Freed b s u) : (basketAt u b).state ≠ .free := by
  rcases freed.state with state | state <;> rw [state] <;> simp

/-- A part whose sale table and summary have moved while its baskets stand. -/
theorem salesLaw_of_store {s t : State} (places : PlacesLaw s) (store : StoreLaw t.salesUnit) (baskets : t.basketUnit = s.basketUnit)
    (reserved : t.salesUnit.reserved = s.salesUnit.reserved) (next : t.salesUnit.nextSerial = s.salesUnit.nextSerial)
    (inUse : t.salesUnit.inUse ≤ s.salesUnit.inUse) : SalesLaw t :=
  salesLaw_iff.mpr ⟨store, places.of_eq (by rw [baskets]) reserved next inUse⟩

/-- R120: a sale's reprint count raised. -/
theorem StoreLaw.reprinted {s : State} (law : StoreLaw s.salesUnit) (serial n : Nat) :
    StoreLaw (raiseReprints serial n s).salesUnit ∧
      (raiseReprints serial n s).salesUnit = { s.salesUnit with sales := (raiseReprints serial n s).salesUnit.sales } := by
  unfold raiseReprints
  split
  · split
    · exact ⟨law.upd (fun _ => rfl) fun _ _ => id, updSale_summary ..⟩
    · exact ⟨law, rfl⟩
  · exact ⟨law, rfl⟩

/-- R150: a refund begun. -/
theorem StoreLaw.refundBegun {s : State} (law : StoreLaw s.salesUnit) (r : Request) :
    StoreLaw (refundOp r s).salesUnit ∧ (refundOp r s).salesUnit =
      { s.salesUnit with sales := (refundOp r s).salesUnit.sales, refunds := (refundOp r s).salesUnit.refunds } := by
  simp only [refundOp]
  split
  · have unit : ∀ slot code, (finish slot code s).salesUnit = s.salesUnit := fun slot code => by simp
    rw [unit]
    exact ⟨law, rfl⟩
  · have stepped := updSale_summary (param3 r 0) (fun x => { x with changes := stepCount x.changes }) s
    have kept := law.upd (serial := param3 r 0) (f := fun x => { x with changes := stepCount x.changes }) (fun _ => rfl) fun _ _ => id
    exact ⟨kept.of_eq rfl rfl rfl, by rw [stepped]⟩

/-- R151: a refund written: the record is REFUNDED with an amount within its gross. -/
theorem StoreLaw.refundWritten {s : State} (law : StoreLaw s.salesUnit) (serial : Nat) :
    StoreLaw (refundWrite serial s).salesUnit ∧ (refundWrite serial s).salesUnit =
      { s.salesUnit with sales := (refundWrite serial s).salesUnit.sales, refunds := (refundWrite serial s).salesUnit.refunds } := by
  simp only [refundWrite]
  split
  · exact ⟨law, rfl⟩
  · split
    · next freed a _ _ =>
      have unit : ∀ slot code fields u, (completeSlot slot code fields u).salesUnit = u.salesUnit := fun _ _ _ u => by simp
      rw [unit]
      cases found : findSale s serial with
      | none =>
        have same : saleplace s serial = none := Option.map_eq_none_iff.mp found
        have kept : ∀ f, updSale serial f s = s := fun f => by simp only [updSale, same]
        rw [kept]
        exact ⟨law.of_eq rfl rfl rfl, rfl⟩
      | some x =>
        have written := updSale_summary serial (fun y => { y with
          refunded := true, refundAmount := some (refundAmountOf x.gross a.sum), changes := stepCount y.changes }) s
        have kept := law.upd (serial := serial) (f := fun y => { y with
          refunded := true, refundAmount := some (refundAmountOf x.gross a.sum), changes := stepCount y.changes }) (fun _ => rfl)
          fun y here sound => by
            obtain rfl := Option.some.inj (found.symm.trans here)
            exact ⟨sound.1, sound.2.1, fun _ => ⟨_, rfl, Nat.sub_le ..⟩, nofun⟩
        exact ⟨kept.of_eq rfl rfl rfl, by rw [written]⟩
    · exact ⟨law, rfl⟩

/-- R154: a show's records removed. -/
theorem StoreLaw.salesRemoved {s : State} (law : StoreLaw s.salesUnit) (sh : Nat) :
    StoreLaw (salesRemovalNow sh s).salesUnit ∧ (salesRemovalNow sh s).salesUnit.inUse ≤ s.salesUnit.inUse ∧
      (salesRemovalNow sh s).salesUnit = { s.salesUnit with
        sales := (salesRemovalNow sh s).salesUnit.sales, inUse := (salesRemovalNow sh s).salesUnit.inUse
        changes := (salesRemovalNow sh s).salesUnit.changes } := by
  simp only [salesRemovalNow]
  split
  · exact ⟨law, Nat.le_refl _, rfl⟩
  · split
    · have unit : ∀ slot code u, (finish slot code (stepShow sh u)).salesUnit = u.salesUnit := fun _ _ u => by simp [stepShow]
      rw [unit]
      exact ⟨law, Nat.le_refl _, rfl⟩
    · exact ⟨law.removed rfl rfl rfl, Nat.sub_le .., rfl⟩

namespace SalesLaw

theorem freed {s u : State} (law : SalesLaw s) {b : Nat} (freed : Freed b s u) : SalesLaw u := by
  cases freed
  · exact ⟨law.baskets, law.store, law.records, law.once, law.first, law.inUse, law.reserved, law.places, law.serials⟩
  · exact law

theorem move {P : Prop} {s t : State} (law : SalesLaw s) (move : Move P s t) : SalesLaw t := by
  obtain ⟨store, places⟩ := salesLaw_iff.mp law
  have same : ∀ {t : State}, t.basketUnit.baskets = s.basketUnit.baskets → t.salesUnit = s.salesUnit → SalesLaw t := fun baskets unit =>
    salesLaw_iff.mpr ⟨unit ▸ store, places.of_eq baskets (by rw [unit]) (by rw [unit]) (by rw [unit])⟩
  have turned : ∀ {t : State} {b : Nat} {d : Basket}, Rewritten b d s t → t.salesUnit = s.salesUnit →
      reservedOne d = reservedOne (basketAt s b) → SalesLaw t := fun h unit one =>
    salesLaw_iff.mpr ⟨unit ▸ store, places.rewrittenSame h unit one⟩
  have resting : ∀ {c : Basket}, c.state ≠ .paying → c.state ≠ .unresolved → reservedOne c = 0 := fun pays unresolved =>
    if_neg fun state => state.elim pays unresolved
  cases move
  case quiet unmoved => exact same unmoved.baskets unmoved.sales
  case reset unmoved =>
    obtain ⟨store, places⟩ := salesLaw_iff.mp salesLaw_reset
    exact salesLaw_iff.mpr ⟨unmoved.sales ▸ store, places.of_eq unmoved.baskets (by rw [unmoved.sales]) (by rw [unmoved.sales])
      (by rw [unmoved.sales])⟩
  case configured unmoved => exact same unmoved.baskets unmoved.sales
  case line => exact same rfl rfl
  case lineRested => exact same rfl rfl
  case recordClosed => exact same (by rw [closeRecord_basketUnit]) (by simp)
  case noted b f noted => exact turned (.of_setBasket ..) rfl (by rw [reservedOne, noted.1]; rfl)
  case opened k sh d passed =>
    exact turned (.of_updBasket ..) rfl (by rw [resting, resting] <;> simp [(lowestContext_free passed).2])
  case called => exact turned (.of_setBasket ..) rfl rfl
  case answered => exact turned (.of_setBasket ..) rfl rfl
  case held b slot list call _ =>
    obtain ⟨q, h⟩ := Rewritten.answered (f := fun c => { c with seats := c.seats ++ list, deadline := extendedDeadline s c })
      (t := holdCells (basketAt s b).sh b list s) (by simp) (inside_of_call call)
    exact turned h (by simp) rfl
  case released b slot list call =>
    obtain ⟨q, h⟩ := Rewritten.answered (f := fun c => { c with seats := c.seats.filter (fun x => !list.contains x) })
      (t := releaseCells (basketAt s b).sh list s) (by simp) (inside_of_call call)
    exact turned h (by simp) rfl
  case issued u b slot kind index code call answer =>
    have unit : u.basketUnit = s.basketUnit ∧ u.salesUnit = s.salesUnit := by
      rw [← show (issueVoucher kind b (basketAt s b).sh s).1 = u from congrArg Prod.fst answer]; simp
    obtain ⟨q, h⟩ := Rewritten.answered (f := fun c => { c with vouchers := c.vouchers ++ [index], deadline := extendedDeadline u c })
      (s := s) (t := u) (by rw [unit.1]) (inside_of_call call)
    exact turned h unit.2 rfl
  case removed b slot position call =>
    obtain ⟨q, h⟩ := Rewritten.answered (f := fun c => { c with vouchers := c.vouchers.eraseIdx position })
      (t := removeVouchers ((basketAt s b).vouchers[position]?).toList s) (by simp) (inside_of_call call)
    exact turned h (by simp) rfl
  case ended b dest selecting idle ends =>
    refine turned (.ended b dest s) (by simp) ?_
    rw [resting, resting] <;> rcases ends with rfl | rfl <;> simp [selecting, emptied]
  case soldFree b m selecting idle room =>
    obtain ⟨room, serials⟩ := canReserve_iff.mp room
    have reserved : StoreLaw (reservePlace s).salesUnit := store.of_eq rfl rfl rfl
    obtain ⟨sold, inUse, next, left⟩ := reserved.sold (s := reservePlace s) b m (Nat.lt_of_le_of_lt (Nat.le_add_right _ _) room)
    have inUse' : (saleMove b m (reservePlace s)).salesUnit.inUse = s.salesUnit.inUse + 1 := inUse
    have next' : (saleMove b m (reservePlace s)).salesUnit.nextSerial = s.salesUnit.nextSerial + 1 := next
    have left' : (saleMove b m (reservePlace s)).salesUnit.reserved = s.salesUnit.reserved + 1 - 1 := left
    refine salesLaw_iff.mpr ⟨sold, places.rewritten ((Rewritten.sold b m (reservePlace s)).before (s := s) rfl) (by rw [selecting]; simp) ?_
      (by omega) (by omega)⟩
    rw [left', resting (by rw [selecting]; simp) (by rw [selecting]; simp), resting (by simp [soldBasket]) (by simp [soldBasket])]
    rfl
  case paying b selecting idle room on gross line =>
    obtain ⟨room, serials⟩ := canReserve_iff.mp room
    obtain ⟨r, h⟩ := Rewritten.paying b (reservePlace s)
    have unit : (startPaying b (reservePlace s)).salesUnit = (reservePlace s).salesUnit := by simp
    have more : (reservePlace s).salesUnit.reserved = s.salesUnit.reserved + 1 := rfl
    have inUse : (reservePlace s).salesUnit.inUse = s.salesUnit.inUse := rfl
    have next : (reservePlace s).salesUnit.nextSerial = s.salesUnit.nextSerial := rfl
    refine salesLaw_iff.mpr ⟨unit ▸ store.of_eq rfl rfl rfl, places.rewritten (h.before (s := s) rfl) (by rw [selecting]; simp) ?_
      (by rw [unit]; omega) (by rw [unit]; omega)⟩
    rw [unit, more, resting (by rw [selecting]; simp) (by rw [selecting]; simp), reservedOne, if_pos (.inl rfl)]
  case sold u b m freed =>
    obtain ⟨store, places⟩ := salesLaw_iff.mp (law.freed freed)
    obtain ⟨one, reserved⟩ := places.freed_reserved freed.state
    have room := places.places
    have serials := places.serials
    obtain ⟨sold, inUse, next, left⟩ := store.sold b m (by omega)
    refine salesLaw_iff.mpr ⟨sold, places.rewritten (.sold b m u) freed.used ?_ (by omega) (by omega)⟩
    rw [left, reserved, resting (by simp [soldBasket]) (by simp [soldBasket])]
    omega
  case returned u b freed =>
    obtain ⟨store, places⟩ := salesLaw_iff.mp (law.freed freed)
    obtain ⟨one, reserved⟩ := places.freed_reserved freed.state
    have room := places.places
    have serials := places.serials
    have left : (giveBackPlace u).salesUnit.reserved = u.salesUnit.reserved - 1 := rfl
    have inUse : (giveBackPlace u).salesUnit.inUse = u.salesUnit.inUse := rfl
    have next : (giveBackPlace u).salesUnit.nextSerial = u.salesUnit.nextSerial := rfl
    have given : ∀ {v : State} {d : Basket}, Rewritten b d u v → v.salesUnit = (giveBackPlace u).salesUnit → reservedOne d = 0 →
        SalesLaw v := fun {v d} h unit none => by
      refine salesLaw_iff.mpr ⟨unit ▸ store.of_eq rfl rfl rfl, places.rewritten h freed.used ?_ (by rw [unit]; omega) (by rw [unit]; omega)⟩
      rw [unit, left, reserved, none]
      omega
    rcases Rewritten.returned b u with ⟨dl, k, same⟩ | same
    · rw [same]
      have h := (Rewritten.of_updBasket b (fun x => { x with state := .selecting, deadline := some dl }) (giveBackPlace u)).before (s := u) rfl
      exact given (h.after (by simp)) (by simp) (resting (by simp) (by simp))
    · rw [same]
      have h := (Rewritten.ended b .expired (giveBackPlace u)).before (s := u) rfl
      exact given (h.after (by simp [expireBasket])) (by simp [expireBasket]) (resting (by simp [emptied]) (by simp [emptied]))
  case unresolved u b freed =>
    obtain ⟨store, places⟩ := salesLaw_iff.mp (law.freed freed)
    obtain ⟨-, reserved⟩ := places.freed_reserved freed.state
    have unit : (leaveUnresolved b u).salesUnit = u.salesUnit := by simp
    exact salesLaw_iff.mpr ⟨unit ▸ store, places.rewrittenSame (.unresolved b u) unit (by rw [reserved, reservedOne, if_pos (.inr rfl)])⟩
  case forgotten o => exact same rfl rfl
  case collecting b d printing =>
    exact turned (.of_updBasket ..) rfl (by rw [resting, resting] <;> simp [printing])
  case closed b uncollected rested =>
    exact turned (.closed b uncollected s) (by simp) (by rw [resting, resting] <;> rcases rested with state | state <;> simp [state])
  case retired b ended =>
    refine turned (.of_updBasket ..) rfl ?_
    rw [resting, resting]
    · intro state; rw [state] at ended; cases ended
    · intro state; rw [state] at ended; cases ended
    · simp [Basket.free]
    · simp [Basket.free]
  case saleNoted serial n =>
    obtain ⟨kept, unit⟩ := store.reprinted serial n
    exact salesLaw_of_store places kept (by simp) (by rw [unit]) (by rw [unit]) (by rw [unit])
  case refundBegun r _ =>
    obtain ⟨kept, unit⟩ := store.refundBegun r
    exact salesLaw_of_store places kept (by simp) (by rw [unit]) (by rw [unit]) (by rw [unit])
  case refundFreed serial =>
    have unit := refundFreeingOp_sales serial s
    refine salesLaw_iff.mpr ⟨?_, places.of_eq (by simp) (by rw [unit]) (by rw [unit]) (by rw [unit])⟩
    rw [unit]
    exact store.of_eq rfl rfl rfl
  case refundVoided serial =>
    have unit := refundVoucherOp_sales serial s
    refine salesLaw_iff.mpr ⟨?_, places.of_eq (by simp) (by rw [unit]) (by rw [unit]) (by rw [unit])⟩
    rw [unit]
    exact store.of_eq rfl rfl rfl
  case refundWritten serial =>
    obtain ⟨kept, unit⟩ := store.refundWritten serial
    exact salesLaw_of_store places kept (by simp) (by rw [unit]) (by rw [unit]) (by rw [unit])
  case entered => exact same rfl rfl
  case salesRemoved sh _ =>
    obtain ⟨kept, inUse, unit⟩ := store.salesRemoved sh
    exact salesLaw_of_store places kept (by simp) (by rw [unit]) (by rw [unit]) inUse
  case used => exact same rfl rfl
  all_goals exact same (by simp) (by simp)

end SalesLaw
end Sys2Proof.Machine
end

section
/-! The law over seats and vouchers (R13, R22, R27, R128, R130, R145), cut into parts that move apart. -/

namespace Sys2Proof.Machine

/-! ### Counting the cells of a range -/

/-- The pool cells of a show's range. -/
def rangeCells (s : State) (n : Nat) : Finset Nat := Finset.Ico (showAt s n).seatBase ((showAt s n).seatBase + (showAt s n).seatCount)

theorem mem_rangeCells {s : State} {n c : Nat} : c ∈ rangeCells s n ↔ InRange s n c := Finset.mem_Ico

theorem cellsIn_card (s : State) (n : Nat) (st : SeatState) :
    cellsIn s n st = ((rangeCells s n).filter (fun c => (seatAt s c).state = st)).card := by
  have counted : cellsIn s n st =
      ((Finset.range (showAt s n).seatCount).filter (fun i => (seatAt s ((showAt s n).seatBase + i)).state = st)).card := by
    rw [cellsIn, Finset.card, Finset.filter_val, Finset.range_val, Multiset.range, Multiset.filter_coe, Multiset.coe_card]
    congr 1
  have moved : (rangeCells s n).filter (fun c => (seatAt s c).state = st) =
      ((Finset.range (showAt s n).seatCount).filter (fun i => (seatAt s ((showAt s n).seatBase + i)).state = st)).image
        ((showAt s n).seatBase + ·) := by
    ext c
    simp only [Finset.mem_filter, mem_rangeCells, Finset.mem_image, Finset.mem_range]
    constructor
    · rintro ⟨⟨low, high⟩, state⟩
      refine ⟨c - (showAt s n).seatBase, ⟨by omega, ?_⟩, by omega⟩
      rw [Nat.add_sub_cancel' low]
      exact state
    · rintro ⟨i, ⟨inside, state⟩, rfl⟩
      exact ⟨⟨Nat.le_add_right _ _, by omega⟩, state⟩
  rw [counted, moved, Finset.card_image_of_injective _ (add_right_injective _)]

/-- Each cell of a range stands in one state. -/
theorem cellsIn_total (s : State) (n : Nat) :
    cellsIn s n .free + cellsIn s n .held + cellsIn s n .sold + cellsIn s n .blocked = (showAt s n).seatCount := by
  have size : (rangeCells s n).card = (showAt s n).seatCount := by rw [rangeCells, Nat.card_Ico]; omega
  rw [← size, Finset.card_eq_sum_card_fiberwise (f := fun c => (seatAt s c).state) (t := {.free, .held, .sold, .blocked})]
  · simp only [cellsIn_card]
    rw [Finset.sum_insert (by decide), Finset.sum_insert (by decide), Finset.sum_insert (by decide), Finset.sum_singleton]
    omega
  · intro c _
    cases state : (seatAt s c).state <;> simp [state]

/-! ### The parts -/

/-- R13, R14: the ranges and the loadings. -/
structure RangesLaw (s : State) : Prop where
  shows : s.showUnit.shows.length = 48
  pool : ∀ n < 48, Allocated s n → (showAt s n).seatBase + (showAt s n).seatCount ≤ 16384
  apart : ∀ n < 48, ∀ m < 48, n ≠ m → Allocated s n → Allocated s m → ∀ c, InRange s n c → ¬ InRange s m c
  unallocated : ∀ n < 48, ¬ Allocated s n → (showAt s n).seatCount = 0
  loadings : ∀ l ∈ s.showUnit.loadings, l.sh < 48 ∧ (showAt s l.sh).state = .empty ∧ l.map.length = (showAt s l.sh).seatCount
  loadingOnce : (s.showUnit.loadings.map Loading.sh).Nodup

/-- R16: the removals in progress. -/
structure RemovalsLaw (s : State) : Prop where
  removals : ∀ x ∈ s.showUnit.removals, x.sh < 48 ∧ (showAt s x.sh).state = .ended ∧
    ∀ b < 24, (basketAt s b).state = .free ∨ (basketAt s b).sh ≠ x.sh
  removalOnce : (s.showUnit.removals.map Removal.sh).Nodup

/-- R22: a context claims a cell while it sells and lists it. -/
def Claims (s : State) (c : Basket) (cell : Nat) : Prop := Selling c ∧ ∃ i ∈ c.seats, cell = (showAt s c.sh).seatBase + i

/-- R22: a cell HELD by a context. -/
def HeldBy (s : State) (cell b : Nat) : Prop := (seatAt s cell).state = .held ∧ (seatAt s cell).owner = some b

/-- R22: what a selling context lists are seats of a show that stands. -/
def Listed (s : State) (c : Basket) : Prop :=
  Selling c → c.sh < 48 ∧ (showAt s c.sh).state ≠ .empty ∧ c.seats.Nodup ∧ ∀ i ∈ c.seats, i < (showAt s c.sh).seatCount

/-- R27: a count of a show record. -/
def countOf (st : SeatState) (w : ShowRec) : Nat :=
  match st with
  | .free => w.free
  | .held => w.held
  | .sold => w.sold
  | .blocked => w.blocked

/-- R17: the range of a show stands, the removal of the show not past its clearing. -/
def RangeStands (s : State) (n : Nat) : Prop := (showAt s n).state ≠ .empty ∧ ∀ x ∈ s.showUnit.removals, x.sh = n → x.step ≠ .finish

/-- R22, R27: the cells, the counts and the contexts' seats. -/
structure CellsLaw (s : State) : Prop where
  store : sparseWf Seat.spare s.seats
  owned : ∀ c, (seatAt s c).owner ≠ none ↔ ((seatAt s c).state = .held ∨ (seatAt s c).state = .sold)
  counts : ∀ n < 48, RangeStands s n → ∀ st, countOf st (showAt s n) = cellsIn s n st
  claimed : ∀ cell b, HeldBy s cell b ↔ b < 24 ∧ Claims s (basketAt s b) cell
  listed : ∀ b < 24, Listed s (basketAt s b)

/-- R29, R35: the calls open on the contexts. -/
structure CallsLaw (s : State) : Prop where
  baskets : s.basketUnit.baskets.length = 24
  calls : ∀ b < 24, (basketAt s b).call ≠ none → (basketAt s b).state = .selecting
  releases : ∀ b < 24, ∀ slot list, (basketAt s b).call = some (.release slot list) → list.Nodup ∧ ∀ i ∈ list, i ∈ (basketAt s b).seats

/-- R127, R130: the voucher table and its chains. -/
structure TableLaw (s : State) : Prop where
  store : sparseWf Voucher.empty s.voucherUnit.entries
  heads : sparseWf (none : Option Nat) s.voucherUnit.heads
  table : ∀ i, 1024 ≤ i → voucherAt s i = Voucher.empty
  chains : ∀ bucket < 256, ∃ l, ChainOf s bucket l
  codes : ∀ i j, (voucherAt s i).state ≠ none → (voucherAt s j).state ≠ none → (voucherAt s i).code = (voucherAt s j).code → i = j

/-- R128: the PENDING vouchers and the contexts' vouchers. -/
structure PendingLaw (s : State) : Prop where
  pending : ∀ i b, ((voucherAt s i).state = some .pending ∧ (voucherAt s i).owner = some b) ↔
    b < 24 ∧ Selling (basketAt s b) ∧ i ∈ (basketAt s b).vouchers
  owned : ∀ i, (voucherAt s i).state = some .pending → (voucherAt s i).owner ≠ none
  listed : ∀ b < 24, Selling (basketAt s b) → (basketAt s b).vouchers.Nodup ∧
    ∀ i ∈ (basketAt s b).vouchers, (voucherAt s i).sh = (basketAt s b).sh

/-- R39: a cell SOLD under a serial. -/
def SoldCell (s : State) (serial c : Nat) : Prop := (seatAt s c).state = .sold ∧ (seatAt s c).owner = some serial

/-- R145, R151: the SOLD cells, the sale records and the refunds in progress. -/
structure SoldLaw (s : State) : Prop where
  sold : ∀ c serial, SoldCell s serial c → serial < s.salesUnit.nextSerial ∧
    ∀ p, saleAt s p ≠ .empty → (saleAt s p).serial = serial → InRange s (saleAt s p).sh c
  sales : ∀ p, saleAt s p ≠ .empty → (saleAt s p).sh < 48 ∧ (showAt s (saleAt s p).sh).state ≠ .empty ∧
    (∀ x ∈ s.showUnit.removals, x.sh = (saleAt s p).sh → x.step = .sales) ∧
    ((∀ f ∈ s.salesUnit.refunds, f.serial ≠ (saleAt s p).serial) →
      cellsSold s (saleAt s p).serial = if (saleAt s p).refunded then 0 else (saleAt s p).seatCount)
  refunds : ∀ f ∈ s.salesUnit.refunds, ∃ p, saleAt s p ≠ .empty ∧ (saleAt s p).serial = f.serial ∧ (saleAt s p).refunded = false ∧
    cellsSold s f.serial = if f.seatsFreed = none then (saleAt s p).seatCount else 0
  refundOnce : (s.salesUnit.refunds.map Refund.serial).Nodup

/-- R128, R137, R138: the ACTIVE vouchers. -/
structure ActivesLaw (s : State) : Prop where
  actives : ∀ i, (voucherAt s i).state = some .active →
    (∃ p, saleAt s p ≠ .empty ∧ (voucherAt s i).owner = some (saleAt s p).serial ∧ (saleAt s p).sh = (voucherAt s i).sh ∧
      (saleAt s p).refunded = false) ∨
    ∃ x ∈ s.showUnit.removals, x.sh = (voucherAt s i).sh ∧ x.step = .vouchers
  voided : ∀ f ∈ s.salesUnit.refunds, f.vouchers ≠ none →
    ∀ i, (voucherAt s i).state = some .active → (voucherAt s i).owner ≠ some f.serial

/-- The parts together. -/
structure PartsLaw (s : State) : Prop where
  ranges : RangesLaw s
  removals : RemovalsLaw s
  cells : CellsLaw s
  calls : CallsLaw s
  table : TableLaw s
  pending : PendingLaw s
  sold : SoldLaw s
  actives : ActivesLaw s

theorem partsLaw_of {s : State} (sales : SalesLaw s) (law : HouseLaw s) : PartsLaw s := by
  have used : ∀ p, saleAt s p ≠ .empty → (p, saleAt s p) ∈ s.salesUnit.sales := fun p used =>
    (sparse_mem_iff _ _ sales.store _ _).mpr ⟨rfl, used⟩
  have place : ∀ e ∈ s.salesUnit.sales, saleAt s e.1 = e.2 ∧ saleAt s e.1 ≠ .empty := fun e member => by
    obtain ⟨value, used⟩ := (sparse_mem_iff _ _ sales.store e.1 e.2).mp member
    exact ⟨value, by rw [saleAt, value]; exact used⟩
  refine ⟨⟨law.shows, law.pool, law.apart, law.unallocated, law.loadings, law.loadingOnce⟩, ⟨fun x member => ?_, law.removalOnce⟩,
    ⟨law.canonical.seats, law.owned, fun n inside standing => ?_,
      fun cell b => ⟨fun ⟨state, owner⟩ => ?_, fun ⟨inside, sells, i, listed, here⟩ => ?_⟩,
      fun b inside sells => ?_⟩, ⟨law.baskets, law.calls, law.releases⟩,
    ⟨law.canonical.entries, law.canonical.heads, law.table, law.chains, law.codes⟩,
    ⟨fun i b => ⟨fun ⟨state, owner⟩ => ?_, fun ⟨inside, sells, listed⟩ => ?_⟩, fun i state => ?_, fun b inside sells => ?_⟩,
    ⟨fun c serial ⟨state, owner⟩ => ?_, fun p taken => law.sales _ (used p taken), fun f member => ?_, law.refundOnce⟩,
    ⟨fun i active => ?_, law.voided⟩⟩
  · obtain ⟨inside, ended, free⟩ := law.removals x member
    refine ⟨inside, ended, fun b bound => free _ ?_⟩
    rw [basketAt, List.getD_eq_getElem _ _ (law.baskets ▸ bound)]
    exact List.getElem_mem _
  · intro st
    obtain ⟨free, held, sold, blocked, -⟩ := law.counts n inside standing.1 standing.2
    cases st
    exacts [free, held, sold, blocked]
  · obtain ⟨x, inside, sells, owner', i, listed, here⟩ := law.held cell state
    obtain rfl := Option.some.inj (owner.symm.trans owner')
    exact ⟨inside, sells, i, listed, here⟩
  · obtain ⟨-, -, -, seats⟩ := law.listed b inside sells
    obtain ⟨-, state, owner⟩ := seats i listed
    rw [here]
    exact ⟨state, owner⟩
  · obtain ⟨bound, shown, once, seats⟩ := law.listed b inside sells
    exact ⟨bound, shown, once, fun i listed => (seats i listed).1⟩
  · obtain ⟨x, inside, sells, owner', listed⟩ := law.pendings i state
    obtain rfl := Option.some.inj (owner.symm.trans owner')
    exact ⟨inside, sells, listed⟩
  · obtain ⟨state, owner, -⟩ := (law.vouchers b inside sells).2 i listed
    exact ⟨state, owner⟩
  · obtain ⟨x, -, -, owner, -⟩ := law.pendings i state
    rw [owner]
    simp
  · obtain ⟨once, each⟩ := law.vouchers b inside sells
    exact ⟨once, fun i listed => (each i listed).2.2⟩
  · obtain ⟨lower, ranges⟩ := law.sold c serial state owner
    exact ⟨lower, fun p taken same => ranges _ (used p taken) same⟩
  · obtain ⟨e, inside, serial, whole, cells⟩ := law.refunds f member
    obtain ⟨value, taken⟩ := place e inside
    refine ⟨e.1, taken, ?_, ?_, ?_⟩
    all_goals rw [value]
    exacts [serial, whole, cells]
  · rcases law.actives i active with ⟨e, inside, owner, show', whole⟩ | removing
    · obtain ⟨value, taken⟩ := place e inside
      exact .inl ⟨e.1, taken, by rw [value]; exact ⟨owner, show', whole⟩⟩
    · exact .inr removing

theorem houseLaw_of {s : State} (canonical : Canonical s) (law : PartsLaw s) : HouseLaw s := by
  obtain ⟨ranges, removals, cells, calls, table, pending, sold, actives⟩ := law
  have place : ∀ e ∈ s.salesUnit.sales, saleAt s e.1 = e.2 ∧ saleAt s e.1 ≠ .empty := fun e member => by
    obtain ⟨value, used⟩ := (sparse_mem_iff _ _ canonical.sales e.1 e.2).mp member
    exact ⟨value, by rw [saleAt, value]; exact used⟩
  have used : ∀ p, saleAt s p ≠ .empty → (p, saleAt s p) ∈ s.salesUnit.sales := fun p used =>
    (sparse_mem_iff _ _ canonical.sales _ _).mpr ⟨rfl, used⟩
  refine ⟨ranges.shows, calls.baskets, canonical, cells.owned, ranges.pool, ranges.apart, ranges.unallocated, ranges.loadings,
    ranges.loadingOnce, fun x member => ?_, removals.removalOnce, fun n inside shown going => ?_, fun b inside => ?_, fun cell state => ?_,
    calls.calls, calls.releases, fun b inside => ?_, fun i state => ?_, table.table, table.chains, table.codes, fun c serial state owner => ?_,
    fun e member => ?_, fun f member => ?_, sold.refundOnce, fun i active => ?_, actives.voided⟩
  · obtain ⟨inside, ended, free⟩ := removals.removals x member
    refine ⟨inside, ended, fun c listed => ?_⟩
    obtain ⟨b, bound, rfl⟩ := List.getElem_of_mem listed
    have here : basketAt s b = s.basketUnit.baskets[b] := List.getD_eq_getElem _ _ bound
    rw [← here]
    exact free b (calls.baskets ▸ bound)
  · have counts := cells.counts n inside ⟨shown, going⟩
    have total := cellsIn_total s n
    rw [← counts .free, ← counts .held, ← counts .sold, ← counts .blocked] at total
    exact ⟨counts .free, counts .held, counts .sold, counts .blocked, total⟩
  · intro c sells
    obtain ⟨bound, shown, once, seats⟩ := cells.listed b inside sells
    refine ⟨bound, shown, once, fun i listed => ⟨seats i listed, ?_⟩⟩
    exact (cells.claimed _ b).mpr ⟨inside, sells, i, listed, rfl⟩
  · obtain ⟨b, owner⟩ := Option.ne_none_iff_exists'.mp ((cells.owned cell).mpr (.inl state))
    obtain ⟨inside, sells, claim⟩ := (cells.claimed cell b).mp ⟨state, owner⟩
    exact ⟨b, inside, sells, owner, claim⟩
  · intro c sells
    obtain ⟨once, each⟩ := pending.listed b inside sells
    refine ⟨once, fun i listed => ?_⟩
    obtain ⟨state, owner⟩ := (pending.pending i b).mpr ⟨inside, sells, listed⟩
    exact ⟨state, owner, each i listed⟩
  · obtain ⟨b, owner⟩ := Option.ne_none_iff_exists'.mp (pending.owned i state)
    obtain ⟨inside, sells, listed⟩ := (pending.pending i b).mp ⟨state, owner⟩
    exact ⟨b, inside, sells, owner, listed⟩
  · obtain ⟨lower, ranges⟩ := sold.sold c serial ⟨state, owner⟩
    refine ⟨lower, fun e member same => ?_⟩
    obtain ⟨value, taken⟩ := place e member
    rw [← value] at same ⊢
    exact ranges e.1 taken same
  · obtain ⟨value, taken⟩ := place e member
    rw [← value]
    exact sold.sales e.1 taken
  · obtain ⟨p, taken, serial, whole, count⟩ := sold.refunds f member
    exact ⟨_, used p taken, serial, whole, count⟩
  · rcases actives.actives i active with ⟨p, taken, owner, show', whole⟩ | removing
    · exact .inl ⟨_, used p taken, owner, show', whole⟩
    · exact .inr removing

end Sys2Proof.Machine
end

section
/-! The law of the ranges and the loadings (R13, R14), kept by every move. -/

namespace Sys2Proof.Machine

theorem showAt_of_shows {s t : State} (same : t.showUnit.shows = s.showUnit.shows) (n : Nat) : showAt t n = showAt s n := by
  rw [showAt, same]; rfl

/-- Each show keeps its state and its range, and the loadings stand. -/
structure RangesKept (s t : State) : Prop where
  length : t.showUnit.shows.length = s.showUnit.shows.length
  state : ∀ n, (showAt t n).state = (showAt s n).state
  base : ∀ n, (showAt t n).seatBase = (showAt s n).seatBase
  count : ∀ n, (showAt t n).seatCount = (showAt s n).seatCount
  loadings : t.showUnit.loadings = s.showUnit.loadings

namespace RangesKept
variable {s t u : State}

theorem of_shows (shows : t.showUnit.shows = s.showUnit.shows) (loadings : t.showUnit.loadings = s.showUnit.loadings) : RangesKept s t :=
  ⟨by rw [shows], fun n => by rw [showAt_of_shows shows], fun n => by rw [showAt_of_shows shows], fun n => by rw [showAt_of_shows shows],
    loadings⟩

theorem of_unit (unit : t.showUnit = s.showUnit) : RangesKept s t := of_shows (by rw [unit]) (by rw [unit])

theorem trans (first : RangesKept s t) (next : RangesKept t u) : RangesKept s u :=
  ⟨next.length.trans first.length, fun n => (next.state n).trans (first.state n), fun n => (next.base n).trans (first.base n),
    fun n => (next.count n).trans (first.count n), next.loadings.trans first.loadings⟩

theorem completed (h : RangesKept s t) {slot : Nat} {code : ResultCode} {fields : List Byte} : RangesKept s (completeSlot slot code fields t) :=
  h.trans (of_unit (by simp))

/-- A show record updated in neither its state nor its range. -/
theorem setShow (n : Nat) (f : ShowRec → ShowRec) (s : State)
    (kept : ∀ w, (f w).state = w.state ∧ (f w).seatBase = w.seatBase ∧ (f w).seatCount = w.seatCount) : RangesKept s (setShow n f s) := by
  have each : ∀ m, showAt (Machine.setShow n f s) m = showAt s m ∨ m = n ∧ showAt (Machine.setShow n f s) m = f (showAt s m) := fun m =>
    getD_updAt ..
  refine ⟨updAt_length .., fun m => ?_, fun m => ?_, fun m => ?_, rfl⟩
  all_goals rcases each m with same | ⟨-, written⟩
  · rw [same]
  · rw [written]; exact (kept _).1
  · rw [same]
  · rw [written]; exact (kept _).2.1
  · rw [same]
  · rw [written]; exact (kept _).2.2

theorem seatEvent (sh : Nat) (list : List Nat) (st : SeatState) (owner : Option Nat) (counts : ShowRec → ShowRec) (s : State)
    (kept : ∀ w, (counts w).state = w.state ∧ (counts w).seatBase = w.seatBase ∧ (counts w).seatCount = w.seatCount) :
    RangesKept s (cellEvent sh list st owner counts s) := by
  unfold cellEvent
  split
  · exact of_unit rfl
  · exact (of_unit (by simp)).trans (setShow sh _ _ kept)

theorem holdCells (sh b : Nat) (list : List Nat) (s : State) : RangesKept s (holdCells sh b list s) :=
  seatEvent _ _ _ _ _ _ fun _ => ⟨rfl, rfl, rfl⟩
theorem releaseCells (sh : Nat) (list : List Nat) (s : State) : RangesKept s (releaseCells sh list s) :=
  seatEvent _ _ _ _ _ _ fun _ => ⟨rfl, rfl, rfl⟩
theorem sellCells (sh serial : Nat) (list : List Nat) (s : State) : RangesKept s (sellCells sh serial list s) :=
  seatEvent _ _ _ _ _ _ fun _ => ⟨rfl, rfl, rfl⟩
theorem freeSold (sh serial : Nat) (s : State) : RangesKept s (freeSold sh serial s).1 :=
  seatEvent _ _ _ _ _ _ fun _ => ⟨rfl, rfl, rfl⟩

theorem endBasket (b : Nat) (dest : BasketState) (s : State) : RangesKept s (endBasket b dest s) := by
  rw [endBasket_eq]
  exact (releaseCells (basketAt s b).sh (basketAt s b).seats s).trans (of_unit (by simp))

theorem saleMove (b : Nat) (m : Method) (s : State) : RangesKept s (saleMove b m s) := by
  rw [saleMove_eq]
  exact ((of_unit (by rfl)).trans (sellCells (basketAt s b).sh s.salesUnit.nextSerial (basketAt s b).seats
    (createSale (basketAt s b) m s))).trans (of_unit (by simp))

theorem returnBasket (b : Nat) (s : State) : RangesKept s (returnBasket b s) := by
  rcases Rewritten.returned b s with ⟨dl, k, same⟩ | same
  · rw [same]
    exact of_unit (by simp)
  · rw [same]
    exact ((of_unit (by rfl)).trans (endBasket b .expired (giveBackPlace s))).trans (of_unit (by simp [expireBasket]))

theorem unresolved (b : Nat) (s : State) : RangesKept s (leaveUnresolved b s) := of_unit (by simp)

theorem blockSeatsOp (r : Request) (s : State) : RangesKept s (blockSeatsOp r s) := by
  simp only [Machine.blockSeatsOp]
  split
  · exact of_unit (by simp)
  · split
    · exact of_unit (by simp)
    · exact completed (seatEvent _ _ _ _ _ _ (by exact fun _ => ⟨rfl, rfl, rfl⟩))

theorem unblockSeatsOp (r : Request) (s : State) : RangesKept s (unblockSeatsOp r s) := by
  simp only [Machine.unblockSeatsOp]
  split
  · exact of_unit (by simp)
  · split
    · exact of_unit (by simp)
    · exact completed (seatEvent _ _ _ _ _ _ (by exact fun _ => ⟨rfl, rfl, rfl⟩))

theorem refundFreeingOp (serial : Nat) (s : State) : RangesKept s (refundFreeingOp serial s) := by
  unfold Machine.refundFreeingOp
  split
  · exact of_unit rfl
  · split
    · exact of_unit rfl
    · exact (freeSold (saleShow s serial) serial s).trans (of_unit rfl)

theorem stepShow (sh : Nat) (s : State) : RangesKept s (stepShow sh s) := setShow _ _ _ fun _ => ⟨rfl, rfl, rfl⟩

theorem dropShowOp (r : Request) (s : State) : RangesKept s (dropShowOp r s) := by
  simp only [Machine.dropShowOp]
  split
  · exact of_unit (by simp)
  · exact (stepShow _ s).trans (of_shows rfl rfl)

theorem salesRemovalNow (sh : Nat) (s : State) : RangesKept s (salesRemovalNow sh s) := by
  simp only [Machine.salesRemovalNow]
  split
  · exact of_unit rfl
  · split
    · exact completed ((of_shows (by rfl) (by rfl)).trans (stepShow sh _))
    · exact of_shows rfl rfl

theorem voucherShowRemovalOp (sh : Nat) (s : State) : RangesKept s (voucherShowRemovalOp sh s) := by
  unfold Machine.voucherShowRemovalOp
  split
  · exact of_unit rfl
  · exact of_shows (by simp [updRemoval]) (by simp [updRemoval])

theorem seatRangeClearOp (sh : Nat) (s : State) : RangesKept s (seatRangeClearOp sh s) := by
  unfold Machine.seatRangeClearOp
  split
  · exact of_unit rfl
  · have cleared : RangesKept s (clearRange sh s) := (of_unit (by rfl)).trans (setShow sh _ _ (by exact fun _ => ⟨rfl, rfl, rfl⟩))
    exact cleared.trans (of_shows rfl rfl)

theorem allocated (h : RangesKept s t) (n : Nat) : Allocated t n ↔ Allocated s n := by
  rw [Allocated, Allocated, h.state, h.loadings]

theorem inRange (h : RangesKept s t) (n c : Nat) : InRange t n c ↔ InRange s n c := by
  rw [InRange, InRange, h.base, h.count]

theorem law (h : RangesKept s t) (law : RangesLaw s) : RangesLaw t := by
  refine ⟨h.length.trans law.shows, fun n inside allocated => ?_, fun n insideN m insideM apart allocatedN allocatedM c inN inM => ?_,
    fun n inside free => ?_, fun l member => ?_, by rw [h.loadings]; exact law.loadingOnce⟩
  · rw [h.base, h.count]
    exact law.pool n inside ((h.allocated n).mp allocated)
  · exact law.apart n insideN m insideM apart ((h.allocated n).mp allocatedN) ((h.allocated m).mp allocatedM) c ((h.inRange n c).mp inN)
      ((h.inRange m c).mp inM)
  · rw [h.count]
    exact law.unallocated n inside fun allocated => free ((h.allocated n).mpr allocated)
  · rw [h.state, h.count]
    exact law.loadings l (h.loadings ▸ member)

end RangesKept

theorem Freed.showUnit {b : Nat} {s u : State} (freed : Freed b s u) : u.showUnit = s.showUnit := by cases freed <;> rfl

/-- What a move does to the ranges and the loadings. -/
inductive RangesMove (P : Prop) : State → State → Prop where
  | kept {s t : State} (h : RangesKept s t) : RangesMove P s t
  | reset {s t : State} (same : Unmoved P .reset t) : RangesMove P s t
  | entered {s : State} {n : Nat} {st : ShowState} (loaded : (showAt s n).state ≠ .empty) (going : (showAt s n).state ≠ .ended)
      (shown : st ≠ .empty) : RangesMove P s (updShow n (fun w => { w with state := st }) s)
  | loadBegun {s : State} {r : Request} : RangesMove P s (loadShowOp r s)
  | loadDone {s : State} {sh : Nat} {l : Loading} (found : s.showUnit.loadings.find? (fun l => l.sh == sh) = some l) :
      RangesMove P s (loadedState sh l s)
  | dropped {s : State} {sh : Nat} : RangesMove P s (dropCompleteOp sh s)

theorem Move.ranges {P : Prop} {s t : State} (move : Move P s t) : RangesMove P s t := by
  cases move
  case quiet same => exact .kept (.of_shows same.shows same.loadings)
  case reset same => exact .reset same
  case configured same => exact .kept (.of_shows same.shows same.loadings)
  case line => exact .kept (.of_unit rfl)
  case lineRested => exact .kept (.of_unit rfl)
  case recordClosed => exact .kept (.of_unit (by simp))
  case noted => exact .kept (.of_unit rfl)
  case opened => exact .kept (.of_unit rfl)
  case called => exact .kept (.of_unit rfl)
  case answered => exact .kept (.of_unit rfl)
  case held => exact .kept ((RangesKept.holdCells ..).trans (.of_unit (by rfl)))
  case released => exact .kept ((RangesKept.releaseCells ..).trans (.of_unit (by rfl)))
  case issued u b slot kind index code call answer =>
    have unit : u.showUnit = s.showUnit := by
      rw [← show (issueVoucher kind b (basketAt s b).sh s).1 = u from congrArg Prod.fst answer]; simp
    exact .kept (.of_unit unit)
  case removed => exact .kept (.of_unit (by simp))
  case ended => exact .kept (.endBasket ..)
  case soldFree b m _ _ _ => exact .kept ((RangesKept.of_unit (by rfl)).trans (.saleMove b m (reservePlace s)))
  case paying => exact .kept (.of_unit (by simp))
  case sold freed => exact .kept ((RangesKept.of_unit freed.showUnit).trans (.saleMove ..))
  case returned freed => exact .kept ((RangesKept.of_unit freed.showUnit).trans (.returnBasket ..))
  case unresolved freed => exact .kept ((RangesKept.of_unit freed.showUnit).trans (.unresolved ..))
  case forgotten => exact .kept (.of_unit rfl)
  case collecting => exact .kept (.of_unit rfl)
  case closed => exact .kept (.of_unit (by simp))
  case retired => exact .kept (.of_unit rfl)
  case saleNoted => exact .kept (.of_unit (by simp))
  case refundBegun => exact .kept (.of_unit (by simp))
  case refundFreed => exact .kept (.refundFreeingOp ..)
  case refundVoided => exact .kept (.of_unit (by simp))
  case refundWritten => exact .kept (.of_unit (by simp))
  case blocked => exact .kept (.blockSeatsOp ..)
  case unblocked => exact .kept (.unblockSeatsOp ..)
  case entered loaded going shown => exact .entered loaded going shown
  case loadBegun => exact .loadBegun
  case loadDone found => exact .loadDone found
  case dropBegun => exact .kept (.dropShowOp ..)
  case salesRemoved => exact .kept (.salesRemovalNow ..)
  case vouchersRemoved => exact .kept (.voucherShowRemovalOp ..)
  case rangeCleared => exact .kept (.seatRangeClearOp ..)
  case dropped => exact .dropped
  case used => exact .kept (.of_unit rfl)

/-! ### What loadings and drops do to the shows -/

/-- R12, R13: what the checks of LOAD_SHOW say of the show and of the range found. -/
theorem load_passed {s : State} {sh off base : Nat} (passed : loadCheck s sh off = .ok base) :
    sh < 48 ∧ (showAt s sh).state = .empty ∧ (∀ l ∈ s.showUnit.loadings, l.sh ≠ sh) ∧
      FreeRun (allocatedRanges s) (descriptionAt s off).rowLengths.sum base := by
  simp only [loadCheck] at passed
  split at passed
  · cases passed
  · split at passed
    · cases passed
    · next inside =>
      split at passed
      · cases passed
      · next idle =>
        repeat' split at passed
        all_goals cases passed
        next found =>
          rw [not_or, not_not, isLoading_iff] at idle
          exact ⟨Nat.lt_of_not_le inside, idle.1, fun l member same => idle.2 ⟨l, member, same⟩, (firstFit_some_iff.mp found).1⟩

theorem descriptionMap_length (s : State) (off : Nat) : (descriptionAt s off).map.length = (descriptionAt s off).rowLengths.sum :=
  memReadAll_length ..

/-- What a loading is once LOAD_SHOW has marked it. -/
def begunLoading (s : State) (r : Request) : Loading := { slot := r.slot, sh := param1 r 0, map := (descriptionAt s (param2 r 1)).map }

/-- R12, R14: a LOAD_SHOW that passes, or one that is refused. -/
theorem loadShowOp_cases (r : Request) (s : State) : (∃ code, loadShowOp r s = finish r.slot code s) ∨
    ∃ base, loadCheck s (param1 r 0) (param2 r 1) = .ok base ∧
      (loadShowOp r s).showUnit = { s.showUnit with
        shows := updAt s.showUnit.shows (param1 r 0) (loadedRecord (descriptionAt s (param2 r 1)) base)
        loadings := s.showUnit.loadings ++ [begunLoading s r] } := by
  simp only [loadShowOp]
  split
  · exact .inl ⟨_, rfl⟩
  · next base passed => exact .inr ⟨base, passed, rfl⟩

theorem loading_found {s : State} {sh : Nat} {l : Loading} (found : s.showUnit.loadings.find? (fun l => l.sh == sh) = some l) :
    l ∈ s.showUnit.loadings ∧ l.sh = sh :=
  ⟨List.mem_of_find?_eq_some found, by simpa using List.find?_some found⟩

theorem loadedState_showUnit (sh : Nat) (l : Loading) (s : State) : (loadedState sh l s).showUnit = { s.showUnit with
    shows := updAt s.showUnit.shows sh (loadedShow l), loadings := s.showUnit.loadings.erase l } := by
  have unit : (loadCells (showAt s sh).seatBase l.map s).showUnit = s.showUnit := by simp
  simp only [loadedState, setShow, unit]

/-- R17: the end of a drop. -/
theorem dropCompleteOp_cases (sh : Nat) (s : State) : dropCompleteOp sh s = s ∨ ∃ x, removalAt s sh .finish = some x ∧
    (dropCompleteOp sh s).showUnit = { s.showUnit with
      shows := updAt s.showUnit.shows sh (fun _ => ShowRec.empty), removals := s.showUnit.removals.erase x } := by
  unfold dropCompleteOp
  split
  · exact .inl rfl
  · next x found =>
    refine .inr ⟨x, found, ?_⟩
    have unit : ∀ slot code fields (u : State), (completeSlot slot code fields u).showUnit = u.showUnit := fun _ _ _ u => by simp
    rw [unit]
    rfl

theorem removal_found {s : State} {sh : Nat} {step : RemovalStep} {x : Removal} (found : removalAt s sh step = some x) :
    x ∈ s.showUnit.removals ∧ x.sh = sh ∧ x.step = step :=
  ⟨List.mem_of_find?_eq_some found, by simpa using List.find?_some found⟩

/-- What a part whose show records differ in one reads of them. -/
theorem showAt_one {s t : State} {n : Nat} {f : ShowRec → ShowRec} (shows : t.showUnit.shows = updAt s.showUnit.shows n f)
    (inside : n < s.showUnit.shows.length) : showAt t n = f (showAt s n) ∧ ∀ m, m ≠ n → showAt t m = showAt s m := by
  refine ⟨?_, fun m apart => ?_⟩
  · rw [showAt, shows]; exact updAt_getD_self _ _ _ _ inside
  · rw [showAt, shows]; exact updAt_getD_other _ _ _ _ _ apart.symm

namespace RangesLaw
variable {s t : State} (law : RangesLaw s)
include law

/-- One show record changed, and its loading begun or ended. -/
theorem changed {n : Nat} {f : ShowRec → ShowRec} (inside : n < 48) (shows : t.showUnit.shows = updAt s.showUnit.shows n f)
    (others : ∀ m, m ≠ n → ((∃ l ∈ t.showUnit.loadings, l.sh = m) ↔ ∃ l ∈ s.showUnit.loadings, l.sh = m))
    (pool : Allocated t n → (f (showAt s n)).seatBase + (f (showAt s n)).seatCount ≤ 16384)
    (apart : Allocated t n → ∀ m < 48, m ≠ n → Allocated s m → ∀ c, (f (showAt s n)).seatBase ≤ c →
      c < (f (showAt s n)).seatBase + (f (showAt s n)).seatCount → ¬ InRange s m c)
    (unallocated : ¬ Allocated t n → (f (showAt s n)).seatCount = 0)
    (loadings : ∀ l ∈ t.showUnit.loadings, l ∈ s.showUnit.loadings ∧ l.sh ≠ n ∨
      l.sh = n ∧ (f (showAt s n)).state = .empty ∧ l.map.length = (f (showAt s n)).seatCount)
    (once : (t.showUnit.loadings.map Loading.sh).Nodup) : RangesLaw t := by
  obtain ⟨self, other⟩ := showAt_one shows (law.shows ▸ inside)
  have same : ∀ m, m ≠ n → (Allocated t m ↔ Allocated s m) := fun m elsewhere => by
    rw [Allocated, Allocated, other m elsewhere, others m elsewhere]
  refine ⟨by rw [shows]; exact (updAt_length ..).trans law.shows, fun m insideM allocated => ?_,
    fun m insideM k insideK elsewhere allocatedM allocatedK c inM inK => ?_, fun m insideM free => ?_, fun l member => ?_, once⟩
  · by_cases here : m = n
    · subst here
      rw [self]
      exact pool allocated
    · rw [other m here]
      exact law.pool m insideM ((same m here).mp allocated)
  · by_cases hereM : m = n
    · subst hereM
      rw [InRange, self] at inM
      rw [InRange, other k (Ne.symm elsewhere)] at inK
      exact apart allocatedM k insideK (Ne.symm elsewhere) ((same k (Ne.symm elsewhere)).mp allocatedK) c inM.1 inM.2 inK
    · rw [InRange, other m hereM] at inM
      by_cases hereK : k = n
      · subst hereK
        rw [InRange, self] at inK
        exact apart allocatedK m insideM hereM ((same m hereM).mp allocatedM) c inK.1 inK.2 inM
      · rw [InRange, other k hereK] at inK
        exact law.apart m insideM k insideK elsewhere ((same m hereM).mp allocatedM) ((same k hereK).mp allocatedK) c inM inK
  · by_cases here : m = n
    · subst here
      rw [self]
      exact unallocated free
    · rw [other m here]
      exact law.unallocated m insideM fun allocated => free ((same m here).mpr allocated)
  · rcases loadings l member with ⟨old, elsewhere⟩ | ⟨here, empty, length⟩
    · rw [other _ elsewhere]
      exact law.loadings l old
    · rw [here, self]
      exact ⟨inside, empty, length⟩

theorem inside_of_shown {n : Nat} (shown : (showAt s n).state ≠ .empty) : n < 48 := by
  by_contra outside
  rw [showAt, List.getD_eq_getElem?_getD, List.getElem?_eq_none (by rw [law.shows]; omega)] at shown
  exact shown rfl

theorem entered {n : Nat} {st : ShowState} (loaded : (showAt s n).state ≠ .empty) (shown : st ≠ .empty) :
    RangesLaw (updShow n (fun w => { w with state := st }) s) := by
  have inside := law.inside_of_shown loaded
  have allocated : Allocated s n := .inl loaded
  have after : Allocated (updShow n (fun w => { w with state := st }) s) n := by
    refine .inl ?_
    rw [showAt_updShow_self s n _ (law.shows ▸ inside)]
    exact shown
  refine law.changed (n := n) (f := fun w => { { w with state := st } with changes := bump w.changes }) inside rfl (fun _ _ => Iff.rfl)
    (fun _ => law.pool n inside allocated)
    (fun _ m insideM apart other c low high => law.apart n inside m insideM apart.symm allocated other c ⟨low, high⟩)
    (fun free => absurd after free) (fun l member => .inl ⟨member, fun here => ?_⟩) law.loadingOnce
  exact loaded (here ▸ (law.loadings l member).2.1)

theorem loadBegun (r : Request) : RangesLaw (loadShowOp r s) := by
  rcases loadShowOp_cases r s with ⟨code, refused⟩ | ⟨base, passed, unit⟩
  · rw [refused]
    exact (RangesKept.of_unit (by simp)).law law
  · obtain ⟨inside, empty, idle, bound, apart⟩ := load_passed passed
    have loadings : (loadShowOp r s).showUnit.loadings = s.showUnit.loadings ++ [begunLoading s r] := by rw [unit]
    have only : ∀ l, l ∈ (loadShowOp r s).showUnit.loadings ↔ l ∈ s.showUnit.loadings ∨ l = begunLoading s r := fun l => by
      rw [loadings, List.mem_append, List.mem_singleton]
    refine law.changed (n := param1 r 0) (f := loadedRecord (descriptionAt s (param2 r 1)) base) inside (by rw [unit]) (fun m elsewhere => ?_)
      (fun _ => bound) (fun _ m insideM _ allocated c low high range => ?_) (fun free => absurd ?_ free) (fun l member => ?_) ?_
    · constructor
      · rintro ⟨l, member, rfl⟩
        rcases (only l).mp member with old | rfl
        · exact ⟨l, old, rfl⟩
        · exact absurd rfl elsewhere
      · rintro ⟨l, old, rfl⟩
        exact ⟨l, (only l).mpr (.inl old), rfl⟩
    · have before := apart _ (mem_allocatedRanges.mpr ⟨m, insideM, allocated, rfl⟩)
      have low' : base ≤ c := low
      have high' : c < base + (descriptionAt s (param2 r 1)).rowLengths.sum := high
      obtain ⟨lowM, highM⟩ := range
      dsimp only at before
      omega
    · exact .inr ⟨begunLoading s r, (only _).mpr (.inr rfl), rfl⟩
    · rcases (only l).mp member with old | rfl
      · exact .inl ⟨old, idle l old⟩
      · exact .inr ⟨rfl, rfl, descriptionMap_length ..⟩
    · rw [loadings, List.map_append, List.map_singleton]
      refine List.nodup_append.mpr ⟨law.loadingOnce, List.nodup_singleton _, fun x old y new same => ?_⟩
      obtain ⟨l, member, rfl⟩ := List.mem_map.mp old
      rw [List.mem_singleton] at new
      exact idle l member (same.trans new)

theorem loadDone {sh : Nat} {l : Loading} (found : s.showUnit.loadings.find? (fun l => l.sh == sh) = some l) : RangesLaw (loadedState sh l s) := by
  obtain ⟨member, rfl⟩ := loading_found found
  obtain ⟨inside, empty, length⟩ := law.loadings l member
  have unit := loadedState_showUnit l.sh l s
  have loadings : (loadedState l.sh l s).showUnit.loadings = s.showUnit.loadings.erase l := by rw [unit]
  have allocated : Allocated s l.sh := .inr ⟨l, member, rfl⟩
  have after : Allocated (loadedState l.sh l s) l.sh := by
    refine .inl ?_
    rw [(showAt_one (s := s) (n := l.sh) (f := loadedShow l) (by rw [unit]) (law.shows ▸ inside)).1]
    exact nofun
  refine law.changed (n := l.sh) (f := loadedShow l) inside (by rw [unit]) (fun m elsewhere => ?_) (fun _ => law.pool l.sh inside allocated)
    (fun _ m insideM apart other c low high => law.apart l.sh inside m insideM apart.symm allocated other c ⟨low, high⟩)
    (fun free => absurd after free) (fun x left => .inl ?_) ?_
  · rw [loadings]
    constructor
    · rintro ⟨x, left, here⟩
      exact ⟨x, List.mem_of_mem_erase left, here⟩
    · rintro ⟨x, old, here⟩
      exact ⟨x, (List.mem_erase_of_ne fun same => elsewhere (here.symm.trans (congrArg Loading.sh same))).mpr old, here⟩
  · rw [loadings] at left
    exact ⟨List.mem_of_mem_erase left, erase_apart law.loadingOnce member x left⟩
  · rw [loadings]
    exact law.loadingOnce.sublist ((List.erase_sublist ..).map _)

theorem dropped (removals : RemovalsLaw s) (sh : Nat) : RangesLaw (dropCompleteOp sh s) := by
  rcases dropCompleteOp_cases sh s with same | ⟨x, found, unit⟩
  · rw [same]
    exact law
  · obtain ⟨member, rfl, -⟩ := removal_found found
    obtain ⟨inside, ended, -⟩ := removals.removals x member
    have idle : ∀ l ∈ s.showUnit.loadings, l.sh ≠ x.sh := fun l loading here => by
      have empty := (law.loadings l loading).2.1
      rw [here, ended] at empty
      cases empty
    have loadings : (dropCompleteOp x.sh s).showUnit.loadings = s.showUnit.loadings := by rw [unit]
    refine law.changed (n := x.sh) (f := fun _ => ShowRec.empty) inside (by rw [unit]) (fun m _ => by rw [loadings])
      (fun _ => Nat.zero_le _) (fun _ m _ _ _ c low high => absurd high (Nat.not_lt_of_le low)) (fun _ => rfl) (fun l member => ?_)
      (by rw [loadings]; exact law.loadingOnce)
    rw [loadings] at member
    exact .inl ⟨member, idle l member⟩

theorem move {P : Prop} (removals : RemovalsLaw s) (move : Move P s t) : RangesLaw t := by
  cases move.ranges with
  | kept h => exact h.law law
  | reset same =>
    have start : RangesLaw .reset := (partsLaw_of salesLaw_reset houseLaw_reset).ranges
    exact (RangesKept.of_shows same.shows same.loadings).law start
  | entered loaded _ shown => exact law.entered loaded shown
  | loadBegun => exact law.loadBegun _
  | loadDone found => exact law.loadDone found
  | dropped => exact law.dropped removals _

end RangesLaw
end Sys2Proof.Machine
end

section
/-! The law of the removals in progress (R16, R17), kept by every move. -/

namespace Sys2Proof.Machine

/-! ### Which show a context names -/

/-- A context in use named its show before, or names a show ON_SALE. -/
def ShowsNamed (s t : State) : Prop := ∀ b, (basketAt t b).state = .free ∨
  ((basketAt s b).state ≠ .free ∧ (basketAt t b).sh = (basketAt s b).sh) ∨ (showAt s (basketAt t b).sh).state = .onSale

namespace ShowsNamed
variable {s t u : State}

theorem of_baskets (same : t.basketUnit.baskets = s.basketUnit.baskets) : ShowsNamed s t := fun b => by
  rw [basketAt_of_baskets same]
  by_cases free : (basketAt s b).state = .free
  · exact .inl free
  · exact .inr (.inl ⟨free, rfl⟩)

theorem rewritten {b : Nat} {d : Basket} (h : Rewritten b d s t)
    (named : d.state = .free ∨ (basketAt s b).state ≠ .free ∧ d.sh = (basketAt s b).sh ∨ (showAt s d.sh).state = .onSale) : ShowsNamed s t := by
  by_cases inside : b < s.basketUnit.baskets.length
  · intro n
    by_cases here : n = b
    · subst here
      rw [h.self inside]
      exact named
    · rw [h.other here]
      by_cases free : (basketAt s n).state = .free
      · exact .inl free
      · exact .inr (.inl ⟨free, rfl⟩)
  · exact of_baskets (by rw [h, updAt, List.getElem?_eq_none (Nat.le_of_not_lt inside)])

/-- A context updated in any state but FREE that names its show on. -/
theorem stays {b : Nat} {d : Basket} (h : Rewritten b d s t) (sh : d.sh = (basketAt s b).sh)
    (used : (basketAt s b).state = .free → d.state = .free) : ShowsNamed s t := by
  refine rewritten h ?_
  by_cases free : (basketAt s b).state = .free
  · exact .inl (used free)
  · exact .inr (.inl ⟨free, sh⟩)

theorem freed {b : Nat} (freed : Freed b s u) (h : ShowsNamed u t) : ShowsNamed s t := by
  cases freed
  · exact h
  · exact h

end ShowsNamed

theorem opens_onSale {s : State} {k sh : Nat} (passed : openRefusal s k sh = none) : (showAt s sh).state = .onSale := by
  simp only [openRefusal] at passed
  repeat' split at passed
  all_goals cases passed
  next onSale _ => exact not_not.mp onSale

theorem Move.named {P : Prop} {s t : State} (move : Move P s t) : ShowsNamed s t := by
  cases move
  case quiet same => exact .of_baskets same.baskets
  case reset same =>
    intro b
    rw [basketAt_of_baskets same.baskets, basketAt_reset]
    exact .inl rfl
  case configured same => exact .of_baskets same.baskets
  case line => exact .of_baskets rfl
  case lineRested => exact .of_baskets rfl
  case recordClosed => exact .of_baskets (by rw [closeRecord_basketUnit])
  case noted b f noted =>
    obtain ⟨state, -, sh, -⟩ := noted
    exact .stays (.of_setBasket b f s) sh (by rw [state]; exact id)
  case opened k sh d passed => exact .rewritten (.of_updBasket ..) (.inr (.inr (opens_onSale passed)))
  case called => exact .stays (.of_setBasket ..) rfl id
  case answered => exact .stays (.of_setBasket ..) rfl id
  case held b slot list call _ =>
    obtain ⟨q, h⟩ := Rewritten.answered (f := fun c => { c with seats := c.seats ++ list, deadline := extendedDeadline s c })
      (t := holdCells (basketAt s b).sh b list s) (by simp) (inside_of_call call)
    exact .stays h rfl id
  case released b slot list call =>
    obtain ⟨q, h⟩ := Rewritten.answered (f := fun c => { c with seats := c.seats.filter (fun x => !list.contains x) })
      (t := releaseCells (basketAt s b).sh list s) (by simp) (inside_of_call call)
    exact .stays h rfl id
  case issued u b slot kind index code call answer =>
    have unit : u.basketUnit = s.basketUnit := by
      rw [← show (issueVoucher kind b (basketAt s b).sh s).1 = u from congrArg Prod.fst answer]; simp
    obtain ⟨q, h⟩ := Rewritten.answered (f := fun c => { c with vouchers := c.vouchers ++ [index], deadline := extendedDeadline u c })
      (s := s) (t := u) (by rw [unit]) (inside_of_call call)
    exact .stays h rfl id
  case removed b slot position call =>
    obtain ⟨q, h⟩ := Rewritten.answered (f := fun c => { c with vouchers := c.vouchers.eraseIdx position })
      (t := removeVouchers ((basketAt s b).vouchers[position]?).toList s) (by simp) (inside_of_call call)
    exact .stays h rfl id
  case ended b dest selecting _ _ => exact .stays (.ended b dest s) rfl (by rw [selecting]; nofun)
  case soldFree b m selecting _ _ =>
    exact .stays ((Rewritten.sold b m (reservePlace s)).before (s := s) rfl) rfl (by rw [selecting]; nofun)
  case paying b selecting _ _ _ _ _ =>
    obtain ⟨r, h⟩ := Rewritten.paying b (reservePlace s)
    exact .stays (h.before (s := s) rfl) rfl (by rw [selecting]; nofun)
  case sold u b m freed => exact .freed freed (.stays (.sold b m u) rfl fun free => absurd free freed.used)
  case returned u b freed =>
    refine .freed freed ?_
    rcases Rewritten.returned b u with ⟨dl, k, same⟩ | same
    · rw [same]
      have h := (Rewritten.of_updBasket b (fun x => { x with state := .selecting, deadline := some dl }) (giveBackPlace u)).before (s := u) rfl
      exact .stays (h.after (by simp)) rfl fun free => absurd free freed.used
    · rw [same]
      have h := (Rewritten.ended b .expired (giveBackPlace u)).before (s := u) rfl
      exact .stays (h.after (by simp [expireBasket])) rfl fun free => absurd free freed.used
  case unresolved u b freed => exact .freed freed (.stays (.unresolved b u) rfl fun free => absurd free freed.used)
  case forgotten => exact .of_baskets rfl
  case collecting b d printing => exact .stays (.of_updBasket ..) rfl (by rw [printing]; nofun)
  case closed b uncollected rested =>
    exact .stays (.closed b uncollected s) rfl (by rcases rested with state | state <;> rw [state] <;> nofun)
  case retired => exact .rewritten (.of_updBasket ..) (.inl rfl)
  case entered => exact .of_baskets rfl
  case used => exact .of_baskets rfl
  all_goals exact .of_baskets (by simp)

/-! ### The steps of a drop -/

/-- R17: the step that follows a step of a removal. -/
def followedBy : RemovalStep → RemovalStep → Prop
  | .sales, .vouchers => True
  | .vouchers, .seats => True
  | .seats, .finish => True
  | _, _ => False

/-- What a move does to the removals in progress. -/
inductive RemovalsMove (P : Prop) (s t : State) : Prop where
  | kept (same : t.showUnit.removals = s.showUnit.removals)
  | reset (same : Unmoved P .reset t)
  | begun {x : Removal} (passed : dropShowRefusal s x.sh = none) (first : x.step = .sales)
      (removals : t.showUnit.removals = s.showUnit.removals ++ [x]) (ranges : RangesKept s t)
      (baskets : t.basketUnit.baskets = s.basketUnit.baskets)
  | stopped {x : Removal} (member : x ∈ s.showUnit.removals) (first : x.step = .sales)
      (removals : t.showUnit.removals = s.showUnit.removals.erase x)
  | moved {x y : Removal} (member : x ∈ s.showUnit.removals) (sh : y.sh = x.sh) (next : followedBy x.step y.step)
      (removals : t.showUnit.removals = s.showUnit.removals.map (fun v => if v = x then y else v))
  | ended {x : Removal} (found : removalAt s x.sh .finish = some x) (removals : t.showUnit.removals = s.showUnit.removals.erase x)

theorem removals_dropShowOp {P : Prop} (r : Request) (s : State) : RemovalsMove P s (dropShowOp r s) := by
  have ranges := RangesKept.dropShowOp r s
  have baskets : (dropShowOp r s).basketUnit = s.basketUnit := by simp
  simp only [dropShowOp] at ranges baskets ⊢
  split
  · exact .kept (by simp)
  · next passed =>
    rw [passed] at ranges baskets
    exact .begun (x := { slot := r.slot, sh := param1 r 0, step := .sales, salesRemoved := 0, vouchersRemoved := 0 }) passed rfl rfl
      ranges (by rw [baskets])

theorem removals_salesRemovalNow {P : Prop} (sh : Nat) (s : State) : RemovalsMove P s (salesRemovalNow sh s) := by
  simp only [salesRemovalNow]
  split
  · exact .kept rfl
  · next x found =>
    obtain ⟨member, -, first⟩ := removal_found found
    split
    · exact .stopped member first (by simp [stepShow, setShow, updRemoval])
    · exact .moved (y := { x with step := .vouchers, salesRemoved := (removeSales sh s).2 }) member rfl (by rw [first]; trivial) rfl

theorem removals_voucherShowRemovalOp {P : Prop} (sh : Nat) (s : State) : RemovalsMove P s (voucherShowRemovalOp sh s) := by
  simp only [voucherShowRemovalOp]
  split
  · exact .kept rfl
  · next x found =>
    obtain ⟨member, -, step⟩ := removal_found found
    exact .moved (y := { x with step := .seats, vouchersRemoved := (vouchersOfShow s sh).length }) member rfl (by rw [step]; trivial)
      (by simp [updRemoval])

theorem removals_seatRangeClearOp {P : Prop} (sh : Nat) (s : State) : RemovalsMove P s (seatRangeClearOp sh s) := by
  simp only [seatRangeClearOp]
  split
  · exact .kept rfl
  · next x found =>
    obtain ⟨member, -, step⟩ := removal_found found
    exact .moved (y := { x with step := .finish }) member rfl (by rw [step]; trivial) rfl

theorem removals_dropCompleteOp {P : Prop} (sh : Nat) (s : State) : RemovalsMove P s (dropCompleteOp sh s) := by
  rcases dropCompleteOp_cases sh s with same | ⟨x, found, unit⟩
  · exact .kept (by rw [same])
  · obtain ⟨-, rfl, -⟩ := removal_found found
    exact .ended found (by rw [unit])

theorem removals_cellEvent (sh : Nat) (cells : List Nat) (st : SeatState) (owner : Option Nat) (counts : ShowRec → ShowRec) (s : State) :
    (cellEvent sh cells st owner counts s).showUnit.removals = s.showUnit.removals := by
  unfold cellEvent
  split
  · rfl
  · simp [updShow, setShow]

theorem removals_endBasket (b : Nat) (dest : BasketState) (s : State) : (endBasket b dest s).showUnit.removals = s.showUnit.removals := by
  rw [endBasket_eq]
  simp only [clearCurrent_keeps, updBasket_showUnit, removeVouchers_keeps]
  exact removals_cellEvent ..

theorem removals_saleMove (b : Nat) (m : Method) (s : State) : (saleMove b m s).showUnit.removals = s.showUnit.removals := by
  rw [saleMove_eq]
  dsimp only
  rw [show ∀ k u, (refreshKiosk k u).showUnit = u.showUnit from fun k u => by simp]
  rw [show ∀ f u, (updBasket b f u).showUnit = u.showUnit from fun f u => rfl]
  rw [show ∀ a c d e u, (finishSale a c d e u).showUnit = u.showUnit from fun _ _ _ _ u => by simp]
  rw [show ∀ a l u, (activateVouchers a l u).showUnit = u.showUnit from fun _ _ u => by simp]
  exact removals_cellEvent ..

theorem removals_blockSeatsOp (r : Request) (s : State) : (blockSeatsOp r s).showUnit.removals = s.showUnit.removals := by
  simp only [blockSeatsOp]
  have unit : ∀ slot code fields (u : State), (completeSlot slot code fields u).showUnit = u.showUnit := fun _ _ _ u => by simp
  repeat' split
  all_goals rw [unit]
  exact removals_cellEvent ..

theorem removals_unblockSeatsOp (r : Request) (s : State) : (unblockSeatsOp r s).showUnit.removals = s.showUnit.removals := by
  simp only [unblockSeatsOp]
  have unit : ∀ slot code fields (u : State), (completeSlot slot code fields u).showUnit = u.showUnit := fun _ _ _ u => by simp
  repeat' split
  all_goals rw [unit]
  exact removals_cellEvent ..

theorem removals_refundFreeingOp (serial : Nat) (s : State) : (refundFreeingOp serial s).showUnit.removals = s.showUnit.removals := by
  unfold refundFreeingOp
  split
  · rfl
  · split
    · rfl
    · exact removals_cellEvent ..

theorem Move.removals {P : Prop} {s t : State} (move : Move P s t) : RemovalsMove P s t := by
  cases move
  case quiet same => exact .kept same.removals
  case reset same => exact .reset same
  case configured same => exact .kept same.removals
  case line => exact .kept rfl
  case lineRested => exact .kept rfl
  case recordClosed => exact .kept (by simp)
  case noted => exact .kept rfl
  case opened => exact .kept rfl
  case called => exact .kept rfl
  case answered => exact .kept rfl
  case held => exact .kept (removals_cellEvent ..)
  case released => exact .kept (removals_cellEvent ..)
  case issued u b slot kind index code call answer =>
    have unit : u.showUnit = s.showUnit := by
      rw [← show (issueVoucher kind b (basketAt s b).sh s).1 = u from congrArg Prod.fst answer]; simp
    exact .kept (congrArg ShowUnit.removals unit)
  case removed b slot position _ =>
    have unit : (removeVouchers ((basketAt s b).vouchers[position]?).toList s).showUnit = s.showUnit := by simp
    exact .kept (congrArg ShowUnit.removals unit)
  case ended => exact .kept (removals_endBasket ..)
  case soldFree b m _ _ _ => exact .kept (removals_saleMove b m (reservePlace s))
  case paying => exact .kept (by simp)
  case sold freed => exact .kept ((removals_saleMove ..).trans (congrArg ShowUnit.removals freed.showUnit))
  case returned u b freed =>
    refine .kept (Eq.trans ?_ (congrArg ShowUnit.removals freed.showUnit))
    rcases Rewritten.returned b u with ⟨dl, k, same⟩ | same
    · rw [same]; simp
    · rw [same, expireBasket]
      simpa using removals_endBasket b .expired (giveBackPlace u)
  case unresolved freed => exact .kept (by simp [freed.showUnit])
  case forgotten => exact .kept rfl
  case collecting => exact .kept rfl
  case closed => exact .kept (by simp)
  case retired => exact .kept rfl
  case refundFreed => exact .kept (removals_refundFreeingOp ..)
  case blocked => exact .kept (removals_blockSeatsOp ..)
  case unblocked => exact .kept (removals_unblockSeatsOp ..)
  case entered => exact .kept rfl
  case loadBegun r =>
    rcases loadShowOp_cases r s with ⟨code, refused⟩ | ⟨base, passed, unit⟩
    · exact .kept (by rw [refused]; simp)
    · exact .kept (by rw [unit])
  case loadDone => exact .kept (by rw [loadedState_showUnit])
  case dropBegun => exact removals_dropShowOp ..
  case salesRemoved => exact removals_salesRemovalNow ..
  case vouchersRemoved => exact removals_voucherShowRemovalOp ..
  case rangeCleared => exact removals_seatRangeClearOp ..
  case dropped => exact removals_dropCompleteOp ..
  case used => exact .kept rfl
  all_goals exact .kept (by simp)

namespace RemovalsLaw
variable {s t : State} (law : RemovalsLaw s)
include law

/-- Removals of shows that a removal named before, each ENDED still. -/
theorem fewer (named : ShowsNamed s t) (each : ∀ y ∈ t.showUnit.removals, ∃ x ∈ s.showUnit.removals, y.sh = x.sh ∧ (showAt t x.sh).state = .ended)
    (once : (t.showUnit.removals.map Removal.sh).Nodup) : RemovalsLaw t := by
  refine ⟨fun y member => ?_, once⟩
  obtain ⟨x, old, sh, ended⟩ := each y member
  obtain ⟨inside, before, free⟩ := law.removals x old
  rw [sh]
  refine ⟨inside, ended, fun b bound => ?_⟩
  rcases named b with left | ⟨used, same⟩ | onSale
  · exact .inl left
  · rw [same]
    exact .inr ((free b bound).resolve_left used)
  · refine .inr fun here => ?_
    rw [here, before] at onSale
    cases onSale

/-- R16: a drop of an ENDED show that no context in use names. -/
theorem begun {x : Removal} (ranges : RangesKept s t) (baskets : t.basketUnit.baskets = s.basketUnit.baskets) (length : s.basketUnit.baskets.length = 24)
    (passed : dropShowRefusal s x.sh = none) (removals : t.showUnit.removals = s.showUnit.removals ++ [x]) : RemovalsLaw t := by
  simp only [dropShowRefusal] at passed
  split at passed
  · cases passed
  · next inside =>
    split at passed
    · cases passed
    · split at passed
      · cases passed
      · next ended =>
        split at passed
        · cases passed
        · next single =>
          split at passed
          · cases passed
          · next free =>
            have idle : ∀ y ∈ s.showUnit.removals, y.sh ≠ x.sh := by simpa using single
            refine ⟨fun y member => ?_, ?_⟩
            · rw [ranges.state]
              rw [removals] at member
              rcases List.mem_append.mp member with old | new
              · obtain ⟨bound, ended, free⟩ := law.removals y old
                exact ⟨bound, ended, fun b bound => by rw [basketAt_of_baskets baskets]; exact free b bound⟩
              · obtain rfl := List.mem_singleton.mp new
                refine ⟨Nat.lt_of_not_le inside, not_not.mp ended, fun b bound => ?_⟩
                rw [basketAt_of_baskets baskets]
                by_contra used
                rw [not_or, not_not] at used
                refine free (List.any_eq_true.mpr ⟨basketAt s b, ?_, by simp [used]⟩)
                rw [basketAt, List.getD_eq_getElem _ _ (length ▸ bound)]
                exact List.getElem_mem _
            · rw [removals, List.map_append, List.map_singleton]
              refine List.nodup_append.mpr ⟨law.removalOnce, List.nodup_singleton _, fun a old b new same => ?_⟩
              obtain ⟨y, member, rfl⟩ := List.mem_map.mp old
              rw [List.mem_singleton] at new
              exact idle y member (same.trans new)

/-- What stays of the removals once one has ended. -/
theorem left_of_erase {x : Removal} (member : x ∈ s.showUnit.removals) {y : Removal} (left : y ∈ s.showUnit.removals.erase x) : y.sh ≠ x.sh :=
  erase_apart law.removalOnce member y left

/-- A show being dropped stays ENDED, until its drop is at its end. -/
theorem ended_stays {P : Prop} (ranges : RangesLaw s) (move : Move P s t) {x : Removal} (member : x ∈ s.showUnit.removals) :
    (showAt t x.sh).state = .ended ∨ ∀ y ∈ t.showUnit.removals, y.sh ≠ x.sh := by
  have ended := (law.removals x member).2.1
  cases move.ranges with
  | kept h => exact .inl ((h.state _).trans ended)
  | reset same => exact .inr fun y left => by rw [same.removals] at left; cases left
  | @entered n st _ going _ =>
    have apart : x.sh ≠ n := fun here => going (here ▸ ended)
    rw [updShow, showAt_setShow_other s n x.sh _ apart.symm]
    exact .inl ended
  | @loadBegun r =>
    refine .inl ?_
    rcases loadShowOp_cases r s with ⟨code, refused⟩ | ⟨base, passed, unit⟩
    · rw [refused, showAt_of_shows (s := s) (by simp)]
      exact ended
    · obtain ⟨inside, empty, -⟩ := load_passed passed
      have apart : x.sh ≠ param1 r 0 := fun here => by rw [here, empty] at ended; cases ended
      rw [(showAt_one (n := param1 r 0) (by rw [unit]) (ranges.shows ▸ inside)).2 _ apart]
      exact ended
  | @loadDone sh l found =>
    refine .inl ?_
    obtain ⟨loading, rfl⟩ := loading_found found
    obtain ⟨inside, empty, -⟩ := ranges.loadings l loading
    have apart : x.sh ≠ l.sh := fun here => by rw [here, empty] at ended; cases ended
    rw [(showAt_one (s := s) (n := l.sh) (by rw [loadedState_showUnit]) (ranges.shows ▸ inside)).2 _ apart]
    exact ended
  | @dropped sh =>
    rcases dropCompleteOp_cases sh s with same | ⟨y, found, unit⟩
    · rw [same]
      exact .inl ended
    · obtain ⟨dropping, rfl, -⟩ := removal_found found
      by_cases here : x.sh = y.sh
      · refine .inr fun z left => ?_
        rw [unit] at left
        exact here ▸ law.left_of_erase dropping left
      · rw [(showAt_one (n := y.sh) (by rw [unit]) (ranges.shows ▸ (law.removals y dropping).1)).2 _ here]
        exact .inl ended

theorem move {P : Prop} (ranges : RangesLaw s) (length : s.basketUnit.baskets.length = 24) (move : Move P s t) : RemovalsLaw t := by
  have shown : ∀ y ∈ t.showUnit.removals, ∀ x ∈ s.showUnit.removals, y.sh = x.sh →
      ∃ x ∈ s.showUnit.removals, y.sh = x.sh ∧ (showAt t x.sh).state = .ended := fun y left x member same =>
    ⟨x, member, same, (law.ended_stays ranges move member).resolve_right fun none => none y left same⟩
  cases move.removals with
  | reset same =>
    have empty : t.showUnit.removals = [] := same.removals
    refine ⟨fun x member => ?_, by rw [empty]; exact List.nodup_nil⟩
    rw [empty] at member
    cases member
  | begun passed first removals kept baskets => exact law.begun kept baskets length passed removals
  | kept same =>
    exact law.fewer move.named (fun y left => shown y left y (same ▸ left) rfl) (by rw [same]; exact law.removalOnce)
  | @stopped x member first removals =>
    refine law.fewer move.named (fun y left => shown y left y ?_ rfl) ?_
    · rw [removals] at left
      exact List.mem_of_mem_erase left
    · rw [removals]
      exact law.removalOnce.sublist ((List.erase_sublist ..).map _)
  | @moved x y member sh next removals =>
    have moved : ∀ v, (if v = x then y else v).sh = v.sh := fun v => by
      split
      · next here => rw [sh, here]
      · rfl
    refine law.fewer move.named (fun z left => ?_) ?_
    · have left' := left
      rw [removals] at left'
      obtain ⟨v, old, rfl⟩ := List.mem_map.mp left'
      exact shown _ left v old (moved v)
    · rw [removals, List.map_map]
      have same : Removal.sh ∘ (fun v => if v = x then y else v) = Removal.sh := funext moved
      rw [same]
      exact law.removalOnce
  | @ended x found removals =>
    refine law.fewer move.named (fun y left => shown y left y ?_ rfl) ?_
    · rw [removals] at left
      exact List.mem_of_mem_erase left
    · rw [removals]
      exact law.removalOnce.sublist ((List.erase_sublist ..).map _)

end RemovalsLaw
end Sys2Proof.Machine
end

section
/-! The law of the calls open on the contexts (R29, R35), kept by every move. -/

namespace Sys2Proof.Machine

/-- R29, R35: what a context's call keeps to. -/
def CallKept (c : Basket) : Prop :=
  (c.call ≠ none → c.state = .selecting) ∧ ∀ slot list, c.call = some (.release slot list) → list.Nodup ∧ ∀ i ∈ list, i ∈ c.seats

theorem callKept_none {c : Basket} (idle : c.call = none) : CallKept c :=
  ⟨fun isOpen => absurd idle isOpen, fun slot list call => by rw [idle] at call; cases call⟩

namespace CallsLaw
variable {s t : State} (law : CallsLaw s)
include law

theorem kept {b : Nat} (inside : b < s.basketUnit.baskets.length) : CallKept (basketAt s b) :=
  ⟨law.calls b (law.baskets ▸ inside), law.releases b (law.baskets ▸ inside)⟩

theorem of_baskets (same : t.basketUnit.baskets = s.basketUnit.baskets) : CallsLaw t where
  baskets := same ▸ law.baskets
  calls b inside := by rw [basketAt_of_baskets same]; exact law.calls b inside
  releases b inside := by rw [basketAt_of_baskets same]; exact law.releases b inside

theorem rewritten {b : Nat} {d : Basket} (h : Rewritten b d s t) (kept : CallKept (basketAt s b) → CallKept d) : CallsLaw t := by
  by_cases inside : b < s.basketUnit.baskets.length
  · have each : ∀ n < 24, CallKept (basketAt t n) := fun n bound => by
      by_cases here : n = b
      · subst here
        rw [h.self inside]
        exact kept (law.kept inside)
      · rw [h.other here]
        exact law.kept (law.baskets ▸ bound)
    exact ⟨h.length.trans law.baskets, fun n bound => (each n bound).1, fun n bound => (each n bound).2⟩
  · exact law.of_baskets (by rw [h, updAt, List.getElem?_eq_none (Nat.le_of_not_lt inside)])

/-- A context replaced on which no call is open. -/
theorem idled {b : Nat} {d : Basket} (h : Rewritten b d s t) (idle : d.call = none) : CallsLaw t :=
  law.rewritten h fun _ => callKept_none idle

theorem idle {b : Nat} (rests : (basketAt s b).state ≠ .selecting) : (basketAt s b).call = none := by
  by_contra isOpen
  obtain ⟨call, isOpen'⟩ := Option.ne_none_iff_exists'.mp isOpen
  exact rests (law.calls b (law.baskets ▸ inside_of_call isOpen') isOpen)

theorem state_of_call {b : Nat} {call : Call} (isOpen : (basketAt s b).call = some call) : (basketAt s b).state = .selecting :=
  law.calls b (law.baskets ▸ inside_of_call isOpen) (by rw [isOpen]; simp)

theorem freed {u : State} {b : Nat} (freed : Freed b s u) : CallsLaw u ∧ (basketAt u b).call = none := by
  cases freed with
  | outcome _ paying =>
    exact ⟨law.of_baskets rfl, law.idle (by rw [paying]; simp)⟩
  | settled unresolved => exact ⟨law, law.idle (by rw [unresolved]; simp)⟩

theorem move {P : Prop} (move : Move P s t) : CallsLaw t := by
  cases move
  case quiet same => exact law.of_baskets same.baskets
  case reset same => exact (partsLaw_of salesLaw_reset houseLaw_reset).calls.of_baskets same.baskets
  case configured same => exact law.of_baskets same.baskets
  case line => exact law.of_baskets rfl
  case lineRested => exact law.of_baskets rfl
  case recordClosed => exact law.of_baskets (by rw [closeRecord_basketUnit])
  case noted b f noted =>
    obtain ⟨state, -, -, seats, -, call, -⟩ := noted
    exact law.rewritten (.of_setBasket b f s) fun kept => by rw [CallKept, state, seats, call]; exact kept
  case opened => exact law.idled (.of_updBasket ..) rfl
  case called b call selecting listed _ =>
    exact law.rewritten (.of_setBasket ..) fun _ => ⟨fun _ => selecting, fun slot list same => listed slot list (Option.some.inj same)⟩
  case answered => exact law.idled (.of_setBasket ..) rfl
  case held b slot list call _ =>
    obtain ⟨q, h⟩ := Rewritten.answered (f := fun c => { c with seats := c.seats ++ list, deadline := extendedDeadline s c })
      (t := holdCells (basketAt s b).sh b list s) (by simp) (inside_of_call call)
    exact law.idled h rfl
  case released b slot list call =>
    obtain ⟨q, h⟩ := Rewritten.answered (f := fun c => { c with seats := c.seats.filter (fun x => !list.contains x) })
      (t := releaseCells (basketAt s b).sh list s) (by simp) (inside_of_call call)
    exact law.idled h rfl
  case issued u b slot kind index code call answer =>
    have unit : u.basketUnit = s.basketUnit := by
      rw [← show (issueVoucher kind b (basketAt s b).sh s).1 = u from congrArg Prod.fst answer]; simp
    obtain ⟨q, h⟩ := Rewritten.answered (f := fun c => { c with vouchers := c.vouchers ++ [index], deadline := extendedDeadline u c })
      (s := s) (t := u) (by rw [unit]) (inside_of_call call)
    exact law.idled h rfl
  case removed b slot position call =>
    obtain ⟨q, h⟩ := Rewritten.answered (f := fun c => { c with vouchers := c.vouchers.eraseIdx position })
      (t := removeVouchers ((basketAt s b).vouchers[position]?).toList s) (by simp) (inside_of_call call)
    exact law.idled h rfl
  case ended b dest _ idle _ => exact law.idled (.ended b dest s) idle
  case soldFree b m _ idle _ => exact law.idled ((Rewritten.sold b m (reservePlace s)).before (s := s) rfl) idle
  case paying b _ idle _ _ _ _ =>
    obtain ⟨r, h⟩ := Rewritten.paying b (reservePlace s)
    exact law.idled (h.before (s := s) rfl) idle
  case sold u b m freed =>
    obtain ⟨left, idle⟩ := law.freed freed
    exact left.idled (.sold b m u) idle
  case returned u b freed =>
    obtain ⟨left, idle⟩ := law.freed freed
    rcases Rewritten.returned b u with ⟨dl, k, same⟩ | same
    · rw [same]
      have h := (Rewritten.of_updBasket b (fun x => { x with state := .selecting, deadline := some dl }) (giveBackPlace u)).before (s := u) rfl
      exact left.idled (h.after (by simp)) idle
    · rw [same]
      have h := (Rewritten.ended b .expired (giveBackPlace u)).before (s := u) rfl
      exact left.idled (h.after (by simp [expireBasket])) idle
  case unresolved u b freed =>
    obtain ⟨left, idle⟩ := law.freed freed
    exact left.idled (.unresolved b u) idle
  case forgotten => exact law.of_baskets rfl
  case collecting b d printing => exact law.idled (.of_updBasket ..) (law.idle (by rw [printing]; simp))
  case closed b uncollected rested =>
    exact law.idled (.closed b uncollected s) (law.idle (by rcases rested with state | state <;> rw [state] <;> simp))
  case retired => exact law.idled (.of_updBasket ..) rfl
  case entered => exact law.of_baskets rfl
  case used => exact law.of_baskets rfl
  all_goals exact law.of_baskets (by simp)

end CallsLaw
end Sys2Proof.Machine
end

section
/-! The law of the cells and the counts (R22, R27), kept by every move: cells of one show that go from one state to another. -/

namespace Sys2Proof.Machine

/-! ### Counts where the cells stand -/

theorem cellsIn_congr {s t : State} {n : Nat} (base : (showAt t n).seatBase = (showAt s n).seatBase)
    (count : (showAt t n).seatCount = (showAt s n).seatCount) (same : ∀ c, InRange s n c → (seatAt t c).state = (seatAt s c).state)
    (st : SeatState) : cellsIn t n st = cellsIn s n st := by
  rw [cellsIn_card, cellsIn_card, rangeCells, base, count]
  congr 1
  refine Finset.filter_congr fun c member => ?_
  rw [same c (mem_rangeCells.mp member)]

/-! ### Cells that change their state together -/

/-- The cells of a show in a list have gone from one state to another, with their owner, and the counts of the show with them. -/
structure Shifted (n : Nat) (C : List Nat) (x y : SeatState) (o : Option Nat) (s t : State) : Prop where
  apart : x ≠ y
  owner : o ≠ none ↔ (y = .held ∨ y = .sold)
  once : C.Nodup
  ranged : ∀ c ∈ C, InRange s n c
  before : ∀ c ∈ C, (seatAt s c).state = x
  cells : ∀ c ∈ C, (seatAt t c).state = y ∧ (seatAt t c).owner = o
  others : ∀ c, c ∉ C → seatAt t c = seatAt s c
  store : sparseWf Seat.spare t.seats
  counts : ∀ st, countOf st (showAt t n) =
    if st = x then countOf st (showAt s n) - C.length else if st = y then countOf st (showAt s n) + C.length else countOf st (showAt s n)
  elsewhere : ∀ m, m ≠ n → ∀ st, countOf st (showAt t m) = countOf st (showAt s m)
  kept : RangesKept s t
  removals : t.showUnit.removals = s.showUnit.removals

namespace Shifted
variable {n : Nat} {C : List Nat} {x y : SeatState} {o : Option Nat} {s t u : State}

theorem after (h : Shifted n C x y o s t) (seats : u.seats = t.seats) (unit : u.showUnit = t.showUnit) : Shifted n C x y o s u := by
  have at' : ∀ c, seatAt u c = seatAt t c := fun c => by rw [seatAt, seats]; rfl
  have shows : ∀ m, showAt u m = showAt t m := fun m => showAt_of_shows (by rw [unit]) m
  exact ⟨h.apart, h.owner, h.once, h.ranged, h.before, fun c member => by rw [at']; exact h.cells c member,
    fun c other => by rw [at']; exact h.others c other, seats ▸ h.store, fun st => by rw [shows]; exact h.counts st,
    fun m other st => by rw [shows]; exact h.elsewhere m other st, h.kept.trans (.of_unit unit), by rw [unit]; exact h.removals⟩

theorem of_cellEvent {counts : ShowRec → ShowRec} (store : sparseWf Seat.spare s.seats) (inside : n < s.showUnit.shows.length)
    (apart : x ≠ y) (owner : o ≠ none ↔ (y = .held ∨ y = .sold)) (once : C.Nodup) (ranged : ∀ c ∈ C, InRange s n c)
    (before : ∀ c ∈ C, (seatAt s c).state = x)
    (counted : ∀ w st, countOf st (counts w) =
      if st = x then countOf st w - C.length else if st = y then countOf st w + C.length else countOf st w)
    (kept : ∀ w, (counts w).state = w.state ∧ (counts w).seatBase = w.seatBase ∧ (counts w).seatCount = w.seatCount) :
    Shifted n C x y o s (cellEvent n C y o counts s) := by
  obtain ⟨cells, others, self, elsewhere, -⟩ := cellEvent_spec n C y o counts store inside
  refine ⟨apart, owner, once, ranged, before, fun c member => ?_, others, ?_, fun st => ?_, fun m other st => ?_,
    .seatEvent n C y o counts s kept, removals_cellEvent ..⟩
  · rw [cells c member]
    exact ⟨rfl, rfl⟩
  · unfold cellEvent
    split
    · exact store
    · exact (writeCells_spec _ y o s store).1
  · rw [self]
    split
    · next empty => subst empty; split_ifs <;> rfl
    · exact counted (showAt s n) st
  · rw [elsewhere m other]

/-- The counts move with the cells. -/
theorem cellsIn_self (h : Shifted n C x y o s t) (st : SeatState) : C.length ≤ cellsIn s n x ∧ cellsIn t n st =
    if st = x then cellsIn s n st - C.length else if st = y then cellsIn s n st + C.length else cellsIn s n st := by
  have card : C.length = C.toFinset.card := (List.toFinset_card_of_nodup h.once).symm
  have inside : C.toFinset ⊆ (rangeCells s n).filter (fun c => (seatAt s c).state = x) := fun c member => by
    have listed := List.mem_toFinset.mp member
    exact Finset.mem_filter.mpr ⟨mem_rangeCells.mpr (h.ranged c listed), h.before c listed⟩
  have range : rangeCells t n = rangeCells s n := by rw [rangeCells, h.kept.base, h.kept.count]; rfl
  refine ⟨by rw [card, cellsIn_card]; exact Finset.card_le_card inside, ?_⟩
  rw [cellsIn_card, cellsIn_card, range, card]
  have each : ∀ c, (seatAt t c).state = st ↔ if c ∈ C then y = st else (seatAt s c).state = st := fun c => by
    split
    · next listed => rw [(h.cells c listed).1]
    · next other => rw [h.others c other]
  split
  · next here =>
    subst here
    rw [← Finset.card_sdiff_of_subset inside]
    congr 1
    ext c
    simp only [Finset.mem_filter, Finset.mem_sdiff, List.mem_toFinset, each]
    split
    · next listed => simp [listed, h.apart.symm]
    · next other => simp [other]
  · next elsewhere =>
    split
    · next here =>
      subst here
      rw [← Finset.card_union_of_disjoint]
      · congr 1
        ext c
        simp only [Finset.mem_filter, Finset.mem_union, List.mem_toFinset, each]
        split
        · next listed => simp [listed, mem_rangeCells.mpr (h.ranged c listed)]
        · next other => simp [other]
      · refine Finset.disjoint_left.mpr fun c member listed => ?_
        have state := h.before c (List.mem_toFinset.mp listed)
        rw [(Finset.mem_filter.mp member).2] at state
        exact h.apart state.symm
    · next other =>
      congr 1
      refine Finset.filter_congr fun c _ => ?_
      rw [each]
      split
      · next listed =>
        rw [h.before c listed]
        exact ⟨fun same => absurd same.symm other, fun same => absurd same.symm elsewhere⟩
      · rfl

theorem cellsIn_elsewhere (h : Shifted n C x y o s t) {m : Nat} (apart : ∀ c, InRange s m c → ¬ InRange s n c) (st : SeatState) :
    cellsIn t m st = cellsIn s m st :=
  cellsIn_congr (h.kept.base m) (h.kept.count m) (fun c inside => by rw [h.others c fun listed => apart c inside (h.ranged c listed)]) st

end Shifted
end Sys2Proof.Machine
end

section
/-! The law of the cells and the counts (R22, R27), kept by every move. -/

namespace Sys2Proof.Machine

theorem rangeStands_of {s t : State} {n : Nat} (kept : RangesKept s t) (removals : t.showUnit.removals = s.showUnit.removals) :
    RangeStands t n ↔ RangeStands s n := by
  rw [RangeStands, RangeStands, kept.state, removals]

theorem RangesKept.claims {s t : State} (h : RangesKept s t) (c : Basket) (cell : Nat) : Claims t c cell ↔ Claims s c cell := by
  rw [Claims, Claims, h.base]

theorem RangesKept.listed {s t : State} (h : RangesKept s t) (c : Basket) : Listed t c ↔ Listed s c := by
  rw [Listed, Listed, h.state, h.count]

namespace Shifted
variable {n : Nat} {C : List Nat} {x y : SeatState} {o : Option Nat} {s t : State}

theorem heldBy_taken {b : Nat} (h : Shifted n C x .held (some b) s t) (cell b' : Nat) :
    HeldBy t cell b' ↔ HeldBy s cell b' ∨ cell ∈ C ∧ b' = b := by
  by_cases listed : cell ∈ C
  · obtain ⟨state, owner⟩ := h.cells cell listed
    have before : ¬ HeldBy s cell b' := fun held => h.apart ((h.before cell listed).symm.trans held.1)
    rw [HeldBy, state, owner, Option.some_inj]
    exact ⟨fun same => .inr ⟨listed, same.2.symm⟩, fun same => ⟨rfl, (same.resolve_left before).2.symm⟩⟩
  · rw [HeldBy, h.others cell listed]
    exact ⟨.inl, fun same => same.resolve_right fun taken => listed taken.1⟩

theorem heldBy_left (h : Shifted n C .held y o s t) (cell b : Nat) : HeldBy t cell b ↔ HeldBy s cell b ∧ cell ∉ C := by
  by_cases listed : cell ∈ C
  · rw [HeldBy, (h.cells cell listed).1]
    exact ⟨fun held => absurd held.1 h.apart.symm, fun left => absurd listed left.2⟩
  · rw [HeldBy, h.others cell listed]
    exact ⟨fun held => ⟨held, listed⟩, fun left => left.1⟩

theorem heldBy_beside (h : Shifted n C x y o s t) (before : x ≠ .held) (after : y ≠ .held) (cell b : Nat) :
    HeldBy t cell b ↔ HeldBy s cell b := by
  by_cases listed : cell ∈ C
  · rw [HeldBy, HeldBy, (h.cells cell listed).1, h.before cell listed]
    exact ⟨fun held => absurd held.1 after, fun held => absurd held.1 before⟩
  · rw [HeldBy, HeldBy, h.others cell listed]

end Shifted

theorem map_poolIndex_nodup {list : List Nat} (once : list.Nodup) (w : ShowRec) : (list.map (poolIndex w)).Nodup :=
  once.map (add_right_injective _)

theorem mem_map_poolIndex {list : List Nat} {w : ShowRec} {i : Nat} : w.seatBase + i ∈ list.map (poolIndex w) ↔ i ∈ list := by
  rw [List.mem_map]
  exact ⟨fun ⟨j, member, same⟩ => Nat.add_left_cancel same ▸ member, fun member => ⟨i, member, rfl⟩⟩

namespace CellsLaw
variable {s t : State} (law : CellsLaw s)
include law

/-- What the law reads of the seats stands; the counts as they were, the removals no further. -/
theorem kept (seats : t.seats = s.seats) (ranges : RangesKept s t) (counts : ∀ n st, countOf st (showAt t n) = countOf st (showAt s n))
    (stands : ∀ n, RangeStands t n → RangeStands s n)
    (claims : ∀ b < 24, (∀ cell, Claims s (basketAt t b) cell ↔ Claims s (basketAt s b) cell) ∧ Listed s (basketAt t b)) : CellsLaw t := by
  have at' : ∀ c, seatAt t c = seatAt s c := fun c => by rw [seatAt, seats]; rfl
  refine ⟨seats ▸ law.store, fun c => by rw [at']; exact law.owned c, fun n inside standing st => ?_, fun cell b => ?_, fun b inside => ?_⟩
  · rw [counts, law.counts n inside (stands n standing) st]
    exact (cellsIn_congr (ranges.base n) (ranges.count n) (fun c _ => by rw [at']) st).symm
  · rw [HeldBy, at', ranges.claims]
    refine (law.claimed cell b).trans ⟨fun ⟨inside, claim⟩ => ⟨inside, ((claims b inside).1 cell).mpr claim⟩,
      fun ⟨inside, claim⟩ => ⟨inside, ((claims b inside).1 cell).mp claim⟩⟩
  · exact (ranges.listed _).mpr (claims b inside).2

/-- The units that the law reads stand. -/
theorem of_units (seats : t.seats = s.seats) (shows : t.showUnit.shows = s.showUnit.shows) (loadings : t.showUnit.loadings = s.showUnit.loadings)
    (removals : t.showUnit.removals = s.showUnit.removals) (baskets : t.basketUnit.baskets = s.basketUnit.baskets) : CellsLaw t :=
  law.kept seats (.of_shows shows loadings) (fun n st => by rw [showAt_of_shows shows])
    (fun n => (rangeStands_of (.of_shows shows loadings) removals).mp)
    fun b inside => by rw [basketAt_of_baskets baskets]; exact ⟨fun _ => Iff.rfl, law.listed b inside⟩

/-- A context replaced that claims the same cells. -/
theorem rewritten {b : Nat} {d : Basket} (h : Rewritten b d s t) (seats : t.seats = s.seats) (unit : t.showUnit = s.showUnit)
    (claims : ∀ cell, Claims s d cell ↔ Claims s (basketAt s b) cell) (listed : Listed s (basketAt s b) → Listed s d) : CellsLaw t := by
  refine law.kept seats (.of_unit unit) (fun n st => by rw [showAt_of_shows (s := s) (by rw [unit])])
    (fun n => (rangeStands_of (.of_unit unit) (by rw [unit])).mp) fun n bound => ?_
  by_cases inside : b < s.basketUnit.baskets.length
  · by_cases here : n = b
    · subst here
      rw [h.self inside]
      exact ⟨claims, listed (law.listed n bound)⟩
    · rw [h.other here]
      exact ⟨fun _ => Iff.rfl, law.listed n bound⟩
  · rw [h.outside inside]
    exact ⟨fun _ => Iff.rfl, law.listed n bound⟩

/-- A context replaced that sells or not as before, with the seats it listed. -/
theorem noted {b : Nat} {d : Basket} (h : Rewritten b d s t) (seats : t.seats = s.seats) (unit : t.showUnit = s.showUnit)
    (selling : Selling d ↔ Selling (basketAt s b)) (same : d.sh = (basketAt s b).sh ∧ d.seats = (basketAt s b).seats) : CellsLaw t := by
  obtain ⟨sh, seats'⟩ := same
  refine law.rewritten h seats unit (fun cell => ?_) fun listed => ?_
  · rw [Claims, Claims, selling, sh, seats']
  · rw [Listed, selling, sh, seats']
    exact listed

/-- A context replaced that claimed no cell and claims none. -/
theorem unclaimed {b : Nat} {d : Basket} (h : Rewritten b d s t) (seats : t.seats = s.seats) (unit : t.showUnit = s.showUnit)
    (rests : ¬ Selling (basketAt s b)) (none : ¬ Selling d) : CellsLaw t :=
  law.rewritten h seats unit (fun _ => ⟨fun claim => absurd claim.1 none, fun claim => absurd claim.1 rests⟩) fun _ sells => absurd sells none

/-- Cells of a show that have changed their state together. -/
theorem shifted {n : Nat} {C : List Nat} {x y : SeatState} {o : Option Nat} (ranges : RangesLaw s) (inside : n < 48)
    (shown : (showAt s n).state ≠ .empty) (h : Shifted n C x y o s t)
    (claimed : ∀ cell b, HeldBy t cell b ↔ b < 24 ∧ Claims s (basketAt t b) cell) (listed : ∀ b < 24, Listed s (basketAt t b)) : CellsLaw t := by
  refine ⟨h.store, fun c => ?_, fun m insideM standing st => ?_, fun cell b => ?_, fun b bound => (h.kept.listed _).mpr (listed b bound)⟩
  · by_cases member : c ∈ C
    · obtain ⟨state, owner⟩ := h.cells c member
      rw [state, owner]
      exact h.owner
    · rw [h.others c member]
      exact law.owned c
  · have before := (rangeStands_of h.kept h.removals).mp standing
    by_cases here : m = n
    · subst here
      rw [h.counts, (h.cellsIn_self st).2, law.counts m insideM before st]
    · rw [h.elsewhere m here, h.cellsIn_elsewhere (fun c inM => ?_), law.counts m insideM before st]
      exact ranges.apart m insideM n inside here (.inl before.1) (.inl shown) c inM
  · rw [claimed, h.kept.claims]

/-- Cells that change their state together, none of them HELD before or after. -/
theorem shiftedBeside {n : Nat} {C : List Nat} {x y : SeatState} {o : Option Nat} (ranges : RangesLaw s) (inside : n < 48)
    (shown : (showAt s n).state ≠ .empty) (h : Shifted n C x y o s t) (before : x ≠ .held) (after : y ≠ .held)
    (baskets : t.basketUnit.baskets = s.basketUnit.baskets) : CellsLaw t := by
  refine law.shifted ranges inside shown h (fun cell b => ?_) fun b bound => ?_
  · rw [h.heldBy_beside before after, basketAt_of_baskets baskets]
    exact law.claimed cell b
  · rw [basketAt_of_baskets baskets]
    exact law.listed b bound

/-- Cells that change their state together, while one context claims others. -/
theorem reclaimed {n b : Nat} {C : List Nat} {x y : SeatState} {o : Option Nat} {d : Basket} (ranges : RangesLaw s) (inside : n < 48)
    (shown : (showAt s n).state ≠ .empty) (h : Shifted n C x y o s t) (rewritten : Rewritten b d s t) (bound : b < 24)
    (length : s.basketUnit.baskets.length = 24) (self : ∀ cell, HeldBy t cell b ↔ Claims s d cell)
    (others : ∀ cell b', b' ≠ b → (HeldBy t cell b' ↔ HeldBy s cell b')) (listed : Listed s d) : CellsLaw t := by
  refine law.shifted ranges inside shown h (fun cell b' => ?_) fun b' bound' => ?_
  all_goals by_cases here : b' = b
  · subst here
    rw [rewritten.self (length ▸ bound), self]
    exact ⟨fun claim => ⟨bound, claim⟩, fun claim => claim.2⟩
  · rw [rewritten.other here, others cell b' here]
    exact law.claimed cell b'
  · subst here
    rw [rewritten.self (length ▸ bound)]
    exact listed
  · rw [rewritten.other here]
    exact law.listed b' bound'

/-- R30, R32: the cells a hold event takes. -/
theorem held {b : Nat} {list : List Nat} (ranges : RangesLaw s) (length : s.basketUnit.baskets.length = 24)
    (selling : Selling (basketAt s b)) (once : list.Nodup)
    (free : ∀ i ∈ list, i < (showAt s (basketAt s b).sh).seatCount ∧ (seatOf s (basketAt s b).sh i).state = .free) {d : Basket}
    (rewritten : Rewritten b d s t) (seats : t.seats = (holdCells (basketAt s b).sh b list s).seats)
    (unit : t.showUnit = (holdCells (basketAt s b).sh b list s).showUnit)
    (fields : d.state = (basketAt s b).state ∧ d.sh = (basketAt s b).sh ∧ d.seats = (basketAt s b).seats ++ list)
    (fresh : ∀ i ∈ list, i ∉ (basketAt s b).seats) : CellsLaw t := by
  have used : (basketAt s b).state ≠ .free := fun free => by
    rw [Selling, free] at selling
    rcases selling with state | state | state <;> cases state
  have bound : b < 24 := length ▸ basket_inside used
  obtain ⟨inside, shown, own, fits⟩ := law.listed b bound selling
  obtain ⟨state, sh, seats'⟩ := fields
  have shift : Shifted (basketAt s b).sh (list.map (poolIndex (showAt s (basketAt s b).sh))) .free .held (some b) s t := by
    refine Shifted.after ?_ seats unit
    refine .of_cellEvent law.store (ranges.shows ▸ inside) (by simp) (by simp) (map_poolIndex_nodup once _) (fun c member => ?_)
      (fun c member => ?_) (fun w st => ?_) fun _ => ⟨rfl, rfl, rfl⟩
    · obtain ⟨i, listed, rfl⟩ := List.mem_map.mp member
      exact ⟨Nat.le_add_right _ _, Nat.add_lt_add_left (free i listed).1 _⟩
    · obtain ⟨i, listed, rfl⟩ := List.mem_map.mp member
      exact (free i listed).2
    · rw [List.length_map]
      cases st <;> rfl
  have sells : Selling d ↔ Selling (basketAt s b) := by rw [Selling, state]
  refine law.reclaimed ranges inside shown shift rewritten bound length (fun cell => ?_) (fun cell b' other => ?_) fun _ => ?_
  · rw [shift.heldBy_taken, law.claimed, Claims, Claims, sells, sh, seats']
    constructor
    · rintro (⟨-, sells, i, listed, here⟩ | ⟨member, -⟩)
      · exact ⟨sells, i, List.mem_append_left _ listed, here⟩
      · obtain ⟨i, listed, rfl⟩ := List.mem_map.mp member
        exact ⟨selling, i, List.mem_append_right _ listed, rfl⟩
    · rintro ⟨sells, i, listed, rfl⟩
      rcases List.mem_append.mp listed with old | new
      · exact .inl ⟨bound, sells, i, old, rfl⟩
      · exact .inr ⟨mem_map_poolIndex.mpr new, rfl⟩
  · rw [shift.heldBy_taken]
    exact ⟨fun held => held.resolve_right fun taken => other taken.2, .inl⟩
  · rw [sh, seats']
    refine ⟨inside, shown, List.nodup_append.mpr ⟨own, once, fun x old y new same => fresh y new (same ▸ old)⟩, fun i listed => ?_⟩
    exact (List.mem_append.mp listed).elim (fits i) fun new => (free i new).1

/-- R36 to R38: the cells a context gives up, to be FREE or SOLD. -/
theorem givenUp {b : Nat} {G : List Nat} {y : SeatState} {o : Option Nat} {counts : ShowRec → ShowRec} (ranges : RangesLaw s)
    (length : s.basketUnit.baskets.length = 24) (selling : Selling (basketAt s b)) (once : G.Nodup)
    (own : ∀ i ∈ G, i ∈ (basketAt s b).seats) (apart : .held ≠ y) (owner : o ≠ none ↔ (y = .held ∨ y = .sold))
    (counted : ∀ w st, countOf st (counts w) =
      if st = .held then countOf st w - G.length else if st = y then countOf st w + G.length else countOf st w)
    (ranged : ∀ w, (counts w).state = w.state ∧ (counts w).seatBase = w.seatBase ∧ (counts w).seatCount = w.seatCount) {d : Basket}
    (rewritten : Rewritten b d s t) (seats : t.seats = (seatEvent (basketAt s b).sh G y o counts s).seats)
    (unit : t.showUnit = (seatEvent (basketAt s b).sh G y o counts s).showUnit)
    (left : Selling d → d.sh = (basketAt s b).sh ∧ d.seats.Nodup ∧ ∀ i, i ∈ d.seats ↔ i ∈ (basketAt s b).seats ∧ i ∉ G)
    (gone : ¬ Selling d → ∀ i ∈ (basketAt s b).seats, i ∈ G) : CellsLaw t := by
  have used : (basketAt s b).state ≠ .free := fun free => by
    rw [Selling, free] at selling
    rcases selling with state | state | state <;> cases state
  have bound : b < 24 := length ▸ basket_inside used
  obtain ⟨inside, shown, mine, fits⟩ := law.listed b bound selling
  have heldBefore : ∀ c ∈ G.map (poolIndex (showAt s (basketAt s b).sh)), HeldBy s c b := fun c member => by
    obtain ⟨i, listed, rfl⟩ := List.mem_map.mp member
    exact (law.claimed _ b).mpr ⟨bound, selling, i, own i listed, rfl⟩
  have shift : Shifted (basketAt s b).sh (G.map (poolIndex (showAt s (basketAt s b).sh))) .held y o s t := by
    refine Shifted.after ?_ seats unit
    refine .of_cellEvent law.store (ranges.shows ▸ inside) apart owner (map_poolIndex_nodup once _) (fun c member => ?_)
      (fun c member => (heldBefore c member).1) (fun w st => ?_) ranged
    · obtain ⟨i, listed, rfl⟩ := List.mem_map.mp member
      exact ⟨Nat.le_add_right _ _, Nat.add_lt_add_left (fits i (own i listed)) _⟩
    · rw [List.length_map]
      exact counted w st
  refine law.reclaimed ranges inside shown shift rewritten bound length (fun cell => ?_) (fun cell b' other => ?_) fun sells => ?_
  · rw [shift.heldBy_left, law.claimed]
    constructor
    · rintro ⟨⟨-, -, i, listed, rfl⟩, stays⟩
      rw [mem_map_poolIndex] at stays
      have sells : Selling d := Classical.byContradiction fun rests => stays (gone rests i listed)
      obtain ⟨sh, -, seats'⟩ := left sells
      exact ⟨sells, i, (seats' i).mpr ⟨listed, stays⟩, by rw [sh]⟩
    · rintro ⟨sells, i, listed, rfl⟩
      obtain ⟨sh, -, seats'⟩ := left sells
      obtain ⟨old, stays⟩ := (seats' i).mp listed
      rw [sh, mem_map_poolIndex]
      exact ⟨⟨bound, selling, i, old, rfl⟩, stays⟩
  · rw [shift.heldBy_left]
    refine ⟨And.left, fun held => ⟨held, fun member => other ?_⟩⟩
    exact Option.some.inj (held.2.symm.trans (heldBefore cell member).2)
  · obtain ⟨sh, nodup, seats'⟩ := left sells
    rw [sh]
    exact ⟨inside, shown, nodup, fun i listed => fits i ((seats' i).mp listed).1⟩

end CellsLaw

/-! ### What the operations on cells have tested -/

theorem block_passed {s : State} {sh : Nat} {list : Option (List Nat)} (passed : blockRefusal s sh list = none) :
    sh < 48 ∧ (showAt s sh).state ≠ .empty ∧ (list.getD []).Nodup ∧ ∀ x ∈ list.getD [], x < (showAt s sh).seatCount := by
  cases list with
  | none => cases passed
  | some l =>
    simp only [blockRefusal] at passed
    split at passed
    · cases passed
    · next fits =>
      split at passed
      · cases passed
      · next shown =>
        split at passed
        · cases passed
        · obtain ⟨once, each⟩ := firstFailing_apart (good := fun x => x < (showAt s sh).seatCount) (by simp_all)
            (Option.map_eq_none_iff.mp passed)
          exact ⟨by omega, shown, once, fun x member => (each x member).2⟩

/-- R26: cells that BLOCK_SEATS and UNBLOCK_SEATS move, or a refusal. -/
inductive BlockMove (n : Nat) (x y : SeatState) (s t : State) : Prop where
  | refused (seats : t.seats = s.seats) (unit : t.showUnit = s.showUnit)
  | moved {list : List Nat} {counts : ShowRec → ShowRec} (inside : n < 48) (shown : (showAt s n).state ≠ .empty) (once : list.Nodup)
      (fits : ∀ i ∈ list, i < (showAt s n).seatCount) (before : ∀ i ∈ list, (seatOf s n i).state = x)
      (counted : ∀ w st, countOf st (counts w) =
        if st = x then countOf st w - list.length else if st = y then countOf st w + list.length else countOf st w)
      (ranged : ∀ w, (counts w).state = w.state ∧ (counts w).seatBase = w.seatBase ∧ (counts w).seatCount = w.seatCount)
      (seats : t.seats = (seatEvent n list y none counts s).seats) (unit : t.showUnit = (seatEvent n list y none counts s).showUnit)

theorem blockMove_blocked (r : Request) (s : State) : BlockMove (param1 r 0) .free .blocked s (blockSeatsOp r s) := by
  have unit : ∀ slot code fields (u : State), (completeSlot slot code fields u).showUnit = u.showUnit := fun _ _ _ u => by simp
  have seats : ∀ slot code fields (u : State), (completeSlot slot code fields u).seats = u.seats := fun _ _ _ u => by simp
  simp only [blockSeatsOp]
  split
  · exact .refused (seats ..) (unit ..)
  · next passed =>
    obtain ⟨inside, shown, once, fits⟩ := block_passed passed
    split
    · exact .refused (seats ..) (unit ..)
    · next free =>
      refine .moved inside shown once fits (fun i listed => ?_) (fun w st => ?_) ?_ (seats ..) (unit ..)
      · simpa using List.find?_eq_none.mp free i listed
      · cases st <;> rfl
      · exact fun _ => ⟨rfl, rfl, rfl⟩

theorem blockMove_unblocked (r : Request) (s : State) : BlockMove (param1 r 0) .blocked .free s (unblockSeatsOp r s) := by
  have unit : ∀ slot code fields (u : State), (completeSlot slot code fields u).showUnit = u.showUnit := fun _ _ _ u => by simp
  have seats : ∀ slot code fields (u : State), (completeSlot slot code fields u).seats = u.seats := fun _ _ _ u => by simp
  simp only [unblockSeatsOp]
  split
  · exact .refused (seats ..) (unit ..)
  · next passed =>
    obtain ⟨inside, shown, once, fits⟩ := block_passed passed
    split
    · exact .refused (seats ..) (unit ..)
    · next free =>
      refine .moved inside shown once fits (fun i listed => ?_) (fun w st => ?_) ?_ (seats ..) (unit ..)
      · simpa using List.find?_eq_none.mp free i listed
      · cases st <;> rfl
      · exact fun _ => ⟨rfl, rfl, rfl⟩

/-- R145: the serials of the records lie between 1 and the next serial. -/
theorem StoreLaw.serial {s : State} (law : StoreLaw s.salesUnit) {p : Nat} (used : saleAt s p ≠ .empty) :
    (saleAt s p).serial ≠ 0 ∧ (saleAt s p).serial < s.salesUnit.nextSerial := by
  obtain ⟨-, positive, lower, -⟩ := law.records p used
  exact ⟨Nat.ne_of_gt positive, lower⟩

/-- R145: the serial of a record finds it. -/
theorem StoreLaw.place {s : State} (law : StoreLaw s.salesUnit) {p : Nat} (used : saleAt s p ≠ .empty) :
    saleplace s (saleAt s p).serial = some p := by
  obtain ⟨positive, -⟩ := law.serial used
  refine saleplace_eq law.store positive rfl fun q apart same => apart (law.once q p (fun empty => ?_) used same)
  have serial : (saleAt s q).serial = 0 := by rw [saleAt, empty]; rfl
  exact positive (same.symm.trans serial)

/-- R145, R151: the sale of a refund in progress has its record, and its show stands. -/
theorem SoldLaw.show_of_refund {s : State} (law : SoldLaw s) (sales : SalesLaw s) {serial : Nat} {f : Refund}
    (found : refundOf s serial = some f) : saleShow s serial < 48 ∧ (showAt s (saleShow s serial)).state ≠ .empty ∧
      ∃ p, saleAt s p ≠ .empty ∧ (saleAt s p).serial = serial ∧ saleShow s serial = (saleAt s p).sh := by
  obtain ⟨store, -⟩ := salesLaw_iff.mp sales
  have named : f.serial = serial := by simpa using List.find?_some found
  obtain ⟨p, used, same, -⟩ := law.refunds f (List.mem_of_find?_eq_some found)
  have here : (saleAt s p).serial = serial := same.trans named
  have show' := saleShow_eq (here ▸ store.place used)
  obtain ⟨inside, shown, -⟩ := law.sales p used
  rw [show']
  exact ⟨inside, shown, p, used, here, rfl⟩

/-- Each show keeps its counts. -/
def CountsKept (s t : State) : Prop := ∀ n st, countOf st (showAt t n) = countOf st (showAt s n)

namespace CountsKept
variable {s t u : State}

theorem of_shows (shows : t.showUnit.shows = s.showUnit.shows) : CountsKept s t := fun n st => by rw [showAt_of_shows shows]

theorem trans (first : CountsKept s t) (next : CountsKept t u) : CountsKept s u := fun n st => (next n st).trans (first n st)

theorem stepShow (n : Nat) (s : State) : CountsKept s (stepShow n s) := fun m st => by
  have each : showAt (Machine.stepShow n s) m = showAt s m ∨ m = n ∧
      showAt (Machine.stepShow n s) m = { showAt s m with changes := stepCount (showAt s m).changes } := getD_updAt ..
  rcases each with same | ⟨-, written⟩
  · rw [same]
  · rw [written]
    cases st <;> rfl

theorem dropShowOp (r : Request) (s : State) : CountsKept s (dropShowOp r s) := by
  simp only [Machine.dropShowOp]
  split
  · exact of_shows (by simp)
  · exact (stepShow _ s).trans (of_shows rfl)

theorem salesRemovalNow (sh : Nat) (s : State) : CountsKept s (salesRemovalNow sh s) := by
  simp only [Machine.salesRemovalNow]
  split
  · exact of_shows rfl
  · next x _ =>
    split
    · exact ((of_shows (t := updRemoval x none s) rfl).trans (stepShow sh _)).trans (of_shows (by simp))
    · exact of_shows rfl

theorem voucherShowRemovalOp (sh : Nat) (s : State) : CountsKept s (voucherShowRemovalOp sh s) := by
  unfold Machine.voucherShowRemovalOp
  split
  · exact of_shows rfl
  · exact of_shows (by simp [updRemoval])

end CountsKept

/-- R17: the removals past their clearing stand. -/
def ClearedKept (s t : State) : Prop := ∀ x ∈ s.showUnit.removals, x.step = .finish → x ∈ t.showUnit.removals

namespace ClearedKept
variable {s t : State}

theorem stands (h : ClearedKept s t) (kept : RangesKept s t) (n : Nat) (standing : RangeStands t n) : RangeStands s n :=
  ⟨kept.state n ▸ standing.1, fun x member here step => standing.2 x (h x member step) here step⟩

theorem stopped {x : Removal} {step : RemovalStep} {sh : Nat} (found : removalAt s sh step = some x) (early : step ≠ .finish)
    (removals : t.showUnit.removals = s.showUnit.removals.erase x) : ClearedKept s t := fun y member last => by
  obtain ⟨-, -, same⟩ := removal_found found
  rw [removals]
  exact (List.mem_erase_of_ne fun here => early (by rw [← same, ← here, last])).mpr member

theorem moved {x z : Removal} {step : RemovalStep} {sh : Nat} (found : removalAt s sh step = some x) (early : step ≠ .finish)
    (removals : t.showUnit.removals = s.showUnit.removals.map (fun v => if v = x then z else v)) : ClearedKept s t := fun y member last => by
  obtain ⟨-, -, same⟩ := removal_found found
  rw [removals]
  exact List.mem_map.mpr ⟨y, member, if_neg fun here => early (by rw [← same, ← here, last])⟩

theorem dropShowOp (r : Request) (s : State) : ClearedKept s (dropShowOp r s) := fun x member _ => by
  simp only [Machine.dropShowOp]
  split
  · simpa using member
  · exact List.mem_append_left _ member

theorem salesRemovalNow (sh : Nat) (s : State) : ClearedKept s (salesRemovalNow sh s) := by
  simp only [Machine.salesRemovalNow]
  split
  · exact fun _ member _ => member
  · next found =>
    split
    · exact stopped found (by simp) (by simp [Machine.stepShow, setShow, updRemoval])
    · exact moved found (by simp) rfl

theorem voucherShowRemovalOp (sh : Nat) (s : State) : ClearedKept s (voucherShowRemovalOp sh s) := by
  simp only [Machine.voucherShowRemovalOp]
  split
  · exact fun _ member _ => member
  · next x found =>
    exact moved (z := { x with step := .seats, vouchersRemoved := (vouchersOfShow s sh).length }) found (by simp) (by simp [updRemoval])

end ClearedKept

namespace CellsLaw
variable {s t : State} (law : CellsLaw s)
include law

/-- One show record replaced that no selling context names; the cells of the other ranges stand. -/
theorem oneShow {n : Nat} (elsewhere : ∀ m, m ≠ n → showAt t m = showAt s m) (baskets : t.basketUnit.baskets = s.basketUnit.baskets)
    (unnamed : ∀ b < 24, Selling (basketAt s b) → (basketAt s b).sh ≠ n) (store : sparseWf Seat.spare t.seats)
    (owned : ∀ c, (seatAt t c).owner ≠ none ↔ ((seatAt t c).state = .held ∨ (seatAt t c).state = .sold))
    (cells : ∀ m < 48, m ≠ n → (showAt s m).state ≠ .empty → ∀ c, InRange s m c → seatAt t c = seatAt s c)
    (stands : ∀ m, m ≠ n → RangeStands t m → RangeStands s m) (held : ∀ c b, HeldBy t c b ↔ HeldBy s c b)
    (counts : n < 48 → RangeStands t n → ∀ st, countOf st (showAt t n) = cellsIn t n st) : CellsLaw t := by
  refine ⟨store, owned, fun m inside standing st => ?_, fun cell b => ?_, fun b inside => ?_⟩
  · by_cases here : m = n
    · subst here
      exact counts inside standing st
    · have before := stands m here standing
      have record := elsewhere m here
      rw [record, law.counts m inside before st]
      exact (cellsIn_congr (by rw [record]) (by rw [record]) (fun c member => by rw [cells m inside here before.1 c member]) st).symm
  · rw [held, law.claimed, basketAt_of_baskets baskets]
    refine and_congr_right fun inside => and_congr_right fun sells => ?_
    rw [elsewhere _ (unnamed b inside sells)]
  · rw [basketAt_of_baskets baskets]
    intro sells
    rw [elsewhere _ (unnamed b inside sells)]
    exact law.listed b inside sells

/-- One show record replaced that no selling context names; no cell moves. -/
theorem oneRecord {n : Nat} (elsewhere : ∀ m, m ≠ n → showAt t m = showAt s m) (baskets : t.basketUnit.baskets = s.basketUnit.baskets)
    (unnamed : ∀ b < 24, Selling (basketAt s b) → (basketAt s b).sh ≠ n) (seats : t.seats = s.seats)
    (stands : ∀ m, m ≠ n → RangeStands t m → RangeStands s m) (empty : (showAt t n).state = .empty) : CellsLaw t := by
  have at' : ∀ c, seatAt t c = seatAt s c := fun c => by rw [seatAt, seats]; rfl
  exact law.oneShow elsewhere baskets unnamed (seats ▸ law.store) (fun c => by rw [at']; exact law.owned c) (fun _ _ _ _ c _ => at' c) stands
    (fun c b => by rw [HeldBy, at']; rfl) fun _ standing => absurd empty standing.1

/-- R22: a HELD cell is in the range of the show its context sells for. -/
theorem held_range {cell b : Nat} (held : HeldBy s cell b) :
    b < 24 ∧ Selling (basketAt s b) ∧ (basketAt s b).sh < 48 ∧ (showAt s (basketAt s b).sh).state ≠ .empty ∧
      InRange s (basketAt s b).sh cell := by
  obtain ⟨inside, sells, i, listed, rfl⟩ := (law.claimed cell b).mp held
  obtain ⟨bound, shown, -, fits⟩ := law.listed b inside sells
  exact ⟨inside, sells, bound, shown, Nat.le_add_right _ _, Nat.add_lt_add_left (fits i listed) _⟩

/-- R22: no cell is HELD in the range of a show that no selling context names. -/
theorem not_held (ranges : RangesLaw s) {n : Nat} (inside : n < 48) (allocated : Allocated s n)
    (unnamed : ∀ b < 24, Selling (basketAt s b) → (basketAt s b).sh ≠ n) {c : Nat} (range : InRange s n c) : (seatAt s c).state ≠ .held := by
  intro state
  obtain ⟨b, owner⟩ := Option.ne_none_iff_exists'.mp ((law.owned c).mpr (.inl state))
  obtain ⟨bound, sells, shown, allocated', range'⟩ := law.held_range ⟨state, owner⟩
  exact ranges.apart n inside _ shown (unnamed b bound sells).symm allocated (.inl allocated') c range range'

/-- Cells of a range that no selling context names, none of them HELD afterwards. -/
theorem inOneRange (ranges : RangesLaw s) {n : Nat} (inside : n < 48) (allocated : Allocated s n)
    (elsewhere : ∀ m, m ≠ n → showAt t m = showAt s m) (baskets : t.basketUnit.baskets = s.basketUnit.baskets)
    (unnamed : ∀ b < 24, Selling (basketAt s b) → (basketAt s b).sh ≠ n) (store : sparseWf Seat.spare t.seats)
    (within : ∀ c, InRange s n c → (seatAt t c).owner = none ∧ (seatAt t c).state ≠ .held ∧ (seatAt t c).state ≠ .sold)
    (outside : ∀ c, ¬ InRange s n c → seatAt t c = seatAt s c)
    (stands : ∀ m, m ≠ n → RangeStands t m → RangeStands s m)
    (counts : RangeStands t n → ∀ st, countOf st (showAt t n) = cellsIn t n st) : CellsLaw t := by
  refine law.oneShow elsewhere baskets unnamed store (fun c => ?_) (fun m insideM apart shown c range => ?_) stands (fun c b => ?_) fun _ => counts
  · by_cases here : InRange s n c
    · obtain ⟨owner, held, sold⟩ := within c here
      exact ⟨fun some => absurd owner some, fun state => (state.elim held sold).elim⟩
    · rw [outside c here]
      exact law.owned c
  · exact outside c (ranges.apart m insideM n inside apart (.inl shown) allocated c range)
  · by_cases here : InRange s n c
    · exact ⟨fun held => absurd held.1 (within c here).2.1, fun held => absurd held.1 (law.not_held ranges inside allocated unnamed here)⟩
    · rw [HeldBy, outside c here]
      rfl

end CellsLaw

/-- R14: a loading's cells, counted by its bytes. -/
theorem cellsIn_loaded {t : State} {n : Nat} {map : List Byte} (count : map.length = (showAt t n).seatCount)
    (cells : ∀ i < map.length, seatAt t ((showAt t n).seatBase + i) = loadedSeat (map.getD i 0)) (st : SeatState) :
    cellsIn t n st = (map.filter (fun b => (loadedSeat b).state == st)).length := by
  have listed : map = (List.range map.length).map (fun i => map.getD i 0) :=
    List.ext_getElem (by simp) fun i inside _ => by simp [List.getElem?_eq_getElem inside]
  conv_rhs => rw [listed, List.filter_map, List.length_map]
  rw [cellsIn, ← count]
  refine congrArg List.length (List.filter_congr fun i member => ?_)
  rw [cells i (List.mem_range.mp member)]
  rfl

theorem countOf_loaded (l : Loading) (w : ShowRec) (count : l.map.length = w.seatCount) (st : SeatState) :
    countOf st (loadedShow l w) = (l.map.filter (fun b => (loadedSeat b).state == st)).length := by
  have total : l.map.length = blockedCount l.map + (l.map.filter (fun b => !seatByteBlocked b)).length := List.length_eq_length_filter_add _
  have state : ∀ b, (loadedSeat b).state = if seatByteBlocked b then .blocked else .free := fun _ => rfl
  cases st
  case free =>
    have same : l.map.filter (fun b => (loadedSeat b).state == .free) = l.map.filter (fun b => !seatByteBlocked b) :=
      List.filter_congr fun b _ => by rw [state]; cases seatByteBlocked b <;> rfl
    rw [same]
    show w.seatCount - blockedCount l.map = _
    omega
  case blocked =>
    have same : l.map.filter (fun b => (loadedSeat b).state == .blocked) = l.map.filter seatByteBlocked :=
      List.filter_congr fun b _ => by rw [state]; cases seatByteBlocked b <;> rfl
    rw [same]
    rfl
  all_goals
    refine (List.length_eq_zero_iff.mpr (List.filter_eq_nil_iff.mpr fun b _ => ?_)).symm
    rw [state]
    cases seatByteBlocked b <;> simp

/-- R14: the cells of a loading. -/
theorem loadedState_cells {s : State} (store : sparseWf Seat.spare s.seats) {l : Loading} (length : l.map.length = (showAt s l.sh).seatCount) :
    sparseWf Seat.spare (loadedState l.sh l s).seats ∧
    (∀ i < l.map.length, seatAt (loadedState l.sh l s) ((showAt s l.sh).seatBase + i) = loadedSeat (l.map.getD i 0)) ∧
    (∀ c, InRange s l.sh c → (seatAt (loadedState l.sh l s) c).owner = none ∧ (seatAt (loadedState l.sh l s) c).state ≠ .held ∧
      (seatAt (loadedState l.sh l s) c).state ≠ .sold) ∧
    ∀ c, ¬ InRange s l.sh c → seatAt (loadedState l.sh l s) c = seatAt s c := by
  obtain ⟨cells, others, -⟩ := loadCells_spec (showAt s l.sh).seatBase l.map s store
  refine ⟨(Keeps.loadCells (Keeps.refl s)).seats store, cells, fun c ⟨low, high⟩ => ?_, fun c outside => others c ?_⟩
  · have written := cells (c - (showAt s l.sh).seatBase) (by omega)
    rw [Nat.add_sub_cancel' low] at written
    have here : seatAt (loadedState l.sh l s) c = loadedSeat (l.map.getD (c - (showAt s l.sh).seatBase) 0) := written
    rw [here]
    refine ⟨rfl, ?_, ?_⟩ <;> unfold loadedSeat <;> split <;> simp
  · rw [InRange] at outside
    omega

/-- R17, R28: a range cleared in a drop. -/
theorem seatRangeClearOp_cases {s : State} (store : sparseWf Seat.spare s.seats) (sh : Nat) : seatRangeClearOp sh s = s ∨
    ∃ x ∈ s.showUnit.removals, (x.sh = sh ∧ x.step = .seats) ∧ (seatRangeClearOp sh s).showUnit = { s.showUnit with
        shows := updAt s.showUnit.shows sh (fun w => { w with free := 0, held := 0, sold := 0, blocked := 0 })
        removals := s.showUnit.removals.map (fun v => if v = x then { x with step := .finish } else v) } ∧
      sparseWf Seat.spare (seatRangeClearOp sh s).seats ∧
      ∀ c, seatAt (seatRangeClearOp sh s) c = if InRange s sh c then Seat.spare else seatAt s c := by
  unfold seatRangeClearOp
  split
  · exact .inl rfl
  · next x found =>
    obtain ⟨member, here, step⟩ := removal_found found
    refine .inr ⟨x, member, ⟨here, step⟩, rfl, (Keeps.clearRange (sh := sh) (Keeps.refl s)).seats store, fun c => ?_⟩
    refine (sparseGet_filter Seat.spare s.seats store _ c).trans ?_
    by_cases mine : InRange s sh c
    · rw [if_pos mine, if_neg (by simp [mine.1, mine.2])]
    · rw [if_neg mine, if_pos (by simpa [imp_iff_not_or] using mine)]
      rfl

namespace CellsLaw
variable {s t : State} (law : CellsLaw s)
include law

theorem blocked {n : Nat} {x y : SeatState} (ranges : RangesLaw s) (h : BlockMove n x y s t) (apart : x ≠ y)
    (before : x ≠ .held) (after : y ≠ .held) (free : y ≠ .sold) (baskets : t.basketUnit.baskets = s.basketUnit.baskets) : CellsLaw t := by
  cases h with
  | refused seats unit => exact law.of_units seats (by rw [unit]) (by rw [unit]) (by rw [unit]) baskets
  | @moved list counts inside shown once fits was counted ranged seats unit =>
    have shift : Shifted n (list.map (poolIndex (showAt s n))) x y none s t := by
      refine Shifted.after ?_ seats unit
      refine .of_cellEvent law.store (ranges.shows ▸ inside) apart ⟨fun none => absurd rfl none, fun state => (state.elim after free).elim⟩
        (map_poolIndex_nodup once _) (fun c member => ?_) (fun c member => ?_) (fun w st => ?_) ranged
      · obtain ⟨i, listed, rfl⟩ := List.mem_map.mp member
        exact ⟨Nat.le_add_right _ _, Nat.add_lt_add_left (fits i listed) _⟩
      · obtain ⟨i, listed, rfl⟩ := List.mem_map.mp member
        exact was i listed
      · rw [List.length_map]
        exact counted w st
    exact law.shiftedBeside ranges inside shown shift before after baskets

theorem refundFreed (ranges : RangesLaw s) (sold : SoldLaw s) (sales : SalesLaw s) (serial : Nat) : CellsLaw (refundFreeingOp serial s) := by
  unfold refundFreeingOp
  split
  · exact law
  · next f found =>
    split
    · exact law
    · obtain ⟨inside, shown, -⟩ := sold.show_of_refund sales found
      obtain ⟨cells, -⟩ := soldCells_spec law.store (showAt s (saleShow s serial)) serial
      have once : (soldCells s (showAt s (saleShow s serial)) serial).Nodup := pairwise_lt_nodup (sparse_keys law.store _).1
      have shift : Shifted (saleShow s serial) (soldCells s (showAt s (saleShow s serial)) serial) .sold .free none s
          (freeSold (saleShow s serial) serial s).1 := by
        refine .of_cellEvent law.store (ranges.shows ▸ inside) (by simp) (by simp) once (fun c member => ?_) (fun c member => ?_)
          (fun w st => ?_) fun _ => ⟨rfl, rfl, rfl⟩
        · obtain ⟨low, high, -⟩ := (cells c).mp member
          exact ⟨low, high⟩
        · obtain ⟨-, -, state, -⟩ := (cells c).mp member
          exact state
        · cases st <;> rfl
      exact law.shiftedBeside ranges inside shown (shift.after rfl rfl) (by simp) (by simp) (by simp [updRefund, freeSold])

theorem loaded (ranges : RangesLaw s) {sh : Nat} {l : Loading} (found : s.showUnit.loadings.find? (fun l => l.sh == sh) = some l) :
    CellsLaw (loadedState sh l s) := by
  obtain ⟨member, rfl⟩ := loading_found found
  obtain ⟨inside, empty, length⟩ := ranges.loadings l member
  have unit := loadedState_showUnit l.sh l s
  obtain ⟨self, elsewhere⟩ := showAt_one (s := s) (t := loadedState l.sh l s) (n := l.sh) (f := loadedShow l) (by rw [unit]) (ranges.shows ▸ inside)
  have unnamed : ∀ b < 24, Selling (basketAt s b) → (basketAt s b).sh ≠ l.sh := fun b bound sells here => by
    obtain ⟨-, shown, -⟩ := law.listed b bound sells
    exact shown (here ▸ empty)
  obtain ⟨store, cells, within, outside⟩ := loadedState_cells law.store length
  have removals : (loadedState l.sh l s).showUnit.removals = s.showUnit.removals := by rw [unit]
  refine law.inOneRange ranges inside (.inr ⟨l, member, rfl⟩) elsewhere (by simp) unnamed store within outside
    (fun m apart standing => ⟨elsewhere m apart ▸ standing.1, fun x old => standing.2 x (removals ▸ old)⟩) fun _ st => ?_
  have range : (showAt (loadedState l.sh l s) l.sh).seatBase = (showAt s l.sh).seatBase ∧
      (showAt (loadedState l.sh l s) l.sh).seatCount = (showAt s l.sh).seatCount := by rw [self]; exact ⟨rfl, rfl⟩
  rw [cellsIn_loaded (length.trans range.2.symm) (by rw [range.1]; exact cells), self]
  exact countOf_loaded l _ length st

theorem loadBegun (ranges : RangesLaw s) (r : Request) : CellsLaw (loadShowOp r s) := by
  have frame : (loadShowOp r s).basketUnit = s.basketUnit ∧ (loadShowOp r s).seats = s.seats := by simp
  rcases loadShowOp_cases r s with ⟨code, refused⟩ | ⟨base, passed, unit⟩
  · rw [refused]
    exact law.of_units (by simp) (by simp) (by simp) (by simp) (by simp)
  · obtain ⟨inside, empty, -⟩ := load_passed passed
    obtain ⟨self, elsewhere⟩ := showAt_one (s := s) (t := loadShowOp r s) (n := param1 r 0) (by rw [unit]) (ranges.shows ▸ inside)
    refine law.oneRecord elsewhere (by rw [frame.1]) (fun b bound sells here => ?_) frame.2 (fun m apart standing => ?_) (by rw [self]; rfl)
    · obtain ⟨-, shown, -⟩ := law.listed b bound sells
      exact shown (here ▸ empty)
    · rw [RangeStands, elsewhere m apart, unit] at standing
      exact standing

omit law in
/-- R16: no selling context names a show being dropped. -/
theorem unnamed_of_removal (removals : RemovalsLaw s) {x : Removal} (member : x ∈ s.showUnit.removals) (b : Nat) (bound : b < 24)
    (sells : Selling (basketAt s b)) : (basketAt s b).sh ≠ x.sh := by
  obtain ⟨-, -, free⟩ := removals.removals x member
  refine (free b bound).resolve_left fun rests => ?_
  rw [Selling, rests] at sells
  simp at sells

theorem dropped (ranges : RangesLaw s) (removals : RemovalsLaw s) (sh : Nat) : CellsLaw (dropCompleteOp sh s) := by
  have frame : (dropCompleteOp sh s).basketUnit = s.basketUnit ∧ (dropCompleteOp sh s).seats = s.seats := by simp
  rcases dropCompleteOp_cases sh s with same | ⟨x, found, unit⟩
  · rw [same]
    exact law
  · obtain ⟨member, rfl, -⟩ := removal_found found
    obtain ⟨inside, ended, -⟩ := removals.removals x member
    obtain ⟨self, elsewhere⟩ := showAt_one (s := s) (t := dropCompleteOp x.sh s) (n := x.sh) (by rw [unit]) (ranges.shows ▸ inside)
    refine law.oneRecord elsewhere (by rw [frame.1]) (unnamed_of_removal removals member) frame.2 (fun m apart standing => ?_)
      (by rw [self]; rfl)
    rw [RangeStands, elsewhere m apart, unit] at standing
    refine ⟨standing.1, fun y old here => standing.2 y ?_ here⟩
    exact (List.mem_erase_of_ne fun same => apart (by rw [← here, same])).mpr old

theorem rangeCleared (ranges : RangesLaw s) (removals : RemovalsLaw s) (sh : Nat) : CellsLaw (seatRangeClearOp sh s) := by
  have baskets : (seatRangeClearOp sh s).basketUnit.baskets = s.basketUnit.baskets := by simp
  rcases seatRangeClearOp_cases law.store sh with same | ⟨x, member, ⟨rfl, step⟩, unit, store, cleared⟩
  · rw [same]
    exact law
  · obtain ⟨inside, ended, -⟩ := removals.removals x member
    generalize seatRangeClearOp x.sh s = t at *
    obtain ⟨self, elsewhere⟩ := showAt_one (s := s) (t := t) (n := x.sh) (by rw [unit]) (ranges.shows ▸ inside)
    refine law.inOneRange ranges inside (.inl (by rw [ended]; simp)) elsewhere baskets (unnamed_of_removal removals member) store
      (fun c here => ?_) (fun c outside => by rw [cleared, if_neg outside]) (fun m apart standing => ?_) fun standing => ?_
    · rw [cleared, if_pos here]
      exact ⟨rfl, by simp [Seat.spare], by simp [Seat.spare]⟩
    · rw [RangeStands, elsewhere m apart, unit] at standing
      refine ⟨standing.1, fun y old here => standing.2 y (List.mem_map.mpr ⟨y, old, if_neg fun same => apart ?_⟩) here⟩
      rw [← here, same]
    · refine absurd rfl (standing.2 { x with step := .finish } ?_ rfl)
      rw [unit]
      exact List.mem_map.mpr ⟨x, member, if_pos rfl⟩

theorem entered {n : Nat} {st : ShowState} (loaded : (showAt s n).state ≠ .empty) (shown : st ≠ .empty) :
    CellsLaw (updShow n (fun w => { w with state := st }) s) := by
  have each : ∀ m, showAt (updShow n (fun w => { w with state := st }) s) m = showAt s m ∨ m = n ∧
      showAt (updShow n (fun w => { w with state := st }) s) m = { showAt s m with state := st, changes := bump (showAt s m).changes } :=
    fun m => getD_updAt ..
  have base : ∀ m, (showAt (updShow n (fun w => { w with state := st }) s) m).seatBase = (showAt s m).seatBase := fun m => by
    rcases each m with same | ⟨-, written⟩
    · rw [same]
    · rw [written]
  have count : ∀ m, (showAt (updShow n (fun w => { w with state := st }) s) m).seatCount = (showAt s m).seatCount := fun m => by
    rcases each m with same | ⟨-, written⟩
    · rw [same]
    · rw [written]
  have counts : CountsKept s (updShow n (fun w => { w with state := st }) s) := fun m st => by
    rcases each m with same | ⟨-, written⟩
    · rw [same]
    · rw [written]
      cases st <;> rfl
  have stands : ∀ m, (showAt (updShow n (fun w => { w with state := st }) s) m).state ≠ .empty ↔ (showAt s m).state ≠ .empty := fun m => by
    rcases each m with same | ⟨rfl, written⟩
    · rw [same]
    · rw [written]
      exact ⟨fun _ => loaded, fun _ => shown⟩
  refine ⟨law.store, law.owned, fun m inside standing st => ?_, fun cell b => ?_, fun b inside sells => ?_⟩
  · rw [counts, law.counts m inside ⟨(stands m).mp standing.1, standing.2⟩ st]
    exact (cellsIn_congr (base m) (count m) (fun _ _ => rfl) st).symm
  · rw [Claims, base]
    exact law.claimed cell b
  · rw [count]
    obtain ⟨bound, old, once, fits⟩ := law.listed b inside sells
    exact ⟨bound, (stands _).mpr old, once, fits⟩

end CellsLaw

theorem saleMove_cells (b : Nat) (m : Method) (s : State) :
    (saleMove b m s).seats = (sellCells (basketAt s b).sh s.salesUnit.nextSerial (basketAt s b).seats (createSale (basketAt s b) m s)).seats ∧
    (saleMove b m s).showUnit =
      (sellCells (basketAt s b).sh s.salesUnit.nextSerial (basketAt s b).seats (createSale (basketAt s b) m s)).showUnit := by
  rw [saleMove_eq]
  simp

theorem endBasket_cells (b : Nat) (dest : BasketState) (s : State) :
    (endBasket b dest s).seats = (releaseCells (basketAt s b).sh (basketAt s b).seats s).seats ∧
    (endBasket b dest s).showUnit = (releaseCells (basketAt s b).sh (basketAt s b).seats s).showUnit := by
  rw [endBasket_eq]
  simp

theorem not_selling_of {c : Basket} {st : BasketState} (state : c.state = st)
    (rests : st ≠ .selecting ∧ st ≠ .paying ∧ st ≠ .unresolved) : ¬ Selling c := by
  obtain ⟨selecting, paying, unresolved⟩ := rests
  rw [Selling, state]
  simp [selecting, paying, unresolved]

theorem Freed.selling {b : Nat} {s u : State} (freed : Freed b s u) : Selling (basketAt u b) := .inr freed.state

namespace CellsLaw
variable {s t : State}

theorem freed {u : State} {b : Nat} (law : CellsLaw s) (freed : Freed b s u) : CellsLaw u := by
  cases freed
  exacts [law.of_units rfl rfl rfl rfl rfl, law]

theorem sold {b : Nat} {m : Method} (law : CellsLaw s) (ranges : RangesLaw s) (length : s.basketUnit.baskets.length = 24)
    (selling : Selling (basketAt s b)) : CellsLaw (saleMove b m s) := by
  have bound : b < 24 := length ▸ basket_inside fun free => not_selling_of free (by simp) selling
  obtain ⟨-, -, once, -⟩ := law.listed b bound selling
  obtain ⟨seats, unit⟩ := saleMove_cells b m s
  have ended : ¬ Selling ({ soldBasket s.salesUnit.nextSerial (cfgOf s).receipts (basketAt s b) with changes := bump (basketAt s b).changes }) :=
    not_selling_of (st := .printing) rfl (by simp)
  have made : CellsLaw (createSale (basketAt s b) m s) := law.of_units rfl rfl rfl rfl rfl
  have ranges' : RangesLaw (createSale (basketAt s b) m s) := (RangesKept.of_unit rfl : RangesKept s (createSale (basketAt s b) m s)).law ranges
  refine made.givenUp (b := b) (G := (basketAt s b).seats) (y := .sold) (o := some s.salesUnit.nextSerial)
    (counts := fun w => { w with held := w.held - (basketAt s b).seats.length, sold := w.sold + (basketAt s b).seats.length })
    ranges' length selling once (fun _ => id) (by simp) (by simp) (fun w st => by cases st <;> rfl)
    (fun _ => ⟨rfl, rfl, rfl⟩) ((Rewritten.sold b m s).before rfl) seats unit (fun sells => absurd sells ended) fun _ _ => id

theorem ended {b : Nat} {dest : BasketState} (law : CellsLaw s) (ranges : RangesLaw s) (length : s.basketUnit.baskets.length = 24)
    (selling : Selling (basketAt s b)) (ends : dest = .expired ∨ dest = .abandoned) : CellsLaw (endBasket b dest s) := by
  have bound : b < 24 := length ▸ basket_inside fun free => not_selling_of free (by simp) selling
  obtain ⟨-, -, once, -⟩ := law.listed b bound selling
  obtain ⟨seats, unit⟩ := endBasket_cells b dest s
  have ended : ¬ Selling ({ emptied dest (basketAt s b) with changes := bump (basketAt s b).changes }) :=
    not_selling_of (st := dest) rfl (by rcases ends with rfl | rfl <;> simp)
  exact law.givenUp (G := (basketAt s b).seats) (y := .free) (o := none)
    (counts := fun w => { w with held := w.held - (basketAt s b).seats.length, free := w.free + (basketAt s b).seats.length })
    ranges length selling once (fun _ => id) (by simp) (by simp) (fun w st => by cases st <;> rfl)
    (fun _ => ⟨rfl, rfl, rfl⟩) (.ended b dest s) seats unit (fun sells => absurd sells ended) fun _ _ => id

theorem released {b slot : Nat} {list : List Nat} (law : CellsLaw s) (ranges : RangesLaw s) (calls : CallsLaw s)
    (call : (basketAt s b).call = some (.release slot list)) :
    CellsLaw (requote b (closeCall b (fun c => { c with seats := c.seats.filter (fun x => !list.contains x) })
      (releaseCells (basketAt s b).sh list s))) := by
  have selling : Selling (basketAt s b) := .inl (calls.state_of_call call)
  have bound : b < 24 := calls.baskets ▸ inside_of_call call
  obtain ⟨once, own⟩ := calls.releases b bound slot list call
  obtain ⟨-, -, mine, -⟩ := law.listed b bound selling
  obtain ⟨q, h⟩ := Rewritten.answered (f := fun c => { c with seats := c.seats.filter (fun x => !list.contains x) })
    (t := releaseCells (basketAt s b).sh list s) (by simp) (inside_of_call call)
  refine law.givenUp (G := list) (y := .free) (o := none)
    (counts := fun w => { w with held := w.held - list.length, free := w.free + list.length }) ranges calls.baskets selling once own
    (by simp) (by simp) (fun w st => by cases st <;> rfl) (fun _ => ⟨rfl, rfl, rfl⟩) h rfl rfl
    (fun _ => ⟨rfl, mine.filter _, fun i => by simp⟩) fun rests => absurd selling rests

theorem hold {b slot : Nat} {list : List Nat} (law : CellsLaw s) (ranges : RangesLaw s) (calls : CallsLaw s)
    (call : (basketAt s b).call = some (.hold slot list)) (passed : holdRefusal s b list = none) :
    CellsLaw (requote b (closeCall b (fun c => { c with seats := c.seats ++ list, deadline := extendedDeadline s c })
      (holdCells (basketAt s b).sh b list s))) := by
  obtain ⟨-, -, once, each⟩ := hold_passed passed
  obtain ⟨q, h⟩ := Rewritten.answered (f := fun c => { c with seats := c.seats ++ list, deadline := extendedDeadline s c })
    (t := holdCells (basketAt s b).sh b list s) (by simp) (inside_of_call call)
  exact law.held ranges calls.baskets (.inl (calls.state_of_call call)) once (fun i listed => (each i listed).2) h rfl rfl ⟨rfl, rfl, rfl⟩
    fun i listed => (each i listed).1

theorem returned {b : Nat} (law : CellsLaw s) (ranges : RangesLaw s) (length : s.basketUnit.baskets.length = 24)
    (selling : Selling (basketAt s b)) : CellsLaw (returnBasket b s) := by
  rcases Rewritten.returned b s with ⟨dl, k, same⟩ | same
  · rw [same]
    have h := (Rewritten.of_updBasket b (fun x => { x with state := .selecting, deadline := some dl }) (giveBackPlace s)).before (s := s) rfl
    exact law.noted (h.after (by simp)) (by simp [giveBackPlace, updSummary]) (by simp [giveBackPlace, updSummary])
      ⟨fun _ => selling, fun _ => .inl rfl⟩ ⟨rfl, rfl⟩
  · rw [same, expireBasket]
    have given : CellsLaw (giveBackPlace s) := law.of_units rfl rfl rfl rfl rfl
    have ranges' : RangesLaw (giveBackPlace s) := (RangesKept.of_unit rfl : RangesKept s (giveBackPlace s)).law ranges
    have ended := given.ended (b := b) (dest := .expired) ranges' length selling (.inl rfl)
    exact ended.of_units (by simp) (by simp) (by simp) (by simp) (by simp)

theorem move {P : Prop} (law : CellsLaw s) (ranges : RangesLaw s) (removals : RemovalsLaw s) (calls : CallsLaw s) (soldLaw : SoldLaw s)
    (sales : SalesLaw s) (move : Move P s t) : CellsLaw t := by
  have length := calls.baskets
  cases move
  case quiet same => exact law.of_units same.seats same.shows same.loadings same.removals same.baskets
  case reset same =>
    exact (partsLaw_of salesLaw_reset houseLaw_reset).cells.of_units same.seats same.shows same.loadings same.removals same.baskets
  case configured same => exact law.of_units same.seats same.shows same.loadings same.removals same.baskets
  case recordClosed => exact law.of_units (by simp) (by simp) (by simp) (by simp) (by rw [closeRecord_basketUnit])
  case noted b f noted =>
    obtain ⟨state, -, sh, seats, -⟩ := noted
    exact law.noted (.of_setBasket b f s) rfl rfl (by rw [Selling, state]) ⟨sh, seats⟩
  case opened k sh d passed =>
    have onSale := opens_onSale passed
    refine law.rewritten (.of_updBasket ..) rfl rfl (fun cell => ?_) fun _ _ => ?_
    · have rests : ¬ Selling (basketAt s (lowestContext s)) := not_selling_of (lowestContext_free passed).2 (by simp)
      refine ⟨fun claim => ?_, fun claim => absurd claim.1 rests⟩
      obtain ⟨-, i, listed, -⟩ := claim
      cases listed
    · have shown : (showAt s sh).state ≠ .empty := by rw [onSale]; simp
      exact ⟨ranges.inside_of_shown shown, shown, List.nodup_nil, nofun⟩
  case called => exact law.noted (.of_setBasket ..) rfl rfl Iff.rfl ⟨rfl, rfl⟩
  case answered => exact law.noted (.of_setBasket ..) rfl rfl Iff.rfl ⟨rfl, rfl⟩
  case held call passed => exact law.hold ranges calls call passed
  case released call => exact law.released ranges calls call
  case issued u b slot kind index code call answer =>
    have unit : u.basketUnit = s.basketUnit ∧ u.seats = s.seats ∧ u.showUnit = s.showUnit := by
      rw [← show (issueVoucher kind b (basketAt s b).sh s).1 = u from congrArg Prod.fst answer]; simp
    obtain ⟨q, h⟩ := Rewritten.answered (f := fun c => { c with vouchers := c.vouchers ++ [index], deadline := extendedDeadline u c })
      (s := s) (t := u) (by rw [unit.1]) (inside_of_call call)
    exact law.noted h unit.2.1 unit.2.2 Iff.rfl ⟨rfl, rfl⟩
  case removed b slot position call =>
    obtain ⟨q, h⟩ := Rewritten.answered (f := fun c => { c with vouchers := c.vouchers.eraseIdx position })
      (t := removeVouchers ((basketAt s b).vouchers[position]?).toList s) (by simp) (inside_of_call call)
    exact law.noted h (by simp) (by simp) Iff.rfl ⟨rfl, rfl⟩
  case ended selecting _ ends => exact law.ended ranges length (.inl selecting) ends
  case soldFree b m selecting _ _ =>
    have reserved : CellsLaw (reservePlace s) := law.of_units rfl rfl rfl rfl rfl
    have ranges' : RangesLaw (reservePlace s) := (RangesKept.of_unit rfl : RangesKept s (reservePlace s)).law ranges
    exact reserved.sold ranges' length (.inl selecting)
  case paying b selecting _ _ _ _ _ =>
    obtain ⟨r, h⟩ := Rewritten.paying b (reservePlace s)
    exact law.noted (h.before (s := s) rfl) (by simp [reservePlace, updSummary]) (by simp [reservePlace, updSummary])
      ⟨fun _ => .inl selecting, fun _ => .inr (.inl rfl)⟩ ⟨rfl, rfl⟩
  case sold freed =>
    exact (law.freed freed).sold ((RangesKept.of_unit freed.showUnit).law ranges) (calls.freed freed).1.baskets freed.selling
  case returned freed =>
    exact (law.freed freed).returned ((RangesKept.of_unit freed.showUnit).law ranges) (calls.freed freed).1.baskets freed.selling
  case unresolved u b freed =>
    exact (law.freed freed).noted (.unresolved b u) (by simp) (by simp) ⟨fun _ => freed.selling, fun _ => .inr (.inr rfl)⟩ ⟨rfl, rfl⟩
  case collecting b d printing =>
    exact law.unclaimed (.of_updBasket ..) rfl rfl (not_selling_of printing (by simp)) (not_selling_of (st := .collect) rfl (by simp))
  case closed b uncollected rested =>
    refine law.unclaimed (.closed b uncollected s) (by simp) (by simp) ?_ (not_selling_of (st := .closed) rfl (by simp))
    exact rested.elim (fun state => not_selling_of state (by simp)) fun state => not_selling_of state (by simp)
  case retired b ended =>
    refine law.unclaimed (.of_updBasket ..) rfl rfl (fun sells => ?_) (not_selling_of (st := .free) rfl (by simp))
    rcases sells with state | state | state <;> rw [state] at ended <;> cases ended
  case refundFreed => exact law.refundFreed ranges soldLaw sales _
  case blocked r => exact law.blocked ranges (blockMove_blocked r s) (by simp) (by simp) (by simp) (by simp) (by simp)
  case unblocked r => exact law.blocked ranges (blockMove_unblocked r s) (by simp) (by simp) (by simp) (by simp) (by simp)
  case entered loaded _ shown => exact law.entered loaded shown
  case loadBegun => exact law.loadBegun ranges _
  case loadDone found => exact law.loaded ranges found
  case dropBegun r =>
    exact law.kept (by simp) (.dropShowOp r s) (CountsKept.dropShowOp r s) ((ClearedKept.dropShowOp r s).stands (.dropShowOp r s))
      fun b inside => by rw [basketAt_of_baskets (s := s) (by simp)]; exact ⟨fun _ => Iff.rfl, law.listed b inside⟩
  case salesRemoved sh _ =>
    exact law.kept (by simp) (.salesRemovalNow sh s) (CountsKept.salesRemovalNow sh s)
      ((ClearedKept.salesRemovalNow sh s).stands (.salesRemovalNow sh s))
      fun b inside => by rw [basketAt_of_baskets (s := s) (by simp)]; exact ⟨fun _ => Iff.rfl, law.listed b inside⟩
  case vouchersRemoved sh =>
    exact law.kept (by simp) (.voucherShowRemovalOp sh s) (CountsKept.voucherShowRemovalOp sh s)
      ((ClearedKept.voucherShowRemovalOp sh s).stands (.voucherShowRemovalOp sh s))
      fun b inside => by rw [basketAt_of_baskets (s := s) (by simp)]; exact ⟨fun _ => Iff.rfl, law.listed b inside⟩
  case rangeCleared => exact law.rangeCleared ranges removals _
  case dropped => exact law.dropped ranges removals _
  all_goals exact law.of_units (by simp) (by simp) (by simp) (by simp) (by simp)

end CellsLaw
end Sys2Proof.Machine
end

section
/-! The law of the voucher table and its chains (R127, R130), kept by every move: the chains as paths. -/

namespace Sys2Proof.Machine

/-! ### Paths along the links -/

/-- R130: a list of entries, each linked to the next, from its first. -/
def Path (link : Nat → Option Nat) : Option Nat → List Nat → Prop
  | h, [] => h = none
  | h, i :: l => h = some i ∧ Path link (link i) l

namespace Path
variable {f g : Nat → Option Nat} {h : Option Nat} {l : List Nat}

theorem congr (same : ∀ i ∈ l, g i = f i) (path : Path f h l) : Path g h l := by
  induction l generalizing h with
  | nil => exact path
  | cons i l ih =>
    obtain ⟨head, rest⟩ := path
    refine ⟨head, ?_⟩
    rw [same i List.mem_cons_self]
    exact ih (fun j member => same j (List.mem_cons_of_mem _ member)) rest

theorem head (path : Path f h l) : h = l.head? := by
  cases l with
  | nil => exact path
  | cons => exact path.1

theorem of_append {pre post : List Nat} {j : Nat} (path : Path f h (pre ++ j :: post)) : Path f (f j) post := by
  induction pre generalizing h with
  | nil => exact path.2
  | cons i pre ih => exact ih path.2

/-- An entry on the path is its first or the next of another. -/
theorem next_of_mem {i : Nat} (path : Path f h l) (member : i ∈ l) : h = some i ∨ ∃ j ∈ l, f j = some i := by
  induction l generalizing h with
  | nil => cases member
  | cons k l ih =>
    obtain ⟨head, rest⟩ := path
    rcases List.mem_cons.mp member with rfl | later
    · exact .inl head
    · rcases ih rest later with here | ⟨j, inside, next⟩
      · exact .inr ⟨k, List.mem_cons_self, here⟩
      · exact .inr ⟨j, List.mem_cons_of_mem _ inside, next⟩

/-- An entry left out of the path, the one before it linked on. -/
theorem splice {pre post : List Nat} {i j : Nat} (path : Path f h (pre ++ j :: i :: post)) (same : ∀ x, x ∈ pre ∨ x ∈ post → g x = f x)
    (linked : g j = f i) : Path g h (pre ++ j :: post) := by
  induction pre generalizing h with
  | nil =>
    obtain ⟨head, -, rest⟩ := path
    exact ⟨head, by rw [linked]; exact congr (fun x member => same x (.inr member)) rest⟩
  | cons k pre ih =>
    obtain ⟨head, rest⟩ := path
    refine ⟨head, ?_⟩
    rw [same k (.inl List.mem_cons_self)]
    exact ih rest fun x member => same x (member.imp_left (List.mem_cons_of_mem _))

theorem iff_links : Path f h l ↔ h = l.head? ∧ ∀ j i, l[j]? = some i → f i = l[j + 1]? := by
  induction l generalizing h with
  | nil => exact ⟨fun path => ⟨path, nofun⟩, And.left⟩
  | cons k l ih =>
    rw [Path, ih]
    constructor
    · rintro ⟨rfl, first, links⟩
      refine ⟨rfl, fun j i at' => ?_⟩
      cases j with
      | zero =>
        obtain rfl := Option.some.inj at'
        rw [first, List.getElem?_cons_succ, List.head?_eq_getElem?]
      | succ j => exact links j i at'
    · rintro ⟨rfl, links⟩
      refine ⟨rfl, ?_, fun j i at' => links (j + 1) i at'⟩
      rw [links 0 k rfl, List.getElem?_cons_succ, List.head?_eq_getElem?]

end Path

/-- The links of the entries. -/
def linkAt (s : State) (i : Nat) : Option Nat := (voucherAt s i).link

theorem chainOf_iff {s : State} {bucket : Nat} {l : List Nat} : ChainOf s bucket l ↔ l.Nodup ∧ Path (linkAt s) (headAt s bucket) l ∧
    ∀ i, i ∈ l ↔ (voucherAt s i).state ≠ none ∧ bucketOf (voucherAt s i).code = bucket := by
  constructor
  · rintro ⟨once, head, links, members⟩
    exact ⟨once, Path.iff_links.mpr ⟨head, links⟩, members⟩
  · rintro ⟨once, path, members⟩
    obtain ⟨head, links⟩ := Path.iff_links.mp path
    exact ⟨once, head, links, members⟩

/-! ### An entry taken out of its chain -/

theorem headAt_setHead_self {s : State} (heads : sparseWf (none : Option Nat) s.voucherUnit.heads) (n : Nat) (h : Option Nat) :
    headAt (setHead n h s) n = h := sparseGet_put_self _ _ _ _ heads

theorem headAt_setHead_other {s : State} (heads : sparseWf (none : Option Nat) s.voucherUnit.heads) {n m : Nat} (apart : n ≠ m) (h : Option Nat) :
    headAt (setHead n h s) m = headAt s m := sparseGet_put_other _ _ _ _ _ apart heads

theorem linkAt_setVoucher {s : State} (store : sparseWf Voucher.empty s.voucherUnit.entries) {i x : Nat} (apart : x ≠ i) (v : Voucher) :
    linkAt (setVoucher i v s) x = linkAt s x := by
  rw [linkAt, voucherAt_setVoucher_other s i x v store apart.symm, linkAt]

/-- R130: an entry taken out of its chain; no other chain moves. -/
theorem unlink_path {s : State} (store : sparseWf Voucher.empty s.voucherUnit.entries) (heads : sparseWf (none : Option Nat) s.voucherUnit.heads)
    {i : Nat} {l : List Nat} (once : l.Nodup) (short : l.length ≤ Config.voucherCount)
    (path : Path (linkAt s) (headAt s (bucketOf (voucherAt s i).code)) l) :
    sparseWf (none : Option Nat) (unlinkVoucher i s).voucherUnit.heads ∧
    (∃ m, m.Nodup ∧ (∀ x, x ∈ m ↔ x ∈ l ∧ x ≠ i) ∧
      Path (linkAt (unlinkVoucher i s)) (headAt (unlinkVoucher i s) (bucketOf (voucherAt s i).code)) m) ∧
    (∀ n, n ≠ bucketOf (voucherAt s i).code → headAt (unlinkVoucher i s) n = headAt s n) ∧
    ∀ x, x ∉ l → x ≠ i → linkAt (unlinkVoucher i s) x = linkAt s x := by
  have walk : walkChain s (fun j => (voucherAt s j).link == some i) Config.voucherCount (headAt s (bucketOf (voucherAt s i).code)) =
      l.find? (fun j => (voucherAt s j).link == some i) := by
    obtain ⟨head, links⟩ := Path.iff_links.mp path
    rw [head, walkChain_list _ links short]
  simp only [unlinkVoucher, walk]
  split
  · next first =>
    rw [first] at path
    cases l with
    | nil => cases path
    | cons k post =>
      obtain ⟨here, rest⟩ := path
      obtain rfl := Option.some.inj here
      obtain ⟨apart, once'⟩ := List.nodup_cons.mp once
      have entries : sparseWf Voucher.empty (setHead (bucketOf (voucherAt s i).code) (voucherAt s i).link s).voucherUnit.entries := store
      refine ⟨sparsePut_wf _ _ _ _ heads, ⟨post, once', fun x => ?_, ?_⟩, fun n other => headAt_setHead_other heads other.symm _,
        fun x _ other => linkAt_setVoucher entries other _⟩
      · refine ⟨fun member => ⟨List.mem_cons_of_mem _ member, fun same => apart (same ▸ member)⟩, fun ⟨member, other⟩ => ?_⟩
        exact (List.mem_cons.mp member).resolve_left other
      · show Path _ (headAt (setHead _ _ s) _) post
        rw [headAt_setHead_self heads]
        exact rest.congr fun x member => linkAt_setVoucher entries (fun same : x = i => apart (same ▸ member)) _
  · next later =>
    split
    · next j found =>
      have linked : linkAt s j = some i := by simpa [linkAt] using List.find?_some found
      obtain ⟨pre, rest, rfl⟩ := List.append_of_mem (List.mem_of_find?_eq_some found)
      have after := path.of_append
      rw [linked] at after
      cases rest with
      | nil => cases after
      | cons k post =>
        obtain ⟨here, -⟩ := after
        obtain rfl := Option.some.inj here
        have entries : sparseWf Voucher.empty (updVoucher j (fun v => { v with link := (voucherAt s i).link }) s).voucherUnit.entries :=
          sparsePut_wf _ _ _ _ store
        have split' := List.nodup_append.mp once
        obtain ⟨oncePre, oncePost, apart⟩ := split'
        obtain ⟨freshJ, oncePost⟩ := List.nodup_cons.mp oncePost
        obtain ⟨freshI, oncePost⟩ := List.nodup_cons.mp oncePost
        have ij : j ≠ i := fun same => freshJ (same ▸ List.mem_cons_self)
        have other : ∀ x, x ≠ i → x ≠ j → linkAt (setVoucher i Voucher.empty
            (updVoucher j (fun v => { v with link := (voucherAt s i).link }) s)) x = linkAt s x := fun x left right => by
          rw [linkAt_setVoucher entries left, updVoucher, linkAt_setVoucher store right]
        refine ⟨heads, ⟨pre ++ j :: post, ?_, fun x => ?_, path.splice (fun x member => other x ?_ ?_) ?_⟩, fun _ _ => rfl,
          fun x outside left => other x left fun same => outside (by simp [same])⟩
        · refine List.nodup_append.mpr ⟨oncePre, List.nodup_cons.mpr ⟨fun member => freshJ (List.mem_cons_of_mem _ member), oncePost⟩, ?_⟩
          intro x inPre y inPost same
          refine apart x inPre y ?_ same
          rcases List.mem_cons.mp inPost with rfl | member
          · exact List.mem_cons_self
          · exact List.mem_cons_of_mem _ (List.mem_cons_of_mem _ member)
        · simp only [List.mem_append, List.mem_cons]
          constructor
          · rintro (inPre | rfl | inPost)
            · exact ⟨.inl inPre, fun same => apart x inPre i (by simp) same⟩
            · exact ⟨.inr (.inl rfl), ij⟩
            · exact ⟨.inr (.inr (.inr inPost)), fun same => freshI (same ▸ inPost)⟩
          · rintro ⟨inPre | rfl | rfl | inPost, left⟩
            · exact .inl inPre
            · exact .inr (.inl rfl)
            · exact absurd rfl left
            · exact .inr (.inr inPost)
        · rintro rfl
          rcases member with inPre | inPost
          · exact apart x inPre x (by simp) rfl
          · exact freshI inPost
        · rintro rfl
          rcases member with inPre | inPost
          · exact apart x inPre x (by simp) rfl
          · exact freshJ (List.mem_cons_of_mem _ inPost)
        · rw [linkAt_setVoucher entries ij, updVoucher, linkAt, voucherAt_setVoucher_self s j _ store]
          rfl
    · next none' =>
      have outside : i ∉ l := fun member => by
        rcases path.next_of_mem member with head | ⟨j, inside, linked⟩
        · exact later head
        · exact List.find?_eq_none.mp none' j inside (beq_iff_eq.mpr linked)
      refine ⟨heads, ⟨l, once, fun x => ⟨fun member => ⟨member, fun same => outside (same ▸ member)⟩, And.left⟩, ?_⟩, fun _ _ => rfl,
        fun x _ left => linkAt_setVoucher store left _⟩
      exact path.congr fun x member => linkAt_setVoucher store (fun same : x = i => outside (same ▸ member)) _

end Sys2Proof.Machine
end

section
/-! The law of the voucher table and its chains (R127, R130), kept by every move. -/

namespace Sys2Proof.Machine

/-! ### What the operations do to the entries -/

/-- R133: what an issue has found, and what it writes. -/
theorem issue_found {s t : State} {kind b sh index code : Nat} (store : sparseWf Voucher.empty s.voucherUnit.entries)
    (heads : sparseWf (none : Option Nat) s.voucherUnit.heads) (answer : issueVoucher kind b sh s = (t, .issued index code)) :
    index < 1024 ∧ voucherAt s index = .empty ∧ lookupCode s code = none ∧
    (∃ n, voucherAt t index = newVoucher kind b sh code (headAt s (bucketOf code)) n) ∧ (∀ i, i ≠ index → voucherAt t i = voucherAt s i) ∧
    ∀ n, headAt t n = if n = bucketOf code then some index else headAt s n := by
  have free : ∀ left first seq, freeSequence s s.showUnit.clock.now.day (cfgOf s).site left first = some seq →
      lookupCode s (codeToday s seq) = none := fun left => by
    induction left with
    | zero => exact fun _ _ found => nomatch found
    | succ left ih =>
      intro first seq found
      rw [freeSequence] at found
      split at found
      · next none' => exact Option.some.inj found ▸ none'
      · exact ih _ _ found
  have entries : (dayTaken s).voucherUnit.entries = s.voucherUnit.entries := by rw [dayTaken_eq]
  have heads' : (dayTaken s).voucherUnit.heads = s.voucherUnit.heads := by rw [dayTaken_eq]
  rw [issueVoucher_eq] at answer
  split at answer
  · cases answer
  · split at answer
    · cases answer
    · next room =>
      split at answer
      · cases answer
      · split at answer
        · cases answer
        · next seq found =>
          dsimp only at answer
          obtain ⟨rfl, issued⟩ := Prod.mk.inj answer
          obtain ⟨rfl, rfl⟩ := IssueAnswer.issued.inj issued
          obtain ⟨self, others, head, -⟩ := entered_spec (s := dayTaken s) (index := lowestFree 0 s.voucherUnit.entries)
            (v := newVoucher kind b sh (codeToday s seq) (headAt s (bucketOf (codeToday s seq)))
              (bump (voucherAt s (lowestFree 0 s.voucherUnit.entries)).changes)) (entries ▸ store) (heads' ▸ heads)
          refine ⟨Nat.lt_of_not_le room, sparseGet_lowestFree store 0, free _ _ seq found, ⟨_, self⟩,
            fun i apart => (others i apart).trans ?_, fun n => (head n).trans ?_⟩
          · rw [voucherAt, entries]; rfl
          · have same : headAt (dayTaken s) n = headAt s n := by rw [headAt, heads']; rfl
            rw [same]
            rfl

theorem saleMove_vouchers {s : State} (b : Nat) (m : Method) (store : sparseWf Voucher.empty s.voucherUnit.entries)
    (once : (basketAt s b).vouchers.Nodup) : sparseWf Voucher.empty (saleMove b m s).voucherUnit.entries ∧
    (∀ i, voucherAt (saleMove b m s) i = if i ∈ (basketAt s b).vouchers then
      { voucherAt s i with state := some .active, owner := some s.salesUnit.nextSerial, changes := bump (voucherAt s i).changes }
      else voucherAt s i) ∧ (saleMove b m s).voucherUnit.heads = s.voucherUnit.heads := by
  have inner : (sellCells (basketAt s b).sh s.salesUnit.nextSerial (basketAt s b).seats (createSale (basketAt s b) m s)).voucherUnit =
      s.voucherUnit := by simp
  have unit : (saleMove b m s).voucherUnit = (activateVouchers s.salesUnit.nextSerial (basketAt s b).vouchers
      (sellCells (basketAt s b).sh s.salesUnit.nextSerial (basketAt s b).seats (createSale (basketAt s b) m s))).voucherUnit := by
    rw [saleMove_eq]
    simp
  generalize sellCells (basketAt s b).sh s.salesUnit.nextSerial (basketAt s b).seats (createSale (basketAt s b) m s) = u at inner unit
  obtain ⟨store', each, frame⟩ := activateVouchers_spec s.salesUnit.nextSerial (basketAt s b).vouchers u (by rw [inner]; exact store) once
  have before : ∀ i, voucherAt u i = voucherAt s i := fun i => by rw [voucherAt, inner]; rfl
  have after : ∀ i, voucherAt (saleMove b m s) i = voucherAt (activateVouchers s.salesUnit.nextSerial (basketAt s b).vouchers u) i :=
    fun i => by rw [voucherAt, unit]; rfl
  refine ⟨by rw [unit]; exact store', fun i => by rw [after, each, before], ?_⟩
  rw [unit, frame]
  exact (congrArg VoucherUnit.heads inner : u.voucherUnit.heads = s.voucherUnit.heads)

theorem endBasket_vouchers (b : Nat) (dest : BasketState) (s : State) : (endBasket b dest s).voucherUnit =
    (removeVouchers (basketAt s b).vouchers (releaseCells (basketAt s b).sh (basketAt s b).seats s)).voucherUnit := by
  rw [endBasket_eq]
  simp

/-- R137: what the voucher step of a refund does to the entries. -/
theorem refundVoucherOp_vouchers {s : State} (serial : Nat) (store : sparseWf Voucher.empty s.voucherUnit.entries) :
    refundVoucherOp serial s = s ∨ sparseWf Voucher.empty (refundVoucherOp serial s).voucherUnit.entries ∧
    (∀ i, voucherAt (refundVoucherOp serial s) i =
      if (voucherAt s i).state = some .active ∧ (voucherAt s i).owner = some serial then
        { voucherAt s i with state := some .voided, changes := bump (voucherAt s i).changes } else voucherAt s i) ∧
    (refundVoucherOp serial s).voucherUnit.heads = s.voucherUnit.heads ∧
    ∃ a, (refundVoucherOp serial s).salesUnit.refunds =
      s.salesUnit.refunds.map (fun x => if x.serial = serial then { x with vouchers := some a } else x) := by
  have written := (Keeps.refundVoucherOp (serial := serial) (Keeps.refl s)).entries store
  unfold refundVoucherOp at written ⊢
  split
  · exact .inl rfl
  · next f found =>
    split
    · exact .inl rfl
    · next new =>
      rw [found] at written
      dsimp only at written
      rw [if_neg new] at written
      obtain ⟨once, listed⟩ := vouchersIn_spec store serial (st := .active) (by simp)
      obtain ⟨voided, others, frame⟩ := voidEach_spec _ once s store
      have entry : ∀ i, voucherAt (updRefund serial (fun x => { x with vouchers := some (refundVouchers serial s).2 }) (refundVouchers serial s).1) i =
          voucherAt (forEach (vouchersIn s serial .active) (fun i => updVoucher i (fun v => { v with state := some .voided })) s) i := fun _ => rfl
      refine .inr ⟨written, fun i => (entry i).trans ?_, ?_, (refundVouchers serial s).2, ?_⟩
      · split
        · next active => exact voided i ((listed i).mpr active)
        · next other => exact others i fun member => other ((listed i).mp member)
      · show (forEach (vouchersIn s serial .active) (fun i => updVoucher i (fun v => { v with state := some .voided })) s).voucherUnit.heads = _
        rw [frame]
      · have same : (refundVouchers serial s).1.salesUnit = s.salesUnit := by simp
        simp only [updRefund, same]

namespace TableLaw
variable {s t : State} (law : TableLaw s)
include law

theorem of_units (entries : t.voucherUnit.entries = s.voucherUnit.entries) (heads : t.voucherUnit.heads = s.voucherUnit.heads) : TableLaw t := by
  have at' : ∀ i, voucherAt t i = voucherAt s i := fun i => by rw [voucherAt, entries]; rfl
  have head : ∀ n, headAt t n = headAt s n := fun n => by rw [headAt, heads]; rfl
  refine ⟨entries ▸ law.store, heads ▸ law.heads, fun i beyond => (at' i).trans (law.table i beyond), fun n inside => ?_, fun i j => ?_⟩
  · obtain ⟨l, once, first, links, members⟩ := law.chains n inside
    exact ⟨l, once, (head n).trans first, fun j i at'' => by rw [at']; exact links j i at'', fun i => by rw [at']; exact members i⟩
  · rw [at', at']
    exact law.codes i j

/-- Entries in another state or under another owner. -/
theorem restated (store : sparseWf Voucher.empty t.voucherUnit.entries) (heads : t.voucherUnit.heads = s.voucherUnit.heads)
    (each : ∀ i, voucherAt t i = voucherAt s i ∨ (voucherAt s i).state ≠ none ∧ (voucherAt t i).state ≠ none ∧
      (voucherAt t i).code = (voucherAt s i).code ∧ (voucherAt t i).link = (voucherAt s i).link) : TableLaw t := by
  have code : ∀ i, (voucherAt t i).code = (voucherAt s i).code := fun i =>
    (each i).elim (congrArg Voucher.code) fun ⟨_, _, same, _⟩ => same
  have link : ∀ i, (voucherAt t i).link = (voucherAt s i).link := fun i =>
    (each i).elim (congrArg Voucher.link) fun ⟨_, _, _, same⟩ => same
  have stands : ∀ i, (voucherAt t i).state ≠ none ↔ (voucherAt s i).state ≠ none := fun i =>
    (each i).elim (fun same => by rw [same]) fun ⟨before, after, _⟩ => iff_of_true after before
  have head : ∀ n, headAt t n = headAt s n := fun n => by rw [headAt, heads]; rfl
  refine ⟨store, heads ▸ law.heads, fun i beyond => ?_, fun n inside => ?_, fun i j standsI standsJ same => ?_⟩
  · refine (each i).elim (fun same => same.trans (law.table i beyond)) fun ⟨before, _⟩ => absurd ?_ before
    rw [law.table i beyond]
    rfl
  · obtain ⟨l, once, first, links, members⟩ := law.chains n inside
    exact ⟨l, once, (head n).trans first, fun j i at' => (link i).trans (links j i at'), fun i => by rw [stands, code]; exact members i⟩
  · exact law.codes i j ((stands i).mp standsI) ((stands j).mp standsJ) (by rw [← code, ← code, same])

/-- R130: an entry taken out. -/
theorem unlinked (i : Nat) : TableLaw (unlinkVoucher i s) := by
  obtain ⟨store, -, blank, others⟩ := unlinkVoucher_spec i s law.store
  obtain ⟨l, chain⟩ := law.chains _ (bucketOf_lt (voucherAt s i).code)
  obtain ⟨once, path, members⟩ := chainOf_iff.mp chain
  obtain ⟨heads, ⟨m, onceM, left, pathM⟩, elsewhere, links⟩ :=
    unlink_path law.store law.heads once (chain_length chain law.table) path
  generalize unlinkVoucher i s = t at *
  have same : ∀ x, x ≠ i → (voucherAt t x).state = (voucherAt s x).state ∧ (voucherAt t x).code = (voucherAt s x).code := fun x apart => by
    rw [(others x apart).1]
    exact ⟨rfl, rfl⟩
  have gone : (voucherAt t i).state = none := by rw [blank]; rfl
  refine ⟨store, heads, fun x beyond => ?_, fun n inside => ?_, fun x y standsX standsY code => ?_⟩
  · by_cases here : x = i
    · exact here ▸ blank
    · exact (others x here).2 (law.table x beyond)
  · by_cases here : n = bucketOf (voucherAt s i).code
    · subst here
      refine ⟨m, chainOf_iff.mpr ⟨onceM, pathM, fun x => (left x).trans ?_⟩⟩
      by_cases mine : x = i
      · subst mine
        exact iff_of_false (fun member => member.2 rfl) fun stands => stands.1 gone
      · rw [(same x mine).1, (same x mine).2, ← members]
        exact and_iff_left mine
    · obtain ⟨k, chain'⟩ := law.chains n inside
      obtain ⟨onceK, pathK, membersK⟩ := chainOf_iff.mp chain'
      have apart : ∀ x ∈ k, x ≠ i := fun x member mine => here (mine ▸ ((membersK x).mp member).2).symm
      refine ⟨k, chainOf_iff.mpr ⟨onceK, ?_, fun x => ?_⟩⟩
      · rw [elsewhere n here]
        refine pathK.congr fun x member => links x (fun inside' => here ?_) (apart x member)
        exact ((membersK x).mp member).2.symm.trans ((members x).mp inside').2
      · by_cases mine : x = i
        · subst mine
          exact iff_of_false (fun member => apart x member rfl) fun stands => stands.1 gone
        · rw [(same x mine).1, (same x mine).2]
          exact membersK x
  · have apartX : x ≠ i := fun mine => standsX (mine ▸ gone)
    have apartY : y ≠ i := fun mine => standsY (mine ▸ gone)
    rw [(same x apartX).1] at standsX
    rw [(same y apartY).1] at standsY
    rw [(same x apartX).2, (same y apartY).2] at code
    exact law.codes x y standsX standsY code

theorem removed (list : List Nat) : TableLaw (removeVouchers list s) := by
  unfold removeVouchers
  split
  · exact law
  · next i rest =>
    have each : TableLaw (forEach (i :: rest) unlinkVoucher s) := forEach_induct (p := TableLaw) (fun _ _ law => law.unlinked _) _ law
    exact each.of_units rfl rfl

/-- R133: an entry issued under a code that none carries, at the head of its chain. -/
theorem issued {kind b sh index code : Nat} (answer : issueVoucher kind b sh s = (t, .issued index code)) : TableLaw t := by
  obtain ⟨inside, empty, free, ⟨n, entry⟩, others, head⟩ := issue_found law.store law.heads answer
  have t' : t = (issueVoucher kind b sh s).1 := (congrArg Prod.fst answer).symm
  have keeps := Keeps.issueVoucher (kind := kind) (b := b) (sh := sh) (Keeps.refl s)
  rw [← t'] at keeps
  have blank : (voucherAt s index).state = none := by rw [empty]; rfl
  have carriers : ∀ i, (voucherAt s i).state ≠ none → (voucherAt s i).code ≠ code := fun i stands same => by
    obtain ⟨l, chain⟩ := law.chains _ (bucketOf_lt code)
    rw [lookupCode, walkChain_chain chain law.table] at free
    exact List.find?_eq_none.mp free i ((chain.members i).mpr ⟨stands, by rw [same]⟩) (beq_iff_eq.mpr same)
  refine ⟨keeps.entries law.store, keeps.heads law.heads, fun i beyond => ?_, fun m bound => ?_, fun i j standsI standsJ same => ?_⟩
  · rw [others i (by omega)]
    exact law.table i beyond
  · obtain ⟨l, chain⟩ := law.chains m bound
    obtain ⟨once, path, members⟩ := chainOf_iff.mp chain
    have fresh : index ∉ l := fun member => ((members index).mp member).1 blank
    have kept : Path (linkAt t) (headAt s m) l := path.congr fun x member => by
      rw [linkAt, others x fun same => fresh (same ▸ member), linkAt]
    by_cases here : m = bucketOf code
    · subst here
      refine ⟨index :: l, chainOf_iff.mpr ⟨List.nodup_cons.mpr ⟨fresh, once⟩, ⟨by rw [head, if_pos rfl], ?_⟩, fun i => ?_⟩⟩
      · rw [linkAt, entry]
        exact kept
      · by_cases mine : i = index
        · subst mine
          rw [entry]
          exact iff_of_true List.mem_cons_self ⟨by simp [newVoucher], rfl⟩
        · rw [List.mem_cons, or_iff_right mine, others i mine]
          exact members i
    · refine ⟨l, chainOf_iff.mpr ⟨once, by rw [head, if_neg here]; exact kept, fun i => ?_⟩⟩
      by_cases mine : i = index
      · subst mine
        rw [entry]
        exact iff_of_false fresh fun stands => here stands.2.symm
      · rw [others i mine]
        exact members i
  · by_cases mineI : i = index <;> by_cases mineJ : j = index
    · exact mineI.trans mineJ.symm
    · subst mineI
      rw [others j mineJ] at standsJ same
      rw [entry] at same
      exact absurd same.symm (carriers j standsJ)
    · subst mineJ
      rw [others i mineI] at standsI same
      rw [entry] at same
      exact absurd same (carriers i standsI)
    · rw [others i mineI] at standsI same
      rw [others j mineJ] at standsJ same
      exact law.codes i j standsI standsJ same

end TableLaw
end Sys2Proof.Machine
end

section
/-! The law of the PENDING vouchers (R128), kept by every move. -/

namespace Sys2Proof.Machine

theorem voucherAt_of_entries {s t : State} (same : t.voucherUnit.entries = s.voucherUnit.entries) (i : Nat) : voucherAt t i = voucherAt s i := by
  rw [voucherAt, same]; rfl

/-- R128: an entry PENDING for a context. -/
def PendingFor (s : State) (i b : Nat) : Prop := (voucherAt s i).state = some .pending ∧ (voucherAt s i).owner = some b

/-- What the law of the PENDING vouchers reads of an entry stands. -/
def EntryKept (s t : State) (i : Nat) : Prop :=
  (voucherAt t i).state = (voucherAt s i).state ∧ (voucherAt t i).owner = (voucherAt s i).owner ∧ (voucherAt t i).sh = (voucherAt s i).sh

theorem EntryKept.pendingFor {s t : State} {i : Nat} (h : EntryKept s t i) (b : Nat) : PendingFor t i b ↔ PendingFor s i b := by
  rw [PendingFor, h.1, h.2.1]; rfl

theorem EntryKept.of_eq {s t : State} {i : Nat} (h : voucherAt t i = voucherAt s i) : EntryKept s t i := by
  rw [EntryKept, h]
  exact ⟨rfl, rfl, rfl⟩

namespace PendingLaw
variable {s t : State} (law : PendingLaw s)
include law

/-- What is PENDING stands, and what the contexts list. -/
theorem kept (entries : ∀ i, (voucherAt t i).state = some .pending ∨ (voucherAt s i).state = some .pending → EntryKept s t i)
    (lists : ∀ b < 24, (∀ i, Selling (basketAt t b) ∧ i ∈ (basketAt t b).vouchers ↔ Selling (basketAt s b) ∧ i ∈ (basketAt s b).vouchers) ∧
      (Selling (basketAt t b) → (basketAt t b).vouchers.Nodup ∧
        ∀ i ∈ (basketAt t b).vouchers, (basketAt t b).sh = (basketAt s b).sh)) : PendingLaw t := by
  have pending : ∀ i b, PendingFor t i b ↔ PendingFor s i b := fun i b => by
    by_cases here : (voucherAt t i).state = some .pending ∨ (voucherAt s i).state = some .pending
    · exact (entries i here).pendingFor b
    · rw [not_or] at here
      exact ⟨fun after => absurd after.1 here.1, fun before => absurd before.1 here.2⟩
  refine ⟨fun i b => ?_, fun i state => ?_, fun b inside sells => ?_⟩
  · refine (pending i b).trans ((law.pending i b).trans (and_congr_right fun inside => ?_))
    exact ((lists b inside).1 i).symm
  · obtain ⟨state', owner, -⟩ := entries i (.inl state)
    rw [owner]
    exact law.owned i (state' ▸ state)
  · obtain ⟨once, shows⟩ := (lists b inside).2 sells
    refine ⟨once, fun i listed => ?_⟩
    obtain ⟨sold, listed'⟩ := ((lists b inside).1 i).mp ⟨sells, listed⟩
    obtain ⟨-, -, sh⟩ := entries i (.inr ((law.pending i b).mpr ⟨inside, sold, listed'⟩).1)
    rw [shows i listed, sh]
    exact (law.listed b inside sold).2 i listed'

theorem of_entries (entries : ∀ i, (voucherAt t i).state = some .pending ∨ (voucherAt s i).state = some .pending → EntryKept s t i)
    (baskets : t.basketUnit.baskets = s.basketUnit.baskets) : PendingLaw t :=
  law.kept entries fun b inside => by
    rw [basketAt_of_baskets baskets]
    exact ⟨fun _ => Iff.rfl, fun sells => ⟨(law.listed b inside sells).1, fun _ _ => rfl⟩⟩

theorem of_units (entries : t.voucherUnit.entries = s.voucherUnit.entries) (baskets : t.basketUnit.baskets = s.basketUnit.baskets) : PendingLaw t :=
  law.of_entries (fun i _ => .of_eq (voucherAt_of_entries entries i)) baskets

/-- A context replaced that lists the same vouchers while it sells. -/
theorem rewritten {b : Nat} {d : Basket} (h : Rewritten b d s t) (entries : t.voucherUnit.entries = s.voucherUnit.entries)
    (same : ∀ i, Selling d ∧ i ∈ d.vouchers ↔ Selling (basketAt s b) ∧ i ∈ (basketAt s b).vouchers)
    (listed : b < 24 → Selling d → d.vouchers.Nodup ∧ ∀ i ∈ d.vouchers, d.sh = (basketAt s b).sh) : PendingLaw t := by
  by_cases inside : b < s.basketUnit.baskets.length
  · refine law.kept (fun i _ => .of_eq (voucherAt_of_entries entries i)) fun n bound => ?_
    by_cases here : n = b
    · subst here
      rw [h.self inside]
      exact ⟨same, listed bound⟩
    · rw [h.other here]
      exact ⟨fun _ => Iff.rfl, fun sells => ⟨(law.listed n bound sells).1, fun _ _ => rfl⟩⟩
  · exact law.of_units entries (by rw [h, updAt, List.getElem?_eq_none (Nat.le_of_not_lt inside)])

/-- A context replaced that sells or not as before, with the vouchers it listed. -/
theorem noted {b : Nat} {d : Basket} (h : Rewritten b d s t) (entries : t.voucherUnit.entries = s.voucherUnit.entries)
    (selling : Selling d ↔ Selling (basketAt s b)) (same : d.sh = (basketAt s b).sh ∧ d.vouchers = (basketAt s b).vouchers) : PendingLaw t := by
  obtain ⟨sh, vouchers⟩ := same
  refine law.rewritten h entries (fun i => by rw [selling, vouchers]) fun bound sells => ?_
  rw [vouchers]
  exact ⟨(law.listed b bound (selling.mp sells)).1, fun _ _ => sh⟩

/-- A context replaced that sold nothing and sells nothing. -/
theorem unclaimed {b : Nat} {d : Basket} (h : Rewritten b d s t) (entries : t.voucherUnit.entries = s.voucherUnit.entries)
    (rests : ¬ Selling (basketAt s b)) (none : ¬ Selling d) : PendingLaw t :=
  law.rewritten h entries (fun _ => ⟨fun lists => absurd lists.1 none, fun lists => absurd lists.1 rests⟩) fun _ sells => absurd sells none

/-- A context that takes vouchers on or gives them up. -/
theorem reclaimed {b : Nat} {d : Basket} (length : s.basketUnit.baskets.length = 24) (inside : b < 24) (h : Rewritten b d s t)
    (self : ∀ i, PendingFor t i b ↔ Selling d ∧ i ∈ d.vouchers) (others : ∀ i b', b' ≠ b → (PendingFor t i b' ↔ PendingFor s i b'))
    (owned : ∀ i, (voucherAt t i).state = some .pending → (voucherAt t i).owner ≠ none)
    (shows : ∀ i b', b' ≠ b → PendingFor s i b' → (voucherAt t i).sh = (voucherAt s i).sh)
    (listed : Selling d → d.vouchers.Nodup ∧ ∀ i ∈ d.vouchers, (voucherAt t i).sh = d.sh) : PendingLaw t := by
  have here : basketAt t b = d := h.self (length ▸ inside)
  refine ⟨fun i b' => ?_, owned, fun b' bound => ?_⟩
  · by_cases same : b' = b
    · subst same
      rw [here]
      exact (self i).trans ⟨fun lists => ⟨inside, lists⟩, And.right⟩
    · rw [h.other same]
      exact (others i b' same).trans (law.pending i b')
  · by_cases same : b' = b
    · subst same
      rw [here]
      exact listed
    · rw [h.other same]
      intro sells
      obtain ⟨once, each⟩ := law.listed b' bound sells
      refine ⟨once, fun i member => (shows i b' same ((law.pending i b').mpr ⟨bound, sells, member⟩)).trans (each i member)⟩

/-- A context that gives vouchers up. -/
theorem givenUp {b : Nat} {d : Basket} {G : List Nat} (length : s.basketUnit.baskets.length = 24) (selling : Selling (basketAt s b))
    (own : ∀ i ∈ G, i ∈ (basketAt s b).vouchers) (h : Rewritten b d s t) (kept : ∀ i, i ∉ G → EntryKept s t i)
    (gone : ∀ i ∈ G, (voucherAt t i).state ≠ some .pending)
    (left : Selling d → d.sh = (basketAt s b).sh ∧ d.vouchers.Nodup ∧ ∀ i, i ∈ d.vouchers ↔ i ∈ (basketAt s b).vouchers ∧ i ∉ G)
    (all : ¬ Selling d → ∀ i ∈ (basketAt s b).vouchers, i ∈ G) : PendingLaw t := by
  have inside : b < 24 := length ▸ basket_inside fun free => by rw [Selling, free] at selling; simp at selling
  have before : ∀ i, PendingFor s i b ↔ i ∈ (basketAt s b).vouchers := fun i =>
    (law.pending i b).trans ⟨fun lists => lists.2.2, fun listed => ⟨inside, selling, listed⟩⟩
  refine law.reclaimed length inside h (fun i => ?_) (fun i b' other => ?_) (fun i state => ?_) (fun i b' other pending => ?_) fun sells => ?_
  · by_cases member : i ∈ G
    · refine ⟨fun pending => absurd pending.1 (gone i member), fun ⟨sells, listed⟩ => ?_⟩
      exact absurd member (((left sells).2.2 i).mp listed).2
    · rw [(kept i member).pendingFor, before]
      constructor
      · intro listed
        have sells : Selling d := Classical.byContradiction fun rests => member (all rests i listed)
        exact ⟨sells, ((left sells).2.2 i).mpr ⟨listed, member⟩⟩
      · exact fun ⟨sells, listed⟩ => (((left sells).2.2 i).mp listed).1
  · by_cases member : i ∈ G
    · refine ⟨fun pending => absurd pending.1 (gone i member), fun pending => absurd ?_ other⟩
      exact Option.some.inj (pending.2.symm.trans ((before i).mpr (own i member)).2)
    · exact (kept i member).pendingFor b'
  · have apart : i ∉ G := fun member => gone i member state
    obtain ⟨state', owner, -⟩ := kept i apart
    rw [owner]
    exact law.owned i (state' ▸ state)
  · have apart : i ∉ G := fun member => other (Option.some.inj (pending.2.symm.trans ((before i).mpr (own i member)).2))
    exact (kept i apart).2.2
  · obtain ⟨sh, once, members⟩ := left sells
    refine ⟨once, fun i listed => ?_⟩
    obtain ⟨old, apart⟩ := (members i).mp listed
    rw [(kept i apart).2.2, sh]
    exact (law.listed b inside selling).2 i old

end PendingLaw
end Sys2Proof.Machine
end

section
/-! The laws of the voucher table and of the PENDING vouchers (R127, R128, R130), kept by every move. -/

namespace Sys2Proof.Machine

theorem EntriesRemoved.kept {s t : State} {G : List Nat} (h : EntriesRemoved G s t) (i : Nat) (apart : i ∉ G) : EntryKept s t i := by
  rw [EntryKept, h.2 i apart]
  exact ⟨rfl, rfl, rfl⟩

theorem EntriesRemoved.gone {s t : State} {G : List Nat} (h : EntriesRemoved G s t) (i : Nat) (member : i ∈ G) : (voucherAt t i).state = none := by
  rw [h.1 i member]
  rfl

theorem EntriesRemoved.congr {s s' t t' : State} {G : List Nat} (h : EntriesRemoved G s t) (before : s'.voucherUnit = s.voucherUnit)
    (after : t'.voucherUnit = t.voucherUnit) : EntriesRemoved G s' t' := by
  have old : ∀ i, voucherAt s' i = voucherAt s i := fun i => by rw [voucherAt, before]; rfl
  have new : ∀ i, voucherAt t' i = voucherAt t i := fun i => by rw [voucherAt, after]; rfl
  exact ⟨fun i member => (new i).trans (h.1 i member), fun i apart => by rw [old, new]; exact h.2 i apart⟩

/-- R47: the vouchers of a basket that ends are out of the table. -/
theorem endBasket_removed {s : State} (b : Nat) (dest : BasketState) (store : sparseWf Voucher.empty s.voucherUnit.entries) :
    EntriesRemoved (basketAt s b).vouchers s (endBasket b dest s) := by
  have inner : (releaseCells (basketAt s b).sh (basketAt s b).seats s).voucherUnit = s.voucherUnit := by simp
  obtain ⟨-, removed, -⟩ := removeVouchers_spec (basketAt s b).vouchers (releaseCells (basketAt s b).sh (basketAt s b).seats s)
    (by rw [inner]; exact store)
  exact removed.congr inner.symm (endBasket_vouchers b dest s)

theorem TableLaw.ended {s : State} (law : TableLaw s) (b : Nat) (dest : BasketState) : TableLaw (endBasket b dest s) := by
  have inner : TableLaw (releaseCells (basketAt s b).sh (basketAt s b).seats s) := law.of_units (by simp) (by simp)
  exact (inner.removed (basketAt s b).vouchers).of_units (by rw [endBasket_vouchers]) (by rw [endBasket_vouchers])

theorem Freed.voucherUnit {b : Nat} {s u : State} (freed : Freed b s u) : u.voucherUnit = s.voucherUnit := by cases freed <;> rfl

theorem TableLaw.sold {s : State} (law : TableLaw s) (pending : PendingLaw s) (length : s.basketUnit.baskets.length = 24) {b : Nat} {m : Method}
    (selling : Selling (basketAt s b)) : TableLaw (saleMove b m s) := by
  have bound : b < 24 := length ▸ basket_inside fun free => not_selling_of free (by simp) selling
  obtain ⟨once, -⟩ := pending.listed b bound selling
  obtain ⟨store, each, heads⟩ := saleMove_vouchers b m law.store once
  refine law.restated store heads fun i => ?_
  rw [each]
  split
  · next listed =>
    obtain ⟨state, -⟩ := (pending.pending i b).mpr ⟨bound, selling, listed⟩
    exact .inr ⟨by rw [state]; simp, by simp, rfl, rfl⟩
  · exact .inl rfl

theorem PendingLaw.freed {s u : State} {b : Nat} (law : PendingLaw s) (freed : Freed b s u) : PendingLaw u := by
  cases freed
  exacts [law.of_units rfl rfl, law]

theorem TableLaw.move {P : Prop} {s t : State} (law : TableLaw s) (pending : PendingLaw s) (calls : CallsLaw s) (move : Move P s t) : TableLaw t := by
  have length := calls.baskets
  cases move
  case quiet same => exact law.of_units same.entries same.heads
  case reset same => exact (partsLaw_of salesLaw_reset houseLaw_reset).table.of_units same.entries same.heads
  case configured same => exact law.of_units same.entries same.heads
  case issued u b slot kind index code _ answer => exact (law.issued answer).of_units rfl rfl
  case removed b slot position _ =>
    exact (law.removed ((basketAt s b).vouchers[position]?).toList).of_units rfl rfl
  case ended => exact law.ended _ _
  case soldFree b m selecting _ _ =>
    have reserved : TableLaw (reservePlace s) := law.of_units rfl rfl
    have pending' : PendingLaw (reservePlace s) := pending.of_units rfl rfl
    exact reserved.sold pending' length (.inl selecting)
  case sold freed =>
    have left : TableLaw _ := law.of_units (congrArg VoucherUnit.entries freed.voucherUnit) (congrArg VoucherUnit.heads freed.voucherUnit)
    exact left.sold (pending.freed freed) (calls.freed freed).1.baskets freed.selling
  case returned u b freed =>
    have left : TableLaw (giveBackPlace u) :=
      law.of_units (congrArg VoucherUnit.entries freed.voucherUnit) (congrArg VoucherUnit.heads freed.voucherUnit)
    rcases Rewritten.returned b u with ⟨dl, k, same⟩ | same
    · rw [same]
      exact left.of_units (by simp) (by simp)
    · rw [same, expireBasket]
      exact (left.ended b .expired).of_units (by simp) (by simp)
  case unresolved freed => exact law.of_units (by simp [freed.voucherUnit]) (by simp [freed.voucherUnit])
  case refundVoided serial =>
    rcases refundVoucherOp_vouchers serial law.store with same | ⟨store, each, heads, -⟩
    · rw [same]
      exact law
    · refine law.restated store heads fun i => ?_
      rw [each]
      split
      · next active => exact .inr ⟨by rw [active.1]; simp, by simp, rfl, rfl⟩
      · exact .inl rfl
  case vouchersRemoved sh =>
    simp only [voucherShowRemovalOp]
    split
    · exact law
    · exact (law.removed (vouchersOfShow s sh)).of_units rfl rfl
  case used i f active kept same =>
    refine law.restated (sparsePut_wf _ _ _ _ law.store) rfl fun j => ?_
    by_cases here : j = i
    · subst here
      rw [voucherAt_updVoucher_self law.store]
      exact .inr ⟨by rw [active]; simp, by rcases kept with state | state <;> simp [state], same.1, same.2⟩
    · exact .inl (voucherAt_updVoucher_other law.store i f here)
  case entered => exact law.of_units rfl rfl
  all_goals exact law.of_units (by simp) (by simp)

end Sys2Proof.Machine
end

section
/-! The law of the PENDING vouchers (R128), kept by every move. -/

namespace Sys2Proof.Machine
/-- R17, R138: the vouchers of a show taken out of the table, its removal a step further. -/
theorem voucherShowRemovalOp_cases {s : State} (sh : Nat) (store : sparseWf Voucher.empty s.voucherUnit.entries) :
    voucherShowRemovalOp sh s = s ∨ ∃ x y : Removal, x ∈ s.showUnit.removals ∧ x.sh = sh ∧ x.step = .vouchers ∧
      (y.sh = sh ∧ y.step = .seats) ∧
      (voucherShowRemovalOp sh s).showUnit.removals = s.showUnit.removals.map (fun v => if v = x then y else v) ∧
      EntriesRemoved (vouchersOfShow s sh) s (voucherShowRemovalOp sh s) ∧
      ∀ i, i ∈ vouchersOfShow s sh ↔ (voucherAt s i).state ≠ none ∧ (voucherAt s i).sh = sh := by
  simp only [voucherShowRemovalOp]
  split
  · exact .inl rfl
  · next x found =>
    obtain ⟨member, here, step⟩ := removal_found found
    obtain ⟨-, out, -⟩ := removeVouchers_spec (vouchersOfShow s sh) s store
    refine .inr ⟨x, { x with step := .seats, vouchersRemoved := (vouchersOfShow s sh).length }, member, here, step, ⟨here, rfl⟩,
      by simp [updRemoval], out.congr rfl rfl, fun i => ?_⟩
    refine ((sparse_keys store (fun e => e.2.state.isSome && e.2.sh == sh)).2 i).trans ?_
    simp only [Bool.and_eq_true, Option.isSome_iff_ne_none, beq_iff_eq, voucherAt]
    exact ⟨And.right, fun mine => ⟨fun empty => mine.1 (by rw [empty]; rfl), mine⟩⟩

namespace PendingLaw
variable {s t : State}

/-- R53: a voucher issued for a context. -/
theorem issued {u : State} {b kind index code : Nat} {d : Basket} (law : PendingLaw s) (table : TableLaw s)
    (length : s.basketUnit.baskets.length = 24) (selling : Selling (basketAt s b))
    (answer : issueVoucher kind b (basketAt s b).sh s = (u, .issued index code)) (h : Rewritten b d s t)
    (entries : t.voucherUnit.entries = u.voucherUnit.entries) (sells : Selling d) (sh : d.sh = (basketAt s b).sh)
    (vouchers : d.vouchers = (basketAt s b).vouchers ++ [index]) : PendingLaw t := by
  have inside : b < 24 := length ▸ basket_inside fun free => not_selling_of free (by simp) selling
  obtain ⟨once, shows⟩ := law.listed b inside selling
  obtain ⟨-, empty, -, ⟨n, entry⟩, others, -⟩ := issue_found table.store table.heads answer
  have entry' : voucherAt t index = newVoucher kind b (basketAt s b).sh code (headAt s (bucketOf code)) n :=
    (voucherAt_of_entries entries index).trans entry
  have others' : ∀ i, i ≠ index → EntryKept s t i := fun i apart => .of_eq ((voucherAt_of_entries entries i).trans (others i apart))
  have blank : ∀ b', ¬ PendingFor s index b' := fun b' pending => by
    rw [PendingFor, empty] at pending
    exact absurd pending.1 (by simp [Voucher.empty])
  have fresh : index ∉ (basketAt s b).vouchers := fun member => blank b ((law.pending index b).mpr ⟨inside, selling, member⟩)
  refine law.reclaimed length inside h (fun i => ?_) (fun i b' other => ?_) (fun i state => ?_) (fun i b' _ pending => ?_) fun _ => ?_
  · rw [vouchers, List.mem_append, List.mem_singleton]
    by_cases here : i = index
    · subst here
      rw [PendingFor, entry']
      exact iff_of_true ⟨rfl, rfl⟩ ⟨sells, .inr rfl⟩
    · rw [(others' i here).pendingFor, or_iff_left here]
      exact (law.pending i b).trans ⟨fun lists => ⟨sells, lists.2.2⟩, fun lists => ⟨inside, selling, lists.2⟩⟩
  · by_cases here : i = index
    · subst here
      rw [PendingFor, entry']
      exact ⟨fun pending => absurd (Option.some.inj pending.2).symm other, fun pending => absurd pending (blank b')⟩
    · exact (others' i here).pendingFor b'
  · by_cases here : i = index
    · subst here
      rw [entry']
      simp [newVoucher]
    · obtain ⟨state', owner, -⟩ := others' i here
      rw [owner]
      exact law.owned i (state' ▸ state)
  · exact (others' i fun here => blank b' (here ▸ pending)).2.2
  · rw [vouchers]
    refine ⟨List.nodup_append.mpr ⟨once, List.nodup_singleton _, fun x old y new same => ?_⟩, fun i listed => ?_⟩
    · exact fresh (List.mem_singleton.mp new ▸ same ▸ old)
    · rcases List.mem_append.mp listed with old | new
      · rw [(others' i fun here => fresh (here ▸ old)).2.2, sh]
        exact shows i old
      · rw [List.mem_singleton.mp new, entry', sh]
        rfl

/-- R54: the voucher at a position removed. -/
theorem removed {b position : Nat} {d : Basket} (law : PendingLaw s) (store : sparseWf Voucher.empty s.voucherUnit.entries)
    (length : s.basketUnit.baskets.length = 24) (selling : Selling (basketAt s b)) (h : Rewritten b d s t)
    (unit : t.voucherUnit = (removeVouchers ((basketAt s b).vouchers[position]?).toList s).voucherUnit)
    (sells : Selling d) (sh : d.sh = (basketAt s b).sh) (vouchers : d.vouchers = (basketAt s b).vouchers.eraseIdx position) : PendingLaw t := by
  have inside : b < 24 := length ▸ basket_inside fun free => not_selling_of free (by simp) selling
  obtain ⟨once, -⟩ := law.listed b inside selling
  obtain ⟨-, spec, -⟩ := removeVouchers_spec ((basketAt s b).vouchers[position]?).toList s store
  have out : EntriesRemoved ((basketAt s b).vouchers[position]?).toList s t := spec.congr rfl unit
  refine law.givenUp length selling (fun i member => ?_) h out.kept (fun i member => by rw [out.gone i member]; simp)
    (fun _ => ⟨sh, vouchers ▸ once.eraseIdx _, fun i => ?_⟩) fun rests => absurd sells rests
  · exact List.mem_of_getElem? (Option.mem_toList.mp member)
  · rw [vouchers]
    by_cases room : position < (basketAt s b).vouchers.length
    · rw [List.getElem?_eq_getElem room, ← once.erase_getElem position room, once.mem_erase_iff]
      simp [and_comm]
    · rw [List.getElem?_eq_none (Nat.le_of_not_lt room), List.eraseIdx_of_length_le (Nat.le_of_not_lt room)]
      simp

theorem ended {b : Nat} {dest : BasketState} (law : PendingLaw s) (store : sparseWf Voucher.empty s.voucherUnit.entries)
    (length : s.basketUnit.baskets.length = 24) (selling : Selling (basketAt s b)) (ends : dest = .expired ∨ dest = .abandoned) :
    PendingLaw (endBasket b dest s) := by
  have out := endBasket_removed b dest store
  have ended : ¬ Selling ({ emptied dest (basketAt s b) with changes := bump (basketAt s b).changes }) :=
    not_selling_of (st := dest) rfl (by rcases ends with rfl | rfl <;> simp)
  exact law.givenUp length selling (fun _ => id) (.ended b dest s) out.kept (fun i member => by rw [out.gone i member]; simp)
    (fun sells => absurd sells ended) fun _ _ => id

theorem sold {b : Nat} {m : Method} (law : PendingLaw s) (store : sparseWf Voucher.empty s.voucherUnit.entries)
    (length : s.basketUnit.baskets.length = 24) (selling : Selling (basketAt s b)) : PendingLaw (saleMove b m s) := by
  have bound : b < 24 := length ▸ basket_inside fun free => not_selling_of free (by simp) selling
  obtain ⟨once, -⟩ := law.listed b bound selling
  obtain ⟨-, each, -⟩ := saleMove_vouchers b m store once
  have ended : ¬ Selling ({ soldBasket s.salesUnit.nextSerial (cfgOf s).receipts (basketAt s b) with changes := bump (basketAt s b).changes }) :=
    not_selling_of (st := .printing) rfl (by simp)
  exact law.givenUp length selling (fun _ => id) (.sold b m s) (fun i apart => .of_eq (by rw [each, if_neg apart]))
    (fun i member => by rw [each, if_pos member]; simp) (fun sells => absurd sells ended) fun _ _ => id

theorem returned {b : Nat} (law : PendingLaw s) (store : sparseWf Voucher.empty s.voucherUnit.entries)
    (length : s.basketUnit.baskets.length = 24) (selling : Selling (basketAt s b)) : PendingLaw (returnBasket b s) := by
  rcases Rewritten.returned b s with ⟨dl, k, same⟩ | same
  · rw [same]
    have h := (Rewritten.of_updBasket b (fun x => { x with state := .selecting, deadline := some dl }) (giveBackPlace s)).before (s := s) rfl
    exact law.noted (h.after (by simp)) (by simp [giveBackPlace, updSummary]) ⟨fun _ => selling, fun _ => .inl rfl⟩ ⟨rfl, rfl⟩
  · rw [same, expireBasket]
    have given : PendingLaw (giveBackPlace s) := law.of_units rfl rfl
    exact (given.ended (b := b) (dest := .expired) store length selling (.inl rfl)).of_units (by simp) (by simp)

theorem move {P : Prop} (law : PendingLaw s) (table : TableLaw s) (removals : RemovalsLaw s) (calls : CallsLaw s) (move : Move P s t) :
    PendingLaw t := by
  have length := calls.baskets
  cases move
  case quiet same => exact law.of_units same.entries same.baskets
  case reset same => exact (partsLaw_of salesLaw_reset houseLaw_reset).pending.of_units same.entries same.baskets
  case configured same => exact law.of_units same.entries same.baskets
  case recordClosed => exact law.of_units (by simp) (by rw [closeRecord_basketUnit])
  case noted b f noted =>
    obtain ⟨state, -, sh, -, vouchers, -⟩ := noted
    exact law.noted (.of_setBasket b f s) rfl (by rw [Selling, state]) ⟨sh, vouchers⟩
  case opened k sh d passed =>
    have rests : ¬ Selling (basketAt s (lowestContext s)) := not_selling_of (lowestContext_free passed).2 (by simp)
    refine law.rewritten (.of_updBasket ..) rfl (fun i => ⟨fun lists => absurd lists.2 List.not_mem_nil, fun lists => absurd lists.1 rests⟩)
      fun _ _ => ⟨List.nodup_nil, nofun⟩
  case called => exact law.noted (.of_setBasket ..) rfl Iff.rfl ⟨rfl, rfl⟩
  case answered => exact law.noted (.of_setBasket ..) rfl Iff.rfl ⟨rfl, rfl⟩
  case held b slot list call _ =>
    obtain ⟨q, h⟩ := Rewritten.answered (f := fun c => { c with seats := c.seats ++ list, deadline := extendedDeadline s c })
      (t := holdCells (basketAt s b).sh b list s) (by simp) (inside_of_call call)
    exact law.noted h (by simp) Iff.rfl ⟨rfl, rfl⟩
  case released b slot list call =>
    obtain ⟨q, h⟩ := Rewritten.answered (f := fun c => { c with seats := c.seats.filter (fun x => !list.contains x) })
      (t := releaseCells (basketAt s b).sh list s) (by simp) (inside_of_call call)
    exact law.noted h (by simp) Iff.rfl ⟨rfl, rfl⟩
  case issued u b slot kind index code call answer =>
    have unit : u.basketUnit = s.basketUnit := by
      rw [← show (issueVoucher kind b (basketAt s b).sh s).1 = u from congrArg Prod.fst answer]; simp
    obtain ⟨q, h⟩ := Rewritten.answered (f := fun c => { c with vouchers := c.vouchers ++ [index], deadline := extendedDeadline u c })
      (s := s) (t := u) (by rw [unit]) (inside_of_call call)
    have selling : Selling (basketAt s b) := .inl (calls.state_of_call call)
    exact law.issued table length selling answer h rfl selling rfl rfl
  case removed b slot position call =>
    obtain ⟨q, h⟩ := Rewritten.answered (f := fun c => { c with vouchers := c.vouchers.eraseIdx position })
      (t := removeVouchers ((basketAt s b).vouchers[position]?).toList s) (by simp) (inside_of_call call)
    have selling : Selling (basketAt s b) := .inl (calls.state_of_call call)
    exact law.removed table.store length selling h rfl selling rfl rfl
  case ended selecting _ ends => exact law.ended table.store length (.inl selecting) ends
  case soldFree b m selecting _ _ =>
    have reserved : PendingLaw (reservePlace s) := law.of_units rfl rfl
    exact reserved.sold table.store length (.inl selecting)
  case paying b selecting _ _ _ _ _ =>
    obtain ⟨r, h⟩ := Rewritten.paying b (reservePlace s)
    exact law.noted (h.before (s := s) rfl) (by simp [reservePlace, updSummary]) ⟨fun _ => .inl selecting, fun _ => .inr (.inl rfl)⟩ ⟨rfl, rfl⟩
  case sold freed =>
    exact (law.freed freed).sold (freed.voucherUnit ▸ table.store) (calls.freed freed).1.baskets freed.selling
  case returned freed =>
    exact (law.freed freed).returned (freed.voucherUnit ▸ table.store) (calls.freed freed).1.baskets freed.selling
  case unresolved u b freed =>
    exact (law.freed freed).noted (.unresolved b u) (by simp) ⟨fun _ => freed.selling, fun _ => .inr (.inr rfl)⟩ ⟨rfl, rfl⟩
  case collecting b d printing =>
    exact law.unclaimed (.of_updBasket ..) rfl (not_selling_of printing (by simp)) (not_selling_of (st := .collect) rfl (by simp))
  case closed b uncollected rested =>
    refine law.unclaimed (.closed b uncollected s) (by simp) ?_ (not_selling_of (st := .closed) rfl (by simp))
    exact rested.elim (fun state => not_selling_of state (by simp)) fun state => not_selling_of state (by simp)
  case retired b ended =>
    refine law.unclaimed (.of_updBasket ..) rfl (fun sells => ?_) (not_selling_of (st := .free) rfl (by simp))
    rcases sells with state | state | state <;> rw [state] at ended <;> cases ended
  case refundVoided serial =>
    rcases refundVoucherOp_vouchers serial table.store with same | ⟨-, each, -⟩
    · rw [same]
      exact law
    · refine law.of_entries (fun i pending => .of_eq ?_) (by simp)
      rw [each] at pending ⊢
      split at pending
      · next active => simp [active.1] at pending
      · next other => rw [if_neg other]
  case vouchersRemoved sh =>
    rcases voucherShowRemovalOp_cases sh table.store with same | ⟨x, y, member, rfl, -, -, -, out, listed⟩
    · rw [same]
      exact law
    · refine law.of_entries (fun i pending => ?_) (by simp)
      by_cases mine : i ∈ vouchersOfShow s x.sh
      · rw [out.gone i mine] at pending
        have state := pending.resolve_left (by simp)
        obtain ⟨b, owner⟩ := Option.ne_none_iff_exists'.mp (law.owned i state)
        obtain ⟨bound, sells, lists⟩ := (law.pending i b).mp ⟨state, owner⟩
        have sh := ((law.listed b bound sells).2 i lists).symm.trans ((listed i).mp mine).2
        exact absurd sh (CellsLaw.unnamed_of_removal removals member b bound sells)
      · exact out.kept i mine
  case used i f active kept same =>
    refine law.of_entries (fun j pending => .of_eq ?_) rfl
    by_cases here : j = i
    · subst here
      rw [voucherAt_updVoucher_self table.store, active] at pending
      rcases pending with after | before
      · rcases kept with state | state <;> simp [state] at after
      · cases before
    · exact voucherAt_updVoucher_other table.store i f here
  case entered => exact law.of_units rfl rfl
  all_goals exact law.of_units (by simp) (by simp)

end PendingLaw
end Sys2Proof.Machine
end

section
/-! The law of the SOLD cells and the sale records (R145, R151), kept by every move. -/

namespace Sys2Proof.Machine

/-! ### Counting SOLD cells -/

theorem soldList (s : State) (store : sparseWf Seat.spare s.seats) (serial : Nat) :
    ∃ C : List Nat, C.Nodup ∧ (∀ c, c ∈ C ↔ SoldCell s serial c) ∧ C.length = cellsSold s serial := by
  obtain ⟨rising, listed⟩ := sparse_keys store (fun e => e.2.state == .sold && e.2.owner == some serial)
  refine ⟨_, pairwise_lt_nodup rising, fun c => (listed c).trans ?_, by rw [List.length_map]; rfl⟩
  simp only [Bool.and_eq_true, beq_iff_eq, SoldCell, seatAt]
  exact ⟨And.right, fun sold => ⟨fun empty => by rw [empty] at sold; simp [Seat.spare] at sold, sold⟩⟩

theorem cellsSold_of_list {t : State} (store : sparseWf Seat.spare t.seats) {serial : Nat} {C : List Nat} (once : C.Nodup)
    (cells : ∀ c, SoldCell t serial c ↔ c ∈ C) : cellsSold t serial = C.length := by
  obtain ⟨D, onceD, members, length⟩ := soldList t store serial
  rw [← length]
  exact ((List.perm_ext_iff_of_nodup onceD once).mpr fun c => (members c).trans (cells c)).length_eq

theorem cellsSold_congr {s t : State} (before : sparseWf Seat.spare s.seats) (after : sparseWf Seat.spare t.seats) {serial : Nat}
    (same : ∀ c, SoldCell t serial c ↔ SoldCell s serial c) : cellsSold t serial = cellsSold s serial := by
  obtain ⟨C, once, members, length⟩ := soldList s before serial
  rw [← length]
  exact cellsSold_of_list after once fun c => (same c).trans (members c).symm

/-! ### What stays SOLD -/

/-- No cell becomes SOLD or ceases to be. -/
def SoldKept (s t : State) : Prop := ∀ serial c, SoldCell t serial c ↔ SoldCell s serial c

theorem soldKept_of_seats {s t : State} (seats : t.seats = s.seats) : SoldKept s t := fun serial c => by
  have same : seatAt t c = seatAt s c := by rw [seatAt, seats]; rfl
  rw [SoldCell, same]
  rfl

/-- A seat event on cells that are not SOLD and become none. -/
theorem soldKept_seatEvent {s t : State} (store : sparseWf Seat.spare s.seats) {n : Nat} {list : List Nat} {y : SeatState} {o : Option Nat}
    {counts : ShowRec → ShowRec} (seats : t.seats = (seatEvent n list y o counts s).seats)
    (before : ∀ i ∈ list, (seatOf s n i).state ≠ .sold) (after : y ≠ .sold) : SoldKept s t := by
  intro serial c
  have written : (seatEvent n list y o counts s).seats = (writeCells (list.map (poolIndex (showAt s n))) y o s).seats := by
    rw [seatEvent]
    cases list <;> rfl
  obtain ⟨-, -, cells, others⟩ := writeCells_spec (list.map (poolIndex (showAt s n))) y o s store
  have at' : seatAt t c = seatAt (writeCells (list.map (poolIndex (showAt s n))) y o s) c := by rw [seatAt, seats, written]; rfl
  rw [SoldCell, at']
  by_cases member : c ∈ list.map (poolIndex (showAt s n))
  · rw [cells c member]
    obtain ⟨i, listed, rfl⟩ := List.mem_map.mp member
    exact ⟨fun sold => absurd sold.1 after, fun sold => absurd sold.1 (before i listed)⟩
  · rw [others c member]
    rfl

/-- R22: what a selling context lists is HELD, not SOLD. -/
theorem CellsLaw.listed_not_sold {s : State} (law : CellsLaw s) (length : s.basketUnit.baskets.length = 24) {b : Nat}
    (selling : Selling (basketAt s b)) (i : Nat) (listed : i ∈ (basketAt s b).seats) : (seatOf s (basketAt s b).sh i).state ≠ .sold := by
  have bound : b < 24 := length ▸ basket_inside fun free => not_selling_of free (by simp) selling
  obtain ⟨state, -⟩ := (law.claimed (poolIndex (showAt s (basketAt s b).sh) i) b).mpr ⟨bound, selling, i, listed, rfl⟩
  rw [seatOf, state]
  simp

/-! ### The sale records, place by place -/

theorem saleAt_updSale {s : State} (store : sparseWf Sale.empty s.salesUnit.sales) (serial : Nat) (f : Sale → Sale) (p : Nat) :
    saleAt (updSale serial f s) p = if saleplace s serial = some p then f (saleAt s p) else saleAt s p := by
  unfold updSale
  split
  · next q found =>
    by_cases here : q = p
    · subst here
      rw [if_pos found]
      exact sparseGet_put_self _ _ _ _ store
    · rw [if_neg fun same => here (Option.some.inj (found.symm.trans same))]
      exact sparseGet_put_other _ _ _ _ _ here store
  · next none' => rw [if_neg (by rw [none']; simp)]

/-- A sale record that keeps its serial, its show and its count. -/
def SaleKept (x y : Sale) : Prop := y.serial = x.serial ∧ y.sh = x.sh ∧ y.refunded = x.refunded ∧ y.seatCount = x.seatCount

theorem SaleKept.refl (x : Sale) : SaleKept x x := ⟨rfl, rfl, rfl, rfl⟩

namespace SoldLaw
variable {s t : State} (law : SoldLaw s)
include law

theorem shown (p : Nat) (used : saleAt s p ≠ .empty) : (showAt s (saleAt s p).sh).state ≠ .empty := by
  obtain ⟨-, shown, -⟩ := law.sales p used
  exact shown

/-- R16: a removal of a show that a record names is at its sales. -/
theorem early (p : Nat) (used : saleAt s p ≠ .empty) (x : Removal) (member : x ∈ s.showUnit.removals) (here : x.sh = (saleAt s p).sh) :
    x.step = .sales := by
  obtain ⟨-, -, early, -⟩ := law.sales p used
  exact early x member here

/-- No cell becomes SOLD, the records that stay keep their cells, and the refunds stand. -/
theorem standing (next : s.salesUnit.nextSerial ≤ t.salesUnit.nextSerial)
    (cells : ∀ serial c, SoldCell t serial c → SoldCell s serial c)
    (records : ∀ p, saleAt t p ≠ .empty → saleAt s p ≠ .empty ∧ SaleKept (saleAt s p) (saleAt t p))
    (counts : ∀ p, saleAt t p ≠ .empty → cellsSold t (saleAt s p).serial = cellsSold s (saleAt s p).serial)
    (shows : ∀ p, saleAt t p ≠ .empty → (showAt t (saleAt s p).sh).state ≠ .empty ∧
      ∀ c, InRange s (saleAt s p).sh c → InRange t (saleAt s p).sh c)
    (removals : ∀ p, saleAt t p ≠ .empty → ∀ x ∈ t.showUnit.removals, x.sh = (saleAt s p).sh → x.step = .sales)
    (refunds : ∀ f ∈ t.salesUnit.refunds, (∃ g ∈ s.salesUnit.refunds, g.serial = f.serial ∧ g.seatsFreed = f.seatsFreed) ∧
      ∀ p, saleAt s p ≠ .empty → (saleAt s p).serial = f.serial → saleAt t p ≠ .empty)
    (serials : t.salesUnit.refunds.map Refund.serial = s.salesUnit.refunds.map Refund.serial) : SoldLaw t := by
  refine ⟨fun c serial sold => ?_, fun p used => ?_, fun f member => ?_, serials ▸ law.refundOnce⟩
  · obtain ⟨lower, ranges⟩ := law.sold c serial (cells serial c sold)
    refine ⟨Nat.lt_of_lt_of_le lower next, fun p used same => ?_⟩
    obtain ⟨old, serial', sh, -⟩ := records p used
    rw [sh]
    exact (shows p used).2 c (ranges p old (serial'.symm.trans same))
  · obtain ⟨old, serial, sh, refunded, count⟩ := records p used
    obtain ⟨inside, -, -, whole⟩ := law.sales p old
    rw [serial, sh, refunded, count]
    refine ⟨inside, (shows p used).1, removals p used, fun idle => (counts p used).trans (whole fun g member same => ?_)⟩
    have listed : g.serial ∈ t.salesUnit.refunds.map Refund.serial := serials ▸ List.mem_map.mpr ⟨g, member, rfl⟩
    obtain ⟨f, member', here⟩ := List.mem_map.mp listed
    exact idle f member' (here.trans same)
  · obtain ⟨⟨g, old, serial, freed⟩, stays⟩ := refunds f member
    obtain ⟨p, used, same, whole, count⟩ := law.refunds g old
    have used' := stays p used (same.trans serial)
    obtain ⟨-, serial', sh, refunded, seats⟩ := records p used'
    have counted := counts p used'
    rw [same, serial] at counted
    refine ⟨p, used', serial'.trans (same.trans serial), refunded.trans whole, counted.trans ?_⟩
    rw [seats, ← freed, ← serial]
    exact count

/-- The cells SOLD, the ranges, the removals and the records stand. -/
theorem kept (before : sparseWf Seat.spare s.seats) (after : sparseWf Seat.spare t.seats) (cells : SoldKept s t) (ranges : RangesKept s t)
    (removals : t.showUnit.removals = s.showUnit.removals) (sales : t.salesUnit.sales = s.salesUnit.sales)
    (next : t.salesUnit.nextSerial = s.salesUnit.nextSerial) (refunds : t.salesUnit.refunds = s.salesUnit.refunds) : SoldLaw t := by
  have at' : ∀ p, saleAt t p = saleAt s p := fun p => by rw [saleAt, sales]; rfl
  refine law.standing next.ge (fun serial c => (cells serial c).mp) (fun p used => ?_) (fun p _ => cellsSold_congr before after (cells _))
    (fun p used => ?_) (fun p used => ?_) (fun f member => ⟨⟨f, refunds ▸ member, rfl, rfl⟩, fun p used _ => by rw [at']; exact used⟩)
    (by rw [refunds])
  all_goals rw [at'] at used
  · rw [at']
    exact ⟨used, .refl _⟩
  · rw [ranges.state]
    exact ⟨law.shown p used, fun c => (ranges.inRange _ c).mpr⟩
  · rw [removals]
    exact law.early p used

end SoldLaw

/-- R57, R148: the record that a sale move adds. -/
theorem saleMove_records {s : State} (store : StoreLaw s.salesUnit) (b : Nat) (m : Method) :
    (saleMove b m s).salesUnit.nextSerial = s.salesUnit.nextSerial + 1 ∧ (saleMove b m s).salesUnit.refunds = s.salesUnit.refunds ∧
    ∃ q, saleAt s q = .empty ∧ ((saleAt (saleMove b m s) q).serial = s.salesUnit.nextSerial ∧
      (saleAt (saleMove b m s) q).sh = (basketAt s b).sh ∧ (saleAt (saleMove b m s) q).refunded = false ∧
      (saleAt (saleMove b m s) q).seatCount = (basketAt s b).seats.length) ∧ ∀ p, p ≠ q → saleAt (saleMove b m s) p = saleAt s p := by
  have unit := saleMove_salesUnit b m s
  have at' : ∀ p, saleAt (saleMove b m s) p = saleAt (updSale s.salesUnit.nextSerial
      (fun x => { x with seatCount := (basketAt s b).seats.length, changes := stepCount x.changes }) (createSale (basketAt s b) m s)) p :=
    fun p => by rw [saleAt, unit]; rfl
  have blank : saleAt s (lowestFree 0 s.salesUnit.sales) = .empty := sparseGet_lowestFree store.store 0
  have wf : sparseWf Sale.empty (createSale (basketAt s b) m s).salesUnit.sales := sparsePut_wf _ _ _ _ store.store
  have self : saleAt (createSale (basketAt s b) m s) (lowestFree 0 s.salesUnit.sales) =
      createdSale s (basketAt s b) m (saleAt s (lowestFree 0 s.salesUnit.sales)) := sparseGet_put_self _ _ _ _ store.store
  have others : ∀ p, p ≠ lowestFree 0 s.salesUnit.sales → saleAt (createSale (basketAt s b) m s) p = saleAt s p := fun p apart =>
    sparseGet_put_other _ _ _ _ _ apart.symm store.store
  have place : saleplace (createSale (basketAt s b) m s) s.salesUnit.nextSerial = some (lowestFree 0 s.salesUnit.sales) := by
    refine saleplace_eq wf (Nat.ne_of_gt store.first) (by rw [self]; rfl) fun p apart => ?_
    rw [others p apart]
    intro same
    by_cases used : saleAt s p = .empty
    · rw [used] at same
      exact absurd same (Nat.ne_of_lt store.first)
    · exact absurd same (Nat.ne_of_lt (store.serial used).2)
  refine ⟨by rw [unit, updSale_summary]; rfl, by rw [unit, updSale_summary]; rfl, lowestFree 0 s.salesUnit.sales, blank, ?_, fun p apart => ?_⟩
  · rw [at', saleAt_updSale wf, if_pos place, self]
    exact ⟨rfl, rfl, rfl, rfl⟩
  · rw [at', saleAt_updSale wf, if_neg (by rw [place]; exact fun same => apart (Option.some.inj same).symm)]
    exact others p apart

/-- R30, R39: the cells that a sale move sells. -/
theorem saleMove_sells {s : State} (store : sparseWf Seat.spare s.seats) (b : Nat) (m : Method)
    (before : ∀ i ∈ (basketAt s b).seats, (seatOf s (basketAt s b).sh i).state ≠ .sold) (serial c : Nat) :
    SoldCell (saleMove b m s) serial c ↔ SoldCell s serial c ∨
      serial = s.salesUnit.nextSerial ∧ c ∈ (basketAt s b).seats.map (poolIndex (showAt s (basketAt s b).sh)) := by
  obtain ⟨seats, -⟩ := saleMove_cells b m s
  have written : (saleMove b m s).seats = (writeCells ((basketAt s b).seats.map (poolIndex (showAt s (basketAt s b).sh))) .sold
      (some s.salesUnit.nextSerial) (createSale (basketAt s b) m s)).seats := by
    rw [seats, sellCells, seatEvent]
    have same : showAt (createSale (basketAt s b) m s) (basketAt s b).sh = showAt s (basketAt s b).sh := rfl
    rw [same]
    cases (basketAt s b).seats <;> rfl
  obtain ⟨-, -, cells, others⟩ := writeCells_spec ((basketAt s b).seats.map (poolIndex (showAt s (basketAt s b).sh))) .sold
    (some s.salesUnit.nextSerial) (createSale (basketAt s b) m s) store
  have at' : seatAt (saleMove b m s) c = seatAt (writeCells ((basketAt s b).seats.map (poolIndex (showAt s (basketAt s b).sh))) .sold
      (some s.salesUnit.nextSerial) (createSale (basketAt s b) m s)) c := by rw [seatAt, written]; rfl
  rw [SoldCell, at']
  by_cases member : c ∈ (basketAt s b).seats.map (poolIndex (showAt s (basketAt s b).sh))
  · rw [cells c member, Option.some_inj]
    obtain ⟨i, listed, here⟩ := List.mem_map.mp member
    have unsold : ¬ SoldCell s serial c := fun sold => before i listed (by rw [seatOf, here]; exact sold.1)
    exact ⟨fun sold => .inr ⟨sold.2.symm, member⟩, fun sold => ⟨rfl, (sold.resolve_left unsold).1.symm⟩⟩
  · rw [others c member]
    exact ⟨.inl, fun sold => sold.resolve_right fun taken => member taken.2⟩

namespace SoldLaw
variable {s t : State} (law : SoldLaw s)
include law

theorem saleMade {b : Nat} {m : Method} (store : StoreLaw s.salesUnit) (cells : CellsLaw s) (removals : RemovalsLaw s)
    (length : s.basketUnit.baskets.length = 24) (selling : Selling (basketAt s b)) (after : sparseWf Seat.spare (saleMove b m s).seats) :
    SoldLaw (saleMove b m s) := by
  have bound : b < 24 := length ▸ basket_inside fun free => not_selling_of free (by simp) selling
  obtain ⟨inside, shown, once, fits⟩ := cells.listed b bound selling
  obtain ⟨next, refunds, q, blank, ⟨serial, sh, whole, count⟩, others⟩ := saleMove_records store b m
  have sells := saleMove_sells cells.store b m (cells.listed_not_sold length selling)
  have kept := RangesKept.saleMove b m s
  have going := removals_saleMove b m s
  generalize saleMove b m s = t at *
  have fresh : ∀ c, ¬ SoldCell s s.salesUnit.nextSerial c := fun c sold => Nat.lt_irrefl _ (law.sold c _ sold).1
  have lower : ∀ p, saleAt s p ≠ .empty → (saleAt s p).serial ≠ s.salesUnit.nextSerial := fun p used =>
    Nat.ne_of_lt (store.serial used).2
  have counts : ∀ z, z ≠ s.salesUnit.nextSerial → cellsSold t z = cellsSold s z := fun z apart =>
    cellsSold_congr cells.store after fun c => (sells z c).trans (or_iff_left fun taken => apart taken.1)
  have used : ∀ p, saleAt t p ≠ .empty → p ≠ q → saleAt s p ≠ .empty := fun p taken apart => others p apart ▸ taken
  refine ⟨fun c z sold => ?_, fun p taken => ?_, fun f member => ?_, by rw [refunds]; exact law.refundOnce⟩
  · rcases (sells z c).mp sold with old | ⟨rfl, listed⟩
    · obtain ⟨below, ranges⟩ := law.sold c z old
      refine ⟨by rw [next]; exact Nat.lt_succ_of_lt below, fun p taken same => ?_⟩
      by_cases here : p = q
      · subst here
        exact absurd (same.symm.trans serial) (Nat.ne_of_lt below)
      · rw [others p here] at same taken ⊢
        exact (kept.inRange _ c).mpr (ranges p taken same)
    · refine ⟨by rw [next]; exact Nat.lt_succ_self _, fun p taken same => ?_⟩
      by_cases here : p = q
      · subst here
        obtain ⟨i, mine, rfl⟩ := List.mem_map.mp listed
        rw [sh]
        exact (kept.inRange _ _).mpr ⟨Nat.le_add_right _ _, Nat.add_lt_add_left (fits i mine) _⟩
      · rw [others p here] at same taken
        exact absurd same (lower p taken)
  · by_cases here : p = q
    · subst here
      rw [serial, sh, whole, count, kept.state, going]
      refine ⟨inside, shown, fun x member same => absurd same.symm (CellsLaw.unnamed_of_removal removals member b bound selling), fun _ => ?_⟩
      rw [cellsSold_of_list after (map_poolIndex_nodup once (showAt s (basketAt s b).sh)) fun c => ?_, List.length_map]
      · rfl
      · exact (sells _ c).trans ⟨fun sold => (sold.resolve_left (fresh c)).2, fun listed => .inr ⟨rfl, listed⟩⟩
    · have old := used p taken here
      rw [others p here, kept.state, going, refunds, counts _ (lower p old)]
      exact law.sales p old
  · rw [refunds] at member
    obtain ⟨p, old, same, unrefunded, counted⟩ := law.refunds f member
    have apart : p ≠ q := fun here => old (here ▸ blank)
    have later : f.serial ≠ s.salesUnit.nextSerial := same ▸ lower p old
    exact ⟨p, by rw [others p apart]; exact ⟨old, same, unrefunded, (counts _ later).trans counted⟩⟩

/-- R151: the cells of a sale in refund no more SOLD, and the refund's record told. -/
theorem freedAfter {serial n : Nat} {f : Refund} (found : refundOf s serial = some f) (before : sparseWf Seat.spare s.seats)
    (after : sparseWf Seat.spare t.seats) (kept : RangesKept s t) (removals : t.showUnit.removals = s.showUnit.removals)
    (sales : t.salesUnit.sales = s.salesUnit.sales) (next : t.salesUnit.nextSerial = s.salesUnit.nextSerial)
    (refunds : t.salesUnit.refunds = s.salesUnit.refunds.map (fun x => if x.serial = serial then { x with seatsFreed := some n } else x))
    (left : ∀ z c, SoldCell t z c ↔ SoldCell s z c ∧ z ≠ serial) : SoldLaw t := by
  have at' : ∀ p, saleAt t p = saleAt s p := fun p => by rw [saleAt, sales]; rfl
  have named : ∀ x : Refund, (if x.serial = serial then { x with seatsFreed := some n } else x).serial = x.serial := fun x => by split <;> rfl
  have counts : ∀ z, z ≠ serial → cellsSold t z = cellsSold s z := fun z apart =>
    cellsSold_congr before after fun c => (left z c).trans (and_iff_left apart)
  refine ⟨fun c z sold => ?_, fun p used => ?_, fun g member => ?_, ?_⟩
  · obtain ⟨below, ranges⟩ := law.sold c z ((left z c).mp sold).1
    rw [next]
    refine ⟨below, fun p used same => ?_⟩
    rw [at'] at used same ⊢
    exact (kept.inRange _ c).mpr (ranges p used same)
  · rw [at'] at used ⊢
    obtain ⟨inside, shown, first, whole⟩ := law.sales p used
    rw [kept.state, removals]
    refine ⟨inside, shown, first, fun idle => ?_⟩
    have idle' : ∀ g ∈ s.salesUnit.refunds, g.serial ≠ (saleAt s p).serial := fun g old same =>
      idle _ (refunds ▸ List.mem_map.mpr ⟨g, old, rfl⟩) ((named g).trans same)
    have apart : (saleAt s p).serial ≠ serial := fun here =>
      idle' f (List.mem_of_find?_eq_some found) ((by simpa using List.find?_some found : f.serial = serial).trans here.symm)
    rw [counts _ apart]
    exact whole idle'
  · rw [refunds] at member
    obtain ⟨x, old, rfl⟩ := List.mem_map.mp member
    obtain ⟨p, used, same, whole, count⟩ := law.refunds x old
    refine ⟨p, by rw [at']; exact used, by rw [at', named]; exact same, by rw [at']; exact whole, ?_⟩
    rw [at', named]
    split
    · next here =>
      rw [if_neg (by simp), here]
      exact cellsSold_of_list after List.nodup_nil fun c => iff_of_false (fun sold => ((left serial c).mp sold).2 rfl) List.not_mem_nil
    · next apart => rw [counts _ apart]; exact count
  · have same : Refund.serial ∘ (fun x => if x.serial = serial then { x with seatsFreed := some n } else x) = Refund.serial := funext named
    rw [refunds, List.map_map, same]
    exact law.refundOnce

/-- R151: a refund's seats freed. -/
theorem refundFreed (sales : SalesLaw s) (cells : CellsLaw s) (ranges : RangesLaw s) (serial : Nat)
    (after : sparseWf Seat.spare (refundFreeingOp serial s).seats) : SoldLaw (refundFreeingOp serial s) := by
  have kept := RangesKept.refundFreeingOp serial s
  have going := removals_refundFreeingOp serial s
  have unit := refundFreeingOp_sales serial s
  unfold refundFreeingOp at after kept going unit ⊢
  split
  · exact law
  · next f found =>
    split
    · exact law
    · next new =>
      rw [found] at after kept going unit
      dsimp only at after kept going unit
      rw [if_neg new] at after kept going unit
      obtain ⟨inside, -, p, used, same, show'⟩ := law.show_of_refund sales found
      obtain ⟨members, -⟩ := soldCells_spec cells.store (showAt s (saleShow s serial)) serial
      have mine : ∀ c, c ∈ soldCells s (showAt s (saleShow s serial)) serial ↔ SoldCell s serial c := fun c =>
        (members c).trans ⟨fun listed => ⟨listed.2.2.1, listed.2.2.2⟩, fun sold => by
          obtain ⟨low, high⟩ := (law.sold c serial sold).2 p used same
          rw [← show'] at low high
          exact ⟨low, high, sold⟩⟩
      obtain ⟨freed, others, -⟩ := cellEvent_spec (saleShow s serial) (soldCells s (showAt s (saleShow s serial)) serial) .free none
        (fun w => { w with
          sold := w.sold - (soldCells s (showAt s (saleShow s serial)) serial).length
          free := w.free + (soldCells s (showAt s (saleShow s serial)) serial).length }) cells.store (ranges.shows ▸ inside)
      have refunds : (updRefund serial (fun x => { x with seatsFreed := some (freeSold (saleShow s serial) serial s).2 })
          (freeSold (saleShow s serial) serial s).1).salesUnit.refunds = s.salesUnit.refunds.map (fun x =>
            if x.serial = serial then { x with seatsFreed := some (freeSold (saleShow s serial) serial s).2 } else x) := by
        have inner : (freeSold (saleShow s serial) serial s).1.salesUnit = s.salesUnit := by simp [freeSold]
        rw [updRefund, inner]
      have left : ∀ z c, SoldCell (updRefund serial (fun x => { x with seatsFreed := some (freeSold (saleShow s serial) serial s).2 })
          (freeSold (saleShow s serial) serial s).1) z c ↔ SoldCell s z c ∧ z ≠ serial := fun z c => by
        by_cases member : c ∈ soldCells s (showAt s (saleShow s serial)) serial
        · refine ⟨fun sold => ?_, fun ⟨sold, apart⟩ => absurd (Option.some.inj (sold.2.symm.trans ((mine c).mp member).2)) apart⟩
          have state := (congrArg Seat.state (freed c member)).symm.trans sold.1
          cases state
        · have here : seatAt (updRefund serial (fun x => { x with seatsFreed := some (freeSold (saleShow s serial) serial s).2 })
            (freeSold (saleShow s serial) serial s).1) c = seatAt s c := others c member
          rw [SoldCell, here]
          exact ⟨fun sold => ⟨sold, fun same => member ((mine c).mpr (same ▸ sold))⟩, And.left⟩
      show SoldLaw (updRefund serial (fun x => { x with seatsFreed := some (freeSold (saleShow s serial) serial s).2 })
        (freeSold (saleShow s serial) serial s).1)
      generalize freedNow : (freeSold (saleShow s serial) serial s).2 = n at *
      generalize updRefund serial (fun x => { x with seatsFreed := some n }) (freeSold (saleShow s serial) serial s).1 = t at *
      exact law.freedAfter (found := found) cells.store after kept going (by rw [unit]) (by rw [unit]) refunds left

end SoldLaw

/-! ### What the operations do to the sale records -/

/-- A record updated that keeps its serial is a record as before. -/
theorem sale_used_iff {next : Nat} {x y : Sale} (sound : x ≠ .empty → x.Sound next) (serial : y.serial = x.serial)
    (blank : x = .empty → y = .empty) : y ≠ .empty ↔ x ≠ .empty := by
  refine ⟨fun used empty => used (blank empty), fun used empty => ?_⟩
  have positive := (sound used).1
  rw [← serial, empty] at positive
  cases positive

/-- Where a found record alone is updated, each place keeps its serial, its show and its count. -/
theorem saleKept_updSale {s : State} (store : StoreLaw s.salesUnit) {serial : Nat} {f : Sale → Sale} (keeps : ∀ x, SaleKept x (f x)) (p : Nat) :
    SaleKept (saleAt s p) (saleAt (updSale serial f s) p) ∧ (saleAt (updSale serial f s) p ≠ .empty ↔ saleAt s p ≠ .empty) := by
  rw [saleAt_updSale store.store]
  split
  · next found =>
    obtain ⟨-, used, -⟩ := saleplace_found store.store found
    exact ⟨keeps _, sale_used_iff (fun used => (store.records p used).2) (keeps _).1 fun empty => absurd empty used⟩
  · exact ⟨.refl _, Iff.rfl⟩

theorem raiseReprints_records {s : State} (store : StoreLaw s.salesUnit) (serial n p : Nat) :
    SaleKept (saleAt s p) (saleAt (raiseReprints serial n s) p) ∧ (saleAt (raiseReprints serial n s) p ≠ .empty ↔ saleAt s p ≠ .empty) := by
  unfold raiseReprints
  split
  · split
    · exact saleKept_updSale store (fun _ => by exact ⟨rfl, rfl, rfl, rfl⟩) p
    · exact ⟨.refl _, Iff.rfl⟩
  · exact ⟨.refl _, Iff.rfl⟩

/-- R150: a refund begun on a record that is not REFUNDED, or a refusal. -/
theorem refundOp_cases {s : State} (store : StoreLaw s.salesUnit) (r : Request) : (∃ slot code, refundOp r s = finish slot code s) ∨
    ∃ q, (saleAt s q ≠ .empty ∧ (saleAt s q).serial = param3 r 0 ∧ (saleAt s q).refunded = false) ∧
      (∀ p, SaleKept (saleAt s p) (saleAt (refundOp r s) p) ∧ (saleAt (refundOp r s) p ≠ .empty ↔ saleAt s p ≠ .empty)) ∧
      (refundOp r s).salesUnit.refunds =
        s.salesUnit.refunds ++ [{ slot := r.slot, serial := param3 r 0, seatsFreed := none, vouchers := none }] := by
  simp only [refundOp]
  split
  · exact .inl ⟨_, _, rfl⟩
  · next passed =>
    refine .inr ?_
    cases found : saleplace s (param3 r 0) with
    | none =>
      have none' : findSale s (param3 r 0) = none := by rw [findSale, found]; rfl
      simp only [refundRefusal, none'] at passed
      split at passed
      · cases passed
      · split at passed <;> cases passed
    | some q =>
      have some' : findSale s (param3 r 0) = some (saleAt s q) := by rw [findSale, found]; rfl
      obtain ⟨-, used, serial⟩ := saleplace_found store.store found
      refine ⟨q, ⟨used, serial, ?_⟩, fun p => saleKept_updSale store (fun _ => by exact ⟨rfl, rfl, rfl, rfl⟩) p, ?_⟩
      · simp only [refundRefusal, some'] at passed
        split at passed
        · cases passed
        · split at passed
          · cases passed
          · split at passed
            · cases passed
            · next whole => exact Bool.eq_false_iff.mpr whole
      · rw [updSale_summary]

/-- R151: a refund written, or none that is ready. -/
theorem refundWrite_cases {s : State} (store : StoreLaw s.salesUnit) (serial : Nat) : refundWrite serial s = s ∨
    ∃ f, (f ∈ s.salesUnit.refunds ∧ f.serial = serial ∧ f.seatsFreed ≠ none ∧ f.vouchers ≠ none) ∧
      (∀ p, if saleplace s serial = some p then
          (saleAt (refundWrite serial s) p).serial = (saleAt s p).serial ∧ (saleAt (refundWrite serial s) p).sh = (saleAt s p).sh ∧
          (saleAt (refundWrite serial s) p).refunded = true
        else saleAt (refundWrite serial s) p = saleAt s p) ∧
      (refundWrite serial s).salesUnit.refunds = s.salesUnit.refunds.filter (fun x => x.serial != serial) := by
  simp only [refundWrite]
  split
  · exact .inl rfl
  · next f found =>
    split
    · next freed a freedNow answered =>
      have unit : ∀ slot code fields (u : State), (completeSlot slot code fields u).salesUnit = u.salesUnit := fun _ _ _ u => by simp
      refine .inr ⟨f, ⟨List.mem_of_find?_eq_some found, by simpa using List.find?_some found, by rw [freedNow]; simp, by rw [answered]; simp⟩,
        fun p => ?_, ?_⟩
      · have at' : ∀ slot code fields (u : State), saleAt (completeSlot slot code fields u) p = saleAt u p := fun _ _ _ u => by
          rw [saleAt, unit]; rfl
        have rest : ∀ (u : State) l, saleAt { u with salesUnit := { u.salesUnit with refunds := l } } p = saleAt u p := fun _ _ => rfl
        rw [at', rest]
        have written := fun amount => saleAt_updSale store.store serial (fun x => { x with
          refunded := true, refundAmount := some amount, changes := stepCount x.changes }) p
        split
        · next here =>
          simp only [if_pos here] at written
          rw [written]
          exact ⟨rfl, rfl, rfl⟩
        · next apart =>
          simp only [if_neg apart] at written
          exact written _
      · rw [unit, updSale_summary]
    · exact .inl rfl

/-- R154: the sales of a show removed, or its drop stopped. -/
theorem salesRemovalNow_cases {s : State} (store : StoreLaw s.salesUnit) (sh : Nat) : salesRemovalNow sh s = s ∨
    ∃ x ∈ s.showUnit.removals, (x.sh = sh ∧ x.step = .sales) ∧
      ((salesRemovalNow sh s).salesUnit = s.salesUnit ∧ (salesRemovalNow sh s).showUnit.removals = s.showUnit.removals.erase x ∨
        (∀ p, saleAt (salesRemovalNow sh s) p = if saleAt s p ≠ .empty ∧ (saleAt s p).sh = sh then .empty else saleAt s p) ∧
        (salesRemovalNow sh s).salesUnit.nextSerial = s.salesUnit.nextSerial ∧
        (salesRemovalNow sh s).salesUnit.refunds = s.salesUnit.refunds ∧
        ∃ y : Removal, (y.sh = sh ∧ y.step = .vouchers) ∧
          (salesRemovalNow sh s).showUnit.removals = s.showUnit.removals.map (fun v => if v = x then y else v)) := by
  simp only [salesRemovalNow]
  split
  · exact .inl rfl
  · next x found =>
    obtain ⟨member, here, step⟩ := removal_found found
    refine .inr ⟨x, member, ⟨here, step⟩, ?_⟩
    split
    · exact .inl ⟨by simp [updRemoval, stepShow], by simp [updRemoval, stepShow, setShow]⟩
    · refine .inr ⟨fun p => ?_, rfl, rfl, { x with step := .vouchers, salesRemoved := (removeSales sh s).2 }, ⟨here, rfl⟩, rfl⟩
      have used : (saleAt s p).serial ≠ 0 ↔ saleAt s p ≠ .empty := by
        refine ⟨fun positive empty => positive (by rw [empty]; rfl), fun used => (store.serial used).1⟩
      refine (sparseGet_filter Sale.empty s.salesUnit.sales store.store _ p).trans ?_
      by_cases mine : (saleAt s p).serial ≠ 0 ∧ (saleAt s p).sh = sh
      · rw [if_pos (mine.imp_left used.mp), if_neg]
        simp only [saleAt] at mine
        simp [mine.1, mine.2]
      · have other : ¬ (saleAt s p ≠ .empty ∧ (saleAt s p).sh = sh) := fun both => mine (both.imp_left used.mpr)
        rw [if_neg other, if_pos]
        · rfl
        · simp only [saleAt] at mine
          simpa [imp_iff_not_or] using mine

namespace SoldLaw
variable {s t : State} (law : SoldLaw s)
include law

/-- Records updated that keep their serials, their shows and their counts. -/
theorem noted (seats : t.seats = s.seats) (before : sparseWf Seat.spare s.seats) (ranges : RangesKept s t)
    (removals : t.showUnit.removals = s.showUnit.removals) (next : t.salesUnit.nextSerial = s.salesUnit.nextSerial)
    (records : ∀ p, SaleKept (saleAt s p) (saleAt t p) ∧ (saleAt t p ≠ .empty ↔ saleAt s p ≠ .empty))
    (refunds : ∀ f ∈ t.salesUnit.refunds, ∃ g ∈ s.salesUnit.refunds, g.serial = f.serial ∧ g.seatsFreed = f.seatsFreed)
    (serials : t.salesUnit.refunds.map Refund.serial = s.salesUnit.refunds.map Refund.serial) : SoldLaw t := by
  have cells := soldKept_of_seats seats
  refine law.standing next.ge (fun serial c => (cells serial c).mp) (fun p used => ⟨(records p).2.mp used, (records p).1⟩)
    (fun p _ => cellsSold_congr before (seats ▸ before) (cells _)) (fun p used => ?_) (fun p used => ?_)
    (fun f member => ⟨refunds f member, fun p used _ => (records p).2.mpr used⟩) serials
  · rw [ranges.state]
    exact ⟨law.shown p ((records p).2.mp used), fun c => (ranges.inRange _ c).mpr⟩
  · rw [removals]
    exact law.early p ((records p).2.mp used)

/-- R150: a refund begun. -/
theorem refundBegun (sales : StoreLaw s.salesUnit) (before : sparseWf Seat.spare s.seats) (r : Request)
    (single : refundOf s (param3 r 0) = none) : SoldLaw (refundOp r s) := by
  have frame : (refundOp r s).seats = s.seats ∧ (refundOp r s).showUnit = s.showUnit := by simp
  obtain ⟨-, unit⟩ := sales.refundBegun r
  rcases refundOp_cases sales r with ⟨slot, code, refused⟩ | ⟨q, ⟨usedQ, serialQ, whole⟩, records, refunds⟩
  · rw [refused]
    exact law.kept before (by simpa using before) (soldKept_of_seats (by simp)) (.of_unit (by simp)) (by simp) (by simp) (by simp) (by simp)
  · have next : (refundOp r s).salesUnit.nextSerial = s.salesUnit.nextSerial := by rw [unit]
    generalize refundOp r s = t at *
    have cells := soldKept_of_seats frame.1
    have counts : ∀ z, cellsSold t z = cellsSold s z := fun z => cellsSold_congr before (frame.1 ▸ before) (cells z)
    have ranges : RangesKept s t := .of_unit frame.2
    have idle : ∀ f ∈ s.salesUnit.refunds, f.serial ≠ param3 r 0 := fun f member => by simpa using List.find?_eq_none.mp single f member
    refine ⟨fun c z sold => ?_, fun p used => ?_, fun f member => ?_, ?_⟩
    · obtain ⟨lower, inside⟩ := law.sold c z ((cells z c).mp sold)
      rw [next]
      refine ⟨lower, fun p used same => ?_⟩
      obtain ⟨⟨serial, sh, -⟩, old⟩ := records p
      rw [sh]
      exact (ranges.inRange _ c).mpr (inside p (old.mp used) (serial.symm.trans same))
    · obtain ⟨⟨serial, sh, refunded, count⟩, old⟩ := records p
      obtain ⟨inside, shown, first, stands⟩ := law.sales p (old.mp used)
      rw [serial, sh, refunded, count, counts, ranges.state, frame.2]
      exact ⟨inside, shown, first, fun none => stands fun f member => none f (by rw [refunds]; exact List.mem_append_left _ member)⟩
    · rw [refunds] at member
      rcases List.mem_append.mp member with old | new
      · obtain ⟨p, used, same, unrefunded, count⟩ := law.refunds f old
        obtain ⟨⟨serial, sh, refunded, seats⟩, taken⟩ := records p
        exact ⟨p, taken.mpr used, serial.trans same, refunded.trans unrefunded, by rw [counts, seats]; exact count⟩
      · obtain rfl := List.mem_singleton.mp new
        obtain ⟨⟨serial, sh, refunded, seats⟩, taken⟩ := records q
        obtain ⟨-, -, -, stands⟩ := law.sales q usedQ
        refine ⟨q, taken.mpr usedQ, serial.trans serialQ, refunded.trans whole, ?_⟩
        rw [counts, seats, if_pos rfl]
        dsimp only
        rw [← serialQ, stands (by rw [serialQ]; exact idle), whole, if_neg (by simp)]
    · rw [refunds, List.map_append, List.map_singleton]
      refine List.nodup_append.mpr ⟨law.refundOnce, List.nodup_singleton _, fun x old y new same => ?_⟩
      obtain ⟨f, member, rfl⟩ := List.mem_map.mp old
      exact idle f member (same.trans (List.mem_singleton.mp new))

/-- R151: a refund written. -/
theorem refundWritten (sales : StoreLaw s.salesUnit) (before : sparseWf Seat.spare s.seats) (serial : Nat) : SoldLaw (refundWrite serial s) := by
  have frame : (refundWrite serial s).seats = s.seats ∧ (refundWrite serial s).showUnit = s.showUnit := by simp
  obtain ⟨-, unit⟩ := sales.refundWritten serial
  rcases refundWrite_cases sales serial with same | ⟨f, ⟨member, named, freed, -⟩, records, refunds⟩
  · rw [same]
    exact law
  · have next : (refundWrite serial s).salesUnit.nextSerial = s.salesUnit.nextSerial := by rw [unit]
    generalize refundWrite serial s = t at *
    have cells := soldKept_of_seats frame.1
    have counts : ∀ z, cellsSold t z = cellsSold s z := fun z => cellsSold_congr before (frame.1 ▸ before) (cells z)
    have ranges : RangesKept s t := .of_unit frame.2
    have zero : cellsSold s serial = 0 := by
      obtain ⟨p, -, -, -, count⟩ := law.refunds f member
      rw [named, if_neg freed] at count
      exact count
    have stays : ∀ g ∈ t.salesUnit.refunds, g ∈ s.salesUnit.refunds ∧ g.serial ≠ serial := fun g left => by
      rw [refunds] at left
      simpa using List.mem_filter.mp left
    have old : ∀ p, saleAt t p ≠ .empty →
        saleAt s p ≠ .empty ∧ (saleAt t p).serial = (saleAt s p).serial ∧ (saleAt t p).sh = (saleAt s p).sh :=
      fun p used => by
        have record := records p
        split at record
        · next here =>
          obtain ⟨-, taken, -⟩ := saleplace_found sales.store here
          exact ⟨taken, record.1, record.2.1⟩
        · rw [record] at used ⊢
          exact ⟨used, rfl, rfl⟩
    refine ⟨fun c z sold => ?_, fun p used => ?_, fun g left => ?_, ?_⟩
    · obtain ⟨lower, inside⟩ := law.sold c z ((cells z c).mp sold)
      rw [next]
      refine ⟨lower, fun p used same => ?_⟩
      obtain ⟨taken, serial', sh⟩ := old p used
      rw [sh]
      exact (ranges.inRange _ c).mpr (inside p taken (serial'.symm.trans same))
    · obtain ⟨taken, serial', sh⟩ := old p used
      obtain ⟨inside, shown, first, stands⟩ := law.sales p taken
      rw [serial', sh, counts, ranges.state, frame.2]
      refine ⟨inside, shown, first, fun idle => ?_⟩
      have record := records p
      split at record
      · next here =>
        obtain ⟨-, -, mine⟩ := saleplace_found sales.store here
        rw [record.2.2, if_pos rfl, mine]
        exact zero
      · next apart =>
        rw [record]
        refine stands fun g member' same => idle g ?_ same
        rw [refunds]
        refine List.mem_filter.mpr ⟨member', bne_iff_ne.mpr fun here => apart ?_⟩
        rw [← here, same]
        exact sales.place taken
    · obtain ⟨member', apart⟩ := stays g left
      obtain ⟨p, used, same, whole, count⟩ := law.refunds g member'
      have record := records p
      rw [if_neg] at record
      · exact ⟨p, by rw [record]; exact used, by rw [record]; exact same, by rw [record]; exact whole, by rw [counts, record]; exact count⟩
      · intro here
        obtain ⟨-, -, mine⟩ := saleplace_found sales.store here
        exact apart (same.symm.trans mine)
    · rw [refunds]
      exact law.refundOnce.sublist (List.filter_sublist.map _)

end SoldLaw

namespace SoldLaw
variable {s t : State} (law : SoldLaw s)
include law

/-- R16: a removal past its sales names no show that a record names. -/
theorem unnamed {x : Removal} (member : x ∈ s.showUnit.removals) (later : x.step ≠ .sales) (p : Nat) (used : saleAt s p ≠ .empty) :
    (saleAt s p).sh ≠ x.sh := fun here => later (law.early p used x member here.symm)

/-- R154: the records of a show removed. -/
theorem salesRemoved (sales : StoreLaw s.salesUnit) (before : sparseWf Seat.spare s.seats) (sh : Nat) (single : refundOfShow s sh = none) :
    SoldLaw (salesRemovalNow sh s) := by
  have seats : (salesRemovalNow sh s).seats = s.seats := by simp
  have ranges := RangesKept.salesRemovalNow sh s
  rcases salesRemovalNow_cases sales sh with same | ⟨x, member, ⟨here, step⟩,
    ⟨unit, removals⟩ | ⟨records, next, refunds, y, ⟨shY, stepY⟩, removals⟩⟩
  · rw [same]
    exact law
  all_goals
    generalize salesRemovalNow sh s = t at *
    have cells := soldKept_of_seats seats
    have counts : ∀ z, cellsSold t z = cellsSold s z := fun z => cellsSold_congr before (seats ▸ before) (cells z)
  · have at' : ∀ p, saleAt t p = saleAt s p := fun p => by rw [saleAt, unit]; rfl
    refine law.standing (by rw [unit]) (fun z c => (cells z c).mp) (fun p used => ?_) (fun p _ => counts _) (fun p used => ?_) (fun p used => ?_)
      (fun f left => ⟨⟨f, by rw [← unit]; exact left, rfl, rfl⟩, fun p used _ => by rw [at']; exact used⟩) (by rw [unit])
    all_goals rw [at'] at used
    · rw [at']
      exact ⟨used, .refl _⟩
    · rw [ranges.state]
      exact ⟨law.shown p used, fun c => (ranges.inRange _ c).mpr⟩
    · rw [removals]
      exact fun v left => law.early p used v (List.mem_of_mem_erase left)
  · have stays : ∀ p, saleAt t p ≠ .empty → saleAt t p = saleAt s p ∧ saleAt s p ≠ .empty ∧ (saleAt s p).sh ≠ sh := fun p used => by
      have record := records p
      split at record
      · exact absurd record used
      · next other =>
        rw [record] at used
        exact ⟨record, used, fun same => other ⟨used, same⟩⟩
    refine law.standing next.ge (fun z c => (cells z c).mp) (fun p used => ?_) (fun p _ => counts _) (fun p used => ?_) (fun p used => ?_)
      (fun f left => ⟨⟨f, refunds ▸ left, rfl, rfl⟩, fun p used same => ?_⟩) (by rw [refunds])
    · obtain ⟨same, old, -⟩ := stays p used
      rw [same]
      exact ⟨old, .refl _⟩
    · obtain ⟨-, old, -⟩ := stays p used
      rw [ranges.state]
      exact ⟨law.shown p old, fun c => (ranges.inRange _ c).mpr⟩
    · obtain ⟨-, old, apart⟩ := stays p used
      intro v left same
      rw [removals] at left
      obtain ⟨w, was, rfl⟩ := List.mem_map.mp left
      split at same
      · exact absurd (same.symm.trans shY) apart
      · next other =>
        rw [if_neg other]
        exact law.early p old w was same
    · rw [refunds] at left
      rw [records, if_neg]
      · exact used
      · rintro ⟨-, mine⟩
        have none' := List.find?_eq_none.mp (Option.map_eq_none_iff.mp single) f left
        rw [findSale, ← same, sales.place used] at none'
        simp [mine] at none'

/-- One show record replaced that no sale record names; the cells of the other ranges stand. -/
theorem oneShow {n : Nat} (elsewhere : ∀ m, m ≠ n → showAt t m = showAt s m) (unnamed : ∀ p, saleAt s p ≠ .empty → (saleAt s p).sh ≠ n)
    (unit : t.salesUnit = s.salesUnit) (before : sparseWf Seat.spare s.seats) (after : sparseWf Seat.spare t.seats)
    (cells : ∀ m < 48, m ≠ n → (showAt s m).state ≠ .empty → ∀ c, InRange s m c → seatAt t c = seatAt s c)
    (fewer : ∀ z c, SoldCell t z c → SoldCell s z c)
    (removals : ∀ x ∈ t.showUnit.removals, x.sh ≠ n → x ∈ s.showUnit.removals) : SoldLaw t := by
  have at' : ∀ p, saleAt t p = saleAt s p := fun p => by rw [saleAt, unit]; rfl
  refine law.standing (by rw [unit]) fewer (fun p used => ?_) (fun p used => ?_) (fun p used => ?_) (fun p used => ?_)
    (fun f left => ⟨⟨f, by rw [← unit]; exact left, rfl, rfl⟩, fun p used _ => by rw [at']; exact used⟩) (by rw [unit])
  all_goals rw [at'] at used
  · rw [at']
    exact ⟨used, .refl _⟩
  · obtain ⟨inside, shown, -⟩ := law.sales p used
    refine cellsSold_congr before after fun c => ⟨fewer _ c, fun sold => ?_⟩
    rw [SoldCell, cells _ inside (unnamed p used) shown c ((law.sold c _ sold).2 p used rfl)]
    exact sold
  · have record := elsewhere _ (unnamed p used)
    refine ⟨by rw [record]; exact law.shown p used, fun c inside => ?_⟩
    rw [InRange, record]
    exact inside
  · exact fun x left same => law.early p used x (removals x left (same ▸ unnamed p used)) same

/-- Cells of a range that no sale record names, none of them SOLD afterwards. -/
theorem inOneRange {n : Nat} (ranges : RangesLaw s) (inside : n < 48) (allocated : Allocated s n) (elsewhere : ∀ m, m ≠ n → showAt t m = showAt s m)
    (unnamed : ∀ p, saleAt s p ≠ .empty → (saleAt s p).sh ≠ n) (unit : t.salesUnit = s.salesUnit) (before : sparseWf Seat.spare s.seats)
    (after : sparseWf Seat.spare t.seats) (within : ∀ c, InRange s n c → (seatAt t c).state ≠ .sold)
    (outside : ∀ c, ¬ InRange s n c → seatAt t c = seatAt s c) (removals : ∀ x ∈ t.showUnit.removals, x.sh ≠ n → x ∈ s.showUnit.removals) :
    SoldLaw t := by
  refine law.oneShow elsewhere unnamed unit before after (fun m insideM apart shown c range => ?_) (fun z c sold => ?_) removals
  · exact outside c (ranges.apart m insideM n inside apart (.inl shown) allocated c range)
  · by_cases here : InRange s n c
    · exact absurd sold.1 (within c here)
    · rw [SoldCell, outside c here] at sold
      exact sold

/-- R9: a show in another state, none of them EMPTY. -/
theorem entered {n : Nat} {st : ShowState} (before : sparseWf Seat.spare s.seats) (shown : st ≠ .empty) :
    SoldLaw (updShow n (fun w => { w with state := st }) s) := by
  have each : ∀ m, showAt (updShow n (fun w => { w with state := st }) s) m = showAt s m ∨ m = n ∧
      showAt (updShow n (fun w => { w with state := st }) s) m = { showAt s m with state := st, changes := bump (showAt s m).changes } :=
    fun m => getD_updAt ..
  refine law.standing (Nat.le_refl _) (fun _ _ => id) (fun p used => ⟨used, .refl _⟩) (fun p _ => cellsSold_congr before before fun _ => Iff.rfl)
    (fun p used => ?_) (fun p used => law.early p used) (fun f left => ⟨⟨f, left, rfl, rfl⟩, fun p used _ => used⟩) rfl
  rcases each (saleAt s p).sh with same | ⟨-, written⟩
  · refine ⟨by rw [same]; exact law.shown p used, fun c inside => ?_⟩
    rw [InRange, same]
    exact inside
  · refine ⟨by rw [written]; exact shown, fun c inside => ?_⟩
    rw [InRange, written]
    exact inside

end SoldLaw

theorem returnBasket_sales (b : Nat) (s : State) : (returnBasket b s).salesUnit = (giveBackPlace s).salesUnit := by
  rcases Rewritten.returned b s with ⟨dl, k, same⟩ | same
  · rw [same]
    simp
  · rw [same]
    simp [expireBasket]

theorem returnBasket_removals (b : Nat) (s : State) : (returnBasket b s).showUnit.removals = s.showUnit.removals := by
  rcases Rewritten.returned b s with ⟨dl, k, same⟩ | same
  · rw [same]
    simp [giveBackPlace, updSummary]
  · rw [same, expireBasket]
    simpa using removals_endBasket b .expired (giveBackPlace s)

/-- R47: a basket that ends leaves no cell SOLD. -/
theorem endBasket_soldKept {s : State} (cells : CellsLaw s) (length : s.basketUnit.baskets.length = 24) {b : Nat} {dest : BasketState}
    (selling : Selling (basketAt s b)) : SoldKept s (endBasket b dest s) :=
  soldKept_seatEvent cells.store (endBasket_cells b dest s).1 (cells.listed_not_sold length selling) (by simp)

theorem returnBasket_soldKept {s : State} (cells : CellsLaw s) (length : s.basketUnit.baskets.length = 24) {b : Nat}
    (selling : Selling (basketAt s b)) : SoldKept s (returnBasket b s) := by
  rcases Rewritten.returned b s with ⟨dl, k, same⟩ | same
  · rw [same]
    exact soldKept_of_seats (by simp [giveBackPlace, updSummary])
  · rw [same, expireBasket]
    have given : CellsLaw (giveBackPlace s) := cells.of_units rfl rfl rfl rfl rfl
    have ended := endBasket_soldKept given (dest := .expired) length selling
    exact fun z c => (soldKept_of_seats (by simp) z c).trans (ended z c)

theorem BlockMove.soldKept {s t : State} {n : Nat} {x y : SeatState} (h : BlockMove n x y s t) (store : sparseWf Seat.spare s.seats)
    (before : x ≠ .sold) (after : y ≠ .sold) : SoldKept s t := by
  cases h with
  | refused seats => exact soldKept_of_seats seats
  | moved _ _ _ _ was _ _ seats => exact soldKept_seatEvent store seats (fun i listed => by rw [was i listed]; exact before) after

namespace SoldLaw
variable {s t : State}

theorem freed {u : State} {b : Nat} (law : SoldLaw s) (cells : CellsLaw s) (freed : Freed b s u) : SoldLaw u := by
  cases freed
  exacts [law.kept cells.store cells.store (soldKept_of_seats rfl) (.of_unit rfl) rfl rfl rfl rfl, law]

/-- Removals begun or moved on. -/
theorem removing (law : SoldLaw s) (seats : t.seats = s.seats) (before : sparseWf Seat.spare s.seats) (ranges : RangesKept s t)
    (unit : t.salesUnit = s.salesUnit)
    (removals : ∀ p, saleAt s p ≠ .empty → ∀ x ∈ t.showUnit.removals, x.sh = (saleAt s p).sh → x.step = .sales) : SoldLaw t := by
  have at' : ∀ p, saleAt t p = saleAt s p := fun p => by rw [saleAt, unit]; rfl
  have cells := soldKept_of_seats seats
  refine law.standing (by rw [unit]) (fun z c => (cells z c).mp) (fun p used => ?_) (fun p _ => cellsSold_congr before (seats ▸ before) (cells _))
    (fun p used => ?_) (fun p used => removals p (at' p ▸ used))
    (fun f left => ⟨⟨f, by rw [← unit]; exact left, rfl, rfl⟩, fun p used _ => by rw [at']; exact used⟩) (by rw [unit])
  all_goals rw [at'] at used
  · rw [at']
    exact ⟨used, .refl _⟩
  · rw [ranges.state]
    exact ⟨law.shown p used, fun c => (ranges.inRange _ c).mpr⟩

theorem dropBegun (law : SoldLaw s) (before : sparseWf Seat.spare s.seats) (r : Request) : SoldLaw (dropShowOp r s) := by
  refine law.removing (by simp) before (.dropShowOp r s) (by simp) fun p used x left same => ?_
  have old : x ∈ s.showUnit.removals ∨ x.step = .sales := by
    simp only [dropShowOp] at left
    split at left
    · exact .inl (by simpa using left)
    · rcases List.mem_append.mp left with old | new
      · exact .inl old
      · exact .inr (by rw [List.mem_singleton.mp new])
  exact old.elim (fun member => law.early p used x member same) id

theorem vouchersRemoved (law : SoldLaw s) (before : sparseWf Seat.spare s.seats) (entries : sparseWf Voucher.empty s.voucherUnit.entries)
    (sh : Nat) : SoldLaw (voucherShowRemovalOp sh s) := by
  rcases voucherShowRemovalOp_cases sh entries with same | ⟨x, y, member, rfl, step, ⟨shY, -⟩, removals, -⟩
  · rw [same]
    exact law
  · refine law.removing (by simp) before (.voucherShowRemovalOp x.sh s) (by simp) fun p used v left same => ?_
    rw [removals] at left
    obtain ⟨w, was, rfl⟩ := List.mem_map.mp left
    split at same
    · exact absurd (same.symm.trans shY) (law.unnamed member (by rw [step]; simp) p used)
    · next other =>
      rw [if_neg other]
      exact law.early p used w was same

theorem refundVoided (law : SoldLaw s) (before : sparseWf Seat.spare s.seats) (entries : sparseWf Voucher.empty s.voucherUnit.entries)
    (serial : Nat) : SoldLaw (refundVoucherOp serial s) := by
  have unit := refundVoucherOp_sales serial s
  have at' : ∀ p, saleAt (refundVoucherOp serial s) p = saleAt s p := fun p => by rw [saleAt, unit]; rfl
  rcases refundVoucherOp_vouchers serial entries with same | ⟨-, -, -, a, refunds⟩
  · rw [same]
    exact law
  · have named : ∀ x : Refund, (if x.serial = serial then { x with vouchers := some a } else x).serial = x.serial ∧
        (if x.serial = serial then { x with vouchers := some a } else x).seatsFreed = x.seatsFreed := fun x => by split <;> exact ⟨rfl, rfl⟩
    refine law.noted (by simp) before (.of_unit (by simp)) (by simp) (by rw [unit]) (fun p => by rw [at']; exact ⟨.refl _, Iff.rfl⟩)
      (fun f left => ?_) ?_
    · rw [refunds] at left
      obtain ⟨g, old, rfl⟩ := List.mem_map.mp left
      exact ⟨g, old, (named g).1.symm, (named g).2.symm⟩
    · rw [refunds, List.map_map]
      exact List.map_congr_left fun g _ => (named g).1

theorem reset_moved {P : Prop} (same : Unmoved P .reset t) : SoldLaw t := by
  have start := partsLaw_of salesLaw_reset houseLaw_reset
  exact start.sold.kept start.cells.store (same.seats ▸ start.cells.store) (soldKept_of_seats same.seats) (.of_shows same.shows same.loadings)
    same.removals (by rw [same.sales]) (by rw [same.sales]) (by rw [same.sales])

theorem move {P : Prop} (law : SoldLaw s) (sales : SalesLaw s) (ranges : RangesLaw s) (removals : RemovalsLaw s) (cells : CellsLaw s)
    (calls : CallsLaw s) (entries : sparseWf Voucher.empty s.voucherUnit.entries) (after : sparseWf Seat.spare t.seats)
    (move : Move P s t) : SoldLaw t := by
  have length := calls.baskets
  obtain ⟨store, -⟩ := salesLaw_iff.mp sales
  have quiet : ∀ {t : State}, t.seats = s.seats → t.showUnit = s.showUnit → t.salesUnit = s.salesUnit → SoldLaw t := fun seats unit sales =>
    law.kept cells.store (seats ▸ cells.store) (soldKept_of_seats seats) (.of_unit unit) (by rw [unit]) (by rw [sales]) (by rw [sales])
      (by rw [sales])
  have moved : ∀ {t : State}, sparseWf Seat.spare t.seats → SoldKept s t → RangesKept s t → t.showUnit.removals = s.showUnit.removals →
      t.salesUnit = s.salesUnit → SoldLaw t := fun after kept ranges going unit =>
    law.kept cells.store after kept ranges going (by rw [unit]) (by rw [unit]) (by rw [unit])
  cases move
  case quiet same =>
    exact law.kept cells.store after (soldKept_of_seats same.seats) (.of_shows same.shows same.loadings) same.removals (by rw [same.sales])
      (by rw [same.sales]) (by rw [same.sales])
  case configured same =>
    exact law.kept cells.store after (soldKept_of_seats same.seats) (.of_shows same.shows same.loadings) same.removals (by rw [same.sales])
      (by rw [same.sales]) (by rw [same.sales])
  case reset same => exact reset_moved same
  case held b slot list call passed =>
    obtain ⟨-, -, -, each⟩ := hold_passed passed
    refine moved after ?_ ((RangesKept.holdCells ..).trans (.of_unit (by rfl))) (removals_cellEvent ..) (by simp)
    exact soldKept_seatEvent cells.store (t := requote b _) rfl (fun i listed => by rw [(each i listed).2.2]; simp) (by simp)
  case released b slot list call =>
    refine moved after ?_ ((RangesKept.releaseCells ..).trans (.of_unit (by rfl))) (removals_cellEvent ..) (by simp)
    obtain ⟨-, own⟩ := calls.releases b (length ▸ inside_of_call call) slot list call
    exact soldKept_seatEvent cells.store (t := requote b _) rfl
      (fun i listed => cells.listed_not_sold length (.inl (calls.state_of_call call)) i (own i listed)) (by simp)
  case issued u b slot kind index code call answer =>
    have unit : u.seats = s.seats ∧ u.showUnit = s.showUnit ∧ u.salesUnit = s.salesUnit := by
      rw [← show (issueVoucher kind b (basketAt s b).sh s).1 = u from congrArg Prod.fst answer]; simp
    exact quiet unit.1 unit.2.1 unit.2.2
  case ended b dest selecting _ _ =>
    exact moved after (endBasket_soldKept cells length (.inl selecting)) (.endBasket ..) (removals_endBasket ..) (by simp)
  case soldFree b m selecting _ _ =>
    have reserved : SoldLaw (reservePlace s) :=
      law.kept cells.store cells.store (soldKept_of_seats rfl) (.of_unit rfl) rfl rfl rfl rfl
    exact reserved.saleMade (store.of_eq rfl rfl rfl) (cells.of_units rfl rfl rfl rfl rfl) ⟨removals.removals, removals.removalOnce⟩ length
      (.inl selecting) after
  case sold u b m freed =>
    obtain ⟨store', -⟩ := salesLaw_iff.mp (sales.freed freed)
    have removals' : RemovalsLaw u := by cases freed <;> exact ⟨removals.removals, removals.removalOnce⟩
    exact (law.freed cells freed).saleMade store' (cells.freed freed) removals' (calls.freed freed).1.baskets freed.selling after
  case returned u b freed =>
    have ranges' : RangesKept u (returnBasket b u) := .returnBasket ..
    exact (law.freed cells freed).kept (cells.freed freed).store after (returnBasket_soldKept (cells.freed freed) (calls.freed freed).1.baskets
      freed.selling) ranges' (returnBasket_removals b u) (by rw [returnBasket_sales]; rfl) (by rw [returnBasket_sales]; rfl)
      (by rw [returnBasket_sales]; rfl)
  case unresolved u b freed =>
    exact (law.freed cells freed).kept (cells.freed freed).store after (soldKept_of_seats (by simp)) (.unresolved b u) (by simp) (by simp) (by simp)
      (by simp)
  case paying b _ _ _ _ _ _ =>
    have reserved : SoldLaw (reservePlace s) :=
      law.kept cells.store cells.store (soldKept_of_seats rfl) (.of_unit rfl) rfl rfl rfl rfl
    exact reserved.kept cells.store after (soldKept_of_seats (by simp)) (.of_unit (by simp)) (by simp) (by simp) (by simp) (by simp)
  case saleNoted serial n =>
    obtain ⟨-, unit⟩ := store.reprinted serial n
    have refunds : (raiseReprints serial n s).salesUnit.refunds = s.salesUnit.refunds := by rw [unit]
    exact law.noted (by simp) cells.store (.of_unit (by simp)) (by simp) (by rw [unit]) (raiseReprints_records store serial n)
      (fun f left => ⟨f, refunds ▸ left, rfl, rfl⟩) (by rw [refunds])
  case refundBegun r single => exact law.refundBegun store cells.store r single
  case refundFreed serial => exact law.refundFreed sales cells ranges serial after
  case refundVoided serial => exact law.refundVoided cells.store entries serial
  case refundWritten serial => exact law.refundWritten store cells.store serial
  case blocked r =>
    exact moved after ((blockMove_blocked r s).soldKept cells.store (by simp) (by simp)) (.blockSeatsOp r s) (removals_blockSeatsOp r s) (by simp)
  case unblocked r =>
    exact moved after ((blockMove_unblocked r s).soldKept cells.store (by simp) (by simp)) (.unblockSeatsOp r s) (removals_unblockSeatsOp r s)
      (by simp)
  case entered _ _ shown => exact law.entered cells.store shown
  case loadBegun r =>
    rcases loadShowOp_cases r s with ⟨code, refused⟩ | ⟨base, passed, unit⟩
    · rw [refused]
      exact quiet (by simp) (by simp) (by simp)
    · obtain ⟨inside, empty, -⟩ := load_passed passed
      obtain ⟨-, elsewhere⟩ := showAt_one (s := s) (t := loadShowOp r s) (n := param1 r 0) (by rw [unit]) (ranges.shows ▸ inside)
      have seats : (loadShowOp r s).seats = s.seats := by simp
      refine law.oneShow elsewhere (fun p used here => law.shown p used (here ▸ empty)) (by simp) cells.store after
        (fun _ _ _ _ c _ => by rw [seatAt, seats]; rfl) (fun z c => (soldKept_of_seats seats z c).mp) fun x left _ => ?_
      rw [unit] at left
      exact left
  case loadDone sh l found =>
    obtain ⟨member, rfl⟩ := loading_found found
    obtain ⟨inside, empty, count⟩ := ranges.loadings l member
    have unit := loadedState_showUnit l.sh l s
    obtain ⟨-, elsewhere⟩ := showAt_one (s := s) (t := loadedState l.sh l s) (n := l.sh) (f := loadedShow l) (by rw [unit]) (ranges.shows ▸ inside)
    obtain ⟨-, -, within, outside⟩ := loadedState_cells cells.store count
    refine law.inOneRange ranges inside (.inr ⟨l, member, rfl⟩) elsewhere (fun p used here => law.shown p used (here ▸ empty)) (by simp)
      cells.store after (fun c here => (within c here).2.2) outside fun x left _ => ?_
    rw [unit] at left
    exact left
  case dropBegun r => exact law.dropBegun cells.store r
  case salesRemoved sh single => exact law.salesRemoved store cells.store sh single
  case vouchersRemoved sh => exact law.vouchersRemoved cells.store entries sh
  case rangeCleared sh =>
    rcases seatRangeClearOp_cases cells.store sh with same | ⟨x, member, ⟨rfl, step⟩, unit, -, cleared⟩
    · rw [same]
      exact law
    · obtain ⟨inside, ended, -⟩ := removals.removals x member
      obtain ⟨-, elsewhere⟩ := showAt_one (s := s) (t := seatRangeClearOp x.sh s) (n := x.sh) (by rw [unit]) (ranges.shows ▸ inside)
      refine law.inOneRange ranges inside (.inl (by rw [ended]; simp)) elsewhere (law.unnamed member (by rw [step]; simp)) (by simp)
        cells.store after (fun c here => by rw [cleared, if_pos here]; simp [Seat.spare]) (fun c outside => by rw [cleared, if_neg outside])
        fun v left apart => ?_
      rw [unit] at left
      obtain ⟨w, was, rfl⟩ := List.mem_map.mp left
      split at apart
      · exact absurd rfl apart
      · next other => rw [if_neg other]; exact was
  case dropped sh =>
    have frame : (dropCompleteOp sh s).seats = s.seats := by simp
    rcases dropCompleteOp_cases sh s with same | ⟨x, found, unit⟩
    · rw [same]
      exact law
    · obtain ⟨member, rfl, step⟩ := removal_found found
      obtain ⟨inside, -, -⟩ := removals.removals x member
      obtain ⟨-, elsewhere⟩ := showAt_one (s := s) (t := dropCompleteOp x.sh s) (n := x.sh) (by rw [unit]) (ranges.shows ▸ inside)
      refine law.oneShow elsewhere (law.unnamed member (by rw [step]; simp)) (by simp) cells.store after
        (fun _ _ _ _ c _ => by rw [seatAt, frame]; rfl) (fun z c => (soldKept_of_seats frame z c).mp) fun v left _ => ?_
      rw [unit] at left
      exact List.mem_of_mem_erase left
  all_goals exact quiet (by simp) (by simp) (by simp)

end SoldLaw
end Sys2Proof.Machine
end

section
/-! The law of the ACTIVE vouchers (R128, R137, R138), kept by every move. -/

namespace Sys2Proof.Machine

/-- An entry that is ACTIVE was so before, for the same sale and the same show. -/
def ActivesKept (s t : State) : Prop := ∀ i, (voucherAt t i).state = some .active →
  (voucherAt s i).state = some .active ∧ (voucherAt t i).owner = (voucherAt s i).owner ∧ (voucherAt t i).sh = (voucherAt s i).sh

namespace ActivesKept
variable {s t u : State}

theorem of_entries (entries : t.voucherUnit.entries = s.voucherUnit.entries) : ActivesKept s t := fun i active => by
  rw [voucherAt_of_entries entries] at active ⊢
  exact ⟨active, rfl, rfl⟩

theorem of_removed {G : List Nat} (h : EntriesRemoved G s t) : ActivesKept s t := fun i active => by
  by_cases member : i ∈ G
  · rw [h.gone i member] at active
    cases active
  · obtain ⟨state, rest⟩ := h.kept i member
    exact ⟨state ▸ active, rest⟩

theorem after (h : ActivesKept s t) (entries : u.voucherUnit.entries = t.voucherUnit.entries) : ActivesKept s u := fun i active => by
  rw [voucherAt_of_entries entries] at active ⊢
  exact h i active

end ActivesKept

namespace ActivesLaw
variable {s t : State} (law : ActivesLaw s)
include law

/-- No entry becomes ACTIVE; the records and the removals that stand behind those that stay so stand too. -/
theorem fewer (entries : ActivesKept s t)
    (records : ∀ p i, (voucherAt t i).state = some .active → saleAt s p ≠ .empty → (voucherAt s i).owner = some (saleAt s p).serial →
      (saleAt s p).sh = (voucherAt s i).sh → (saleAt s p).refunded = false →
      saleAt t p ≠ .empty ∧ (saleAt t p).serial = (saleAt s p).serial ∧ (saleAt t p).sh = (saleAt s p).sh ∧ (saleAt t p).refunded = false ∨
      ∃ x ∈ t.showUnit.removals, x.sh = (saleAt s p).sh ∧ x.step = .vouchers)
    (removals : ∀ x ∈ s.showUnit.removals, x.step = .vouchers → ∀ i, (voucherAt t i).state = some .active → x.sh = (voucherAt s i).sh →
      x ∈ t.showUnit.removals)
    (refunds : ∀ f ∈ t.salesUnit.refunds, f.vouchers ≠ none → ∀ i, (voucherAt t i).state = some .active →
      (∃ g ∈ s.salesUnit.refunds, g.serial = f.serial ∧ g.vouchers ≠ none) ∨ (voucherAt t i).owner ≠ some f.serial) : ActivesLaw t := by
  refine ⟨fun i active => ?_, fun f member answered i active => ?_⟩
  · obtain ⟨old, owner, sh⟩ := entries i active
    rw [owner, sh]
    rcases law.actives i old with ⟨p, used, owned, here, whole⟩ | ⟨x, member, here, step⟩
    · rcases records p i active used owned here whole with ⟨taken, serial, shown, unrefunded⟩ | ⟨x, member, shown, step⟩
      · exact .inl ⟨p, taken, by rw [serial]; exact owned, shown.trans here, unrefunded⟩
      · exact .inr ⟨x, member, shown.trans here, step⟩
    · exact .inr ⟨x, removals x member step i active here, here, step⟩
  · obtain ⟨old, owner, -⟩ := entries i active
    rcases refunds f member answered i active with ⟨g, was, serial, answered'⟩ | apart
    · rw [owner, ← serial]
      exact law.voided g was answered' i old
    · exact apart

/-- The records, the removals and the refunds stand. -/
theorem kept (entries : ActivesKept s t) (sales : t.salesUnit.sales = s.salesUnit.sales) (refunds : t.salesUnit.refunds = s.salesUnit.refunds)
    (removals : ∀ x ∈ s.showUnit.removals, x.step = .vouchers → x ∈ t.showUnit.removals) : ActivesLaw t := by
  have at' : ∀ p, saleAt t p = saleAt s p := fun p => by rw [saleAt, sales]; rfl
  exact law.fewer entries (fun p i _ used _ _ whole => .inl (by rw [at']; exact ⟨used, rfl, rfl, whole⟩))
    (fun x member step _ _ _ => removals x member step) fun f member answered i _ => .inl ⟨f, refunds ▸ member, rfl, answered⟩

theorem of_units (entries : t.voucherUnit.entries = s.voucherUnit.entries) (sales : t.salesUnit.sales = s.salesUnit.sales)
    (refunds : t.salesUnit.refunds = s.salesUnit.refunds) (removals : t.showUnit.removals = s.showUnit.removals) : ActivesLaw t :=
  law.kept (.of_entries entries) sales refunds fun _ member _ => removals ▸ member

/-- R39, R57: the vouchers of a sale are its ACTIVE ones. -/
theorem saleMade {b : Nat} {m : Method} (store : StoreLaw s.salesUnit) (sold : SoldLaw s) (table : TableLaw s) (pending : PendingLaw s)
    (length : s.basketUnit.baskets.length = 24) (selling : Selling (basketAt s b)) : ActivesLaw (saleMove b m s) := by
  have bound : b < 24 := length ▸ basket_inside fun free => not_selling_of free (by simp) selling
  obtain ⟨once, shows⟩ := pending.listed b bound selling
  obtain ⟨-, refunds, q, blank, ⟨serial, sh, whole, -⟩, others⟩ := saleMove_records store b m
  obtain ⟨-, each, -⟩ := saleMove_vouchers b m table.store once
  have going := removals_saleMove b m s
  have filled : saleAt (saleMove b m s) q ≠ .empty := fun empty => by
    have first := store.first
    rw [← serial, empty] at first
    cases first
  generalize saleMove b m s = t at *
  refine ⟨fun i active => ?_, fun f member answered i active => ?_⟩
  all_goals rw [each] at active ⊢
  · split at active
    · next listed =>
      rw [if_pos listed]
      exact .inl ⟨q, filled, by rw [serial], sh.trans (shows i listed).symm, whole⟩
    · next unlisted =>
      rw [if_neg unlisted, going]
      refine (law.actives i active).imp_left fun ⟨p, used, record⟩ => ⟨p, ?_⟩
      rw [others p fun here => used (here ▸ blank)]
      exact ⟨used, record⟩
  · rw [refunds] at member
    split at active
    · next listed =>
      rw [if_pos listed]
      obtain ⟨p, used, same, -⟩ := sold.refunds f member
      have lower : (saleAt s p).serial < s.salesUnit.nextSerial := (store.serial used).2
      exact fun owned => Nat.ne_of_lt lower (same.trans (Option.some.inj owned).symm)
    · next unlisted =>
      rw [if_neg unlisted]
      exact law.voided f member answered i active

/-- R137: a refund's vouchers voided. -/
theorem refundVoided (entries : sparseWf Voucher.empty s.voucherUnit.entries) (serial : Nat) : ActivesLaw (refundVoucherOp serial s) := by
  have unit := refundVoucherOp_sales serial s
  have at' : ∀ p, saleAt (refundVoucherOp serial s) p = saleAt s p := fun p => by rw [saleAt, unit]; rfl
  have going : (refundVoucherOp serial s).showUnit = s.showUnit := by simp
  rcases refundVoucherOp_vouchers serial entries with same | ⟨-, each, -, a, refunds⟩
  · rw [same]
    exact law
  · generalize refundVoucherOp serial s = t at *
    have left : ∀ i, (voucherAt t i).state = some .active →
        voucherAt t i = voucherAt s i ∧ (voucherAt s i).owner ≠ some serial := fun i active => by
      have entry := each i
      split at entry
      · rw [entry] at active
        cases active
      · next other =>
        rw [entry] at active
        exact ⟨entry, fun owned => other ⟨active, owned⟩⟩
    refine law.fewer (fun i active => ?_) (fun p i _ used _ _ whole => .inl (by rw [at']; exact ⟨used, rfl, rfl, whole⟩))
      (fun x member _ _ _ _ => by rw [going]; exact member) fun f member answered i active => ?_
    · obtain ⟨same, -⟩ := left i active
      rw [same] at active ⊢
      exact ⟨active, rfl, rfl⟩
    · obtain ⟨same, apart⟩ := left i active
      rw [refunds] at member
      obtain ⟨g, was, rfl⟩ := List.mem_map.mp member
      by_cases here : g.serial = serial
      · rw [if_pos here, same]
        exact .inr (by rw [← here] at apart; exact apart)
      · rw [if_neg here] at answered ⊢
        exact .inl ⟨g, was, rfl, answered⟩

/-- R151: a refund written once its vouchers are voided. -/
theorem refundWritten (store : StoreLaw s.salesUnit) (serial : Nat) : ActivesLaw (refundWrite serial s) := by
  have frame : (refundWrite serial s).showUnit = s.showUnit ∧ (refundWrite serial s).voucherUnit = s.voucherUnit := by simp
  rcases refundWrite_cases store serial with same | ⟨f, ⟨member, named, -, answered⟩, records, refunds⟩
  · rw [same]
    exact law
  · generalize refundWrite serial s = t at *
    have entries : ActivesKept s t := .of_entries (by rw [frame.2])
    refine law.fewer entries (fun p i active used owned _ whole => .inl ?_) (fun x old _ _ _ _ => by rw [frame.1]; exact old)
      fun g left answered' i _ => .inl ⟨g, ?_, rfl, answered'⟩
    · have record := records p
      split at record
      · next here =>
        obtain ⟨-, -, mine⟩ := saleplace_found store.store here
        refine absurd ?_ (law.voided f member answered i (entries i active).1)
        rw [owned, mine, named]
      · rw [record]
        exact ⟨used, rfl, rfl, whole⟩
    · rw [refunds] at left
      exact (List.mem_filter.mp left).1

/-- R154: the records of a show removed, its vouchers to follow. -/
theorem salesRemoved (store : StoreLaw s.salesUnit) (sh : Nat) : ActivesLaw (salesRemovalNow sh s) := by
  have frame : (salesRemovalNow sh s).voucherUnit = s.voucherUnit := by simp
  rcases salesRemovalNow_cases store sh with same | ⟨x, member, ⟨here, step⟩,
    ⟨unit, removals⟩ | ⟨records, -, refunds, y, ⟨shY, stepY⟩, removals⟩⟩
  · rw [same]
    exact law
  · refine law.kept (.of_entries (by rw [frame])) (by rw [unit]) (by rw [unit]) fun v old stepV => ?_
    rw [removals]
    exact (List.mem_erase_of_ne fun same => by rw [same, step] at stepV; cases stepV).mpr old
  · generalize salesRemovalNow sh s = t at *
    refine law.fewer (.of_entries (by rw [frame])) (fun p i _ used _ _ whole => ?_) (fun v old stepV i _ _ => ?_)
      fun f left answered i _ => .inl ⟨f, refunds ▸ left, rfl, answered⟩
    · by_cases mine : (saleAt s p).sh = sh
      · refine .inr ⟨y, ?_, shY.trans mine.symm, stepY⟩
        rw [removals]
        exact List.mem_map.mpr ⟨x, member, if_pos rfl⟩
      · rw [records, if_neg fun both => mine both.2]
        exact .inl ⟨used, rfl, rfl, whole⟩
    · rw [removals]
      exact List.mem_map.mpr ⟨v, old, if_neg fun same => by rw [same, step] at stepV; cases stepV⟩

/-- R138: the vouchers of a show removed. -/
theorem vouchersRemoved (entries : sparseWf Voucher.empty s.voucherUnit.entries) (sh : Nat) : ActivesLaw (voucherShowRemovalOp sh s) := by
  have unit : (voucherShowRemovalOp sh s).salesUnit = s.salesUnit := by simp
  rcases voucherShowRemovalOp_cases sh entries with same | ⟨x, y, member, rfl, step, -, removals, out, listed⟩
  · rw [same]
    exact law
  · generalize voucherShowRemovalOp x.sh s = t at *
    have at' : ∀ p, saleAt t p = saleAt s p := fun p => by rw [saleAt, unit]; rfl
    have entries := ActivesKept.of_removed out
    refine law.fewer entries (fun p i _ used _ _ whole => .inl (by rw [at']; exact ⟨used, rfl, rfl, whole⟩)) (fun v old _ i active here => ?_)
      fun f left answered i _ => .inl ⟨f, unit ▸ left, rfl, answered⟩
    rw [removals]
    refine List.mem_map.mpr ⟨v, old, if_neg fun same => ?_⟩
    have taken : i ∈ vouchersOfShow s x.sh := (listed i).mpr ⟨by rw [(entries i active).1]; simp, by rw [← here, same]⟩
    rw [out.gone i taken] at active
    cases active

end ActivesLaw
end Sys2Proof.Machine
end

section
/-! The laws of payments, baskets, sales, seats and vouchers, kept by every step. -/

namespace Sys2Proof.Machine

theorem ActivesLaw.freed {s u : State} {b : Nat} (law : ActivesLaw s) (freed : Freed b s u) : ActivesLaw u := by
  cases freed
  exacts [law.of_units rfl rfl rfl rfl, law]

theorem TableLaw.freed {s u : State} {b : Nat} (law : TableLaw s) (freed : Freed b s u) : TableLaw u := by
  cases freed
  exacts [law.of_units rfl rfl, law]

theorem returnBasket_actives {s : State} (b : Nat) (entries : sparseWf Voucher.empty s.voucherUnit.entries) : ActivesKept s (returnBasket b s) := by
  rcases Rewritten.returned b s with ⟨dl, k, same⟩ | same
  · rw [same]
    exact .of_entries (by simp [giveBackPlace, updSummary])
  · rw [same, expireBasket]
    exact (ActivesKept.of_removed (s := giveBackPlace s) (endBasket_removed b .expired entries)).after (by simp)

theorem refundFreeingOp_refunds (serial : Nat) (s : State) (f : Refund) (left : f ∈ (refundFreeingOp serial s).salesUnit.refunds) :
    ∃ g ∈ s.salesUnit.refunds, g.serial = f.serial ∧ g.vouchers = f.vouchers := by
  unfold refundFreeingOp at left
  split at left
  · exact ⟨f, left, rfl, rfl⟩
  · split at left
    · exact ⟨f, left, rfl, rfl⟩
    · have unit : (freeSold (saleShow s serial) serial s).1.salesUnit = s.salesUnit := by simp [freeSold]
      simp only [updRefund, unit] at left
      obtain ⟨g, member, rfl⟩ := List.mem_map.mp left
      refine ⟨g, member, ?_⟩
      split <;> exact ⟨rfl, rfl⟩

theorem ActivesLaw.move {P : Prop} {s t : State} (law : ActivesLaw s) (sales : SalesLaw s) (cells : CellsLaw s) (sold : SoldLaw s)
    (table : TableLaw s) (pending : PendingLaw s) (calls : CallsLaw s) (move : Move P s t) : ActivesLaw t := by
  obtain ⟨store, -⟩ := salesLaw_iff.mp sales
  cases move
  case quiet same => exact law.of_units same.entries (by rw [same.sales]) (by rw [same.sales]) same.removals
  case configured same => exact law.of_units same.entries (by rw [same.sales]) (by rw [same.sales]) same.removals
  case reset same =>
    exact (partsLaw_of salesLaw_reset houseLaw_reset).actives.of_units same.entries (by rw [same.sales]) (by rw [same.sales]) same.removals
  case held b slot list _ _ => exact law.of_units (by simp) (by simp) (by simp) (removals_cellEvent ..)
  case released => exact law.of_units (by simp) (by simp) (by simp) (removals_cellEvent ..)
  case issued u b slot kind index code call answer =>
    have unit : u.salesUnit = s.salesUnit ∧ u.showUnit = s.showUnit := by
      rw [← show (issueVoucher kind b (basketAt s b).sh s).1 = u from congrArg Prod.fst answer]; simp
    obtain ⟨-, -, -, ⟨n, entry⟩, others, -⟩ := issue_found table.store table.heads answer
    have actives : ActivesKept s u := fun i active => by
      by_cases here : i = index
      · rw [here, entry] at active
        cases active
      · rw [others i here] at active ⊢
        exact ⟨active, rfl, rfl⟩
    exact law.kept (actives.after rfl) (congrArg SalesUnit.sales unit.1) (congrArg SalesUnit.refunds unit.1) fun x member _ => by
      show x ∈ u.showUnit.removals
      rw [unit.2]
      exact member
  case removed b slot position _ =>
    obtain ⟨-, out, -⟩ := removeVouchers_spec ((basketAt s b).vouchers[position]?).toList s table.store
    exact law.kept ((ActivesKept.of_removed out).after rfl) (by simp) (by simp) fun x member _ => by simpa using member
  case ended b dest _ _ _ =>
    exact law.kept (.of_removed (endBasket_removed b dest table.store)) (by simp) (by simp) fun x member _ => by
      rw [removals_endBasket]
      exact member
  case soldFree b m selecting _ _ =>
    have reserved : ActivesLaw (reservePlace s) := law.of_units rfl rfl rfl rfl
    exact reserved.saleMade (store.of_eq rfl rfl rfl) (sold.kept cells.store cells.store (soldKept_of_seats rfl) (.of_unit rfl) rfl rfl rfl rfl)
      (table.of_units rfl rfl) (pending.of_units rfl rfl) calls.baskets (.inl selecting)
  case sold u b m freed =>
    obtain ⟨store', -⟩ := salesLaw_iff.mp (sales.freed freed)
    exact (law.freed freed).saleMade store' (sold.freed cells freed) (table.freed freed) (pending.freed freed) (calls.freed freed).1.baskets
      freed.selling
  case returned u b freed =>
    exact (law.freed freed).kept (returnBasket_actives b (table.freed freed).store) (by rw [returnBasket_sales]; rfl)
      (by rw [returnBasket_sales]; rfl) fun x member _ => by rw [returnBasket_removals]; exact member
  case unresolved u b freed => exact (law.freed freed).of_units (by simp) (by simp) (by simp) (by simp)
  case paying b _ _ _ _ _ _ =>
    have reserved : ActivesLaw (reservePlace s) := law.of_units rfl rfl rfl rfl
    exact reserved.of_units (by simp) (by simp) (by simp) (by simp)
  case saleNoted serial n =>
    obtain ⟨-, unit⟩ := store.reprinted serial n
    have refunds : (raiseReprints serial n s).salesUnit.refunds = s.salesUnit.refunds := by rw [unit]
    refine law.fewer (.of_entries (by simp)) (fun p i _ used _ _ whole => .inl ?_) (fun x member _ _ _ _ => by simpa using member)
      fun f left answered i _ => .inl ⟨f, refunds ▸ left, rfl, answered⟩
    obtain ⟨⟨serial', sh, refunded, -⟩, taken⟩ := raiseReprints_records store serial n p
    exact ⟨taken.mpr used, serial', sh, refunded.trans whole⟩
  case refundBegun r _ =>
    rcases refundOp_cases store r with ⟨slot, code, refused⟩ | ⟨q, -, records, refunds⟩
    · rw [refused]
      exact law.of_units (by simp) (by simp) (by simp) (by simp)
    · refine law.fewer (.of_entries (by simp)) (fun p i _ used _ _ whole => .inl ?_) (fun x member _ _ _ _ => by simpa using member)
        fun f left answered i _ => .inl ⟨f, ?_, rfl, answered⟩
      · obtain ⟨⟨serial, sh, refunded, -⟩, taken⟩ := records p
        exact ⟨taken.mpr used, serial, sh, refunded.trans whole⟩
      · rw [refunds] at left
        refine (List.mem_append.mp left).resolve_right fun new => answered ?_
        rw [List.mem_singleton.mp new]
  case refundFreed serial =>
    have unit := refundFreeingOp_sales serial s
    have at' : ∀ p, saleAt (refundFreeingOp serial s) p = saleAt s p := fun p => by rw [saleAt, unit]; rfl
    refine law.fewer (.of_entries (by simp)) (fun p i _ used _ _ whole => .inl (by rw [at']; exact ⟨used, rfl, rfl, whole⟩))
      (fun x member _ _ _ _ => by rw [removals_refundFreeingOp]; exact member) fun f left answered i _ => ?_
    obtain ⟨g, member, serial', vouchers⟩ := refundFreeingOp_refunds serial s f left
    exact .inl ⟨g, member, serial', vouchers ▸ answered⟩
  case refundVoided serial => exact law.refundVoided table.store serial
  case refundWritten serial => exact law.refundWritten store serial
  case blocked r => exact law.of_units (by simp) (by simp) (by simp) (removals_blockSeatsOp r s)
  case unblocked r => exact law.of_units (by simp) (by simp) (by simp) (removals_unblockSeatsOp r s)
  case entered => exact law.of_units rfl rfl rfl rfl
  case loadBegun r =>
    rcases loadShowOp_cases r s with ⟨code, refused⟩ | ⟨base, passed, unit⟩
    · rw [refused]
      exact law.of_units (by simp) (by simp) (by simp) (by simp)
    · exact law.of_units (by simp) (by simp) (by simp) (by rw [unit])
  case loadDone => exact law.of_units (by simp) (by simp) (by simp) (by rw [loadedState_showUnit])
  case dropBegun r =>
    refine law.kept (.of_entries (by simp)) (by simp) (by simp) fun x member _ => ?_
    simp only [dropShowOp]
    split
    · simpa using member
    · exact List.mem_append_left _ member
  case salesRemoved sh _ => exact law.salesRemoved store sh
  case vouchersRemoved sh => exact law.vouchersRemoved table.store sh
  case rangeCleared sh =>
    rcases seatRangeClearOp_cases cells.store sh with same | ⟨x, member, ⟨-, step⟩, unit, -⟩
    · rw [same]
      exact law
    · refine law.kept (.of_entries (by simp)) (by simp) (by simp) fun v old stepV => ?_
      rw [unit]
      exact List.mem_map.mpr ⟨v, old, if_neg fun same => by rw [same, step] at stepV; cases stepV⟩
  case dropped sh =>
    rcases dropCompleteOp_cases sh s with same | ⟨x, found, unit⟩
    · rw [same]
      exact law
    · obtain ⟨-, -, step⟩ := removal_found found
      refine law.kept (.of_entries (by simp)) (by simp) (by simp) fun v old stepV => ?_
      rw [unit]
      exact (List.mem_erase_of_ne fun same => by rw [same, step] at stepV; cases stepV).mpr old
  case used i f active kept _ =>
    refine law.kept (fun j active' => ?_) rfl rfl fun _ member _ => member
    by_cases here : j = i
    · subst here
      rw [voucherAt_updVoucher_self table.store] at active'
      rcases kept with state | state <;> simp [state] at active'
    · rw [voucherAt_updVoucher_other table.store i f here] at active' ⊢
      exact ⟨active', rfl, rfl⟩
  all_goals exact law.of_units (by simp) (by simp) (by simp) (by simp)

/-- The parts of the law over seats and vouchers, each kept by a move with the help of the others. -/
theorem PartsLaw.move {P : Prop} {s t : State} (law : PartsLaw s) (sales : SalesLaw s) (move : Move P s t) : PartsLaw t := by
  obtain ⟨ranges, removals, cells, calls, table, pending, sold, actives⟩ := law
  have cells' := cells.move ranges removals calls sold sales move
  exact ⟨ranges.move removals move, removals.move ranges calls.baskets move, cells', calls.move move, table.move pending calls move,
    pending.move table removals calls move, sold.move sales ranges removals cells calls table.store cells'.store move,
    actives.move sales cells sold table pending calls move⟩

theorem PaymentLaw.moves {P : Prop} {s t : State} (asked : P) (law : PaymentLaw s) (moves : Moves P s t) : PaymentLaw t := by
  induction moves with
  | refl => exact law
  | tail _ move ih => exact ih.move asked move

theorem BasketLaw.moves {P : Prop} {s t : State} (law : BasketLaw s) (moves : Moves P s t) : BasketLaw t := by
  induction moves with
  | refl => exact law
  | tail _ move ih => exact ih.move move

theorem SalesLaw.moves {P : Prop} {s t : State} (law : SalesLaw s) (moves : Moves P s t) : SalesLaw t := by
  induction moves with
  | refl => exact law
  | tail _ move ih => exact ih.move move

theorem PartsLaw.moves {P : Prop} {s t : State} (law : PartsLaw s) (sales : SalesLaw s) (moves : Moves P s t) : PartsLaw t := by
  induction moves with
  | refl => exact law
  | tail before move ih => exact ih.move (sales.moves before) move

/-- Settles O8: every step is a sequence of moves of the units, and each move keeps the laws. -/
theorem everyStepKeepsTheLawsOfTheUnits : Obligations.EveryStepKeepsTheLawsOfTheUnits := by
  unfold Obligations.EveryStepKeepsTheLawsOfTheUnits
  refine ⟨fun s t law ran => ?_, fun s t law ran => ?_, fun s t law ran => ?_, fun s t sales law ran => ?_⟩
  · exact law.moves trivial (moves_of_step (P := True) (fun _ => law.clear) ran)
  · exact law.moves (moves_of_step (P := False) False.elim ran)
  · exact law.moves (moves_of_step (P := False) False.elim ran)
  · exact houseLaw_of ((keeps_of_step ran).canonical law.canonical) ((partsLaw_of sales law).moves sales (moves_of_step (P := False) False.elim ran))

end Sys2Proof.Machine
end
